-- ==== Sys2Proof/Word.lean ====
section
/-! DEFINITION. The words of the AS40: bytes of a payload (section 1.1), 16-bit words of a frame, and the two
ways the manual limits a number ("Conventions" of 00_scope.md: saturate and clamp). -/

namespace Sys2Proof

/-- One payload byte (section 1.1: bytes are sent most significant bit first). -/
abbrev Byte := BitVec 8

/-- A 16-bit word of a frame: the arbitration word, the control word, the check (section 1.1). -/
abbrev Word := BitVec 16

/-- "Saturate": a result beyond the limit is replaced by the limit (00_scope.md, Conventions). -/
def saturate (limit n : Nat) : Nat := min n limit

/-- "Clamped into a range": a value outside is replaced by the nearer end (00_scope.md, Conventions). -/
def clamp (lo hi n : Nat) : Nat := max lo (min n hi)

/-- The same for signed quantities (fill deltas). -/
def clampInt (lo hi x : Int) : Int := max lo (min x hi)

end Sys2Proof
end

