-- ==== Sys2Proof/Config.lean ====
section
/-! DEFINITION. What is fixed for every AS40, and the one value the manual leaves to chance. -/

namespace Sys2Proof.Config

/-- The gateway node's station number (00_scope.md, Station numbering). -/
def gateway : Nat := 30

/-- The fire panel node's station number (00_scope.md, Station numbering). -/
def panel : Nat := 31

/-- The limit of every Estimator time, in ms (R109). -/
def maxTime : Nat := 65535

/-- The station time stops rising here (R93). -/
def maxStationTime : Nat := 4294967295

/-- The consecutive-failure count at which the station goes off-bus (R9). -/
def offBusCount : Nat := 16

/-- The join wait, ms (R30). -/
def joinWaitMs : Nat := 10000

/-- The offer retry interval, ms (R119). -/
def offerRetryMs : Nat := 500

/-- Bid close comes this long before the window end, ms (R154). -/
def bidGuardMs : Nat := 10

/-- The listen period after a warm reset, ms (R172). -/
def listenMs : Nat := 3000

/-- The fire repeat, ms (R170). -/
def fireRepeatMs : Nat := 2000

/-- The shutter's close limit, ms (R188). -/
def closeLimitMs : Nat := 15000

/-- FREE VALUE (DESIGN CHOICE, assumption log 6): how many location indices the candidate scan has already read
when the ROOM's delivery ends, at the `n`-th scan begun. R155 gives the order of the reads and their last moment,
not the moment of each; nothing constrains this number. -/
opaque scanReadAtJoin : Nat → Nat

end Sys2Proof.Config
end

