-- ==== Sys2Proof/Syntax.lean ====
section
/-! DEFINITION. The commands of the block: one constructor of `Instr` for each row of spec/opcode_table.json, with
the operands its rule gives it. A row that is a frame carries the received frame, a row that is a drive report the
report's fields, a row that is a sensor or a limit names which one. A row that is an order carries nothing: the
order is the oldest record of the receive queue (R16), stored there by ORDER_FRAME. -/

namespace Sys2Proof

/-- The two lanes (00_scope.md; lane codes 0 and 1 of R25). -/
inductive Lane where
  | outLane
  | backLane
deriving DecidableEq, Repr

/-- The strap settings as the board shows them, whether valid or not (R27). -/
structure Straps where
  number : BitVec 5
  top : BitVec 5
  compartment : BitVec 3
  port : Bool
  shutter : Bool
  twoSided : Bool
  lengthClass : BitVec 2
deriving DecidableEq, Repr

/-- The three presence sensors of one segment (section 6.1). -/
structure SegSensors where
  head : Bool
  middle : Bool
  tail : Bool
deriving DecidableEq, Repr

/-- The levels of the station's input lines other than the straps (00_scope.md, The machinery of one aisle). -/
structure Pins where
  outSeg : SegSensors
  backSeg : SegSensors
  outStand : Bool
  inStand : Bool
  approach : Bool
  service : Bool
  button : Bool
  fireLine : Bool
  shutterClosed : Bool
  shutterOpen : Bool
deriving DecidableEq, Repr

/-- Everything a reset reads afresh: the straps and the input lines. -/
structure Inputs where
  straps : Straps
  pins : Pins
deriving DecidableEq, Repr

/-- A received frame of a kind its row names, after the check has been found good: the fields of its two header
words that the kind does not fix, and its payload (R24). -/
structure RxFrame where
  sender : BitVec 5
  dest : BitVec 5
  param : BitVec 8
  payload : List Byte
deriving DecidableEq, Repr

/-- A received frame as bits, before the judgement of R3: `check` is absent when the frame ended before it. -/
structure RawFrame where
  arb : Word
  ctrl : Word
  payload : List Byte
  check : Option Word
deriving DecidableEq, Repr

/-- The ORDER kinds that go through the receive queue: all of them but ROOM (R15, R24). -/
inductive OrderKind where
  | call | cancel | release | halt | resume | doze | wake | restart | enrol | audit | identify
  | clearFaults | query | setupA | setupB
deriving DecidableEq, Repr

/-- What the sender reads in the answer slot of its own frame (R4). -/
structure AnswerBits where
  voidMark : Bool
  answerMark : Bool
  answerKind : Bool
deriving DecidableEq, Repr

/-- The commands, one for each row of spec/opcode_table.json, in the table's order. -/
inductive Instr where
  | powerOnReset (inputs : Inputs)
  | warmReset (inputs : Inputs)
  | startPoint
  | arbitrationLost
  | transmitError
  | frameOutcome (bits : AnswerBits)
  | voidMark (frame : RawFrame)
  | orderFrame (kind : OrderKind) (frame : RxFrame)
  | pass (frame : RxFrame)
  | space (frame : RxFrame)
  | landed (frame : RxFrame)
  | jam (frame : RxFrame)
  | bid (frame : RxFrame)
  | room (frame : RxFrame)
  | fire (frame : RxFrame)
  | clear (frame : RxFrame)
  | join (frame : RxFrame)
  | call
  | cancel
  | release
  | halt
  | resume
  | doze
  | wake
  | restart
  | enrolAdd
  | enrolRemove
  | audit
  | identify
  | identifyClear
  | clearFaults
  | queryStatus
  | queryRequest
  | queryBin
  | queryCounts
  | setupA
  | setupB
  | joinWaitExpiry
  | done
  | probe (present : Bool)
  | stopped (column level : Nat)
  | homed (loaded : Bool)
  | woken
  | fault (code : Nat)
  | driveLimitExpiry
  | wakeLimitExpiry
  | headSensorReport (lane : Lane) (present : Bool)
  | placeSensorReport (lane : Lane) (present : Bool)
  | tailSensorReport (lane : Lane) (present : Bool)
  | offerRetryExpiry (lane : Lane)
  | handoffLimitExpiry (lane : Lane)
  | reservationLimitExpiry (lane : Lane)
  | divertLimitExpiry (lane : Lane)
  | entryLimitExpiry (lane : Lane)
  | outboundStandSensor (present : Bool)
  | inboundStandSensor (present : Bool)
  | approachSensor (present : Bool)
  | serviceSensor (present : Bool)
  | advanceLimitExpiry
  | releaseButtonPress
  | scanEnd (roomTag : Nat)
  | bidClose (roomTag : Nat)
  | windowEnd (roomTag : Nat)
  | fireLineAsserted
  | fireLineReleased
  | fireRepeatExpiry
  | listenPeriodExpiry
  | shutterClearTimeExpiry
  | closeLimitExpiry
  | closedSensorReport (closed : Bool)
  | openSensorReport (opened : Bool)
  | releaseButtonReleased
deriving DecidableEq, Repr

end Sys2Proof
end

