-- ==== Sys2Proof/Decode.lean ====
section
/-! DEFINITION. The command that a word spells. spec/opcode_table.json gives bits to none of its rows: a command is an
event at a pin, on the bus or of a timer, and no word spells one (assumption log 44). -/

namespace Sys2Proof

/-- The command of a word: none, for every word. -/
def decodeTableWord (nbits w : Nat) : Option Instr :=
  match nbits, w with
  | _, _ => none

end Sys2Proof
end

