-- ==== Sys2Proof/Machine/State.lean ====
section
/-! DEFINITION. The state of one AS40, block by block (00_scope.md, Blocks of the AS40), as plain data, and the
state after reset. A record that a rule names is a structure; a place, a claim or a limit that may be absent is an
Option or a constructor of its own. A running limit is held as the number of milliseconds it was started with. -/

namespace Sys2Proof.Machine

open Sys2Proof

/-- The reasons the block can stop. No rule of the manual stops the AS40 (STRAP-FAULT, R28, is a state in which it
takes part in nothing), so no meaning raises this one; it is safe. -/
inductive Fault where
  /-- Raised by no command: the type needs a reason and the manual gives none. -/
  | noneInManual
deriving DecidableEq, Repr

/-- The reasons a command is refused. -/
inductive Refusal where
  /-- A command that has no meaning yet, named as spec/opcode_table.json spells it; raised by `exec`'s arms only.
  Safe: nothing can be proved of such a command. No arm raises it now. -/
  | notModelled (mnemonic : String)
deriving DecidableEq, Repr

/-! ### Station Control -/

/-- The station states (chapter 2; codes in R21). -/
inductive StationState where
  | joining | active | doze | shutdown | recovery | strapFault
deriving DecidableEq, Repr

/-- The setup parameters (R34), times in ms. -/
structure Setup where
  hPitch : Nat
  hRamp : Nat
  vPitch : Nat
  vRamp : Nat
  fork : Nat
  settle : Nat
  hop : Nat
  handoffLimit : Nat
  bidWindow : Nat
  packWeight : Nat
  recircLimit : Nat
  mergeContinuity : Nat
  storageContinuity : Nat
  clearTime : Nat
  wakeLimit : Nat
  takesReturns : Bool
  noticeMask : BitVec 16
deriving DecidableEq, Repr

/-- The power-on defaults (R34). -/
def Setup.powerOn : Setup :=
  { hPitch := 60, hRamp := 800, vPitch := 120, vRamp := 600, fork := 3000, settle := 200, hop := 2400,
    handoffLimit := 6000, bidWindow := 100, packWeight := 2, recircLimit := 6, mergeContinuity := 4,
    storageContinuity := 3, clearTime := 8000, wakeLimit := 2000, takesReturns := true, noticeMask := 0#16 }

/-- One roster entry (section 2.7): present, compartment, port fitted, last announced state. -/
structure RosterEntry where
  present : Bool
  compartment : Nat
  port : Bool
  announced : StationState
deriving DecidableEq, Repr

/-- An entry absent with its fields cleared (section 2.7). -/
def RosterEntry.cleared : RosterEntry :=
  { present := false, compartment := 0, port := false, announced := .joining }

/-- The fault record less the fire latch, which the Fire Unit holds (R45). -/
structure FaultRecord where
  shutterFault : Bool
  driveFault : Bool
  offBusEvent : Bool
  ringMismatch : Bool
  dropped : Nat
  deferred : Nat
  recircs : Nat
deriving DecidableEq, Repr

/-- The fault record after power-on reset (R29). -/
def FaultRecord.clear : FaultRecord :=
  { shutterFault := false, driveFault := false, offBusEvent := false, ringMismatch := false, dropped := 0, deferred := 0,
    recircs := 0 }

/-- The notices (R25, notice kind table), each with its reference and detail. -/
inductive Notice where
  | arrived (bin tag : Nat)
  | stored (bin fill : Nat)
  | abandoned (bin tag : Nat)
  | won (roomTag index bid : Nat)
  | fillFailed (roomTag index : Nat)
  | jam (bin : Nat) (lane : Lane)
  | lost (bin cause : Nat)
  | stray (place : Nat)
  | found (bin cause : Nat)
  | fillClamped (bin fill : Nat)
  | neighbourLost (station : Nat)
  | driveFault (code command : Nat)
  | shutterFault
  | state (stateCode sender : Nat)
  | unregistered (bin stateCode : Nat)
deriving DecidableEq, Repr

/-- A notice in the notice list, with the moment its waiting claim began (R19). -/
structure WaitingNotice where
  notice : Notice
  since : Nat
deriving DecidableEq, Repr

/-- Station Control (chapter 2, R19, R20). `setup` holds the notice mask and takes returns. -/
structure Control where
  straps : Straps
  station : StationState
  setup : Setup
  roster : List (Nat × RosterEntry)
  record : FaultRecord
  warmStart : Bool
  joinWait : Option Nat
  notices : List WaitingNotice
  pendingSet : BitVec 16
deriving DecidableEq, Repr

/-! ### Carry records, calls, bins -/

/-- PORT or HOME (R111). -/
inductive DestKind where
  | port | home
deriving DecidableEq, Repr

/-- NONE, LEND, FILL, INSPECT (R111). -/
inductive Purpose where
  | noPurpose | lend | fill | inspect
deriving DecidableEq, Repr

/-- The carry record (R111). -/
structure Carry where
  bin : Nat
  dest : Nat
  kind : DestKind
  tag : Nat
  purpose : Purpose
  recirc : Nat
  delta : Int
  filled : Bool
deriving DecidableEq, Repr

/-- The states of a location record (R48, R49). -/
inductive BinState where
  | absent | stored | lifting | out | storing | lost
deriving DecidableEq, Repr

/-- A current call (R48). -/
structure Call where
  tag : Nat
  port : Nat
  purpose : Purpose
deriving DecidableEq, Repr

/-- An entry of a follow-on list (R48). -/
structure FollowOn where
  tag : Nat
  port : Nat
  purpose : Purpose
  urgency : Nat
deriving DecidableEq, Repr

/-- One record of the Bin Table (R48). -/
structure BinRec where
  state : BinState
  fill : Nat
  hold : Nat
  call : Option Call
  followOns : List FollowOn
deriving DecidableEq, Repr

/-- The record of an unregistered location, as after power-on reset (R48). It is what an unlisted index reads as. -/
def BinRec.blank : BinRec := { state := .absent, fill := 0, hold := 0, call := none, followOns := [] }

/-! ### Replies, frames, slots -/

/-- The result codes (R17). -/
inductive ResultCode where
  | done | accepted | followOn | merged | cancelled | full | busy | unsupported | notReady | closed
  | unknownBin | missing | conflict | tooLate | badField | clamped
deriving DecidableEq, Repr

/-- A REPLY (R17, R25). `clears` is the MODEL's: the pending positions this REPLY clears if it ends TAKEN (R20). -/
structure Reply where
  dest : Nat
  kind : OrderKind
  clampMark : Bool
  ref : Nat
  code : ResultCode
  d0 : Nat
  d1 : Nat
  d2 : Nat
  d3 : Nat
  clears : BitVec 16
deriving DecidableEq, Repr

/-- The content of a JOIN (R25, R31). -/
structure JoinBody where
  number : Nat
  top : Nat
  compartment : Nat
  port : Bool
  shutter : Bool
  warmStart : Bool
  station : StationState
deriving DecidableEq, Repr

/-- The frames the station's blocks queue (R24). -/
inductive Frame where
  | fire (mask : BitVec 8)
  | pass (lane : Lane) (dest : Nat) (carry : Carry)
  | space (lane : Lane) (dest : Nat)
  | landed (lane : Lane) (dest : Nat) (bin : Nat)
  | jam (lane : Lane) (bin : Nat)
  | bid (roomTag value : Nat)
  | join (body : JoinBody)
  | reply (reply : Reply)
  | notice (notice : Notice)
deriving DecidableEq, Repr

/-- A frame in a transmit slot: when it was queued, whether it has started (R1), whether an abort is waiting on it
(R10), whether a transmit error has stopped it (R8). -/
structure Queued where
  frame : Frame
  order : Nat
  started : Bool
  abortAsked : Bool
  errored : Bool
deriving DecidableEq, Repr

/-- A transmit slot. `granted`: given to Station Control for the REPLY of the order it will take (R16). -/
inductive Slot where
  | free
  | granted
  | holds (q : Queued)
deriving DecidableEq, Repr

/-- The four transmit slots (R6). -/
structure Slots where
  s0 : Slot
  s1 : Slot
  s2 : Slot
  s3 : Slot
deriving DecidableEq, Repr

/-- The slots' names. -/
inductive SlotId where
  | s0 | s1 | s2 | s3
deriving DecidableEq, Repr

/-- A frame pending with its waiting claim, and the moment the claim began (R6). -/
structure Claim where
  frame : Frame
  since : Nat
deriving DecidableEq, Repr

/-- A record of the receive queue (R15). -/
structure RxRecord where
  sender : BitVec 5
  addressed : Bool
  kind : OrderKind
  param : BitVec 8
  payload : List Byte
deriving DecidableEq, Repr

/-- A frame as the station drives it: header words, payload, check (section 1.1). -/
structure WireImage where
  arb : Word
  ctrl : Word
  payload : List Byte
  check : Word
deriving DecidableEq, Repr

/-- The Bus Interface (R6 to R11, R15). `order` is the MODEL's counter that dates claims and queued frames;
`tx` the frame being driven; `answer` what the station drove in the answer slot of the last frame it received. -/
structure Bus where
  slots : Slots
  claims : List Claim
  firePending : Option (BitVec 8)
  rx : List RxRecord
  rxSince : Nat
  failures : Nat
  offBus : Bool
  order : Nat
  tx : Option WireImage
  answer : AnswerBits
deriving DecidableEq, Repr

/-! ### Crane Sequencer -/

/-- The crane states (section 4.3). -/
inductive CraneState where
  | unreferenced | homing | idle | running | halting | halted | stopped | faulted | asleep | waking
deriving DecidableEq, Repr

/-- A crane position (R96). -/
structure Position where
  column : Nat
  level : Nat
deriving DecidableEq, Repr

/-- The mouth, column 0, level 0. -/
def Position.mouth : Position := { column := 0, level := 0 }

/-- The carriage load (R72). -/
inductive Load where
  | empty | loaded | unknown
deriving DecidableEq, Repr

/-- The carriage's record: none, a stray record or a carry record (R73, R76, R195). -/
inductive Carriage where
  | nothing
  | stray
  | carrying (c : Carry)
deriving DecidableEq, Repr

/-- FORK's operation (R70). -/
inductive ForkOp where
  | pick | place | probe
deriving DecidableEq, Repr

/-- The commands of the drive link (R70). -/
inductive DriveCmd where
  | move (target : Position)
  | fork (side : Nat) (op : ForkOp)
  | stop
  | home
  | sleep
  | wake
deriving DecidableEq, Repr

/-- The reports that complete a command (R70). -/
inductive ReportKind where
  | done | probe | stopped | homed | woken
deriving DecidableEq, Repr

/-- Where a RESTORE puts its bin (R77). -/
inductive Target where
  | rack | outStand
deriving DecidableEq, Repr

/-- The job kinds (R68). -/
inductive JobKind where
  | retrieve
  | store
  | restore (target : Target)
  | audit
deriving DecidableEq, Repr

/-- The job states (R68; codes in R22). -/
inductive JobState where
  | waiting | active | halted | frozen
deriving DecidableEq, Repr

/-- The stages (R75 to R78; codes in R22). -/
inductive Stage where
  | travelEmpty | forkPick | travelLoaded | forkPlace | travel | forkProbe
deriving DecidableEq, Repr

/-- A job record (R68). Fields a kind does not have hold 0 (or NONE). `sent`: the stage's FORK has been sent
(R183's "sent"). -/
structure Job where
  tag : Nat
  kind : JobKind
  bin : Nat
  port : Nat
  purpose : Purpose
  urgency : Nat
  stamp : Nat
  est : Nat
  state : JobState
  stage : Stage
  sent : Bool
  nextIndex : Nat
  remaining : Nat
deriving DecidableEq, Repr

/-- The Crane Sequencer (chapter 4). `limit` is the running completion limit of `inFlight` (R71); `lastSent` the
last command driven on the drive link; `stale` the reports still owed by commands that were abandoned or expired
(R70, R71); `forkAbandoned`: the STOP in flight abandoned a FORK (R72); `storeWanted` (R69), `restoreWanted` (R77),
`wakeKept` (R38), `restartRun`: a RESTART run is under way (R181). -/
structure Crane where
  state : CraneState
  pos : Option Position
  load : Load
  carriage : Carriage
  inFlight : Option DriveCmd
  limit : Option Nat
  lastSent : Option DriveCmd
  stale : List ReportKind
  forkAbandoned : Bool
  pool : List Job
  continuity : Nat
  storeWanted : Bool
  restoreWanted : Bool
  wakeKept : Bool
  restartRun : Bool
deriving DecidableEq, Repr

/-! ### Lane Unit -/

/-- A place record's content (R110, R111). -/
inductive Content where
  | stray
  | carrying (c : Carry)
deriving DecidableEq, Repr

/-- A place record. `pos` counts the segment's places from the head, 1 to 3 (R25, R110). -/
structure PlaceRec where
  content : Content
  pos : Nat
deriving DecidableEq, Repr

/-- Who makes a through claim (R112). -/
inductive ThroughFrom where
  | neighbour | turn
deriving DecidableEq, Repr

/-- Who makes a local claim (R114). -/
inductive EntryFrom where
  | outStand | service
deriving DecidableEq, Repr

/-- A tail reservation (R110). -/
inductive Reservation where
  | through (src : ThroughFrom) (c : Carry)
  | entry (src : EntryFrom)
deriving DecidableEq, Repr

/-- Where a divert goes (R125). -/
inductive DivertTarget where
  | inStand | approach
deriving DecidableEq, Repr

/-- The head states (R110). -/
inductive HeadState where
  | idle | offering | deferred | moving
  | diverting (target : DivertTarget)
  | jammed
deriving DecidableEq, Repr

/-- A segment's condition (R110). -/
inductive Condition where
  | running | held | asleep | waking
deriving DecidableEq, Repr

/-- A segment (R110). `headLimit` is the limit running on a MOVING or DIVERTING head, `tailLimit` the one running
on the reservation, `retry` the offer retry interval (R119). -/
structure Segment where
  places : List PlaceRec
  reservation : Option Reservation
  tailLimit : Option Nat
  head : HeadState
  headLimit : Option Nat
  retry : Option Nat
  deferredUp : Bool
  merge : Nat
  lastEntry : EntryFrom
  cond : Condition
deriving DecidableEq, Repr

/-- A segment as the reset rule leaves it before the sensors are read (R132). -/
def Segment.cleared : Segment :=
  { places := [], reservation := none, tailLimit := none, head := .idle, headLimit := none, retry := none,
    deferredUp := false, merge := 0, lastEntry := .outStand, cond := .held }

/-- The outbound stand (R128). `claim` is the lane of its waiting local claim. -/
inductive OutStand where
  | empty
  | reserved
  | holding (c : Carry) (claim : Option Lane)
  | entering (c : Carry) (lane : Lane)
  | stray
deriving DecidableEq, Repr

/-- The inbound stand (R126). -/
inductive InStand where
  | empty
  | incoming
  | holding (c : Carry)
  | stray
deriving DecidableEq, Repr

/-- The Lane Unit (chapter 6). -/
structure Lanes where
  outSeg : Segment
  backSeg : Segment
  outStand : OutStand
  inStand : InStand
deriving DecidableEq, Repr

/-! ### Port Unit -/

/-- APPROACH (R133). -/
inductive Approach where
  | empty
  | claimed
  | holding (c : Carry)
  | stray
deriving DecidableEq, Repr

/-- SERVICE (R133). `claim` is the lane of its waiting exit claim (R143). -/
inductive Service where
  | empty
  | incoming
  | presented (c : Carry)
  | released (c : Carry) (claim : Option Lane)
  | entering (c : Carry) (lane : Lane)
  | stray
deriving DecidableEq, Repr

/-- The Port Unit (chapter 7). -/
structure Port where
  approach : Approach
  service : Service
  advanceLimit : Option Nat
deriving DecidableEq, Repr

/-! ### Auction Unit -/

/-- The phases (R153). WON is passed through inside WINDOW_END, which frees the record. -/
inductive Phase where
  | scanning | bidding | quiet | won | lost
deriving DecidableEq, Repr

/-- A bid as the bus orders it: value, then station (R156). -/
structure BidPair where
  value : Nat
  station : Nat
deriving DecidableEq, Repr

/-- A bin the scan has noted, with the fill it read (R155). -/
structure Noted where
  index : Nat
  fill : Nat
deriving DecidableEq, Repr

/-- An auction record in use (R153). `start` is the window start in tenths of a second, the station's time of R93
(assumption log 64). `closeLimit` is the time from the window start to bid close, none once bid close has passed, and
`windowLimit` the time to window end (R154). `nextRead` and `noted` are the scan's progress (R155); `bidReturned` says
the own BID has left the Bus Interface (R158). -/
structure Auction where
  roomTag : Nat
  units : Nat
  port : Nat
  start : Nat
  phase : Phase
  candidate : Option Nat
  own : Option Nat
  lowest : Option BidPair
  voidMark : Bool
  nextRead : Nat
  noted : List Noted
  bidReturned : Bool
  closeLimit : Option Nat
  windowLimit : Nat
deriving DecidableEq, Repr

/-- The Auction Unit: its records in use, at most four, by room tag (R152, R153). `scans` is the MODEL's own
counter, which the free value `Config.scanReadAtJoin` is applied to. -/
structure AuctionUnit where
  records : List Auction
  scans : Nat
deriving DecidableEq, Repr

/-! ### Fire Unit -/

/-- The shutter states (R185). -/
inductive ShutterState where
  | opened | clearing | closing | closed | failed | opening
deriving DecidableEq, Repr

/-- The Fire Unit (chapter 9). `shutter` is absent where no shutter is read as fitted (R27, R190). -/
structure FireUnit where
  view : BitVec 8
  latch : Bool
  listen : Option Nat
  repeatTimer : Option Nat
  shutter : Option ShutterState
  closeOut : Bool
  openOut : Bool
  clearTimer : Option Nat
  closeLimit : Option Nat
  below : Option Nat
deriving DecidableEq, Repr

/-- The Estimator holds the station time, in tenths of a second (R93). -/
structure Estimator where
  time : Nat
deriving DecidableEq, Repr

/-- The machine. `pending` is the queue of commands that wait, first in first out: the MODEL's own. `bins` is the
Bin Table by location index, sparse: an unlisted index reads as `BinRec.blank`. -/
structure State where
  pending : List Instr
  pins : Pins
  bus : Bus
  ctl : Control
  bins : List (Nat × BinRec)
  crane : Crane
  est : Estimator
  lanes : Lanes
  port : Port
  auctions : AuctionUnit
  fire : FireUnit
deriving DecidableEq, Repr

/-! ### Reset -/

/-- The board of `State.reset`: DESIGN CHOICE (assumption log 5). Straps and input lines are board settings and
machinery, which no rule gives. Station S9 of a twelve-station wing in compartment 3, 64 columns, one-sided, with a
port and a shutter, no bin at any place, the shutter open. -/
def resetInputs : Inputs :=
  { straps := { number := 9#5, top := 12#5, compartment := 3#3, port := true, shutter := true, twoSided := false,
                lengthClass := 3#2 },
    pins := { outSeg := { head := false, middle := false, tail := false },
              backSeg := { head := false, middle := false, tail := false },
              outStand := false, inStand := false, approach := false, service := false, button := false,
              fireLine := false, shutterClosed := false, shutterOpen := true } }

/-- The Bus Interface after a reset (R8, R11, R15), less the JOIN that entry to JOINING queues. -/
def Bus.cleared : Bus :=
  { slots := { s0 := .free, s1 := .free, s2 := .free, s3 := .free }, claims := [], firePending := none, rx := [],
    rxSince := 0, failures := 0, offBus := false, order := 0, tx := none,
    answer := { voidMark := false, answerMark := false, answerKind := false } }

/-- The Crane Sequencer after a reset (R68, R72, R73, R81). -/
def Crane.cleared : Crane :=
  { state := .unreferenced, pos := none, load := .unknown, carriage := .nothing, inFlight := none, limit := none,
    lastSent := none, stale := [], forkAbandoned := false, pool := [], continuity := 0, storeWanted := false,
    restoreWanted := false, wakeKept := false, restartRun := false }

/-- The Lane Unit after a reset with every place empty (R132). -/
def Lanes.cleared : Lanes :=
  { outSeg := Segment.cleared, backSeg := Segment.cleared, outStand := .empty, inStand := .empty }

/-- The Port Unit after a reset with both places empty (R151). -/
def Port.cleared : Port := { approach := .empty, service := .empty, advanceLimit := none }

/-- The Auction Unit after a reset (R168). -/
def AuctionUnit.cleared : AuctionUnit := { records := [], scans := 0 }

/-- The machine right after a power-on reset on the board `resetInputs` (R29, R132, R151, R190): JOINING, with
the JOIN that announces it queued (R31) and the join wait running (R30). -/
def State.reset : State :=
  { pending := [],
    pins := resetInputs.pins,
    bus := { Bus.cleared with
      slots := { s0 := .free,
                 s1 := .holds { frame := .join { number := 9, top := 12, compartment := 3, port := true, shutter := true,
                                                 warmStart := false, station := .joining },
                                order := 0, started := false, abortAsked := false, errored := false },
                 s2 := .free, s3 := .free },
      order := 1 },
    ctl := { straps := resetInputs.straps, station := .joining, setup := Setup.powerOn,
             roster := [(9, { present := true, compartment := 3, port := true, announced := .joining })],
             record := FaultRecord.clear, warmStart := false, joinWait := some Config.joinWaitMs, notices := [],
             pendingSet := 0#16 },
    bins := [],
    crane := Crane.cleared,
    est := { time := 0 },
    lanes := Lanes.cleared,
    port := Port.cleared,
    auctions := AuctionUnit.cleared,
    fire := { view := 0#8, latch := false, listen := none, repeatTimer := none, shutter := some .opened,
              closeOut := false, openOut := false, clearTimer := none, closeLimit := none, below := none } }

end Sys2Proof.Machine
end

