-- ==== Sys2Proof/Machine/Ops.lean ====
section
/-! DEFINITION. The shared operations over State that belong to no one block: reading and changing one block at a
time, the sparse tables in canonical form, the two segments by lane, and the station's own numbers. -/

namespace Sys2Proof

/-! ### Lanes, straps and pins -/

/-- The other lane. -/
def Lane.other : Lane → Lane
  | .outLane => .backLane
  | .backLane => .outLane

/-- The lane code (R25). -/
def Lane.code : Lane → Nat
  | .outLane => 0
  | .backLane => 1

/-- The shutter-below strap as read: at S1 it is read as not fitted (R27). -/
def Straps.shutterFitted (p : Straps) : Bool := p.shutter && decide (p.number.toNat ≠ 1)

/-- The column count C (R27). -/
def Straps.columns (p : Straps) : Nat := 16 * (p.lengthClass.toNat + 1)

/-- The strap table of R27: every strap holds a valid value. -/
def Straps.valid (p : Straps) : Bool :=
  decide (1 ≤ p.number.toNat) && decide (p.number.toNat ≤ 24) && decide (2 ≤ p.top.toNat) && decide (p.top.toNat ≤ 24)
    && decide (p.number.toNat ≤ p.top.toNat)

/-- The sensors of a lane's segment. -/
def Pins.seg (l : Lane) (p : Pins) : SegSensors :=
  match l with
  | .outLane => p.outSeg
  | .backLane => p.backSeg

/-- Change the sensors of a lane's segment. -/
def Pins.onSeg (l : Lane) (f : SegSensors → SegSensors) (p : Pins) : Pins :=
  match l with
  | .outLane => { p with outSeg := f p.outSeg }
  | .backLane => { p with backSeg := f p.backSeg }

end Sys2Proof

namespace Sys2Proof.Machine

open Sys2Proof

/-! ### Sparse tables

The Bin Table (2,048 records) and the roster (24 entries) are lists of (index, entry) pairs in canonical form: indices
strictly rising, no entry equal to what an unlisted index reads as. -/

/-- The entry at `n`; `d` is what an unlisted index reads as. -/
def tableGet {α : Type} (d : α) : List (Nat × α) → Nat → α
  | [], _ => d
  | (k, v) :: t, n => if n = k then v else tableGet d t n

/-- Write `v` at `n`, keeping the canonical form: writing `d` removes the entry. -/
def tablePut {α : Type} [DecidableEq α] (d : α) : List (Nat × α) → Nat → α → List (Nat × α)
  | [], n, v => if v = d then [] else [(n, v)]
  | (k, w) :: t, n, v =>
    if n < k then (if v = d then (k, w) :: t else (n, v) :: (k, w) :: t)
    else if n = k then (if v = d then t else (n, v) :: t)
    else (k, w) :: tablePut d t n v

/-- Every index of the table is above `n`. -/
def tableAbove {α : Type} (n : Nat) : List (Nat × α) → Bool
  | [] => true
  | (k, _) :: t => decide (n < k) && tableAbove n t

/-- The canonical form. -/
def tableWf {α : Type} [DecidableEq α] (d : α) : List (Nat × α) → Bool
  | [] => true
  | (k, v) :: t => decide (v ≠ d) && tableAbove k t && tableWf d t

/-! ### One block at a time -/

def State.onPins (f : Pins → Pins) (s : State) : State := { s with pins := f s.pins }
def State.onBus (f : Bus → Bus) (s : State) : State := { s with bus := f s.bus }
def State.onCtl (f : Control → Control) (s : State) : State := { s with ctl := f s.ctl }
def State.onBins (f : List (Nat × BinRec) → List (Nat × BinRec)) (s : State) : State := { s with bins := f s.bins }
def State.onCrane (f : Crane → Crane) (s : State) : State := { s with crane := f s.crane }
def State.onEst (f : Estimator → Estimator) (s : State) : State := { s with est := f s.est }
def State.onLanes (f : Lanes → Lanes) (s : State) : State := { s with lanes := f s.lanes }
def State.onPort (f : Port → Port) (s : State) : State := { s with port := f s.port }
def State.onAuctions (f : AuctionUnit → AuctionUnit) (s : State) : State := { s with auctions := f s.auctions }
def State.onFire (f : FireUnit → FireUnit) (s : State) : State := { s with fire := f s.fire }

/-! ### The two segments -/

/-- The station's segment of a lane (section 6.1). -/
def State.seg (l : Lane) (s : State) : Segment :=
  match l with
  | .outLane => s.lanes.outSeg
  | .backLane => s.lanes.backSeg

/-- Change one segment. -/
def State.onSeg (l : Lane) (f : Segment → Segment) (s : State) : State :=
  match l with
  | .outLane => s.onLanes fun n => { n with outSeg := f n.outSeg }
  | .backLane => s.onLanes fun n => { n with backSeg := f n.backSeg }

/-- Set the outbound stand. -/
def State.setOutStand (o : OutStand) (s : State) : State := s.onLanes fun n => { n with outStand := o }

/-- Set the inbound stand. -/
def State.setInStand (i : InStand) (s : State) : State := s.onLanes fun n => { n with inStand := i }

/-- Set APPROACH. -/
def State.setApproach (a : Approach) (s : State) : State := s.onPort fun p => { p with approach := a }

/-- Set SERVICE. -/
def State.setService (v : Service) (s : State) : State := s.onPort fun p => { p with service := v }

/-! ### The straps in use (R27) -/

/-- The own station number. -/
def State.num (s : State) : Nat := s.ctl.straps.number.toNat

/-- The top station, T. -/
def State.top (s : State) : Nat := s.ctl.straps.top.toNat

/-- The own compartment. -/
def State.compartment (s : State) : Nat := s.ctl.straps.compartment.toNat

/-- The station that hands to this station's tail by PASS; none where the tail is fed by a turn (section 6.1). -/
def State.upstream (l : Lane) (s : State) : Option Nat :=
  match l with
  | .outLane => if s.num = s.top then none else some (s.num + 1)
  | .backLane => if s.num = 1 then none else some (s.num - 1)

/-- The station this station's head hands to by PASS; none at a turn head (section 6.1). -/
def State.downstream (l : Lane) (s : State) : Option Nat :=
  match l with
  | .outLane => if s.num = 1 then none else some (s.num - 1)
  | .backLane => if s.num = s.top then none else some (s.num + 1)

/-! ### Sensors -/

/-- What a lane's head sensor reports. -/
def State.headSensor (l : Lane) (s : State) : Bool := (s.pins.seg l).head

/-- The place code of a lane's place counted from the head (R25). -/
def placeCode (l : Lane) (pos : Nat) : Nat := 3 * l.code + pos

/-! ### Entering a command -/

/-- A station in STRAP-FAULT takes part in nothing (R28): `f` acts in every other state. -/
def unlessStrapFault (f : State → State) (s : State) : State :=
  if s.ctl.station = .strapFault then s else f s

end Sys2Proof.Machine
end

