-- ==== Sys2Proof/Machine/Operands.lean ====
section
/-! DEFINITION. The frames as bits: kind codes, header words, payload layouts in both directions, the check, and the
void judgement (R2, R3, R24, R25, R26). -/

namespace Sys2Proof.Machine

open Sys2Proof

/-! ### Bytes -/

/-- The more significant byte of a 16-bit field, sent first (section 1.7). -/
def hiByte (n : Nat) : Byte := BitVec.ofNat 8 (n / 256)

/-- The less significant byte. -/
def loByte (n : Nat) : Byte := BitVec.ofNat 8 n

/-- One byte as a payload field. -/
def byteOf (n : Nat) : Byte := BitVec.ofNat 8 n

/-- A signed field in one byte, two's complement (section 1.7). -/
def signedByte (x : Int) : Byte := BitVec.ofInt 8 x

/-- Byte `i` of a payload; 0 beyond its end, which a frame of its kind's length does not reach. -/
def byteAt (p : List Byte) (i : Nat) : Nat := (p.getD i 0#8).toNat

/-- The 16-bit field at bytes `i` and `i + 1`, most significant first (section 1.7). -/
def wordAt (p : List Byte) (i : Nat) : Nat := byteAt p i * 256 + byteAt p (i + 1)

/-- The signed field at byte `i`. -/
def signedAt (p : List Byte) (i : Nat) : Int := (p.getD i 0#8).toInt

/-- A lane code; only its weight 1 is read. -/
def laneOf (n : Nat) : Lane := if n % 2 = 0 then .outLane else .backLane

/-! ### Kinds (R24) -/

/-- How a kind may be addressed (R24). -/
inductive Addressing where
  | broadcast | addressed | either
deriving DecidableEq, Repr

/-- A row of the kind code table (R24). -/
structure KindRow where
  code : Nat
  cls : Nat
  length : Nat
  addressing : Addressing
deriving DecidableEq, Repr

/-- The frame kinds that reach a row of the command table of their own (R14). -/
inductive DirectKind where
  | fire | clear | pass | space | landed | jam | bid | room | join
deriving DecidableEq, Repr

def DirectKind.row : DirectKind → KindRow
  | .fire => ⟨0x01, 0, 1, .broadcast⟩
  | .clear => ⟨0x02, 0, 1, .broadcast⟩
  | .pass => ⟨0x10, 1, 8, .addressed⟩
  | .space => ⟨0x11, 1, 1, .addressed⟩
  | .landed => ⟨0x12, 1, 3, .addressed⟩
  | .jam => ⟨0x13, 1, 3, .broadcast⟩
  | .bid => ⟨0x20, 2, 2, .broadcast⟩
  | .room => ⟨0x33, 3, 4, .broadcast⟩
  | .join => ⟨0x40, 4, 5, .broadcast⟩

def orderRow : OrderKind → KindRow
  | .call => ⟨0x30, 3, 6, .addressed⟩
  | .cancel => ⟨0x31, 3, 2, .addressed⟩
  | .release => ⟨0x32, 3, 3, .addressed⟩
  | .halt => ⟨0x34, 3, 0, .either⟩
  | .resume => ⟨0x35, 3, 0, .either⟩
  | .doze => ⟨0x36, 3, 0, .either⟩
  | .wake => ⟨0x37, 3, 0, .either⟩
  | .restart => ⟨0x38, 3, 0, .either⟩
  | .enrol => ⟨0x39, 3, 4, .addressed⟩
  | .audit => ⟨0x3A, 3, 3, .addressed⟩
  | .identify => ⟨0x3B, 3, 3, .addressed⟩
  | .clearFaults => ⟨0x3C, 3, 1, .either⟩
  | .query => ⟨0x3D, 3, 3, .either⟩
  | .setupA => ⟨0x3E, 3, 7, .either⟩
  | .setupB => ⟨0x3F, 3, 8, .either⟩

def replyRow : KindRow := ⟨0x41, 4, 8, .addressed⟩
def noticeRow : KindRow := ⟨0x42, 4, 8, .addressed⟩

/-- The whole kind code table (R24). -/
def kindTable : List KindRow :=
  [DirectKind.fire.row, DirectKind.clear.row, DirectKind.pass.row, DirectKind.space.row, DirectKind.landed.row,
   DirectKind.jam.row, DirectKind.bid.row, orderRow .call, orderRow .cancel, orderRow .release, DirectKind.room.row,
   orderRow .halt, orderRow .resume, orderRow .doze, orderRow .wake, orderRow .restart, orderRow .enrol, orderRow .audit,
   orderRow .identify, orderRow .clearFaults, orderRow .query, orderRow .setupA, orderRow .setupB, DirectKind.join.row,
   replyRow, noticeRow]

/-! ### The codes of the payload fields -/

def DestKind.code : DestKind → Nat
  | .port => 0
  | .home => 1

def Purpose.code : Purpose → Nat
  | .noPurpose => 0
  | .lend => 1
  | .fill => 2
  | .inspect => 3

def purposeOf (n : Nat) : Purpose :=
  match n % 4 with
  | 1 => .lend
  | 2 => .fill
  | 3 => .inspect
  | _ => .noPurpose

def StationState.code : StationState → Nat
  | .joining => 0
  | .active => 1
  | .doze => 2
  | .shutdown => 3
  | .recovery => 4
  | .strapFault => 5

/-- The state codes 0 to 4 that a JOIN may carry (R41). -/
def stationStateOf : Nat → Option StationState
  | 0 => some .joining
  | 1 => some .active
  | 2 => some .doze
  | 3 => some .shutdown
  | 4 => some .recovery
  | _ => none

def ResultCode.code : ResultCode → Nat
  | .done => 0
  | .accepted => 1
  | .followOn => 2
  | .merged => 3
  | .cancelled => 4
  | .full => 5
  | .busy => 6
  | .unsupported => 7
  | .notReady => 8
  | .closed => 9
  | .unknownBin => 10
  | .missing => 11
  | .conflict => 12
  | .tooLate => 13
  | .badField => 14
  | .clamped => 15

def Notice.code : Notice → Nat
  | .arrived .. => 0
  | .stored .. => 1
  | .abandoned .. => 2
  | .won .. => 3
  | .fillFailed .. => 4
  | .jam .. => 5
  | .lost .. => 6
  | .stray .. => 7
  | .found .. => 8
  | .fillClamped .. => 9
  | .neighbourLost .. => 10
  | .driveFault .. => 11
  | .shutterFault => 12
  | .state .. => 13
  | .unregistered .. => 14

/-! ### Payloads sent (R25) -/

/-- The eight bytes of a PASS (R25). -/
def passBytes (l : Lane) (c : Carry) : List Byte :=
  [hiByte c.bin, loByte c.bin, byteOf c.dest, hiByte c.tag, loByte c.tag,
   byteOf (l.code + 2 * c.kind.code + 4 * c.purpose.code + (if c.filled then 16 else 0)), byteOf c.recirc,
   signedByte c.delta]

/-- Byte 3 of a JOIN (R25). -/
def joinFlags (b : JoinBody) : Nat :=
  (if b.port then 1 else 0) + (if b.shutter then 2 else 0) + (if b.warmStart then 4 else 0)

def joinBytes (b : JoinBody) : List Byte :=
  [byteOf b.number, byteOf b.top, byteOf b.compartment, byteOf (joinFlags b), byteOf b.station.code]

def replyBytes (r : Reply) : List Byte :=
  [byteOf ((orderRow r.kind).code + (if r.clampMark then 128 else 0)), hiByte r.ref, loByte r.ref, byteOf r.code.code,
   byteOf r.d0, byteOf r.d1, byteOf r.d2, byteOf r.d3]

/-- The notice kind table (R25): reference, then the detail bytes. -/
def noticeBytes (n : Notice) : List Byte :=
  byteOf n.code ::
    match n with
    | .arrived bin tag => [hiByte bin, loByte bin, hiByte tag, loByte tag, 0, 0, 0]
    | .stored bin fill => [hiByte bin, loByte bin, byteOf fill, 0, 0, 0, 0]
    | .abandoned bin tag => [hiByte bin, loByte bin, hiByte tag, loByte tag, 0, 0, 0]
    | .won tag index bid => [hiByte tag, loByte tag, hiByte index, loByte index, byteOf bid, 0, 0]
    | .fillFailed tag index => [hiByte tag, loByte tag, hiByte index, loByte index, 0, 0, 0]
    | .jam bin lane => [hiByte bin, loByte bin, byteOf lane.code, 0, 0, 0, 0]
    | .lost bin cause => [hiByte bin, loByte bin, byteOf cause, 0, 0, 0, 0]
    | .stray place => [0, 0, byteOf place, 0, 0, 0, 0]
    | .found bin cause => [hiByte bin, loByte bin, byteOf cause, 0, 0, 0, 0]
    | .fillClamped bin fill => [hiByte bin, loByte bin, byteOf fill, 0, 0, 0, 0]
    | .neighbourLost station => [hiByte station, loByte station, 0, 0, 0, 0, 0]
    | .driveFault code command => [0, 0, byteOf code, byteOf command, 0, 0, 0]
    | .shutterFault => [0, 0, 1, 0, 0, 0, 0]
    | .state code sender => [0, 0, byteOf code, byteOf sender, 0, 0, 0]
    | .unregistered bin code => [hiByte bin, loByte bin, byteOf code, 0, 0, 0, 0]

/-- A frame's row of the kind code table. -/
def Frame.row : Frame → KindRow
  | .fire _ => DirectKind.fire.row
  | .pass .. => DirectKind.pass.row
  | .space .. => DirectKind.space.row
  | .landed .. => DirectKind.landed.row
  | .jam .. => DirectKind.jam.row
  | .bid .. => DirectKind.bid.row
  | .join _ => DirectKind.join.row
  | .reply _ => replyRow
  | .notice _ => noticeRow

/-- A frame's payload (R25). -/
def Frame.bytes : Frame → List Byte
  | .fire mask => [mask]
  | .pass l _ c => passBytes l c
  | .space l _ => [byteOf l.code]
  | .landed l _ bin => [hiByte bin, loByte bin, byteOf l.code]
  | .jam l bin => [hiByte bin, loByte bin, byteOf l.code]
  | .bid tag _ => [hiByte tag, loByte tag]
  | .join b => joinBytes b
  | .reply r => replyBytes r
  | .notice n => noticeBytes n

/-- A frame's destination: 0 for a broadcast; a NOTICE goes to the gateway node (R19), a REPLY to the order's
sender (R17). -/
def Frame.dest : Frame → Nat
  | .pass _ d _ => d
  | .space _ d => d
  | .landed _ d _ => d
  | .reply r => r.dest
  | .notice _ => Config.gateway
  | _ => 0

/-- The arbitration parameter: the bid value in a BID, 0 in every other frame a station sends (R2). -/
def Frame.param : Frame → Nat
  | .bid _ v => v
  | _ => 0

/-- The arbitration word: class × 8192 + parameter × 32 + sender (R2). -/
def Frame.word (sender : Nat) (f : Frame) : Nat := f.row.cls * 8192 + f.param * 32 + sender

/-- The control word: destination, kind, payload length (R24). -/
def Frame.control (f : Frame) : Nat := f.dest * 2048 + f.row.code * 16 + f.row.length

/-! ### The check (R3) -/

/-- One bit into the register: generator x¹⁶ + x¹² + x⁵ + 1. -/
def crcBit (reg : Word) (b : Bool) : Word :=
  if (reg.msb ^^ b) then (reg <<< 1) ^^^ 0x1021#16 else reg <<< 1

/-- One byte, most significant bit first. -/
def crcByte (reg : Word) (b : Byte) : Word :=
  [7, 6, 5, 4, 3, 2, 1, 0].foldl (fun r i => crcBit r (b.getLsbD i)) reg

/-- The check over the two words and the payload; the register is preset to FFFFh (R3). -/
def checkOf (arb ctrl : Word) (payload : List Byte) : Word :=
  ([hiByte arb.toNat, loByte arb.toNat, hiByte ctrl.toNat, loByte ctrl.toNat] ++ payload).foldl crcByte 0xFFFF#16

/-- The frame as the station drives it. -/
def Frame.image (sender : Nat) (f : Frame) : WireImage :=
  let arb := BitVec.ofNat 16 (f.word sender)
  let ctrl := BitVec.ofNat 16 f.control
  { arb := arb, ctrl := ctrl, payload := f.bytes, check := checkOf arb ctrl f.bytes }

/-! ### The void judgement (R3) -/

/-- The senders whose frames every receiver discards without voiding them: 0 and 25 to 29 (R3). -/
def deafSender (n : Nat) : Bool := decide (n = 0) || (decide (25 ≤ n) && decide (n ≤ 29))

/-- The destination faults of R3. -/
def badDest (a : Addressing) (dest : Nat) : Bool :=
  (decide (25 ≤ dest) && decide (dest ≤ 29)) ||
    match a with
    | .broadcast => decide (dest ≠ 0)
    | .addressed => decide (dest = 0)
    | .either => false

/-- The faults of R3 that a frame of a known kind can still have once its check is good. -/
def framesFault (row : KindRow) (f : RxFrame) : Bool :=
  decide (f.payload.length ≠ row.length) || badDest row.addressing f.dest.toNat

/-- The judgement of a frame taken as bits (R3). A frame of class 5 to 7, or of a sender that every receiver
discards, is not voided (assumption log 9). -/
def judgedVoid (f : RawFrame) : Bool :=
  let cls := f.arb.toNat / 8192
  let sender := f.arb.toNat % 32
  let dest := f.ctrl.toNat / 2048
  let kind := f.ctrl.toNat / 16 % 128
  let len := f.ctrl.toNat % 16
  if decide (5 ≤ cls) || deafSender sender then false
  else
    decide (f.check ≠ some (checkOf f.arb f.ctrl f.payload)) || decide (f.payload.length ≠ len) ||
      match kindTable.find? (fun r => r.code == kind) with
      | none => true
      | some r => decide (r.length ≠ len) || decide (r.cls ≠ cls) || badDest r.addressing dest

/-! ### Payloads received (R25, R26) -/

/-- The carry record of a received PASS: the delta is clamped into −15..+15, and a recirculation count above 15 is
taken as 15 (R118). -/
def passCarry (p : List Byte) : Carry :=
  let flags := byteAt p 5
  { bin := wordAt p 0, dest := byteAt p 2, kind := if flags / 2 % 2 = 0 then .port else .home, tag := wordAt p 3,
    purpose := purposeOf (flags / 4), recirc := saturate 15 (byteAt p 6), delta := clampInt (-15) 15 (signedAt p 7),
    filled := flags / 16 % 2 = 1 }

/-- The tag or bin ID an order names, or 0 (R17, R26). A QUERY names a tag only in its form REQUEST. -/
def orderReference (k : OrderKind) (p : List Byte) : Nat :=
  match k with
  | .call => wordAt p 2
  | .cancel => wordAt p 0
  | .release => wordAt p 0
  | .enrol => wordAt p 1
  | .identify => wordAt p 1
  | .query => if byteAt p 0 = 1 then wordAt p 1 else 0
  | _ => 0

/-- The setup parameters of a SETUP-A, clamped as R34 gives. -/
def setupAValues (p : List Byte) (u : Setup) : Setup :=
  { u with
    hPitch := max 10 (byteAt p 0), hRamp := byteAt p 1 * 10, vPitch := max 20 (byteAt p 2), vRamp := byteAt p 3 * 10,
    fork := max 25 (byteAt p 4) * 20, settle := byteAt p 5 * 10, hop := max 10 (byteAt p 6) * 20 }

/-- Whether a field of a SETUP-A is clamped (R32, R34). -/
def setupAClamped (p : List Byte) : Bool :=
  decide (byteAt p 0 < 10) || decide (byteAt p 2 < 20) || decide (byteAt p 4 < 25) || decide (byteAt p 6 < 10)

/-- The setup parameters of a SETUP-B, clamped as R34 gives. -/
def setupBValues (p : List Byte) (u : Setup) : Setup :=
  { u with
    handoffLimit := clamp 1 25 (byteAt p 0) * 1000, bidWindow := clamp 5 50 (byteAt p 1) * 10,
    packWeight := byteAt p 2 / 16, recircLimit := max 1 (byteAt p 2 % 16),
    mergeContinuity := clamp 1 8 (byteAt p 3 / 16), storageContinuity := clamp 1 8 (byteAt p 3 % 16),
    clearTime := clamp 2 30 (byteAt p 4) * 1000, wakeLimit := clamp 1 16 (byteAt p 5 % 128) * 500,
    takesReturns := byteAt p 5 / 128 = 1, noticeMask := BitVec.ofNat 16 (wordAt p 6) }

/-- Whether a field of a SETUP-B is clamped (R32, R34). -/
def setupBClamped (p : List Byte) : Bool :=
  let out := fun lo hi n => decide (n < lo) || decide (hi < n)
  out 1 25 (byteAt p 0) || out 5 50 (byteAt p 1) || decide (byteAt p 2 % 16 = 0) || out 1 8 (byteAt p 3 / 16)
    || out 1 8 (byteAt p 3 % 16) || out 2 30 (byteAt p 4) || out 1 16 (byteAt p 5 % 128)

end Sys2Proof.Machine
end

