-- ==== Sys2Proof/Machine/Flags.lean ====
section
/-! DEFINITION. The flags, counts and conditions: the codes QUERY reports, the fault record, the pending set, ring
hold and the wall rule, and the machinery outputs that follow the state (R20, R21, R45, R129, R149, R186). -/

namespace Sys2Proof.Machine

open Sys2Proof

/-! ### Codes (R21, R22, R23, R133) -/

def CraneState.code : CraneState → Nat
  | .unreferenced => 0
  | .homing => 1
  | .idle => 2
  | .running => 3
  | .halting => 4
  | .halted => 5
  | .stopped => 6
  | .faulted => 7
  | .asleep => 8
  | .waking => 9

def Condition.code : Condition → Nat
  | .running => 0
  | .held => 1
  | .asleep => 2
  | .waking => 3

def JobState.code : JobState → Nat
  | .waiting => 0
  | .active => 1
  | .halted => 2
  | .frozen => 3

def Stage.code : Stage → Nat
  | .travelEmpty => 0
  | .forkPick => 1
  | .travelLoaded => 2
  | .forkPlace => 3
  | .travel => 4
  | .forkProbe => 5

def BinState.code : BinState → Nat
  | .absent => 0
  | .stored => 1
  | .lifting => 2
  | .out => 3
  | .storing => 4
  | .lost => 5

def Service.code : Service → Nat
  | .empty => 0
  | .incoming => 1
  | .presented _ => 2
  | .released .. => 3
  | .entering .. => 4
  | .stray => 5

/-- The code a DRIVE-FAULT notice carries for the command in flight; 0 for none (R70). -/
def DriveCmd.code : DriveCmd → Nat
  | .move _ => 1
  | .fork .. => 2
  | .stop => 3
  | .home => 4
  | .sleep => 5
  | .wake => 6

def commandCode : Option DriveCmd → Nat
  | none => 0
  | some c => c.code

/-! ### The fault record (R45) -/

def State.onRecord (f : FaultRecord → FaultRecord) (s : State) : State :=
  s.onCtl fun c => { c with record := f c.record }

/-- One more broadcast ORDER dropped (R15). -/
def countDropped (s : State) : State := s.onRecord fun r => { r with dropped := saturate 255 (r.dropped + 1) }

/-- One more PASS answered HELD (R118). -/
def countDeferred (s : State) : State := s.onRecord fun r => { r with deferred := saturate 255 (r.deferred + 1) }

/-- One more bin past a divert it wanted (R124). -/
def countRecirc (s : State) : State := s.onRecord fun r => { r with recircs := saturate 255 (r.recircs + 1) }

/-- The flags byte of QUERY STATUS (R21). -/
def faultFlags (s : State) : Nat :=
  (if s.ctl.record.shutterFault then 1 else 0) + (if s.ctl.record.driveFault then 2 else 0)
    + (if s.ctl.record.offBusEvent then 4 else 0) + (if s.ctl.record.ringMismatch then 8 else 0)
    + (if s.fire.latch then 16 else 0)

/-- The clearing of CLEAR-FAULTS (R46); weight 16 has no effect. -/
def clearRecord (mask : Byte) (r : FaultRecord) : FaultRecord :=
  { shutterFault := r.shutterFault && !mask.getLsbD 0, driveFault := r.driveFault && !mask.getLsbD 1,
    offBusEvent := r.offBusEvent && !mask.getLsbD 2, ringMismatch := r.ringMismatch && !mask.getLsbD 3,
    dropped := if mask.getLsbD 5 then 0 else r.dropped, deferred := if mask.getLsbD 5 then 0 else r.deferred,
    recircs := if mask.getLsbD 5 then 0 else r.recircs }

/-! ### The alarm view, ring hold, the wall rule -/

/-- A compartment stands in the alarm view (section 9.1). -/
def State.alarmed (k : Nat) (s : State) : Bool := s.fire.view.getLsbD k

/-- The own compartment is in the alarm view. -/
def State.ownAlarmed (s : State) : Bool := s.alarmed s.compartment

/-- The own compartment alone, as a mask. -/
def State.ownMask (s : State) : BitVec 8 := BitVec.ofNat 8 (2 ^ s.compartment)

/-- Ring hold (R129). -/
def ringHold (s : State) : Bool :=
  decide (s.fire.view ≠ 0#8) || s.fire.listen.isSome || decide (s.ctl.station = .joining)
    || decide (s.ctl.station = .shutdown) || decide (s.ctl.station = .recovery)

/-- The wall rule's hold (R186): a shutter is fitted and is not OPEN. -/
def wallHold (s : State) : Bool :=
  match s.fire.shutter with
  | none => false
  | some x => decide (x ≠ .opened)

/-- The condition the rules give both segments as the state stands: the wall rule over everything (R186), ASLEEP and
WAKING in DOZE (R37, R38, R129), HELD under ring hold (R129), RUNNING otherwise. -/
def wantedCondition (s : State) : Condition :=
  if wallHold s then .held
  else if s.ctl.station = .doze then (if s.crane.state = .waking then .waking else .asleep)
  else if ringHold s then .held
  else .running

/-- A station is joined while it is ACTIVE, DOZE, SHUTDOWN or RECOVERY (R5). -/
def StationState.joined : StationState → Bool
  | .active => true
  | .doze => true
  | .shutdown => true
  | .recovery => true
  | _ => false

/-! ### Outputs that follow the state -/

/-- The lamp is lit while SERVICE is PRESENTED (R133), and off in STRAP-FAULT (R28). -/
def lampLit (s : State) : Bool :=
  match s.port.service with
  | .presented _ => decide (s.ctl.station ≠ .strapFault)
  | _ => false

/-- The port conveyor runs while SERVICE is INCOMING (R149). -/
def portConveyorRuns (s : State) : Bool := decide (s.port.service = .incoming) && decide (s.ctl.station ≠ .strapFault)

/-- SERVICE's outfeed runs while SERVICE is ENTERING (R149). -/
def serviceOutfeedRuns (s : State) : Bool :=
  match s.port.service with
  | .entering .. => decide (s.ctl.station ≠ .strapFault)
  | _ => false

/-- The divert output that feeds APPROACH runs while APPROACH is CLAIMED (R149). -/
def approachDivertRuns (s : State) : Bool := decide (s.port.approach = .claimed) && decide (s.ctl.station ≠ .strapFault)

/-- A segment's conveyors run while it is RUNNING and its head is not JAMMED (section 6.1, R121). -/
def conveyorsRun (l : Lane) (s : State) : Bool :=
  decide ((s.seg l).cond = .running) && decide ((s.seg l).head ≠ .jammed) && decide (s.ctl.station ≠ .strapFault)

/-- The shutter has closed the wall or is doing so: the conveyors at it stop at the CLOSE and stay stopped until it is
open (R187). -/
def wallShut (s : State) : Bool :=
  match s.fire.shutter with
  | some .closing => true
  | some .closed => true
  | some .failed => true
  | some .opening => true
  | _ => false

/-- The head is DIVERTING. -/
def headDiverts (l : Lane) (s : State) : Bool :=
  match (s.seg l).head with
  | .diverting _ => true
  | _ => false

/-- The conveyor of a MOVING or DIVERTING head runs though its segment is HELD (R125, R129), unless the move crosses a
wall whose shutter has been told to close (R187). -/
def headConveyorRuns (l : Lane) (s : State) : Bool :=
  conveyorsRun l s || (decide (s.ctl.station ≠ .strapFault)
    && (headDiverts l s || (decide ((s.seg l).head = .moving) && !(decide (l = .outLane) && wallShut s))))

/-- The infeed of a reserved tail runs for the bin that is coming (R129), with the same exception (R187); a JAMMED head
stops the whole segment (R121). -/
def tailInfeedRuns (l : Lane) (s : State) : Bool :=
  conveyorsRun l s || ((s.seg l).reservation.isSome && decide ((s.seg l).head ≠ .jammed)
    && decide (s.ctl.station ≠ .strapFault)
    && !(match l, (s.seg l).reservation with
         | .backLane, some (.through .neighbour _) => wallShut s
         | _, _ => false))

/-- A head's divert output runs while it is DIVERTING (R125). -/
def divertRuns (l : Lane) (s : State) : Bool := headDiverts l s && decide (s.ctl.station ≠ .strapFault)

/-- The inbound stand's conveyor runs while a divert into it is in progress (R125, R126). -/
def inStandConveyorRuns (s : State) : Bool :=
  decide (s.lanes.inStand = .incoming) && decide (s.ctl.station ≠ .strapFault)

/-- The outbound stand's outfeed runs while it is ENTERING (R128). -/
def standOutfeedRuns (s : State) : Bool :=
  (match s.lanes.outStand with
   | .entering .. => true
   | _ => false) && decide (s.ctl.station ≠ .strapFault)

end Sys2Proof.Machine
end

