-- ==== Sys2Proof/Machine/Estimator.lean ====
section
/-! DEFINITION. The Estimator (chapter 5): pure integer arithmetic over the setup values, the job pool, the straps
and the station time. -/

namespace Sys2Proof.Machine

open Sys2Proof

/-- Every time saturates at 65,535 ms (R109). -/
def satTime (n : Nat) : Nat := saturate Config.maxTime n

/-- A difference taken without sign (R95). -/
def distance (a b : Nat) : Nat := (a - b) + (b - a)

/-- The axis time for a distance (R95). -/
def axisTime (ramp pitch d : Nat) : Nat := if d = 0 then 0 else satTime (ramp + d * pitch)

/-- The move time (R96). -/
def moveTime (u : Setup) (a b : Position) : Nat :=
  if a = b then 0
  else
    satTime (max (axisTime u.hRamp u.hPitch (distance a.column b.column))
      (axisTime u.vRamp u.vPitch (distance a.level b.level)) + u.settle)

/-- The side of a location index (R47). -/
def sideOf (index : Nat) : Nat := index / 1024

/-- The position of a location index: its column and level; the side plays no part (R47, R96). -/
def positionOf (index : Nat) : Position := { column := index % 1024 / 16 + 1, level := index % 1024 % 16 }

/-- The location index of a bin ID (R47). -/
def indexOf (bin : Nat) : Nat := bin % 2048

/-- The home station of a bin ID (R47). -/
def homeOf (bin : Nat) : Nat := bin / 2048

/-- The cycle estimate from `p` (R97), every addition saturating. -/
def cycleEstimate (u : Setup) (p : Position) (j : Job) : Nat :=
  let loc := positionOf (indexOf j.bin)
  let m := Position.mouth
  let add := fun a b => satTime (a + b)
  match j.kind with
  | .retrieve => add (add (add (moveTime u p loc) u.fork) (moveTime u loc m)) u.fork
  | .store => add (add (add (moveTime u p m) u.fork) (moveTime u m loc)) u.fork
  | .restore .rack => add (moveTime u p loc) u.fork
  | .restore .outStand => add (moveTime u p m) u.fork
  | .audit => add (moveTime u p (positionOf j.nextIndex)) u.fork

/-- A job's est_ms: its cycle estimate from the mouth (R98). -/
def estOf (u : Setup) (j : Job) : Nat := cycleEstimate u Position.mouth j

/-- The backlog (R99). -/
def backlog (pool : List Job) : Nat := satTime (pool.map Job.est).sum

/-! ### Ring positions (R100 to R103) -/

/-- The ring position of station `n`'s segment of a lane (R100). -/
def ringPosition (top : Nat) (l : Lane) (n : Nat) : Nat :=
  match l with
  | .outLane => top - n
  | .backLane => top + n - 1

/-- The hop count from ring position `a` to `b` (R101). -/
def hopCount (top a b : Nat) : Nat := if a ≤ b then b - a else b + 2 * top - a

/-- The distance from a segment to station `d` (R101). -/
def ringDistance (top a d : Nat) : Nat :=
  min (hopCount top a (ringPosition top .outLane d)) (hopCount top a (ringPosition top .backLane d))

/-- The entry lane answer (R102): lane, hop count where there is one, transit time. -/
structure EntryAnswer where
  lane : Lane
  hops : Option Nat
  transit : Nat
deriving DecidableEq, Repr

/-- The entry lane request of station `n` for destination `d` (R102, R103). -/
def entryLane (u : Setup) (top n d : Nat) : EntryAnswer :=
  if d = 0 ∨ top < d then { lane := .outLane, hops := none, transit := Config.maxTime }
  else
    let o := ringDistance top (ringPosition top .outLane n) d
    let b := ringDistance top (ringPosition top .backLane n) d
    if b < o then { lane := .backLane, hops := some b, transit := satTime (b * u.hop) }
    else { lane := .outLane, hops := some o, transit := satTime (o * u.hop) }

/-! ### Dispatch scores (R104 to R106) -/

/-- Division rounded up. -/
def ceilDiv (n d : Nat) : Nat := (n + d - 1) / d

/-- Travel units (R104). -/
def travelUnits (u : Setup) (p : Position) (j : Job) : Nat := ceilDiv (cycleEstimate u p j) 100

/-- The weight of an urgency (R105). -/
def urgencyWeight : Nat → Nat
  | 0 => 1
  | 1 => 2
  | 2 => 4
  | _ => 8

/-- The credit (R105). -/
def credit (now : Nat) (j : Job) : Nat :=
  saturate 65535 (saturate 65535 (now - j.stamp) * urgencyWeight j.urgency)

/-- The dispatch score (R106). -/
def dispatchScore (u : Setup) (now : Nat) (p : Position) (j : Job) : Int :=
  (credit now j : Int) - (travelUnits u p j : Int)

/-! ### Bid values (R107, R108) -/

/-- The RETRIEVE a bid values: its kind and bin are all the cycle estimate reads. -/
def retrieveJob (bin tag port : Nat) (purpose : Purpose) (urgency : Nat) : Job :=
  { tag := tag, kind := .retrieve, bin := bin, port := port, purpose := purpose, urgency := urgency, stamp := 0, est := 0,
    state := .waiting, stage := .travelEmpty, sent := false, nextIndex := 0, remaining := 0 }

/-- The raw time of a bin for a room request: its RETRIEVE cycle from the mouth, the transit to the port and the backlog
(R107 step 1). -/
def rawTime (u : Setup) (pool : List Job) (top n index port : Nat) : Nat :=
  satTime (satTime (estOf u (retrieveJob index 0 0 .noPurpose 0) + (entryLane u top n port).transit) + backlog pool)

/-- The bid value of a bin, or no bid (R107). -/
def bidValue (u : Setup) (pool : List Job) (top n index fill units port : Nat) : Option Nat :=
  if 15 < fill + units then none
  else some (min 254 (ceilDiv (rawTime u pool top n index port) 250 + u.packWeight * (15 - fill - units)))

/-- A valued bin (R108). -/
structure Valued where
  index : Nat
  value : Nat
deriving DecidableEq, Repr

/-- The order of the ranking: by bid value, then by location index (R108). -/
def Valued.before (a b : Valued) : Bool :=
  decide (a.value < b.value) || (decide (a.value = b.value) && decide (a.index < b.index))

/-- Insert into a ranked list. -/
def rankInsert (a : Valued) : List Valued → List Valued
  | [] => [a]
  | b :: t => if a.before b then a :: b :: t else b :: rankInsert a t

/-- The candidate ranking (R108): the valued bins, best first. -/
def ranking (l : List Valued) : List Valued := l.foldr rankInsert []

/-- One tenth of a second of the station's time base (R93). -/
def tickTime (s : State) : State := s.onEst fun e => { e with time := saturate Config.maxStationTime (e.time + 1) }

end Sys2Proof.Machine
end

