-- ==== Sys2Proof/Machine/BusOps.lean ====
section
/-! DEFINITION. The shared operations of the Bus Interface and of the notice list: slots, waiting claims and their
arbiter, queueing, aborting, notices, the wish to take an order, and the reception of a frame (R6 to R16, R19). -/

namespace Sys2Proof.Machine

open Sys2Proof

/-! ### Slots -/

def Slots.get (id : SlotId) (t : Slots) : Slot :=
  match id with
  | .s0 => t.s0
  | .s1 => t.s1
  | .s2 => t.s2
  | .s3 => t.s3

def Slots.set (id : SlotId) (x : Slot) (t : Slots) : Slots :=
  match id with
  | .s0 => { t with s0 := x }
  | .s1 => { t with s1 := x }
  | .s2 => { t with s2 := x }
  | .s3 => { t with s3 := x }

/-- Change the frames the slots hold. -/
def Slot.mapFrame (f : Queued → Queued) : Slot → Slot
  | .holds q => .holds (f q)
  | x => x

def Slots.mapFrames (f : Queued → Queued) (t : Slots) : Slots :=
  { s0 := t.s0.mapFrame f, s1 := t.s1.mapFrame f, s2 := t.s2.mapFrame f, s3 := t.s3.mapFrame f }

/-- The frame a slot holds. -/
def Slot.queued? : Slot → Option Queued
  | .holds q => some q
  | _ => none

/-- The slots in their order. -/
def slotIds : List SlotId := [.s0, .s1, .s2, .s3]

/-- The first slot whose frame meets `p`. -/
def Slots.find (p : Queued → Bool) (t : Slots) : Option SlotId :=
  slotIds.find? fun id => match t.get id with
    | .holds q => p q
    | _ => false

/-- The first free slot of 1 to 3 (R6; assumption log 7). -/
def Slots.freeSlot (t : Slots) : Option SlotId :=
  if t.s1 = .free then some .s1 else if t.s2 = .free then some .s2 else if t.s3 = .free then some .s3 else none

/-- The slot granted for the next take (R16). -/
def Slots.grantedSlot (t : Slots) : Option SlotId :=
  if t.s1 = .granted then some .s1 else if t.s2 = .granted then some .s2 else if t.s3 = .granted then some .s3 else none

/-- The slot of the frame that has started (R1). -/
def Slots.started (t : Slots) : Option SlotId := t.find Queued.started

/-- Put something into a slot. -/
def setSlot (id : SlotId) (x : Slot) (s : State) : State := s.onBus fun b => { b with slots := b.slots.set id x }

/-- A frame newly queued. -/
def newQueued (f : Frame) (order : Nat) : Queued :=
  { frame := f, order := order, started := false, abortAsked := false, errored := false }

/-- Queue a frame in a slot, dated now. -/
def placeFrame (id : SlotId) (f : Frame) (s : State) : State :=
  s.onBus fun b => { b with slots := b.slots.set id (.holds (newQueued f b.order)), order := b.order + 1 }

/-! ### Queueing (R6, R9) -/

/-- A FIRE goes to slot 0: it is merged into an unstarted FIRE there, or waits for a started one to end (R6). -/
def queueFire (mask : BitVec 8) (s : State) : State :=
  if s.bus.offBus then s
  else match s.bus.slots.s0 with
    | .holds q =>
      if q.started then
        s.onBus fun b => { b with firePending := some (b.firePending.getD 0#8 ||| mask) }
      else match q.frame with
        | .fire m => setSlot .s0 (.holds { q with frame := .fire (m ||| mask) }) s
        | _ => s
    | _ => placeFrame .s0 (.fire mask) s

/-- Any other frame goes to a free slot of 1 to 3, or waits with a claim (R6). While the station is off-bus the
frame is returned ABORTED at once (R9): what that outcome does is the asking block's. -/
def queueFrame (f : Frame) (s : State) : State :=
  if s.bus.offBus then s
  else match s.bus.slots.freeSlot with
    | some id => placeFrame id f s
    | none => s.onBus fun b => { b with claims := b.claims ++ [{ frame := f, since := b.order }], order := b.order + 1 }

/-! ### Notices (R19, R20) -/

/-- Set a kind's position in the pending set. A STATUS reply already queued will not clear it (R20, assumption
log 29). -/
def setPendingKind (k : Nat) (s : State) : State :=
  let bit : BitVec 16 := BitVec.ofNat 16 (2 ^ k)
  let keep := fun (q : Queued) => match q.frame with
    | .reply r => { q with frame := .reply { r with clears := r.clears &&& ~~~bit } }
    | _ => q
  (s.onCtl fun c => { c with pendingSet := c.pendingSet ||| bit }).onBus fun b => { b with slots := b.slots.mapFrames keep }

/-- A notice arises (R19). -/
def raise (n : Notice) (s : State) : State :=
  if s.ctl.setup.noticeMask.getLsbD n.code || s.bus.offBus then setPendingKind n.code s
  else match s.bus.slots.freeSlot with
    | some id => placeFrame id (.notice n) s
    | none =>
      if s.ctl.notices.length < 8 then
        (s.onCtl fun c => { c with notices := c.notices ++ [{ notice := n, since := s.bus.order }] }).onBus
          fun b => { b with order := b.order + 1 }
      else setPendingKind n.code s

/-! ### The arbiter (R6) -/

/-- Who may be granted a freed slot. -/
inductive Claimant where
  | frame (c : Claim)
  | notice (n : WaitingNotice)
  | take
deriving DecidableEq, Repr

/-- A waiting claim as the arbiter ranks it: its frame's arbitration word, then the moment it began. -/
structure RankedClaim where
  word : Nat
  since : Nat
  who : Claimant
deriving DecidableEq, Repr

/-- The claims waiting for a slot of 1 to 3: the pending frames, the oldest notice, the wish to take (R6). -/
def waitingClaims (s : State) : List RankedClaim :=
  let n := s.num
  (s.bus.claims.map fun c => { word := c.frame.word n, since := c.since, who := .frame c })
    ++ (match s.ctl.notices with
        | [] => []
        | w :: _ => [{ word := (Frame.notice w.notice).word n, since := w.since, who := .notice w }])
    ++ (if s.bus.rx = [] ∨ s.bus.slots.grantedSlot.isSome then []
        else [{ word := replyRow.cls * 8192 + n, since := s.bus.rxSince, who := .take }])

/-- The lowest word wins; among equal words the claim that began waiting first (R6). -/
def RankedClaim.before (a b : RankedClaim) : Bool :=
  decide (a.word < b.word) || (decide (a.word = b.word) && decide (a.since < b.since))

def bestClaim : List RankedClaim → Option RankedClaim
  | [] => none
  | a :: t => match bestClaim t with
    | none => some a
    | some b => if b.before a then some b else some a

/-- Grant a slot that has just freed (R6). -/
def grantSlot (id : SlotId) (s : State) : State :=
  match bestClaim (waitingClaims s) with
  | none => s
  | some c => match c.who with
    | .frame k => placeFrame id k.frame (s.onBus fun b => { b with claims := b.claims.filter fun x => decide (x ≠ k) })
    | .notice w => placeFrame id (.notice w.notice) (s.onCtl fun t => { t with notices := t.notices.tail })
    | .take => setSlot id .granted s

/-- A slot frees. Slot 0 takes a FIRE that waited for the frame in it to end; a slot of 1 to 3 goes to the arbiter
(R6, R11). -/
def freeSlotThen (id : SlotId) (s : State) : State :=
  let s := setSlot id .free s
  match id with
  | .s0 => match s.bus.firePending with
    | none => s
    | some m => placeFrame .s0 (.fire m) (s.onBus fun b => { b with firePending := none })
  | _ => grantSlot id s

/-- The oldest record's wish to be taken meets a free slot, or goes on waiting (R6, R16). -/
def wishGoesOn (s : State) : State :=
  if s.bus.rx = [] ∨ s.bus.slots.grantedSlot.isSome then s
  else match s.bus.slots.freeSlot with
    | some id => setSlot id .granted s
    | none => s

/-- A record has become the oldest: its wish to be taken counts from now (R6). -/
def wishBegins (s : State) : State := s.onBus fun b => { b with rxSince := b.order, order := b.order + 1 }

/-- A record has come into an empty queue: its wish begins, and meets a free slot at once (R6, R16). -/
def wishTake (s : State) : State := wishGoesOn (wishBegins s)

/-! ### Aborting (R10) -/

/-- What became of an abort. -/
inductive AbortResult where
  | returned
  | notReturned
deriving DecidableEq, Repr

/-- Abort the frame that meets `p`: a pending or unstarted frame is removed and returned ABORTED, a started one is
marked, and a frame already returned leaves the request without effect (R10). -/
def abortFrame (p : Frame → Bool) (s : State) : AbortResult × State :=
  if s.bus.claims.any fun c => p c.frame then
    (.returned, s.onBus fun b => { b with claims := b.claims.filter fun c => !p c.frame })
  else match s.bus.slots.find fun q => p q.frame with
    | none => (.notReturned, s)
    | some id => match s.bus.slots.get id with
      | .holds q =>
        if q.started then (.notReturned, setSlot id (.holds { q with abortAsked := true }) s)
        else (.returned, freeSlotThen id s)
      | _ => (.notReturned, s)

/-! ### The roster's other side of an outcome (R43) -/

/-- The roster entry of a station. -/
def rosterOf (n : Nat) (s : State) : RosterEntry := tableGet RosterEntry.cleared s.ctl.roster n

/-- Write a roster entry. -/
def setRoster (n : Nat) (e : RosterEntry) (s : State) : State :=
  s.onCtl fun c => { c with roster := tablePut RosterEntry.cleared c.roster n e }

/-- An own addressed frame to `n` ended NONE: the entry becomes absent, with NEIGHBOUR-LOST for an adjacent station
that was present (R43). Frames to nodes other than stations 1 to 24 change no entry. -/
def stationSilent (n : Nat) (s : State) : State :=
  if 1 ≤ n ∧ n ≤ 24 then
    let e := rosterOf n s
    let s' := setRoster n { e with present := false } s
    if e.present && (decide (n + 1 = s.num) || decide (n = s.num + 1)) then raise (.neighbourLost n) s' else s'
  else s

/-! ### Reception (R3, R9, R12, R13, R14) -/

/-- An answer slot the station leaves undriven. -/
def silent : AnswerBits := { voidMark := false, answerMark := false, answerKind := false }

/-- The void mark. -/
def driveVoid : AnswerBits := { voidMark := true, answerMark := false, answerKind := false }

/-- The answer TAKEN (R4). -/
def driveTaken : AnswerBits := { voidMark := false, answerMark := true, answerKind := true }

/-- The answer HELD (R4). -/
def driveHeld : AnswerBits := { voidMark := false, answerMark := true, answerKind := false }

/-- What the station drives in the answer slot of the frame it has just received. -/
def answerWith (a : AnswerBits) (s : State) : State := s.onBus fun b => { b with answer := a }

/-- The senders a kind is honoured from (R13). -/
def isStation (n : Nat) : Bool := decide (1 ≤ n) && decide (n ≤ 24)

/-- A frame received: the void judgement, then the acceptance tests in their order, then the sender (R3, R9, R12,
R13). `offBusToo`: an off-bus station still receives the kind (R9). `honoured` says whose frames of the kind count,
`deliver` what the owner block does with one that does. -/
def receive (row : KindRow) (offBusToo : Bool) (honoured : Nat → Bool) (deliver : RxFrame → State → State) (f : RxFrame)
    (s : State) : State :=
  let sender := f.sender.toNat
  let dest := f.dest.toNat
  if s.ctl.station = .strapFault then s
  else if deafSender sender then answerWith silent s
  else if framesFault row f then answerWith (if s.bus.offBus then silent else driveVoid) s
  else if s.bus.offBus && !offBusToo then answerWith silent s
  else if sender = s.num then answerWith silent s
  else if dest = 0 then (if honoured sender then deliver f (answerWith silent s) else answerWith silent s)
  else if dest = s.num ∧ !s.bus.offBus then
    (if honoured sender then deliver f (answerWith driveTaken s) else answerWith driveTaken s)
  else answerWith silent s

end Sys2Proof.Machine
end

