-- ==== Sys2Proof/Machine/BinTable.lean ====
section
/-! DEFINITION. The Bin Table (chapter 3): one operation for each request, with the result it returns, what it does
to the record, and the notices it raises in the order its rule lists them. -/

namespace Sys2Proof.Machine

open Sys2Proof

/-- The record at a location index. -/
def binAt (i : Nat) (s : State) : BinRec := tableGet BinRec.blank s.bins i

/-- Write the record at a location index. -/
def putBin (i : Nat) (r : BinRec) (s : State) : State := s.onBins fun t => tablePut BinRec.blank t i r

/-- An index is valid at this station (R47). -/
def validIndex (p : Straps) (i : Nat) : Bool :=
  (decide (sideOf i = 0) || (decide (sideOf i = 1) && p.twoSided)) && decide ((positionOf i).column ≤ p.columns)

/-- The bin ID of an own index (R47). -/
def ownBin (i : Nat) (s : State) : Nat := s.num * 2048 + i

/-- The classes of a bin ID (R47). -/
inductive BinClass where
  | invalid | other | invalidHere | own
deriving DecidableEq, Repr

def classify (bin : Nat) (s : State) : BinClass :=
  if homeOf bin = 0 ∨ 25 ≤ homeOf bin then .invalid
  else if homeOf bin ≠ s.num then .other
  else if validIndex s.ctl.straps (indexOf bin) then .own
  else .invalidHere

/-! ### Lifting and storing (R56, R57, R58) -/

/-- Lift begin on a STORED record: LIFTING with the job's call; CONFLICT (false) otherwise (R56). The call's port is not
tested against the follow-on list (R51; assumption log 67). -/
def liftBegin (i : Nat) (call : Call) (s : State) : Bool × State :=
  let r := binAt i s
  if r.state = .stored then (true, putBin i { r with state := .lifting, call := some call } s) else (false, s)

/-- Lift end on a LIFTING record: OUT, returning the current call; CONFLICT (none) otherwise (R56). A LIFTING record
without a call has none to return, and the stand gets no carry record (assumption log 36). -/
def liftEnd (i : Nat) (s : State) : Option (Option Call) × State :=
  let r := binAt i s
  if r.state = .lifting then (some r.call, putBin i { r with state := .out } s) else (none, s)

/-- Store begin on an OUT record: STORING; CONFLICT (false) otherwise (R57). -/
def storeBegin (i : Nat) (s : State) : Bool × State :=
  let r := binAt i s
  if r.state = .out then (true, putBin i { r with state := .storing } s) else (false, s)

/-- The follow-on entry that store end or restore end hands back: the oldest, unless the pool holds a RETRIEVE for
the index (R58). -/
def handBack (hasRetrieve : Bool) (l : List FollowOn) : Option FollowOn × List FollowOn :=
  match hasRetrieve, l with
  | false, e :: t => (some e, t)
  | _, l => (none, l)

/-- Store end on a STORING record: STORED, the call cleared, a STORED notice, and a follow-on handed back; CONFLICT (none)
otherwise (R58). -/
def storeEnd (i : Nat) (hasRetrieve : Bool) (s : State) : Option (Option FollowOn) × State :=
  let r := binAt i s
  if r.state = .storing then
    let h := handBack hasRetrieve r.followOns
    (some h.1, raise (.stored (ownBin i s) r.fill) (putBin i { r with state := .stored, call := none, followOns := h.2 } s))
  else (none, s)

/-- Restore end on a LIFTING record: STORED, the call cleared, no notice, and a follow-on handed back; CONFLICT (none)
otherwise (R58). -/
def restoreEnd (i : Nat) (hasRetrieve : Bool) (s : State) : Option (Option FollowOn) × State :=
  let r := binAt i s
  if r.state = .lifting then
    let h := handBack hasRetrieve r.followOns
    (some h.1, putBin i { r with state := .stored, call := none, followOns := h.2 } s)
  else (none, s)

/-- The results of call clear (R58). -/
inductive CallClear where
  | cleared (c : Call)
  | tooLate
  | notHeld
deriving DecidableEq, Repr

/-- Call clear (R58). -/
def callClear (i tag : Nat) (s : State) : CallClear × State :=
  let r := binAt i s
  match r.call with
  | some c =>
    if c.tag = tag then
      match r.state with
      | .lifting => (.cleared c, putBin i { r with call := none } s)
      | .out => (.tooLate, s)
      | _ => (.notHeld, s)
    else (.notHeld, s)
  | none => (.notHeld, s)

/-! ### The home visit (R59, R60) -/

/-- The carry record of a bin bound home (R59, R60 step 5). -/
def boundHome (num : Nat) (c : Carry) : Carry :=
  { c with dest := num, kind := .home, tag := 0, purpose := .noPurpose }

/-- The unserved-fill case of R60. -/
def unservedFill (r : BinRec) (c : Carry) : Bool :=
  decide (c.kind = .home) && !c.filled &&
    match r.call with
    | some k => decide (k.purpose = .fill)
    | none => false

/-- The hold the visit will leave in place (R60 step 2). -/
def visitHold (r : BinRec) (c : Carry) : Nat := if c.filled || unservedFill r c then 0 else r.hold

/-- The fill after the visit (R60 step 2). -/
def visitFill (r : BinRec) (c : Carry) : Nat :=
  (clampInt 0 (15 - (visitHold r c : Int)) ((r.fill : Int) + c.delta)).toNat

/-- Step 4 and step 5 of R60: the next call, or home. -/
def visitNext (num : Nat) (r : BinRec) (c : Carry) : BinRec × Carry :=
  if c.kind = .port then (r, c)
  else match r.followOns with
    | e :: t =>
      ({ r with call := some { tag := e.tag, port := e.port, purpose := e.purpose }, followOns := t },
       { c with dest := e.port, kind := .port, tag := e.tag, purpose := e.purpose, recirc := 0 })
    | [] => ({ r with call := none }, boundHome num c)

/-- Steps 2 to 5 of the home visit of the bin at index `i`, whose record is `r` (R60). -/
def visitSteps (i : Nat) (r : BinRec) (c : Carry) (s : State) : Carry × State :=
  let fill := visitFill r c
  let unserved := unservedFill r c
  let hold := if c.filled || unserved then 0 else r.hold
  let s := if (fill : Int) ≠ (r.fill : Int) + c.delta then raise (.fillClamped c.bin fill) s else s
  let s := match unserved, r.call with
    | true, some k => raise (.fillFailed k.tag i) s
    | _, _ => s
  let n := visitNext s.num { r with fill := fill, hold := hold } { c with delta := 0, filled := false }
  (n.2, putBin i n.1 s)

/-- The result of a home visit: the rewritten carry record and the record's new state (R60). -/
structure VisitResult where
  carry : Carry
  state : BinState
deriving DecidableEq, Repr

/-- The home visit of an own bin (R59): its result, or none for INVALID. -/
def homeVisit (c : Carry) (s : State) : Option VisitResult × State :=
  let i := indexOf c.bin
  let r := binAt i s
  if !validIndex s.ctl.straps i then (none, s)
  else
    let visit := fun (r : BinRec) (s : State) => let v := visitSteps i r c s; (some { carry := v.1, state := r.state }, v.2)
    let sentHome := { carry := boundHome s.num c, state := r.state }
    match r.state with
    | .absent =>
      visit { BinRec.blank with state := .out } (raise (.unregistered c.bin BinState.absent.code) s)
    | .stored => visit { r with state := .out } (raise (.unregistered c.bin BinState.stored.code) s)
    | .lifting => (some sentHome, raise (.unregistered c.bin BinState.lifting.code) s)
    | .storing => (some sentHome, raise (.unregistered c.bin BinState.storing.code) s)
    | .lost => visit { r with state := .out } (raise (.found c.bin 2) s)
    | .out => visit r s

/-! ### Lost and found (R61, R62) -/

/-- Mark lost by a JAM: an own bin that is OUT becomes LOST, with a LOST notice of cause 1 (R61). Every other bin and
state is left as it is. -/
def markLostByJam (bin : Nat) (s : State) : State :=
  let i := indexOf bin
  let r := binAt i s
  if classify bin s = .own ∧ r.state = .out then raise (.lost bin 1) (putBin i { r with state := .lost } s) else s

/-- Mark lost by audit: a STORED record becomes LOST, with a LOST notice of cause 2 (R61). -/
def markLostByAudit (i : Nat) (s : State) : State :=
  let r := binAt i s
  if r.state = .stored then raise (.lost (ownBin i s) 2) (putBin i { r with state := .lost } s) else s

/-- Mark found by audit: a LOST record becomes STORED with no hold, call or follow-on (R62). -/
def markFoundByAudit (i : Nat) (s : State) : State :=
  let r := binAt i s
  if r.state = .lost then
    let s := raise (.found (ownBin i s) 1) (putBin i { r with state := .stored, hold := 0, call := none, followOns := [] } s)
    match r.call with
    | some k => if k.purpose = .fill then raise (.fillFailed k.tag i) s else s
    | none => s
  else s

/-- Mark found by IDENTIFY: a LOST record becomes OUT, all fields kept (R62). -/
def markFoundByIdentify (i : Nat) (s : State) : State :=
  let r := binAt i s
  if r.state = .lost then raise (.found (ownBin i s) 3) (putBin i { r with state := .out } s) else s

/-! ### Room holds (R63, R64) -/

/-- Hold set: SET (true) or REFUSED (R63). The caller has found no RETRIEVE job for the index. -/
def holdSet (i units : Nat) (s : State) : Bool × State :=
  let r := binAt i s
  if r.state = .stored ∧ r.hold = 0 ∧ r.fill + units ≤ 15 then (true, putBin i { r with hold := units } s) else (false, s)

/-- The results of hold clear (R64). -/
inductive HoldClear where
  | cleared | noneHeld
deriving DecidableEq, Repr

/-- Hold clear, in any state: CLEARED where the hold was above 0, NONE-HELD where it was 0 (R64). -/
def holdClear (i : Nat) (s : State) : HoldClear × State :=
  let r := binAt i s
  (if 0 < r.hold then .cleared else .noneHeld, putBin i { r with hold := 0 } s)

/-! ### Follow-on calls (R65, R66) -/

/-- The results of follow-on append (R65). -/
inductive AppendResult where
  | appended | merged | full | refused
deriving DecidableEq, Repr

/-- The ports a new entry may not repeat (R65 step 2). -/
def pendingPorts (r : BinRec) (jobPort : Option Nat) : List Nat :=
  (r.call.map Call.port).toList ++ jobPort.toList ++ r.followOns.map FollowOn.port

/-- Follow-on append (R65). -/
def followOnAppend (i : Nat) (e : FollowOn) (jobPort : Option Nat) (s : State) : AppendResult × State :=
  let r := binAt i s
  if r.state = .absent ∨ r.state = .lost then (.refused, s)
  else if e.port ∈ pendingPorts r jobPort then (.merged, s)
  else if 3 ≤ r.followOns.length then (.full, s)
  else (.appended, putBin i { r with followOns := r.followOns ++ [e] } s)

/-- Where tag search finds a tag (R66). -/
inductive TagPlace where
  | followOn (index position : Nat)
  | current (index : Nat)
deriving DecidableEq, Repr

/-- The position, 1 to 3, of a tag in a follow-on list. -/
def positionIn (tag : Nat) : List FollowOn → Option Nat
  | [] => none
  | e :: t => if e.tag = tag then some 1 else (positionIn tag t).map (· + 1)

/-- The first follow-on entry holding the tag: lowest index first, oldest first (R66). -/
def searchFollowOns (tag : Nat) : List (Nat × BinRec) → Option TagPlace
  | [] => none
  | (i, r) :: t => match positionIn tag r.followOns with
    | some p => some (.followOn i p)
    | none => searchFollowOns tag t

/-- A current call holds the tag. -/
def callHolds (tag : Nat) (r : BinRec) : Bool :=
  match r.call with
  | some k => decide (k.tag = tag)
  | none => false

/-- The first current call holding the tag (R66). -/
def searchCalls (tag : Nat) : List (Nat × BinRec) → Option TagPlace
  | [] => none
  | (i, r) :: t => if callHolds tag r then some (.current i) else searchCalls tag t

/-- Tag search (R66). -/
def tagSearch (tag : Nat) (s : State) : Option TagPlace :=
  match searchFollowOns tag s.bins with
  | some p => some p
  | none => searchCalls tag s.bins

/-- Remove the first entry holding the tag. -/
def removeTag (tag : Nat) : List FollowOn → List FollowOn
  | [] => []
  | e :: t => if e.tag = tag then t else e :: removeTag tag t

/-- The first entry holding the tag. -/
def entryWith (tag : Nat) (l : List FollowOn) : Option FollowOn := l.find? fun e => decide (e.tag = tag)

/-- The results of follow-on remove (R66). -/
inductive FollowOnRemove where
  | removed (index : Nat)
  | notHeld
deriving DecidableEq, Repr

/-- Follow-on remove: the entry that tag search reports in a follow-on list goes, REMOVED with its index; NOT-HELD where
no entry holds the tag (R66). -/
def followOnRemove (tag : Nat) (s : State) : FollowOnRemove × State :=
  match tagSearch tag s with
  | some (.followOn i _) =>
    let r := binAt i s
    (.removed i, putBin i { r with followOns := removeTag tag r.followOns } s)
  | _ => (.notHeld, s)

/-! ### Warm reset (R67) -/

/-- A hold stays behind a current call or a follow-on entry of purpose FILL (R67). -/
def fillBehind (r : BinRec) : Bool :=
  (match r.call with
   | some k => decide (k.purpose = .fill)
   | none => false) || r.followOns.any fun e => decide (e.purpose = .fill)

/-- One record at a warm reset (R67). -/
def warmRecord (r : BinRec) : BinRec :=
  match r.state with
  | .absent => r
  | .stored => { r with hold := 0, followOns := [] }
  | .lifting => { r with state := .lost, call := none, hold := 0, followOns := [] }
  | .storing => { r with state := .lost, hold := 0, followOns := [] }
  | .out => if fillBehind r then r else { r with hold := 0 }
  | .lost => if fillBehind r then r else { r with hold := 0 }

/-- The records a warm reset makes LOST, in index order (R67). -/
def warmLost (t : List (Nat × BinRec)) : List Nat :=
  (t.filter fun e => decide (e.2.state = .lifting) || decide (e.2.state = .storing)).map Prod.fst

/-- The table after a warm reset (R67). No record becomes ABSENT, so the form stays canonical. -/
def warmBins (t : List (Nat × BinRec)) : List (Nat × BinRec) := t.map fun e => (e.1, warmRecord e.2)

end Sys2Proof.Machine
end

