-- ==== Sys2Proof/Machine/CraneOps.lean ====
section
/-! DEFINITION. The Crane Sequencer's shared operations (chapter 4): the job pool and its admission, the drive link
and its limits, the stages, dispatch, the conversion to a RESTORE, the failing of FILL jobs, and the wake. -/

namespace Sys2Proof.Machine

open Sys2Proof

/-! ### The pool (R68, R69) -/

/-- The current job: the one in a state other than WAITING (R68). -/
def currentJob (s : State) : Option Job := s.crane.pool.find? fun j => decide (j.state ≠ .waiting)

/-- Change the current job. -/
def onCurrent (f : Job → Job) (s : State) : State :=
  s.onCrane fun c => { c with pool := c.pool.map fun j => if j.state = .waiting then j else f j }

/-- Remove the current job. -/
def removeCurrent (s : State) : State :=
  s.onCrane fun c => { c with pool := c.pool.filter fun j => decide (j.state = .waiting) }

/-- The RETRIEVE job of a bin (R69). -/
def retrieveFor (bin : Nat) (s : State) : Option Job :=
  s.crane.pool.find? fun j => decide (j.kind = .retrieve) && decide (j.bin = bin)

/-- The pool holds a RETRIEVE job for an own index (R58, R63, R79). -/
def hasRetrieve (i : Nat) (s : State) : Bool := (retrieveFor (ownBin i s) s).isSome

/-- The pool holds any job for an own index (R55). An AUDIT has no bin (R68), and its next index does not make it a job
for that index: the model's choice (assumption log 58). -/
def hasJob (i : Nat) (s : State) : Bool :=
  s.crane.pool.any fun j => decide (j.kind ≠ .audit) && decide (j.bin = ownBin i s)

/-- The jobs that are not STORE jobs (R69). -/
def nonStoreCount (pool : List Job) : Nat := (pool.filter fun j => decide (j.kind ≠ .store)).length

/-- An AUDIT passes over invalid indices: the next valid one with the count still left, or none when the run ends
(R78). Structural on the remaining count. -/
def auditNext (p : Straps) : Nat → Nat → Option (Nat × Nat)
  | 0, _ => none
  | n + 1, i => if 2047 < i then none else if validIndex p i then some (i, n + 1) else auditNext p n (i + 1)

/-- A job as it enters: stamped, estimated, and an AUDIT moved on to its first valid index (R68, R78, R98). An
AUDIT with no valid index left is removed at once. -/
def enterJob (j : Job) (s : State) : State :=
  let enter := fun (j : Job) =>
    s.onCrane fun c => { c with pool := c.pool ++ [{ j with stamp := s.est.time, est := estOf s.ctl.setup j }] }
  match j.kind with
  | .audit => match auditNext s.ctl.straps j.remaining j.nextIndex with
    | none => s
    | some (i, n) => enter { j with nextIndex := i, remaining := n }
  | _ => enter j

/-- What became of an offered job (R69). -/
inductive Admission where
  | entered
  | full
  | followOn (r : AppendResult)
deriving DecidableEq, Repr

/-- The pool has room for a job of this kind (R69). -/
def poolAdmits (k : JobKind) (s : State) : Bool :=
  match k with
  | .store => decide (s.crane.pool.length < 32)
  | _ => decide (nonStoreCount s.crane.pool < 31) && decide (s.crane.pool.length < 32)

/-- Offer a job to the pool (R69): a RETRIEVE for a bin that already has one goes to follow-on append instead. -/
def offerJob (j : Job) (s : State) : Admission × State :=
  match (if j.kind = .retrieve then retrieveFor j.bin s else none) with
  | some j0 =>
    let r := followOnAppend (indexOf j.bin)
      { tag := j.tag, port := j.port, purpose := j.purpose, urgency := j.urgency } (some j0.port) s
    (.followOn r.1, r.2)
  | none => if poolAdmits j.kind s then (.entered, enterJob j s) else (.full, s)

/-- A STORE for a bin on the inbound stand (R76): tag 0, urgency 2. -/
def storeJob (bin : Nat) : Job :=
  { tag := 0, kind := .store, bin := bin, port := 0, purpose := .noPurpose, urgency := 2, stamp := 0, est := 0,
    state := .waiting, stage := .travelEmpty, sent := false, nextIndex := 0, remaining := 0 }

/-- A RESTORE to the outbound stand (R77): tag 0, urgency 3. -/
def restoreJob (bin : Nat) : Job :=
  { tag := 0, kind := .restore .outStand, bin := bin, port := 0, purpose := .noPurpose, urgency := 3, stamp := 0, est := 0,
    state := .waiting, stage := .travelLoaded, sent := false, nextIndex := 0, remaining := 0 }

/-- An AUDIT of a run (R191): tag 0, urgency 0. -/
def auditJob (first count : Nat) : Job :=
  { tag := 0, kind := .audit, bin := 0, port := 0, purpose := .noPurpose, urgency := 0, stamp := 0, est := 0,
    state := .waiting, stage := .travel, sent := false, nextIndex := first, remaining := count }

/-- A STORE is asked for the bin on the inbound stand, and kept as a store wanted when the pool is full (R69, R76). -/
def askStore (bin : Nat) (s : State) : State :=
  let r := offerJob (storeJob bin) s
  match r.1 with
  | .entered => r.2.onCrane fun c => { c with storeWanted := false }
  | _ => r.2.onCrane fun c => { c with storeWanted := true }

/-- A RESTORE is asked for the carriage's bin, and asked again each time a record frees while the pool refuses it
(R77). -/
def askRestore (bin : Nat) (s : State) : State :=
  let r := offerJob (restoreJob bin) s
  match r.1 with
  | .entered => r.2.onCrane fun c => { c with restoreWanted := false }
  | _ => r.2.onCrane fun c => { c with restoreWanted := true }

/-- A record has freed: a RESTORE asked again comes before a store wanted (R69, R77). -/
def recordFreed (s : State) : State :=
  let s := match s.crane.restoreWanted, s.crane.carriage with
    | true, .carrying c => askRestore c.bin s
    | _, _ => s
  match s.crane.storeWanted, s.lanes.inStand with
  | true, .holding c => askStore c.bin s
  | _, _ => s

/-- The outbound stand's reservation is released (R80). -/
def releaseStand (s : State) : State := if s.lanes.outStand = .reserved then s.setOutStand .empty else s

/-! ### Dropped calls and failed fills (R74, R79, R83) -/

/-- A fill fails: hold clear, then FILL-FAILED. -/
def failFill (tag index : Nat) (s : State) : State := raise (.fillFailed tag index) (holdClear index s).2

/-- A call is dropped: ABANDONED, and for a FILL call hold clear and FILL-FAILED (R79, R83, R183). -/
def dropCall (bin tag : Nat) (purpose : Purpose) (s : State) : State :=
  let s := raise (.abandoned bin tag) s
  if purpose = .fill then failFill tag (indexOf bin) s else s

/-- The job's FORK-PICK has not been sent (R74, R87, R183). -/
def unlifted (j : Job) : Bool :=
  decide (j.stage = .travelEmpty) || (decide (j.stage = .forkPick) && !j.sent)

/-- The FILL jobs that a drive fault or a fire stop fails (R74). -/
def failsFill (j : Job) : Bool :=
  decide (j.kind = .retrieve) && decide (j.purpose = .fill) && (decide (j.state = .waiting) || unlifted j)

/-- Fail every unlifted FILL job (R74): removed, its reservation released, hold clear and FILL-FAILED each, in the order
of the pool: the model's choice (assumption log 68). The records keep their follow-on entries, with no job behind them
then (R49): the model's choice too (DESIGN CHOICE, assumption log 83). -/
def failFills (s : State) : State :=
  let gone := s.crane.pool.filter failsFill
  if gone.isEmpty then s
  else
    let s1 := s.onCrane fun c => { c with pool := c.pool.filter fun j => !failsFill j }
    let s2 := if gone.any fun j => decide (j.state ≠ .waiting) then releaseStand s1 else s1
    recordFreed (gone.foldl (fun t j => failFill j.tag (indexOf j.bin) t) s2)

/-! ### The drive link (R70, R71) -/

/-- The recorded position. It is known whenever a MOVE is sent; the fallback is never used (assumption log 20). -/
def craneAt (s : State) : Position := s.crane.pos.getD Position.mouth

/-- A command's completion limit in ms (R71). -/
def driveLimit (c : DriveCmd) (s : State) : Nat :=
  match c with
  | .move p => 2 * moveTime s.ctl.setup (craneAt s) p + 2000
  | .fork .. => 2 * s.ctl.setup.fork + 2000
  | .stop => 5000
  | .home => 60000
  | .sleep => 5000
  | .wake => s.ctl.setup.wakeLimit

/-- Send a command: it is in flight under its limit (R70, R71). -/
def sendDrive (c : DriveCmd) (s : State) : State :=
  s.onCrane fun k => { k with inFlight := some c, limit := some (driveLimit c s), lastSent := some c }

/-- The report that completes a command (R70). -/
def completingReport : DriveCmd → ReportKind
  | .move _ => .done
  | .fork _ .probe => .probe
  | .fork .. => .done
  | .stop => .stopped
  | .home => .homed
  | .sleep => .done
  | .wake => .woken

/-- The command in flight is given up: its report, should it come, is ignored (R70, R71). Each command given up owes a
report of its own (assumption log 15). -/
def abandonCommand (s : State) : State :=
  match s.crane.inFlight with
  | none => s
  | some c =>
    s.onCrane fun k => { k with
      inFlight := none, limit := none, stale := completingReport c :: k.stale }

/-- A FORK is in flight. -/
def forkInFlight (s : State) : Bool :=
  match s.crane.inFlight with
  | some (.fork ..) => true
  | _ => false

/-- Send STOP, abandoning the command in flight; a STOP already in flight serves (R70, R176). -/
def sendStop (s : State) : State :=
  if s.crane.inFlight = some .stop then s
  else
    let f := forkInFlight s
    sendDrive .stop ((abandonCommand s).onCrane fun k => { k with forkAbandoned := f })

/-! ### Stages (R75 to R78) -/

/-- The crane comes to rest with its job gone: HALTED under a HALT, IDLE otherwise (R79, R89). -/
def craneRests (s : State) : State :=
  s.onCrane fun k => { k with state := if k.state = .halting ∨ k.state = .halted then .halted else .idle }

/-- The target of a travel stage; none for a fork stage (R75 to R78). -/
def travelTarget (j : Job) : Option Position :=
  let loc := positionOf (indexOf j.bin)
  match j.kind, j.stage with
  | .retrieve, .travelEmpty => some loc
  | .retrieve, .travelLoaded => some .mouth
  | .store, .travelEmpty => some .mouth
  | .store, .travelLoaded => some loc
  | .restore .rack, .travelLoaded => some loc
  | .restore .outStand, .travelLoaded => some .mouth
  | .audit, .travel => some (positionOf j.nextIndex)
  | _, _ => none

/-- The stage after a stage. -/
def stageAfter : Stage → Stage
  | .travelEmpty => .forkPick
  | .forkPick => .travelLoaded
  | .travelLoaded => .forkPlace
  | .forkPlace => .forkPlace
  | .travel => .forkProbe
  | .forkProbe => .travel

/-- The current job goes on to its next stage, not yet begun. -/
def advanceStage (s : State) : State := onCurrent (fun j => { j with stage := stageAfter j.stage, sent := false }) s

/-- Send the current stage's FORK. -/
def sendFork (side : Nat) (op : ForkOp) (s : State) : State :=
  sendDrive (.fork side op) (onCurrent (fun j => { j with sent := true }) s)

/-- Lift begin answered CONFLICT (R83): the job goes, its reservation is released, the crane rests, and the call
follows the bin or is dropped. -/
def liftConflict (j : Job) (s : State) : State :=
  let s := craneRests (releaseStand (removeCurrent s))
  let r := followOnAppend (indexOf j.bin) { tag := j.tag, port := j.port, purpose := j.purpose, urgency := j.urgency } none s
  let s := match r.1 with
    | .full => dropCall j.bin j.tag j.purpose r.2
    | .refused => dropCall j.bin j.tag j.purpose r.2
    | _ => r.2
  recordFreed s

/-- Store begin answered CONFLICT (R76): the job goes, the stand becomes a stray with STRAY 8, the crane rests. -/
def storeConflict (s : State) : State :=
  recordFreed (craneRests (raise (.stray 8) ((removeCurrent s).setInStand .stray)))

/-- Begin the current job's fork stage, asking the Bin Table first where the stage says so (R75 to R78). Store begin
for a bin that is not an own bin, which the table ignores without a result (R47), is taken as answered CONFLICT: the
model's choice (assumption log 59). -/
def beginFork (s : State) : State :=
  match currentJob s with
  | none => s
  | some j =>
    let i := indexOf j.bin
    match j.kind, j.stage with
    | .retrieve, .forkPick =>
      let b := liftBegin i { tag := j.tag, port := j.port, purpose := j.purpose } s
      if b.1 then sendFork (sideOf i) .pick b.2 else liftConflict j s
    | .store, .forkPick =>
      let b := storeBegin i s
      if decide (classify j.bin s = .own) && b.1 then sendFork 1 .pick b.2 else storeConflict s
    | .retrieve, .forkPlace => sendFork 0 .place s
    | .store, .forkPlace => sendFork (sideOf i) .place s
    | .restore .rack, .forkPlace => sendFork (sideOf i) .place s
    | .restore .outStand, .forkPlace => sendFork 0 .place s
    | .audit, .forkProbe => sendFork (sideOf j.nextIndex) .probe s
    | _, _ => s

/-- Begin the current job's recorded stage: a travel whose target has been reached completes at once (R72, R90). -/
def beginStage (s : State) : State :=
  match currentJob s with
  | none => s
  | some j => match travelTarget j with
    | some p => if s.crane.pos = some p then beginFork (advanceStage s) else sendDrive (.move p) s
    | none => beginFork s

/-! ### Dispatch (R80, R81, R82) -/

/-- The carriage is empty: known empty, with no stray or carry record on it (R80, R193). A carriage that holds a carry
record though HOMED reported it empty is neither empty nor loaded: the model's choice (assumption log 60). -/
def carriageEmpty (s : State) : Bool := decide (s.crane.load = .empty) && decide (s.crane.carriage = .nothing)

/-- The conditions to start (R80, R81). -/
def eligible (s : State) (j : Job) : Bool :=
  decide (j.state = .waiting) &&
    match j.kind with
    | .retrieve =>
      decide (s.ctl.station = .active) && decide (s.fire.view = 0#8)
        && decide ((binAt (indexOf j.bin) s).state = .stored) && decide (s.lanes.outStand = .empty) && carriageEmpty s
        && decide (s.crane.continuity ≠ s.ctl.setup.storageContinuity)
    | .store =>
      (match s.lanes.inStand with
       | .holding c => decide (c.bin = j.bin)
       | _ => false) && carriageEmpty s
    | .restore .rack => decide (s.crane.load = .loaded)
    | .restore .outStand => decide (s.crane.load = .loaded) && decide (s.lanes.outStand = .empty)
    | .audit => decide (s.ctl.station = .active) && carriageEmpty s

/-- A job's claim on the crane at a dispatch: its score and its place in the pool. -/
structure Scored where
  score : Int
  stamp : Nat
  tag : Nat
  place : Nat
deriving DecidableEq, Repr

/-- The highest score, then the earlier stamp, then the lower tag, then the earlier record (R82). -/
def Scored.before (a b : Scored) : Bool :=
  decide (b.score < a.score) || (decide (a.score = b.score) &&
    (decide (a.stamp < b.stamp) || (decide (a.stamp = b.stamp) &&
      (decide (a.tag < b.tag) || (decide (a.tag = b.tag) && decide (a.place < b.place))))))

def bestScored : List Scored → Option Scored
  | [] => none
  | a :: t => match bestScored t with
    | none => some a
    | some b => if b.before a then some b else some a

/-- The scores of the eligible jobs (R106). -/
def scoredJobs (s : State) : List Scored :=
  (s.crane.pool.zipIdx.filter fun e => eligible s e.1).map fun e =>
    { score := dispatchScore s.ctl.setup s.est.time (craneAt s) e.1, stamp := e.1.stamp, tag := e.1.tag, place := e.2 }

/-- Storage continuity when a job of this kind starts (R81). -/
def continuityAfter (k : JobKind) (c : Crane) : Nat :=
  match k with
  | .retrieve =>
    if c.pool.any fun j => decide (j.kind = .store) && decide (j.state = .waiting) then saturate 8 (c.continuity + 1)
    else c.continuity
  | .store => 0
  | _ => c.continuity

/-- The kinds whose start reserves the outbound stand (R80). -/
def reservesStand : JobKind → Bool
  | .retrieve => true
  | .restore .outStand => true
  | _ => false

/-- Start the job at a place of the pool (R80). -/
def startJob (place : Nat) (s : State) : State :=
  match s.crane.pool[place]? with
  | none => s
  | some j =>
    let s := s.onCrane fun c => { c with
      state := .running, continuity := continuityAfter j.kind c,
      pool := c.pool.set place { j with state := .active } }
    let s := if reservesStand j.kind then s.setOutStand .reserved else s
    beginStage s

/-- The station states in which jobs are dispatched (R30, R177). -/
def dispatches (s : State) : Bool := decide (s.ctl.station = .active) || decide (s.ctl.station = .doze)

/-- Dispatch, again while a job started has gone at once; the fuel bounds the starts by the pool. -/
def dispatchFrom : Nat → State → State
  | 0, s => s
  | n + 1, s =>
    if s.crane.state = .idle ∧ dispatches s then
      match bestScored (scoredJobs s) with
      | none => s
      | some b => dispatchFrom n (startJob b.place s)
    else s

/-- Dispatch (R82): with the crane IDLE, the eligible job with the highest score starts. -/
def dispatch (s : State) : State := dispatchFrom (s.crane.pool.length + 1) s

/-! ### Follow-ons handed back (R79) -/

/-- A follow-on entry handed back by store end or restore end is offered as a RETRIEVE, or dropped (R79). The entries
behind a dropped one stay on the record: the model's choice (DESIGN CHOICE, assumption log 83). -/
def handOver (bin : Nat) (e : Option FollowOn) (s : State) : State :=
  match e with
  | none => s
  | some e =>
    let r := offerJob (retrieveJob bin e.tag e.port e.purpose e.urgency) s
    match r.1 with
    | .full => dropCall bin e.tag e.purpose r.2
    | .followOn .full => dropCall bin e.tag e.purpose r.2
    | .followOn .refused => dropCall bin e.tag e.purpose r.2
    | _ => r.2

/-- The end of a STORE's place (R76, R79): the job and the carriage's record go, store end is asked, a follow-on is
offered before the other requests that wait for a record. -/
def finishStore (j : Job) (s : State) : State :=
  let s := (removeCurrent s).onCrane fun k => { k with carriage := .nothing }
  let i := indexOf j.bin
  let r := storeEnd i (hasRetrieve i s) s
  recordFreed (handOver j.bin r.1.join r.2)

/-- The end of a RESTORE's place into the rack (R77, R79). -/
def finishRestore (j : Job) (s : State) : State :=
  let s := removeCurrent s
  let i := indexOf j.bin
  let r := restoreEnd i (hasRetrieve i s) s
  recordFreed (handOver j.bin r.1.join r.2)

/-! ### Conversion (R77, R87, R98) -/

/-- A RETRIEVE as the RESTORE it becomes: target RACK, tag 0, urgency 3, stamped now, estimated anew (R77, R98). -/
def asRestore (now : Nat) (u : Setup) (j : Job) : Job :=
  let r := { j with tag := 0, kind := .restore .rack, port := 0, purpose := .noPurpose, urgency := 3, stamp := now,
                    stage := .travelLoaded, sent := false }
  { r with est := estOf u r }

/-- Convert the current RETRIEVE (R87): call clear is asked, the reservation is released, the job keeps its state. -/
def convertCurrent (j : Job) (s : State) : State :=
  let s := onCurrent (asRestore s.est.time s.ctl.setup) s
  releaseStand (callClear (indexOf j.bin) j.tag s).2

/-! ### The drive fault (R72, R74) -/

/-- Position and load as a FAULT or an expiry leaves them (R72). -/
def afterFault (k : Crane) : Crane :=
  { k with
    pos := match k.inFlight with
      | some (.move _) => none
      | some .home => none
      | _ => k.pos
    load := match k.inFlight with
      | some (.fork ..) => .unknown
      | _ => k.load }

/-- The current job becomes FROZEN with its stage kept (R74, R176). -/
def freezeCurrent (s : State) : State := onCurrent (fun j => { j with state := .frozen }) s

/-- The command in flight has drawn its report: nothing is in flight and no limit runs (R70). -/
def reportTaken (s : State) : State := s.onCrane fun k => { k with inFlight := none, limit := none }

/-- The crane's part of a drive fault (R74). Code 0 is a limit's expiry. The command in flight is abandoned, so that its
report, should it still come, is ignored (R37, R70, R71). -/
def craneFault (code : Nat) (s : State) : State :=
  let cmd := commandCode s.crane.inFlight
  let s := (abandonCommand (s.onCrane afterFault)).onCrane fun k =>
    { k with state := .faulted, restartRun := false, wakeKept := false, forkAbandoned := false }
  let s := (freezeCurrent s).onRecord fun r => { r with driveFault := true }
  failFills (raise (.driveFault code cmd) s)

/-! ### The wake (R38) -/

/-- The Sequencer sends WAKE and the crane becomes WAKING (R38). -/
def sendWake (s : State) : State := (sendDrive .wake s).onCrane fun k => { k with state := .waking, wakeKept := false }

/-- The sending of HOME: the crane becomes HOMING (R73, R181). -/
def sendHome (s : State) : State := (sendDrive .home s).onCrane fun k => { k with state := .homing }

end Sys2Proof.Machine
end

