-- ==== Sys2Proof/Machine/LaneOps.lean ====
section
/-! DEFINITION. The Lane Unit's shared operations (chapter 6) and the Port Unit's that they meet: claims and the
merge at a tail, the divert decision, offers, turns and diverts, landings, conditions, and JAM. -/

namespace Sys2Proof.Machine

open Sys2Proof

/-! ### Heads -/

def setHead (l : Lane) (h : HeadState) (s : State) : State := s.onSeg l fun g => { g with head := h }

/-- The offer retry interval stops: a DEFERRED head acts when it is next ready (R119). -/
def stopRetry (l : Lane) (s : State) : State := s.onSeg l fun g => { g with retry := none }

/-- The head is ready (R110). -/
def headReady (l : Lane) (s : State) : Bool :=
  let g := s.seg l
  !g.places.isEmpty && s.headSensor l && (decide (g.head = .idle) || decide (g.head = .deferred))
    && decide (g.cond = .running)

/-- The carry record at the head. -/
def headCarry (l : Lane) (s : State) : Option Carry :=
  match (s.seg l).places with
  | { content := .carrying c, .. } :: _ => some c
  | _ => none

/-- Replace the head record's content, its place kept. -/
def setHeadContent (x : Content) : List PlaceRec → List PlaceRec
  | [] => []
  | p :: t => { p with content := x } :: t

/-- The head record leaves the list and the head becomes IDLE. -/
def removeHead (l : Lane) (s : State) : State :=
  s.onSeg l fun g => { g with places := g.places.tail, head := .idle, headLimit := none, retry := none }

/-! ### The entry rule and the merge (R112 to R116) -/

/-- A through claim is admitted with one place free and no reservation (R112). -/
def admitsThrough (g : Segment) : Bool := g.reservation.isNone && decide (g.places.length < 3)

/-- A local claim is admitted with at most one record and no reservation (R112). -/
def admitsLocal (g : Segment) : Bool := g.reservation.isNone && decide (g.places.length ≤ 1)

/-- The outbound stand's local claim waits on a lane (R128). -/
def standClaims (l : Lane) (s : State) : Bool :=
  match s.lanes.outStand with
  | .holding _ (some k) => decide (k = l)
  | _ => false

/-- SERVICE's exit claim waits on a lane (R143). -/
def serviceClaims (l : Lane) (s : State) : Bool :=
  match s.port.service with
  | .released _ (some k) => decide (k = l)
  | _ => false

/-- A local claim waits on the segment (R116). -/
def localWaits (l : Lane) (s : State) : Bool := standClaims l s || serviceClaims l s

/-- The merge counter returns to 0 when no local claim remains waiting (R116). -/
def settleMerge (l : Lane) (s : State) : State := if localWaits l s then s else s.onSeg l fun g => { g with merge := 0 }

/-- The merge counter rises at a through claim admitted while a local claim waits (R116). -/
def raiseMerge (l : Lane) (s : State) : State :=
  if localWaits l s then s.onSeg l fun g => { g with merge := saturate 8 (g.merge + 1) } else s

/-- The tail is open: RUNNING, head not JAMMED, no reservation (R114). -/
def tailIsOpen (g : Segment) : Bool := decide (g.cond = .running) && decide (g.head ≠ .jammed) && g.reservation.isNone

/-- Tests 2 to 5 of R118: the station ACTIVE and the segment RUNNING, the head not JAMMED, a through claim admitted,
the merge counter below merge continuity. -/
def takesThrough (l : Lane) (s : State) : Bool :=
  let g := s.seg l
  decide (s.ctl.station = .active) && decide (g.cond = .running) && decide (g.head ≠ .jammed) && admitsThrough g
    && decide (g.merge < s.ctl.setup.mergeContinuity)

/-- Grant a local claim (R112, R115, R116, R128, R143). -/
def grantLocal (l : Lane) (src : EntryFrom) (s : State) : State :=
  let limit := s.ctl.setup.handoffLimit
  let s := s.onSeg l fun g =>
    { g with reservation := some (.entry src), tailLimit := some limit, lastEntry := src, merge := 0 }
  match src with
  | .outStand => match s.lanes.outStand with
    | .holding c _ => s.setOutStand (.entering c l)
    | _ => s
  | .service => match s.port.service with
    | .released c _ => s.setService (.entering c l)
    | _ => s

/-- Try the waiting local claims on a segment: of two, the one other than its last local entry (R115). -/
def tryLocals (l : Lane) (s : State) : State :=
  if tailIsOpen (s.seg l) && admitsLocal (s.seg l) then
    match standClaims l s, serviceClaims l s with
    | true, true => grantLocal l (if (s.seg l).lastEntry = .outStand then .service else .outStand) s
    | true, false => grantLocal l .outStand s
    | false, true => grantLocal l .service s
    | false, false => s
  else s

/-- The lane a local claim for a destination is made on (R102). -/
def claimLane (d : Nat) (s : State) : Lane := (entryLane s.ctl.setup s.top s.num d).lane

/-- The outbound stand becomes HOLDING and makes its local claim, granted at once where the tail admits it (R114,
R128). No claim is made while the station is off-bus. -/
def holdOutStand (c : Carry) (s : State) : State :=
  if s.bus.offBus then s.setOutStand (.holding c none)
  else
    let l := claimLane c.dest s
    let s := s.setOutStand (.holding c (some l))
    if tailIsOpen (s.seg l) && admitsLocal (s.seg l) then grantLocal l .outStand s else s

/-- SERVICE becomes RELEASED and makes its exit claim, granted at once where the tail admits it (R143, R145). -/
def releaseService (c : Carry) (s : State) : State :=
  if s.bus.offBus then s.setService (.released c none)
  else
    let l := claimLane c.dest s
    let s := s.setService (.released c (some l))
    if tailIsOpen (s.seg l) && admitsLocal (s.seg l) then grantLocal l .service s else s

/-! ### The advance to SERVICE (R136) -/

/-- An advance begins when APPROACH is HOLDING, SERVICE is EMPTY and the station is ACTIVE (R136). -/
def tryAdvance (s : State) : State :=
  match s.port.approach, s.port.service with
  | .holding _, .empty =>
    if s.ctl.station = .active then
      s.onPort fun p => { p with service := .incoming, advanceLimit := some s.ctl.setup.handoffLimit }
    else s
  | _, _ => s

/-! ### Passing, turning, diverting (R117, R122 to R125) -/

/-- A head of the station that turns into its own other lane (section 6.1). -/
def isTurnHead (l : Lane) (s : State) : Bool := (s.downstream l).isNone

/-- A bin past a divert it wanted (R124). -/
def recirculated (limit : Nat) (c : Carry) : Carry :=
  let count := saturate 15 (c.recirc + 1)
  if c.kind = .port ∧ limit < c.recirc + 1 then
    { c with dest := homeOf c.bin, kind := .home, tag := 0, purpose := .noPurpose, recirc := count }
  else { c with recirc := count }

/-- The carry record as it stands once the bin has passed this station's divert point (R117, R124). A bin whose
destination is this station passes wanting a divert here (R123). -/
def offeredCarry (c : Carry) (s : State) : Carry :=
  if c.dest = s.num then recirculated s.ctl.setup.recircLimit c else c

/-- A handoff or a turn is accepted: the head record takes the offered fields, the recirculation counts, and an
abandoned bin is noticed (R119, R124); the head is MOVING under the handoff limit. -/
def acceptedHead (l : Lane) (offered : Carry) (s : State) : State :=
  let old := headCarry l s
  let limit := s.ctl.setup.handoffLimit
  let s := s.onSeg l fun g =>
    { g with places := setHeadContent (.carrying offered) g.places, head := .moving, headLimit := some limit, retry := none }
  match old with
  | none => s
  | some c =>
    if c.dest = s.num then
      let s := countRecirc s
      if c.kind = .port ∧ offered.kind = .home then raise (.abandoned c.bin c.tag) s else s
    else s

/-- The turn head of lane `l` claims the other lane's tail (R122). -/
def claimTurn (l : Lane) (c : Carry) (s : State) : State :=
  let t := Lane.other l
  let limit := s.ctl.setup.handoffLimit
  if takesThrough t s then
    let o := offeredCarry c s
    let s := raiseMerge t (s.onSeg t fun g => { g with reservation := some (.through .turn o), tailLimit := some limit })
    acceptedHead l o s
  else (stopRetry l s) |> setHead l .deferred

/-- The downstream neighbour can be offered a bin (R117). -/
def mayOffer (d : Nat) (s : State) : Bool :=
  let e := rosterOf d s
  !s.bus.offBus && e.present && decide (e.announced ≠ .joining) && decide (e.announced ≠ .shutdown)
    && decide (e.announced ≠ .recovery)

/-- A bin that passes is offered downstream, or claims the turn (R117, R122). A head that may not offer is IDLE. -/
def passOn (l : Lane) (c : Carry) (s : State) : State :=
  match s.downstream l with
  | none => if s.bus.offBus then setHead l .idle s else claimTurn l c s
  | some d =>
    if mayOffer d s then queueFrame (.pass l d (offeredCarry c s)) (setHead l .offering (stopRetry l s))
    else setHead l .idle (stopRetry l s)

/-- The Port Unit accepts a divert when the port is fitted and APPROACH is EMPTY (R134). -/
def approachAccepts (s : State) : Bool := s.ctl.straps.port && decide (s.port.approach = .empty)

/-- The divert target is free. -/
def targetFree (t : DivertTarget) (s : State) : Bool :=
  match t with
  | .inStand => decide (s.lanes.inStand = .empty)
  | .approach => approachAccepts s

/-- The divert target a bin wants here: APPROACH for PORT, the inbound stand for HOME (R123). -/
def targetOf (c : Carry) : DivertTarget :=
  match c.kind with
  | .port => .approach
  | .home => .inStand

/-- A divert begins: the target is claimed and the head is DIVERTING (R125). -/
def beginDivert (l : Lane) (t : DivertTarget) (s : State) : State :=
  let limit := s.ctl.setup.handoffLimit
  let s := s.onSeg l fun g => { g with head := .diverting t, headLimit := some limit, retry := none }
  match t with
  | .inStand => s.setInStand .incoming
  | .approach => s.setApproach .claimed

/-- The divert decision at a ready head (R123). -/
def decideHead (l : Lane) (s : State) : State :=
  match (s.seg l).places with
  | [] => s
  | p :: _ => match p.content with
    | .stray => s
    | .carrying c =>
      if c.dest = 0 ∨ s.top < c.dest then
        raise (.stray (placeCode l 1))
          (s.onSeg l fun g => { g with places := setHeadContent .stray g.places, head := .idle, retry := none })
      else if c.dest = s.num ∧ targetFree (targetOf c) s then beginDivert l (targetOf c) s
      else passOn l c s

/-- A head acts if it is ready (R123). -/
def actHead (l : Lane) (s : State) : State := if headReady l s then decideHead l s else s

/-- An IDLE head acts if it is ready; a DEFERRED one waits for its own events. -/
def actIdleHead (l : Lane) (s : State) : State := if (s.seg l).head = .idle then actHead l s else s

/-! ### The tail opens (R114) -/

/-- The turn-fed tail `l` opens to a turn head that was refused (R114, R122). -/
def retryTurn (l : Lane) (s : State) : State :=
  let h := Lane.other l
  if isTurnHead h s && decide ((s.seg h).head = .deferred) then actHead h s else s

/-- SPACE to the upstream neighbour where the deferred-upstream flag is set, clearing it (R114). -/
def sendSpace (l : Lane) (s : State) : State :=
  if (s.seg l).deferredUp then
    let s := s.onSeg l fun g => { g with deferredUp := false }
    match s.upstream l with
    | some u => queueFrame (.space l u) s
    | none => s
  else s

/-- The tail opens: the local claims, then a waiting turn, then SPACE (R114). -/
def openTail (l : Lane) (s : State) : State :=
  if tailIsOpen (s.seg l) then
    let s := tryLocals l s
    if takesThrough l s then sendSpace l (retryTurn l s) else s
  else s

/-! ### A divert target becomes free (R119, R123, R135) -/

/-- The frame is the PASS of a lane. -/
def isPassOf (l : Lane) (f : Frame) : Bool :=
  match f with
  | .pass k .. => decide (k = l)
  | _ => false

/-- Abort the PASS of an OFFERING head; returned ABORTED, it leaves the head IDLE (R119). -/
def abortOffer (l : Lane) (s : State) : State :=
  if (s.seg l).head = .offering then
    let a := abortFrame (isPassOf l) s
    match a.1 with
    | .returned => setHead l .idle a.2
    | .notReturned => a.2
  else s

/-- The head holds a bin that wants this target here. -/
def wantsTarget (l : Lane) (t : DivertTarget) (s : State) : Bool :=
  match headCarry l s with
  | some c => decide (c.dest = s.num) && decide (targetOf c = t)
  | none => false

/-- One head takes up a target that has become free. -/
def headTakesUp (l : Lane) (t : DivertTarget) (s : State) : State :=
  if wantsTarget l t s && targetFree t s then actHead l (abortOffer l s) else s

/-- The inbound stand or APPROACH has become free: the heads that want it take it up, the out-lane's first (R119,
R123; assumption log 32). -/
def targetFreed (t : DivertTarget) (s : State) : State := headTakesUp .backLane t (headTakesUp .outLane t s)

/-- APPROACH becomes EMPTY, and the Port Unit tells the Lane Unit (R135). -/
def emptyApproach (s : State) : State := targetFreed .approach (s.setApproach .empty)

/-- The inbound stand becomes EMPTY: the continuity count returns to 0 and the heads take it up (R81, R123, R126). -/
def emptyInStand (s : State) : State :=
  targetFreed .inStand ((s.setInStand .empty).onCrane fun k => { k with continuity := 0 })

/-! ### Conditions (R129, R130, R186) -/

def setCond (l : Lane) (c : Condition) (s : State) : State := s.onSeg l fun g => { g with cond := c }

/-- A segment that stops RUNNING has its offer aborted (R119, R129, R186). -/
def onHeld (l : Lane) (was : Condition) (s : State) : State :=
  if was = .running ∧ (s.seg l).cond ≠ .running then abortOffer l s else s

/-- A segment that becomes RUNNING opens its tail (R114, R129). -/
def onRunning (l : Lane) (was : Condition) (s : State) : State :=
  if was ≠ .running ∧ (s.seg l).cond = .running then openTail l s else s

/-- A head whose segment has become RUNNING acts if it is ready (R123, R129). The offer retry interval of one that is
not ready stops here too, so that it acts when it is next ready: the model's choice (assumption log 75). -/
def onRunningHead (l : Lane) (was : Condition) (s : State) : State :=
  if was ≠ .running ∧ (s.seg l).cond = .running then actHead l (stopRetry l s) else s

/-- Both segments take the condition the rules give them as the state now stands, with what a change of it does. Where
both become RUNNING, the out-lane tail opens before the back-lane's, and then the out-lane head acts first, so that it
claims a divert target which both heads want: the model's choice (R129, R134; assumption log 61). -/
def settleConditions (s : State) : State :=
  let w := wantedCondition s
  let wo := (s.seg .outLane).cond
  let wb := (s.seg .backLane).cond
  let s := setCond .backLane w (setCond .outLane w s)
  let s := onHeld .backLane wb (onHeld .outLane wo s)
  let s := onRunning .backLane wb (onRunning .outLane wo s)
  onRunningHead .backLane wb (onRunningHead .outLane wo s)

/-! ### Waking (R38) -/

/-- A wake cause taken while the station is DOZE (R38): with the crane ASLEEP the wake starts, with the park or the
SLEEP in flight it is kept. -/
def wakeCause (s : State) : State :=
  if s.ctl.station = .doze then
    match s.crane.state with
    | .asleep => settleConditions (sendWake s)
    | .running => s.onCrane fun k => { k with wakeKept := true }
    | _ => s
  else s

/-! ### Strays and jams -/

/-- Put a record into a place list by its place, the lowest at the head (R132). -/
def insertPlace (p : PlaceRec) : List PlaceRec → List PlaceRec
  | [] => [p]
  | q :: t => if p.pos < q.pos then p :: q :: t else q :: insertPlace p t

/-- The segment place becomes a stray record, with its STRAY notice and, in DOZE, the wake (R38, R111, R130). A
place list holds at most three records (assumption log 14). -/
def strayAt (l : Lane) (pos : Nat) (s : State) : State :=
  if (s.seg l).places.length < 3 then
    wakeCause (raise (.stray (placeCode l pos))
      (s.onSeg l fun g => { g with places := insertPlace { content := .stray, pos := pos } g.places }))
  else s

/-- Broadcast JAM and ask mark lost directly, which the Bin Table ignores for a bin not its own (R61, R121). -/
def broadcastJam (l : Lane) (bin : Nat) (s : State) : State := markLostByJam bin (queueFrame (.jam l bin) s)

/-- A head whose limit has expired: JAMMED where the head sensor still shows the bin, and otherwise the record
leaves and JAM is broadcast (R121, R125). The tail then opens before the next head record is decided: the model's choice
(assumption log 77). -/
def headTimeout (l : Lane) (s : State) : State :=
  match headCarry l s with
  | none => removeHead l s
  | some c =>
    if s.headSensor l then
      raise (.jam c.bin l) (s.onSeg l fun g => { g with head := .jammed, headLimit := none, retry := none })
    else actIdleHead l (openTail l (broadcastJam l c.bin (removeHead l s)))

/-! ### Places as the sensors show them (R110) -/

/-- A record stands at the place. -/
def placeTaken (pos : Nat) (ps : List PlaceRec) : Bool := ps.any fun p => decide (p.pos = pos)

/-- The nearest record upstream of the place moves to it. -/
def moveTo (pos : Nat) : List PlaceRec → List PlaceRec
  | [] => []
  | p :: t => if pos < p.pos then { p with pos := pos } :: t else p :: moveTo pos t

/-- A record stands upstream of the place and the segment carries it along (R110, R193). -/
def mayMoveTo (pos : Nat) (g : Segment) : Bool :=
  decide (g.cond = .running) && decide (g.head ≠ .jammed) && g.places.any fun p => decide (pos < p.pos)

/-- A head or middle sensor reports a bin. It is the bin of the record at the place (`same`: no other can have come
there), or that of the nearest record upstream, which has moved to the place while the segment runs, or one that no
record accounts for (R110, R113, R130; assumption log 12). -/
def placeReported (l : Lane) (pos : Nat) (same : Bool) (s : State) : State :=
  let g := s.seg l
  if placeTaken pos g.places && (same || !mayMoveTo pos g) then s
  else if mayMoveTo pos g then s.onSeg l fun g => { g with places := moveTo pos g.places }
  else strayAt l pos s

/-- The head record's bin is leaving the head while its record still stands (R119, R125). -/
def headLeaving (g : Segment) : Bool :=
  (match g.head with
   | .moving => true
   | .diverting _ => true
   | _ => false) && g.places.head?.any fun p => decide (p.pos = 1)

/-- The head sensor reports a bin afresh while the old head record is leaving: the nearest record behind it has moved to
the head place with its bin (R110, R193; assumption log 12). -/
def followToHead (l : Lane) (s : State) : State :=
  s.onSeg l fun g => match g.places with
    | p :: t => if decide (g.cond = .running) && !placeTaken 1 t then { g with places := p :: moveTo 1 t } else g
    | [] => g

/-- The head sensor reports a bin; `was`: what it reported before. A head that is not leaving keeps its bin at the
place. -/
def headReported (l : Lane) (was : Bool) (s : State) : State :=
  if headLeaving (s.seg l) then (if was then s else followToHead l s) else placeReported l 1 true s

/-! ### Landing (R120, R127, R128, R199) -/

/-- The bin ID a carry record holds. -/
def contentBins (ps : List PlaceRec) : List Nat :=
  ps.filterMap fun p => match p.content with
    | .carrying c => some c.bin
    | .stray => none

def reservationBins (g : Segment) : List Nat :=
  match g.reservation with
  | some (.through _ c) => [c.bin]
  | _ => []

def outStandBins : OutStand → List Nat
  | .holding c _ => [c.bin]
  | .entering c _ => [c.bin]
  | _ => []

def inStandBins : InStand → List Nat
  | .holding c => [c.bin]
  | _ => []

def approachBins : Approach → List Nat
  | .holding c => [c.bin]
  | _ => []

def serviceBins : Service → List Nat
  | .presented c => [c.bin]
  | .released c _ => [c.bin]
  | .entering c _ => [c.bin]
  | _ => []

def carriageBins : Carriage → List Nat
  | .carrying c => [c.bin]
  | _ => []

/-- Every bin ID held by a carry record of the station (R194 test 6, R199). -/
def heldBins (s : State) : List Nat :=
  contentBins s.lanes.outSeg.places ++ contentBins s.lanes.backSeg.places ++ reservationBins s.lanes.outSeg
    ++ reservationBins s.lanes.backSeg ++ outStandBins s.lanes.outStand ++ inStandBins s.lanes.inStand
    ++ approachBins s.port.approach ++ serviceBins s.port.service ++ carriageBins s.crane.carriage

/-- A record joins the list at the tail place. -/
def addAtTail (l : Lane) (x : Content) (s : State) : State :=
  s.onSeg l fun g => { g with places := g.places ++ [{ content := x, pos := 3 }] }

/-- A stray record at the tail, with its notice. -/
def strayAtTail (l : Lane) (s : State) : State := raise (.stray (placeCode l 3)) (addAtTail l .stray s)

/-- A carry record lands at the tail: a bin ID already held here makes it a stray (R199); `visits`: a bin at home
asks the home visit, whose answer replaces its record, or which makes it a stray (R127). -/
def placeLanded (l : Lane) (c : Carry) (visits : Bool) (s : State) : State :=
  if c.bin ∈ heldBins s then strayAtTail l s
  else if visits && decide (homeOf c.bin = s.num) then
    let v := homeVisit c s
    match v.1 with
    | some r => addAtTail l (.carrying r.carry) v.2
    | none => strayAtTail l v.2
  else addAtTail l (.carrying c) s

/-- The reservation goes and its limit with it. -/
def clearReservation (l : Lane) (s : State) : State := s.onSeg l fun g => { g with reservation := none, tailLimit := none }

/-- LANDED to the upstream neighbour (R120). -/
def sendLanded (l : Lane) (bin : Nat) (s : State) : State :=
  match s.upstream l with
  | some u => queueFrame (.landed l u bin) s
  | none => s

/-- The turn head's record leaves at the landing; a head whose own limit has expired first is no longer MOVING, and
keeps what R121 left (R122). -/
def leaveTurn (h : Lane) (bin : Nat) (s : State) : State :=
  if (s.seg h).head = .moving ∧ (headCarry h s).map Carry.bin = some bin then removeHead h s else s

/-- The tail sensor's bin is the reservation's (R120, R122, R128, R143). The LANDED is queued before the home visit, and
before the STRAY notice of a bin ID already held: the model's choice (R199; assumption log 79). A tail opens before a
head acts: the model's choice (assumption log 77). At a turn's landing the home visit is asked first, then the landed
tail opens, then the turn head's own, and the heads act in that order: the model's choice (R122; assumption log 62). A
turn that was begun before the station went off-bus lands so too: the model's choice (R131; assumption log 69). -/
def landReserved (l : Lane) (r : Reservation) (s : State) : State :=
  let s := clearReservation l s
  match r with
  | .through .neighbour c => actIdleHead l (openTail l (placeLanded l c true (sendLanded l c.bin s)))
  | .through .turn c =>
    let h := Lane.other l
    let s := placeLanded l c true (leaveTurn h c.bin s)
    actIdleHead h (actIdleHead l (openTail h (openTail l s)))
  | .entry .outStand => match s.lanes.outStand with
    | .entering c _ => actIdleHead l (openTail l (placeLanded l c false (s.setOutStand .empty)))
    | _ => openTail l s
  | .entry .service => match s.port.service with
    | .entering c _ => tryAdvance (actIdleHead l (openTail l (placeLanded l c true (s.setService .empty))))
    | _ => openTail l s

end Sys2Proof.Machine
end

