-- ==== Sys2Proof/Machine/StationOps.lean ====
section
/-! DEFINITION. The shared operations that cross the blocks: announcing and changing the station state, entering
SHUTDOWN, RECOVERY and ACTIVE, the end of JOINING, the end of a wake, the drive fault, the shutter sequence, and the
alarm view with its readers (R30, R31, R37 to R40, R169 to R190). -/

namespace Sys2Proof.Machine

open Sys2Proof

/-! ### Announcing and changing the station state (R31) -/

/-- The JOIN the station would send now (R31). -/
def joinBody (s : State) : JoinBody :=
  { number := s.num, top := s.top, compartment := s.compartment, port := s.ctl.straps.port,
    shutter := s.ctl.straps.shutterFitted, warmStart := s.ctl.warmStart, station := s.ctl.station }

/-- The frame is a JOIN. -/
def isJoin : Frame → Bool
  | .join _ => true
  | _ => false

/-- Announce by JOIN: an unstarted JOIN is brought up to date and serves, otherwise one is queued (R31, R42). The JOIN
brought up to date keeps its place and its date, so that one in a slot at the take of a SETUP-B counts as queued before
that order's REPLY (R33): the model's choice (DESIGN CHOICE, assumption log 82). -/
def announce (s : State) : State :=
  let f := Frame.join (joinBody s)
  if s.bus.claims.any fun c => isJoin c.frame then
    s.onBus fun b => { b with claims := b.claims.map fun c => if isJoin c.frame then { c with frame := f } else c }
  else match s.bus.slots.find fun q => isJoin q.frame && !q.started with
    | none => queueFrame f s
    | some id => match s.bus.slots.get id with
      | .holds q => setSlot id (.holds { q with frame := f }) s
      | _ => s

/-- The station state itself, with the own roster entry, which follows it (section 2.7). -/
def putStation (t : StationState) (s : State) : State :=
  let s := s.onCtl fun c => { c with station := t }
  setRoster s.num { rosterOf s.num s with announced := t } s

/-- A change of station state: JOIN and a STATE notice (R31). That the JOIN is queued before the notice, and both before
the frames that the segments' new conditions bring, is the model's choice (assumption log 73). -/
def setStation (t : StationState) (s : State) : State := raise (.state t.code 0) (announce (putStation t s))

/-! ### The shutter (R185 to R189) -/

/-- The close condition (R185). -/
def closeCondition (s : State) : Bool :=
  match s.fire.below with
  | none => decide (s.fire.view ≠ 0#8)
  | some b => decide (b ≠ s.compartment) && (s.ownAlarmed || s.alarmed b)

/-- The open condition (R185). -/
def openCondition (s : State) : Bool :=
  (match s.fire.below with
   | none => decide (s.fire.view = 0#8)
   | some b => !s.ownAlarmed && !s.alarmed b)
    && decide (s.ctl.station = .active) && s.fire.listen.isNone

/-- What ends OPENING: the close condition, or an adjacent compartment in the view, the own one among them where the
compartment below is the same and R185 has no close condition (R189, the shutter law; assumption log 48). -/
def openingEnds (s : State) : Bool := closeCondition s || s.ownAlarmed

/-- A handoff crosses the wall (R187). -/
def crossing (s : State) : Bool :=
  decide (s.lanes.outSeg.head = .moving) ||
    match s.lanes.backSeg.reservation with
    | some (.through .neighbour _) => true
    | _ => false

/-- CLOSING begins: CLOSE is driven under a fresh close limit (R188). A closed sensor that reads closed already does not
end it; its next report does: the model's choice (assumption log 65). -/
def beginClosing (s : State) : State :=
  s.onFire fun f => { f with
    shutter := some .closing, closeOut := true, openOut := false, clearTimer := none,
    closeLimit := some Config.closeLimitMs }

/-- OPENING begins: CLOSE stops, OPEN is driven (R189). An open sensor that reads open already does not end it; its next
report does: the model's choice (assumption log 65). -/
def beginOpening (s : State) : State :=
  s.onFire fun f => { f with shutter := some .opening, closeOut := false, openOut := true }

/-- The clear wait begins, and ends at once where no handoff crosses (R187). -/
def beginClearing (s : State) : State :=
  let s := s.onFire fun f => { f with shutter := some .clearing, clearTimer := some s.ctl.setup.clearTime }
  if crossing s then s else beginClosing s

/-- The shutter sequence takes up its conditions (R185, R187, R189), and the segments follow the wall rule (R186). -/
def shutterTakeUp (s : State) : State :=
  match s.fire.shutter with
  | some .opened => if closeCondition s then settleConditions (beginClearing s) else s
  | some .clearing => if crossing s then s else beginClosing s
  | some .closed => if openCondition s then beginOpening s else s
  | some .failed => if openCondition s then beginOpening s else s
  | some .opening => if openingEnds s then beginClosing s else s
  | some .closing => s
  | none => s

/-! ### Stopping the crane for fire (R40, R176) -/

/-- What the Crane Sequencer does at entry to SHUTDOWN, by the crane state (R176; ASLEEP and WAKING by R40). -/
def stopForFire (s : State) : State :=
  match s.crane.state with
  | .unreferenced => s
  | .homing => (sendStop s).onCrane fun k => { k with state := .unreferenced }
  | .idle => (sendStop s).onCrane fun k => { k with state := .stopped }
  | .running => (sendStop s).onCrane fun k => { k with state := .stopped }
  | .halting => (sendStop s).onCrane fun k => { k with state := .stopped }
  | .halted => (sendStop s).onCrane fun k => { k with state := .stopped }
  | .stopped => s
  | .faulted => s
  | .asleep => s
  | .waking => (abandonCommand s).onCrane fun k => { k with state := .asleep }

/-- Entry to SHUTDOWN (R175, R184): the latch, the crane, the frozen job, the failed fills, the announcement. The
FILL-FAILED notices are queued before the JOIN and the STATE notice: the model's choice (assumption log 78). The segments
follow with `settleConditions`. -/
def enterShutdown (s : State) : State :=
  let s := s.onFire fun f => { f with latch := true }
  let s := (stopForFire s).onCrane fun k => { k with wakeKept := false, restartRun := false }
  setStation .shutdown (failFills (freezeCurrent s))

/-- Entry to RECOVERY (R179). -/
def enterRecovery (s : State) : State := setStation .recovery s

/-- What follows the station's entry to ACTIVE: the segments (R129), the shutter (R185), the advance (R136), and a
dispatch (R82). -/
def afterActive (s : State) : State := dispatch (tryAdvance (shutterTakeUp (settleConditions s)))

/-! ### The end of JOINING (R30) -/

def endJoining (s : State) : State :=
  let s := s.onCtl fun c => { c with joinWait := none }
  if s.ownAlarmed then shutterTakeUp (settleConditions (enterShutdown s))
  else if s.fire.latch then shutterTakeUp (settleConditions (enterRecovery s))
  else
    let s := if s.crane.state = .unreferenced then sendHome s else s
    afterActive (setStation .active s)

/-! ### The end of a wake and the drive fault (R37, R39, R74) -/

/-- The station leaves DOZE: ACTIVE, the segments, a SPACE for every deferred-upstream flag still set (R39), and what
follows entry to ACTIVE. The JOIN and the STATE notice are queued before a head's PASS and before the SPACEs
(assumption log 73), and of two SPACEs the out-lane's first (assumption log 71): the model's choices. -/
def wakeEnds (s : State) : State :=
  let s := settleConditions (setStation .active s)
  dispatch (tryAdvance (shutterTakeUp (sendSpace .backLane (sendSpace .outLane s))))

/-- A drive fault (R74), at a station that is DOZE with the end of the doze (R37). Code 0 is a limit's expiry. The
notices of R74 are queued before the JOIN and the STATE notice of R37: the model's choice (assumption log 78). -/
def driveFault (code : Nat) (s : State) : State :=
  if s.ctl.station = .doze then wakeEnds (craneFault code s) else craneFault code s

/-- A failed wake (R39, R40, R181): the drive fault's flag and notice without its other effects. -/
def wakeFailed (s : State) : State :=
  let s := (abandonCommand s).onCrane fun k => { k with state := .faulted, restartRun := false, wakeKept := false }
  let s := raise (.driveFault 0 (DriveCmd.code .wake)) (s.onRecord fun r => { r with driveFault := true })
  if s.ctl.station = .doze then wakeEnds s else s

/-! ### The alarm view (R169, R170) -/

/-- The view has changed: its readers in their order (R169). -/
def viewReaders (s : State) : State :=
  let s :=
    if s.ownAlarmed then
      match s.ctl.station with
      | .active => enterShutdown s
      | .doze => enterShutdown s
      | .recovery => enterShutdown s
      | _ => s
    else if s.ctl.station = .shutdown then enterRecovery s
    else s
  let s := if s.fire.view = 0#8 then dispatch s else s
  shutterTakeUp (settleConditions s)

/-- Set the view; a change of it is told to its readers (R169). -/
def setView (v : BitVec 8) (s : State) : State :=
  if v = s.fire.view then s else viewReaders (s.onFire fun f => { f with view := v })

/-- The own compartment joins the view, a FIRE for it is queued, and the fire repeat starts afresh (R170). -/
def ownFire (s : State) : State :=
  let s := queueFire s.ownMask (setView (s.fire.view ||| s.ownMask) s)
  s.onFire fun f => { f with repeatTimer := some Config.fireRepeatMs }

end Sys2Proof.Machine
end

