-- ==== Sys2Proof/Machine/AuctionOps.lean ====
section
/-! DEFINITION. The Auction Unit's shared operations (chapter 8): its records by room tag, the lowest seen, the own
BID and its outcomes, the scan, the recheck, the void mark, and the fill call. -/

namespace Sys2Proof.Machine

open Sys2Proof

/-! ### Records -/

/-- The record in use that holds a room tag (R157). -/
def auctionOf (tag : Nat) (s : State) : Option Auction := s.auctions.records.find? fun r => decide (r.roomTag = tag)

/-- Change the record that holds a room tag. -/
def onAuction (tag : Nat) (f : Auction → Auction) (s : State) : State :=
  s.onAuctions fun u => { u with records := u.records.map fun r => if r.roomTag = tag then f r else r }

/-- The order of bids: the value, then the station (R156). -/
def BidPair.before (a b : BidPair) : Bool :=
  decide (a.value < b.value) || (decide (a.value = b.value) && decide (a.station < b.station))

/-- A bid is lower than the lowest seen, or none is recorded (R156). -/
def lowerThanSeen (p : BidPair) (lowest : Option BidPair) : Bool :=
  match lowest with
  | none => true
  | some b => p.before b

/-- A pair is compared with the lowest seen and becomes it when lower (R157). -/
def seeBid (p : BidPair) (r : Auction) : Auction := if lowerThanSeen p r.lowest then { r with lowest := some p } else r

/-- Bid close has passed (R154, R160). -/
def Auction.closed (r : Auction) : Bool := r.closeLimit.isNone

/-- The own BID is queued, pending or started, and not yet returned. -/
def bidOut (r : Auction) : Bool := decide (r.phase = .bidding) && !r.bidReturned

/-! ### The own BID's outcomes (R158) -/

/-- The own BID returned ABORTED: hold clear, and the record is LOST (R158). -/
def bidAborted (tag : Nat) (s : State) : State :=
  match auctionOf tag s with
  | none => s
  | some r =>
    if bidOut r then
      let s := onAuction tag (fun r => { r with phase := .lost, bidReturned := true }) s
      match r.candidate with
      | some i => (holdClear i s).2
      | none => s
    else s

/-- The own BID returned SENT: the own pair is compared as R157 gives (R158). -/
def bidSent (tag : Nat) (s : State) : State :=
  match auctionOf tag s with
  | none => s
  | some r =>
    if bidOut r then
      match r.own with
      | some v => onAuction tag (fun r => { seeBid { value := v, station := s.num } r with bidReturned := true }) s
      | none => onAuction tag (fun r => { r with bidReturned := true }) s
    else s

/-- The frame is the BID of a room tag. -/
def isBidOf (tag : Nat) : Frame → Bool
  | .bid t _ => decide (t = tag)
  | _ => false

/-- Abort the own BID of a room tag, and act on an outcome that comes at once (R158, R159, R160). -/
def abortBid (tag : Nat) (s : State) : State :=
  let a := abortFrame (isBidOf tag) s
  match a.1 with
  | .returned => bidAborted tag a.2
  | .notReturned => a.2

/-! ### The void mark (R160) -/

/-- One record at a FIRE frame: the mark, and the abort of a BID not yet returned. -/
def voidAuction (s : State) (tag : Nat) : State :=
  let s := onAuction tag (fun r => { r with voidMark := true }) s
  match auctionOf tag s with
  | some r => if bidOut r then abortBid tag s else s
  | none => s

/-- Every record in use at a FIRE frame. -/
def voidAuctions (s : State) : State := (s.auctions.records.map Auction.roomTag).foldl voidAuction s

/-! ### The candidate scan (R155, R156) -/

/-- A location is noted by the scan of a request of `units` (R155). -/
def scanNotes (units : Nat) (s : State) (e : Nat × BinRec) : Bool :=
  validIndex s.ctl.straps e.1 && decide (e.2.state = .stored) && decide (e.2.hold = 0) && !hasRetrieve e.1 s
    && decide (e.2.fill + units ≤ 15)

/-- The reads of the indices from `lo` to below `hi`, in ascending order (R155). An index the table does not list is
ABSENT and is not noted. -/
def scanRange (units lo hi : Nat) (s : State) : List Noted :=
  (s.bins.filter fun e => decide (lo ≤ e.1) && decide (e.1 < hi) && scanNotes units s e).map fun e =>
    { index := e.1, fill := e.2.fill }

/-- The ranked bins at the scan's end (R107, R108, R156). -/
def scanRanking (r : Auction) (s : State) : List Valued :=
  ranking (r.noted.filterMap fun b =>
    (bidValue s.ctl.setup s.crane.pool s.top s.num b.index b.fill r.units r.port).map fun v =>
      { index := b.index, value := v })

/-- The test of step 2 of R156. -/
def beatsSeen (r : Auction) (v : Valued) (s : State) : Bool :=
  lowerThanSeen { value := v.value, station := s.num } r.lowest

/-- The recheck of step 3 of R156: no RETRIEVE job, and hold set answers SET. -/
def recheck (r : Auction) (v : Valued) (s : State) : Bool × State :=
  if hasRetrieve v.index s then (false, s) else holdSet v.index r.units s

/-- A bin stands: the record BIDs with it (R156). Off-bus, the BID is returned ABORTED at once (R9). -/
def standBid (tag : Nat) (v : Valued) (s : State) : State :=
  let s := onAuction tag (fun r => { r with candidate := some v.index, own := some v.value, phase := .bidding }) s
  if s.bus.offBus then bidAborted tag s else queueFrame (.bid tag v.value) s

/-- No bin stands (R156). -/
def goQuiet (tag : Nat) (s : State) : State := onAuction tag (fun r => { r with phase := .quiet }) s

/-- Steps 1 to 5 of R156 over the ranked bins. -/
def chooseBid (r : Auction) (ranked : List Valued) (s : State) : State :=
  let tag := r.roomTag
  match ranked with
  | [] => goQuiet tag s
  | v :: rest =>
    if r.voidMark || r.closed || !beatsSeen r v s then goQuiet tag s
    else
      let a := recheck r v s
      if a.1 then standBid tag v a.2
      else match rest with
        | [] => goQuiet tag a.2
        | w :: _ =>
          if beatsSeen r w a.2 then
            let b := recheck r w a.2
            if b.1 then standBid tag w b.2 else goQuiet tag b.2
          else goQuiet tag a.2

/-! ### The fill call (R163) -/

/-- The cases in which the fill call fails at once (R163). -/
def fillFailsAtOnce (i : Nat) (s : State) : Bool :=
  decide (s.ctl.station = .shutdown) || decide (s.ctl.station = .recovery) || decide (s.crane.state = .faulted)
    || decide (s.crane.state = .stopped) || decide ((binAt i s).state = .lost) || decide ((binAt i s).hold = 0)

/-- The fill call of a won auction (R163): WON, then the RETRIEVE offered, or FILL-FAILED with hold clear. A job in
the pool is a wake cause in DOZE (R38). -/
def fillCall (tag port i bid : Nat) (s : State) : State :=
  let s := raise (.won tag i bid) s
  if fillFailsAtOnce i s then failFill tag i s
  else
    let r := offerJob (retrieveJob (ownBin i s) tag port .fill 1) s
    match r.1 with
    | .entered => dispatch (wakeCause r.2)
    | .followOn .appended => r.2
    | _ => failFill tag i r.2

end Sys2Proof.Machine
end

