-- ==== Sys2Proof/Machine/Outcomes.lean ====
section
/-! DEFINITION. What an own frame's outcome does at the block that queued it, and the entry to off-bus (R4, R9 to R11,
R17, R20, R43, R119, R120, R158, R160, R164, R171). -/

namespace Sys2Proof.Machine

open Sys2Proof

/-- The outcomes that are returned to a block (R11). -/
inductive TxOutcome where
  | taken | held | none | sent | aborted
deriving DecidableEq, Repr

/-- The outcome the sender reads from the slot; absent where the frame is void (R4). -/
def outcomeOf (addressed : Bool) (b : AnswerBits) : Option TxOutcome :=
  if b.voidMark then Option.none
  else if b.answerMark then (if b.answerKind then some .taken else some .held)
  else if addressed then some .none
  else some .sent

/-- The outcome of a PASS at the lane's head (R119). A head that becomes IDLE takes the decision of R123 afresh if it is
ready: its divert target may have become free while the PASS was on the bus. -/
def passOutcome (l : Lane) (d : Nat) (c : Carry) (o : TxOutcome) (s : State) : State :=
  let s := if o = .none then stationSilent d s else s
  if (s.seg l).head = .offering then
    match o with
    | .taken => acceptedHead l c s
    | .held => s.onSeg l fun g => { g with head := .deferred, retry := some Config.offerRetryMs }
    | .none => actHead l (setHead l .idle s)
    | .aborted => actHead l (setHead l .idle s)
    | .sent => s
  else s

/-- An outcome returned to the block that queued the frame. -/
def deliverOutcome (f : Frame) (o : TxOutcome) (s : State) : State :=
  match f with
  | .fire _ => if o = .sent then voidAuctions s else s
  | .pass l d c => passOutcome l d c o s
  | .space _ d => if o = .none then stationSilent d s else s
  | .landed _ d _ => if o = .none then stationSilent d s else s
  | .jam .. => s
  | .bid tag _ =>
    match o with
    | .sent => bidSent tag s
    | .aborted => bidAborted tag s
    | _ => s
  | .join _ => s
  | .reply r =>
    let s := if o = .none then stationSilent r.dest s else s
    if o = .taken then s.onCtl fun c => { c with pendingSet := c.pendingSet &&& ~~~r.clears } else s
  | .notice n => if o = .taken ∨ o = .sent then s else setPendingKind n.code s

/-- A frame leaves its slot with its outcome: the slot frees and is granted, and the outcome is returned (R11;
assumption log 33). -/
def frameReturned (id : SlotId) (f : Frame) (o : TxOutcome) (s : State) : State := deliverOutcome f o (freeSlotThen id s)

/-! ### Off-bus (R9) -/

/-- What becomes of a slot at the entry: a started frame stays. -/
def Slot.atOffBus : Slot → Slot
  | .holds q => if q.started then .holds q else .free
  | _ => .free

/-- The frames a slot returns at the entry. -/
def Slot.returnedFrames : Slot → List Frame
  | .holds q => if q.started then [] else [q.frame]
  | _ => []

/-- Every frame that is returned ABORTED at the entry: slots 0 to 3, then the pending frames with a waiting claim, the
notices last (R9). -/
def framesReturned (s : State) : List Frame :=
  s.bus.slots.s0.returnedFrames ++ s.bus.slots.s1.returnedFrames ++ s.bus.slots.s2.returnedFrames
    ++ s.bus.slots.s3.returnedFrames ++ s.bus.claims.map Claim.frame
    ++ s.ctl.notices.map fun w => Frame.notice w.notice

/-- An auction record at the entry (R164). -/
def auctionOffBus (s : State) (tag : Nat) : State :=
  match auctionOf tag s with
  | none => s
  | some r =>
    match r.phase with
    | .scanning => onAuction tag (fun r => { r with phase := .lost }) s
    | .bidding =>
      let s := onAuction tag (fun r => { r with phase := .lost }) s
      match r.candidate with
      | some i => (holdClear i s).2
      | none => s
    | _ => s

/-- The claims of the outbound stand and of SERVICE stop being tried (R128, R145; assumption log 21). -/
def dropLocalClaims (s : State) : State :=
  let s := match s.lanes.outStand with
    | .holding c _ => s.setOutStand (.holding c none)
    | _ => s
  let s := match s.port.service with
    | .released c _ => s.setService (.released c none)
    | _ => s
  settleMerge .backLane (settleMerge .outLane s)

/-- Entry to off-bus (R9, R164). -/
def enterOffBus (s : State) : State :=
  let gone := framesReturned s
  let s := s.onRecord fun r => { r with offBusEvent := true }
  let s := s.onBus fun b => { b with
    offBus := true, rx := [], claims := [], firePending := none,
    slots := { s0 := b.slots.s0.atOffBus, s1 := b.slots.s1.atOffBus, s2 := b.slots.s2.atOffBus,
               s3 := b.slots.s3.atOffBus } }
  let s := s.onCtl fun c => { c with notices := [] }
  let s := (s.auctions.records.map Auction.roomTag).foldl auctionOffBus (dropLocalClaims s)
  gone.foldl (fun t f => deliverOutcome f .aborted t) s

/-- One more failure; at 16 the station goes off-bus (R8, R9). -/
def countFailure (s : State) : State :=
  let s := s.onBus fun b => { b with failures := saturate Config.offBusCount (b.failures + 1) }
  if s.bus.failures = Config.offBusCount ∧ !s.bus.offBus then enterOffBus s else s

end Sys2Proof.Machine
end

