-- ==== Sys2Proof/Machine/BusEvents.lean ====
section
/-! DEFINITION. The events of the bus at this station: its own frames' starts, losses, errors and outcomes, the void
mark, and the ORDER frames that go to the receive queue (R1 to R4, R7, R8, R10, R11, R15). -/

namespace Sys2Proof.Machine

open Sys2Proof

/-- A queued frame as START_POINT ranks it: the lowest word, then the one queued earlier (R7). -/
structure RankedFrame where
  word : Nat
  order : Nat
  slot : SlotId
deriving DecidableEq, Repr

def RankedFrame.before (a b : RankedFrame) : Bool :=
  decide (a.word < b.word) || (decide (a.word = b.word) && decide (a.order < b.order))

def bestFrame : List RankedFrame → Option RankedFrame
  | [] => none
  | a :: t => match bestFrame t with
    | none => some a
    | some b => if b.before a then some b else some a

/-- The queued frames of the four slots. -/
def rankedFrames (s : State) : List RankedFrame :=
  slotIds.filterMap fun id => (s.bus.slots.get id).queued?.map fun q =>
    { word := q.frame.word s.num, order := q.order, slot := id }

/-- Start the frame of a slot (R1). -/
def startFrame (id : SlotId) (s : State) : State :=
  match s.bus.slots.get id with
  | .holds q =>
    (setSlot id (.holds { q with started := true }) s).onBus fun b => { b with tx := some (q.frame.image s.num) }
  | _ => s

/-- START_POINT: the queued frame with the lowest word begins (R1, R7). None begins off-bus, in STRAP-FAULT, or
while an own frame is started. -/
def execStartPoint (s : State) : Host.Outcome State Fault Refusal :=
  .next (unlessStrapFault (fun s =>
    if s.bus.offBus ∨ s.bus.slots.started.isSome then s
    else match bestFrame (rankedFrames s) with
      | none => s
      | some r => startFrame r.slot s) s)

/-- A slot other than `id` that holds a JOIN not yet started. -/
def freshJoinSlot (id : SlotId) (s : State) : Option SlotId :=
  slotIds.find? fun k => decide (k ≠ id) && match s.bus.slots.get k with
    | .holds q => isJoin q.frame && !q.started
    | _ => false

/-- The JOIN of slot `id` is again one that has not started. Where a fresh JOIN was queued or pending behind it, the two
become one: the JOIN of slot `id` is brought up to date, its date kept, and the fresh one is withdrawn (R31; assumption
logs 57 and 82). -/
def mergeJoins (id : SlotId) (q : Queued) (s : State) : State :=
  let upToDate := setSlot id (.holds { q with frame := .join (joinBody s), started := false, errored := false })
  if s.bus.claims.any fun c => isJoin c.frame then
    upToDate (s.onBus fun b => { b with claims := b.claims.filter fun c => !isJoin c.frame })
  else match freshJoinSlot id s with
    | some k => freeSlotThen k (upToDate s)
    | none => s

/-- The started frame stays queued and unstarted (R7, R8); of two JOINs that have not started one goes (R31). -/
def unstart (id : SlotId) (q : Queued) (s : State) : State :=
  let s := setSlot id (.holds { q with started := false, errored := false }) s
  if isJoin q.frame then mergeJoins id q s else s

/-- The station stops driving. -/
def stopDriving (s : State) : State := s.onBus fun b => { b with tx := none }

/-- ARBITRATION_LOST: the frame stays queued and unstarted, unless an abort was waiting for the loss (R2, R7, R10). -/
def execArbitrationLost (s : State) : Host.Outcome State Fault Refusal :=
  .next (match s.bus.slots.started with
    | none => s
    | some id => match s.bus.slots.get id with
      | .holds q =>
        if q.errored then s
        else if q.abortAsked then frameReturned id q.frame .aborted (stopDriving s)
        else unstart id q (stopDriving s)
      | _ => s)

/-- TRANSMIT_ERROR: the station stops driving, and the attempt adds 1 to the failure count (R8; assumption log 8). -/
def execTransmitError (s : State) : Host.Outcome State Fault Refusal :=
  .next (match s.bus.slots.started with
    | none => s
    | some id => match s.bus.slots.get id with
      | .holds q =>
        if q.errored then s else countFailure (setSlot id (.holds { q with errored := true }) (stopDriving s))
      | _ => s)

/-- A frame that ends VOID (R8, R9, R10). -/
def endVoid (id : SlotId) (q : Queued) (s : State) : State :=
  let s := unstart id q s
  if q.abortAsked ∨ s.bus.offBus then
    let s := frameReturned id q.frame .aborted s
    if q.errored then s else countFailure s
  else if q.errored then s
  else countFailure s

/-- A frame that ends with an outcome (R8, R11). -/
def endWith (id : SlotId) (q : Queued) (o : TxOutcome) (s : State) : State :=
  frameReturned id q.frame o (s.onBus fun b => { b with failures := 0 })

/-- FRAME_OUTCOME: the started frame takes the outcome read in its answer slot; a frame stopped by a transmit error
ends VOID (R4, R8, R11). -/
def execFrameOutcome (bits : AnswerBits) (s : State) : Host.Outcome State Fault Refusal :=
  .next (match s.bus.slots.started with
    | none => s
    | some id => match s.bus.slots.get id with
      | .holds q =>
        let s := stopDriving s
        if q.errored then endVoid id q s
        else match outcomeOf (decide (q.frame.dest ≠ 0)) bits with
          | none => endVoid id q s
          | some o => endWith id q o s
      | _ => s)

/-- VOID_MARK: a received frame that somebody voids is discarded; this station drives the void mark when its own
judgement finds a fault (R3, R9; assumption log 10). -/
def execVoidMark (frame : RawFrame) (s : State) : Host.Outcome State Fault Refusal :=
  .next (unlessStrapFault (answerWith (if judgedVoid frame && !s.bus.offBus then driveVoid else silent)) s)

/-- An ORDER taken for delivery is stored, answered HELD, or dropped and counted (R15). -/
def storeOrder (k : OrderKind) (f : RxFrame) (s : State) : State :=
  if s.bus.rx.length < 8 then
    let wasEmpty := s.bus.rx.isEmpty
    let s := s.onBus fun b => { b with
      rx := b.rx ++ [{ sender := f.sender, addressed := decide (f.dest.toNat ≠ 0), kind := k, param := f.param,
                       payload := f.payload }] }
    if wasEmpty then wishTake s else s
  else if f.dest.toNat = 0 then countDropped s
  else answerWith driveHeld s

/-- ORDER_FRAME (R12, R13, R15). -/
def execOrderFrame (kind : OrderKind) (frame : RxFrame) (s : State) : Host.Outcome State Fault Refusal :=
  .next (receive (orderRow kind) false (fun _ => true) (storeOrder kind) frame s)

end Sys2Proof.Machine
end

