-- ==== Sys2Proof/Machine/FrameCommands.lean ====
section
/-! DEFINITION. The frames that go straight to their owner blocks: FLOW, BID, ROOM, FIRE, CLEAR and JOIN (R14). Each
command is a frame of its kind received; `receive` judges it, accepts it and answers it. -/

namespace Sys2Proof.Machine

open Sys2Proof

/-! ### FLOW (R118 to R120, R61) -/

/-- A PASS decided TAKEN: a through reservation, the handoff limit, the merge counter (R118). -/
def takePass (l : Lane) (c : Carry) (s : State) : State :=
  let limit := s.ctl.setup.handoffLimit
  raiseMerge l (s.onSeg l fun g => { g with reservation := some (.through .neighbour c), tailLimit := some limit })

/-- A PASS decided HELD: the count, the deferred-upstream flag where the lane test held, and in DOZE the wake cause
(R38, R118). -/
def holdPass (l : Lane) (fromUpstream : Bool) (s : State) : State :=
  let s := countDeferred (answerWith driveHeld s)
  wakeCause (if fromUpstream then s.onSeg l fun g => { g with deferredUp := true } else s)

/-- A PASS delivered (R118). -/
def decidePass (f : RxFrame) (s : State) : State :=
  let l := laneOf (byteAt f.payload 5)
  let fromUpstream := decide (s.upstream l = some f.sender.toNat)
  if fromUpstream && takesThrough l s then takePass l (passCarry f.payload) s else holdPass l fromUpstream s

/-- PASS (R118). -/
def execPass (frame : RxFrame) (s : State) : Host.Outcome State Fault Refusal :=
  .next (receive DirectKind.pass.row false isStation decidePass frame s)

/-- A SPACE delivered: a DEFERRED head whose downstream neighbour sent it acts afresh (R119). -/
def takeSpace (f : RxFrame) (s : State) : State :=
  let l := laneOf (byteAt f.payload 0)
  if s.downstream l = some f.sender.toNat ∧ (s.seg l).head = .deferred then actHead l (stopRetry l s) else s

/-- SPACE (R119). -/
def execSpace (frame : RxFrame) (s : State) : Host.Outcome State Fault Refusal :=
  .next (receive DirectKind.space.row false isStation takeSpace frame s)

/-- A LANDED delivered: honoured from the downstream neighbour for the MOVING head record it names (R120). The
tail opens before the next head record is decided: the model's choice (assumption log 77). A crossing handoff may have
ended with it (R187). -/
def takeLanded (f : RxFrame) (s : State) : State :=
  let l := laneOf (byteAt f.payload 2)
  if s.downstream l = some f.sender.toNat ∧ (s.seg l).head = .moving
      ∧ (headCarry l s).map Carry.bin = some (wordAt f.payload 0) then
    shutterTakeUp (actIdleHead l (openTail l (removeHead l s)))
  else s

/-- LANDED (R120). -/
def execLanded (frame : RxFrame) (s : State) : Host.Outcome State Fault Refusal :=
  .next (receive DirectKind.landed.row false isStation takeLanded frame s)

/-- JAM (R61). -/
def execJam (frame : RxFrame) (s : State) : Host.Outcome State Fault Refusal :=
  .next (receive DirectKind.jam.row false isStation (fun f s => markLostByJam (wordAt f.payload 0) s) frame s)

/-! ### BID and ROOM (R152, R157, R159) -/

/-- A BID delivered: the lowest seen, and the abort of a beaten own BID (R157, R159). -/
def takeBid (f : RxFrame) (s : State) : State :=
  let tag := wordAt f.payload 0
  let p : BidPair := { value := f.param.toNat, station := f.sender.toNat }
  match auctionOf tag s with
  | none => s
  | some r =>
    let s := onAuction tag (seeBid p) s
    match r.own with
    | some v => if bidOut r && p.before { value := v, station := s.num } then abortBid tag s else s
    | none => s

/-- BID (R157, R159). An off-bus station still receives it (R9). -/
def execBid (frame : RxFrame) (s : State) : Host.Outcome State Fault Refusal :=
  .next (receive DirectKind.bid.row true isStation takeBid frame s)

/-- The conditions to join an auction (R152). -/
def joinsAuction (tag units port : Nat) (s : State) : Bool :=
  decide (1 ≤ tag) && decide (tag ≤ 4095) && decide (1 ≤ units) && decide (units ≤ 15) && isStation port
    && (rosterOf port s).port && (decide (s.ctl.station = .active) || decide (s.ctl.station = .doze))
    && s.ctl.setup.takesReturns && decide (s.fire.view = 0#8) && (auctionOf tag s).isNone
    && decide (s.auctions.records.length < 4)

/-- Join an auction: a record is taken, SCANNING, its window begins and the scan with it (R152 to R155). How far its
reads have gone by now is the free value of assumption log 6. The window start is kept in tenths of a second: the
model's choice (assumption log 64). -/
def joinAuction (tag units port : Nat) (s : State) : State :=
  let hi := Config.scanReadAtJoin s.auctions.scans
  let noted := scanRange units 0 hi s
  let r : Auction :=
    { roomTag := tag, units := units, port := port, start := s.est.time, phase := .scanning, candidate := none, own := none,
      lowest := none, voidMark := false, nextRead := hi, noted := noted, bidReturned := false,
      closeLimit := some (s.ctl.setup.bidWindow - Config.bidGuardMs), windowLimit := s.ctl.setup.bidWindow }
  s.onAuctions fun u => { records := u.records ++ [r], scans := u.scans + 1 }

/-- A ROOM delivered (R152). -/
def takeRoom (f : RxFrame) (s : State) : State :=
  let tag := wordAt f.payload 0
  let units := byteAt f.payload 2
  let port := byteAt f.payload 3
  if joinsAuction tag units port s then joinAuction tag units port s else s

/-- ROOM (R152). -/
def execRoom (frame : RxFrame) (s : State) : Host.Outcome State Fault Refusal :=
  .next (receive DirectKind.room.row false (fun n => decide (n = Config.gateway)) takeRoom frame s)

/-! ### FIRE and CLEAR (R169, R170) -/

/-- The mask of a FIRE or a CLEAR (R25). -/
def maskOf (f : RxFrame) : BitVec 8 := f.payload.getD 0 0#8

/-- FIRE: the view grows, its readers are told, and the auctions are marked void (R160, R169; assumption log 11). An
off-bus station still receives it (R9). -/
def execFire (frame : RxFrame) (s : State) : Host.Outcome State Fault Refusal :=
  .next (receive DirectKind.fire.row true (fun _ => true)
    (fun f s => voidAuctions (setView (s.fire.view ||| maskOf f) s)) frame s)

/-- A CLEAR delivered: the view shrinks, but for the own compartment while the fire line is asserted, for which a FIRE
is queued at once and the repeat restarts (R169, R170). -/
def takeClear (f : RxFrame) (s : State) : State :=
  let mask := maskOf f
  if s.pins.fireLine && mask.getLsbD s.compartment then
    let s := queueFire s.ownMask (setView (s.fire.view &&& (~~~mask ||| s.ownMask)) s)
    s.onFire fun u => { u with repeatTimer := some Config.fireRepeatMs }
  else setView (s.fire.view &&& ~~~mask) s

/-- CLEAR (R169, R170), honoured from the fire panel node (R13). -/
def execClear (frame : RxFrame) (s : State) : Host.Outcome State Fault Refusal :=
  .next (receive DirectKind.clear.row true (fun n => decide (n = Config.panel)) takeClear frame s)

/-! ### JOIN (R41, R42, R44, R171) -/

/-- A JOIN whose T is the own: the entry, and for the station below a shutter owner's wall its compartment (R41,
R185). -/
def joinRoster (n comp : Nat) (port : Bool) (t : StationState) (s : State) : State :=
  let s := setRoster n { present := true, compartment := comp, port := port, announced := t } s
  if s.fire.shutter.isSome && decide (n + 1 = s.num) then s.onFire fun f => { f with below := some comp } else s

/-- A JOIN whose T differs (R44). -/
def joinMismatch (n : Nat) (s : State) : State :=
  let s := setRoster n { rosterOf n s with present := false } s
  raise (.state s.ctl.station.code n) (s.onRecord fun r => { r with ringMismatch := true })

/-- A joined station answers a station that is joining: its own JOIN, and the whole view as a FIRE (R42, R171). -/
def answerJoining (t : StationState) (s : State) : State :=
  if decide (t = .joining) && s.ctl.station.joined then
    let s := announce s
    if s.fire.view = 0#8 then s else queueFire s.fire.view s
  else s

/-- The heads that wait for this neighbour act afresh once it can be offered a bin (R117). -/
def headsFor (n : Nat) (s : State) : State :=
  let act := fun l (s : State) => if s.downstream l = some n ∧ mayOffer n s then actIdleHead l s else s
  act .backLane (act .outLane s)

/-- A JOIN delivered (R41, R42, R44). The STATE notice of a JOIN with another T is queued before the JOIN that answers
it: the model's choice (assumption log 66). -/
def takeJoin (f : RxFrame) (s : State) : State :=
  let n := f.sender.toNat
  let comp := byteAt f.payload 2
  if byteAt f.payload 0 = n ∧ comp ≤ 7 then
    match stationStateOf (byteAt f.payload 4) with
    | none => s
    | some t =>
      if byteAt f.payload 1 = s.top then
        headsFor n (shutterTakeUp (answerJoining t (joinRoster n comp (byteAt f.payload 3 % 2 = 1) t s)))
      else answerJoining t (joinMismatch n s)
  else s

/-- JOIN (R41, R42, R44). An off-bus station still receives it (R9). -/
def execJoin (frame : RxFrame) (s : State) : Host.Outcome State Fault Refusal :=
  .next (receive DirectKind.join.row true isStation takeJoin frame s)

end Sys2Proof.Machine
end

