-- ==== Sys2Proof/Machine/OrderOps.lean ====
section
/-! DEFINITION. Taking an order: the answer and its REPLY, the state tables of R35 and R178, the take itself (R16), and
what several orders share: the record an order reports, where a tag is held, the release, the place an IDENTIFY
names. -/

namespace Sys2Proof.Machine

open Sys2Proof

/-! ### Answers -/

/-- What an owner returns for an order: the REPLY less its destination and order kind (R17, R18). -/
structure Answer where
  code : ResultCode
  clampMark : Bool
  ref : Nat
  d0 : Nat
  d1 : Nat
  d2 : Nat
  d3 : Nat
  clears : BitVec 16
deriving DecidableEq, Repr

/-- An answer with no detail. -/
def Answer.plain (code : ResultCode) (ref : Nat) : Answer :=
  { code := code, clampMark := false, ref := ref, d0 := 0, d1 := 0, d2 := 0, d3 := 0, clears := 0#16 }

/-- The REPLY to a record's sender (R17). -/
def Answer.toReply (a : Answer) (r : RxRecord) : Reply :=
  { dest := r.sender.toNat, kind := r.kind, clampMark := a.clampMark, ref := a.ref, code := a.code, d0 := a.d0, d1 := a.d1,
    d2 := a.d2, d3 := a.d3, clears := a.clears }

/-- The two bytes of a 16-bit detail. -/
def hiNat (n : Nat) : Nat := n / 256
def loNat (n : Nat) : Nat := n % 256

/-! ### Admission by station state (R35, R178) -/

/-- The orders that R35 sends to an owner that is not Station Control, but for RESTART, whose refusal in JOINING R180
gives with its detail. -/
def ownerOrder : OrderKind → Bool
  | .call => true
  | .cancel => true
  | .release => true
  | .halt => true
  | .resume => true
  | .enrol => true
  | .audit => true
  | .identify => true
  | _ => false

/-- The refusals of SHUTDOWN (R178). -/
def refusedInShutdown : OrderKind → Option ResultCode
  | .call => some .closed
  | .enrol => some .closed
  | .audit => some .closed
  | .halt => some .notReady
  | .resume => some .notReady
  | .restart => some .notReady
  | _ => none

/-- The refusals of RECOVERY (R178). -/
def refusedInRecovery : OrderKind → Option ResultCode
  | .halt => some .notReady
  | .resume => some .notReady
  | _ => none

/-- The state tables' refusal of an order that is not decoded (R35, R178). SETUP-A, SETUP-B, DOZE and WAKE are decided
by their own rules, and RESTART outside SHUTDOWN by R180. -/
def refusal (k : OrderKind) (t : StationState) : Option ResultCode :=
  match t with
  | .joining => if ownerOrder k then some .notReady else none
  | .shutdown => refusedInShutdown k
  | .recovery => refusedInRecovery k
  | _ => none

/-! ### The take (R16, R17) -/

/-- An order's meaning: its answer, and the state once the owner's handling has completed. -/
abbrev OrderBody := RxRecord → State → Answer × State

/-- The order as Station Control passes it on: UNSUPPORTED for a sender other than the gateway node (R13, R35), the
state tables' refusal, or its owner's answer. An order refused before it is decoded has no detail, in JOINING and for
another sender too: the model's choice (R178, R191, R194; assumption log 70). -/
def answerOrder (body : OrderBody) (r : RxRecord) (s : State) : Answer × State :=
  if r.sender.toNat ≠ Config.gateway then (Answer.plain .unsupported (orderReference r.kind r.payload), s)
  else match refusal r.kind s.ctl.station with
    | some c => (Answer.plain c (orderReference r.kind r.payload), s)
    | none => body r s

/-- The record's REPLY in its slot, queued at the moment `stamp`. -/
def putReply (id : SlotId) (r : RxRecord) (a : Answer) (stamp : Nat) (s : State) : State :=
  setSlot id (.holds (newQueued (.reply (a.toReply r)) stamp)) s

/-- The oldest record leaves the queue and its REPLY takes the granted slot, its content to follow; the next record is
the oldest from now (R6, R15, R16). -/
def beginTake (id : SlotId) (r : RxRecord) (rest : List RxRecord) (s : State) : State :=
  putReply id r (Answer.plain .done 0) s.bus.order (wishBegins (s.onBus fun b => { b with rx := rest }))

/-- Take the oldest record, which meets `p`, into its granted slot (R16). The REPLY holds the slot from the take and is
dated then, before every frame that the order's handling queues: R33 says so of SETUP-B, and for every other order it is
the model's choice (DESIGN CHOICE, assumption log 80). A JOIN queued before the take, which the handling only brings up
to date, keeps its own date (assumption log 82). A slot that is free at the take goes to the frames the order
queues before it goes to the next record's wish (assumption log 56). With no such record, or no slot granted for the
take, the command changes nothing (assumption log 2). -/
def serve (p : RxRecord → Bool) (body : OrderBody) (s : State) : State :=
  match s.bus.rx, s.bus.slots.grantedSlot with
  | r :: rest, some id =>
    if p r && decide (s.ctl.station ≠ .strapFault) then
      let a := answerOrder body r (beginTake id r rest s)
      wishGoesOn (putReply id r a.1 s.bus.order a.2)
    else s
  | _, _ => s

/-- The record is of a kind. -/
def isKind (k : OrderKind) (r : RxRecord) : Bool := decide (r.kind = k)

/-! ### What several orders report -/

/-- The record an order naming a bin reports: an own bin's record, and a blank one for every other ID. -/
def reported (bin : Nat) (s : State) : BinRec := if classify bin s = .own then binAt (indexOf bin) s else BinRec.blank

/-- The result code of a bin ID that is not an own bin (R47). -/
def classRefusal : BinClass → Option ResultCode
  | .invalid => some .unknownBin
  | .other => some .unsupported
  | .invalidHere => some .unknownBin
  | .own => none

/-- A tag that an order may name (R22, R84, R86). -/
def validTag (tag : Nat) : Bool := decide (1 ≤ tag) && decide (tag ≤ 4095)

/-- The first job of the pool with a tag (R22, R86). -/
def jobWith (tag : Nat) (s : State) : Option Job := s.crane.pool.find? fun j => decide (j.tag = tag) && decide (tag ≠ 0)

/-- Where a tag is held, as QUERY REQUEST's details report it (R22). -/
structure WhereFound where
  place : Nat
  info : Nat
  index : Nat
deriving DecidableEq, Repr

def whereFound (tag : Nat) (s : State) : WhereFound :=
  match jobWith tag s with
  | some j => { place := 1, info := j.state.code * 16 + j.stage.code, index := indexOf j.bin }
  | none => match tagSearch tag s with
    | some (.followOn i p) => { place := 2, info := p, index := i }
    | some (.current i) => { place := 3, info := 0, index := i }
    | none => { place := 0, info := 0, index := 0 }

/-- An answer whose details are those of QUERY REQUEST (R22, R86). -/
def Answer.foundAt (code : ResultCode) (tag : Nat) (w : WhereFound) : Answer :=
  { Answer.plain code tag with d0 := w.place, d1 := w.info, d2 := hiNat w.index, d3 := loNat w.index }

/-- A job has entered the pool: in DOZE a wake cause (R35, R38), and a dispatch event (R82). -/
def jobEntered (s : State) : State := dispatch (wakeCause s)

/-! ### The release (R140) -/

/-- The carry record after a release (R140). -/
def releasedCarry (delta : Int) (c : Carry) : Carry :=
  { bin := c.bin, dest := homeOf c.bin, kind := .home, tag := 0, purpose := .noPurpose, recirc := 0,
    delta := clampInt (-15) 15 (c.delta + delta), filled := c.filled || decide (c.purpose = .fill) }

/-- The bin PRESENTED at SERVICE. -/
def presented (s : State) : Option Carry :=
  match s.port.service with
  | .presented c => some c
  | _ => none

/-! ### The places an IDENTIFY names (R194) -/

/-- A place of the station. -/
inductive Place where
  | carriage
  | segment (l : Lane) (pos : Nat)
  | outStand
  | inStand
  | approach
  | service
deriving DecidableEq, Repr

/-- The place codes (R25). -/
def placeOf : Nat → Option Place
  | 0 => some .carriage
  | 1 => some (.segment .outLane 1)
  | 2 => some (.segment .outLane 2)
  | 3 => some (.segment .outLane 3)
  | 4 => some (.segment .backLane 1)
  | 5 => some (.segment .backLane 2)
  | 6 => some (.segment .backLane 3)
  | 7 => some .outStand
  | 8 => some .inStand
  | 9 => some .approach
  | 10 => some .service
  | _ => none

/-- The place belongs to the port. -/
def Place.atPort : Place → Bool
  | .approach => true
  | .service => true
  | _ => false

/-- A stray record stands at a segment place. -/
def strayAtPos (pos : Nat) (p : PlaceRec) : Bool := decide (p.pos = pos) && decide (p.content = .stray)

/-- The place holds a stray record (R194 test 3). -/
def holdsStray (p : Place) (s : State) : Bool :=
  match p with
  | .carriage => decide (s.crane.carriage = .stray)
  | .segment l pos => (s.seg l).places.any (strayAtPos pos)
  | .outStand => decide (s.lanes.outStand = .stray)
  | .inStand => decide (s.lanes.inStand = .stray)
  | .approach => decide (s.port.approach = .stray)
  | .service => decide (s.port.service = .stray)

/-- What the place's sensor reports; the carriage has none and is taken as reporting no bin (R196). -/
def sensorAt (p : Place) (s : State) : Bool :=
  match p with
  | .carriage => false
  | .segment l pos =>
    let g := s.pins.seg l
    if pos = 1 then g.head else if pos = 2 then g.middle else g.tail
  | .outStand => s.pins.outStand
  | .inStand => s.pins.inStand
  | .approach => s.pins.approach
  | .service => s.pins.service

/-- The lane whose JAMMED head the order names (R194 test 2). -/
def jammedLane (p : Place) (s : State) : Option Lane :=
  match p with
  | .segment l 1 => if (s.seg l).head = .jammed then some l else none
  | _ => none

/-- Replace the first stray record at a place. Of two at one place code it is the one nearer the head: the model's choice
(assumption log 74). -/
def nameStray (pos : Nat) (c : Carry) : List PlaceRec → List PlaceRec
  | [] => []
  | p :: t => if strayAtPos pos p then { p with content := .carrying c } :: t else p :: nameStray pos c t

/-- Remove the first stray record at a place, as `nameStray` takes it (assumption log 74). -/
def dropStray (pos : Nat) : List PlaceRec → List PlaceRec
  | [] => []
  | p :: t => if strayAtPos pos p then t else p :: dropStray pos t

/-- The carry record that an IDENTIFY makes (R195). -/
def namedCarry (bin : Nat) : Carry :=
  { bin := bin, dest := homeOf bin, kind := .home, tag := 0, purpose := .noPurpose, recirc := 0, delta := 0,
    filled := false }

/-- The own bin's record once its bin has been named: found, or for the inbound stand made OUT as at a home visit
(R195). -/
def nameOwn (p : Place) (bin : Nat) (s : State) : State :=
  if classify bin s = .own then
    let i := indexOf bin
    let r := binAt i s
    match r.state with
    | .lost => markFoundByIdentify i s
    | .absent =>
      if p = .inStand then
        raise (.unregistered bin BinState.absent.code) (putBin i { BinRec.blank with state := .out } s)
      else s
    | .stored =>
      if p = .inStand then raise (.unregistered bin BinState.stored.code) (putBin i { r with state := .out } s) else s
    | _ => s
  else s

/-- The place goes on with its new record (R150, R195). -/
def placeNamed (p : Place) (c : Carry) (s : State) : State :=
  match p with
  | .segment l pos => actIdleHead l (s.onSeg l fun g => { g with places := nameStray pos c g.places })
  | .outStand => holdOutStand c s
  | .inStand =>
    let s := askStore c.bin (s.setInStand (.holding c))
    dispatch (if s.crane.storeWanted then s else wakeCause s)
  | .approach => tryAdvance (s.setApproach (.holding c))
  | .service => releaseService c s
  | .carriage =>
    let s := askRestore c.bin (s.onCrane fun k => { k with carriage := .carrying c, load := .loaded })
    if s.crane.restoreWanted then s else jobEntered s

/-- The place's stray is cleared (R150, R196). At a segment place the tail opens before the head acts: the model's choice
(assumption log 77). -/
def placeCleared (p : Place) (s : State) : State :=
  match p with
  | .segment l pos => actIdleHead l (openTail l (s.onSeg l fun g => { g with places := dropStray pos g.places }))
  | .outStand => dispatch (s.setOutStand .empty)
  | .inStand => dispatch (emptyInStand s)
  | .approach => emptyApproach s
  | .service => tryAdvance (s.setService .empty)
  | .carriage => dispatch (s.onCrane fun k => { k with carriage := .nothing, load := .empty })

/-- The jam of a head is released, its record kept (R197). -/
def releaseJam (l : Lane) (s : State) : State := actIdleHead l (openTail l (setHead l .idle s))

/-- JAM for the head record of a jammed head (R197). -/
def jamOldHead (l : Lane) (s : State) : State :=
  match headCarry l s with
  | some c => broadcastJam l c.bin s
  | none => s

/-- Tests 5 to 8 of R194. -/
def namingRefusal (p : Place) (bin : Nat) (s : State) : Option ResultCode :=
  match classify bin s with
  | .invalid => some .unknownBin
  | .invalidHere => some .unknownBin
  | c =>
    if bin ∈ heldBins s then some .conflict
    else if p = .inStand ∧ c = .other then some .conflict
    else if c = .own ∧ ((binAt (indexOf bin) s).state = .lifting ∨ (binAt (indexOf bin) s).state = .storing) then
      some .conflict
    else none

/-- The answer to an IDENTIFY: the place, the effect, and an own bin's state as it now stands (R194). -/
def Answer.identify (code : ResultCode) (place effect bin : Nat) (s : State) : Answer :=
  { Answer.plain code bin with
    d0 := place, d1 := effect, d2 := if classify bin s = .own then (binAt (indexOf bin) s).state.code else 0 }

end Sys2Proof.Machine
end

