-- ==== Sys2Proof/Machine/Orders.lean ====
section
/-! DEFINITION. The orders: one command for each row, which takes the oldest record of the receive queue when it is of
that row (R16), and one owner's answer for each. -/

namespace Sys2Proof.Machine

open Sys2Proof

/-! ### CALL (R84, R85) -/

/-- The answer to a CALL, with the record as it stands after the order and the pool's count (R84). -/
def callAnswer (code : ResultCode) (clampMark : Bool) (bin tag position : Nat) (s : State) : Answer :=
  { Answer.plain code tag with
    clampMark := clampMark, d0 := (reported bin s).state.code, d1 := position, d2 := s.crane.pool.length }

/-- The first test of R84 that fails. -/
def callRefusal (bin tag port purpose : Nat) (s : State) : Option ResultCode :=
  if !validTag tag || !(decide (purpose = 1) || decide (purpose = 3)) || !isStation port then some .badField
  else match classRefusal (classify bin s) with
    | some c => some c
    | none => if (rosterOf port s).port then none else some .unsupported

/-- The follow-on rows of R85. -/
def callAppend (bin tag port : Nat) (purpose : Purpose) (urgency : Nat) (mark : Bool) (s : State) : Answer × State :=
  let a := followOnAppend (indexOf bin) { tag := tag, port := port, purpose := purpose, urgency := urgency }
    ((retrieveFor bin s).map Job.port) s
  match a.1 with
  | .appended => (callAnswer .followOn mark bin tag (binAt (indexOf bin) a.2).followOns.length a.2, a.2)
  | .merged => (callAnswer .merged mark bin tag 0 a.2, a.2)
  | .full => (callAnswer .full mark bin tag 0 a.2, a.2)
  | .refused => (callAnswer .missing mark bin tag 0 a.2, a.2)

/-- A CALL that passes R84, by the bin's record (R85). A call that makes a RETRIEVE is not tested against the follow-on
list, which its port may stand in (R51; assumption log 67). -/
def callDecide (bin tag port : Nat) (purpose : Purpose) (urgency : Nat) (mark : Bool) (s : State) : Answer × State :=
  let state := (binAt (indexOf bin) s).state
  if state = .absent then (callAnswer .unknownBin mark bin tag 0 s, s)
  else if state = .lost then (callAnswer .missing mark bin tag 0 s, s)
  else if (state = .stored ∨ state = .storing) ∧ (retrieveFor bin s).isNone then
    let a := offerJob (retrieveJob bin tag port purpose urgency) s
    match a.1 with
    | .entered => (callAnswer .accepted mark bin tag 0 a.2, jobEntered a.2)
    | _ => (callAnswer .full mark bin tag 0 a.2, a.2)
  else callAppend bin tag port purpose urgency mark s

def callBody : OrderBody := fun r s =>
  let bin := wordAt r.payload 0
  let tag := wordAt r.payload 2
  let port := byteAt r.payload 4
  let purpose := byteAt r.payload 5
  match callRefusal bin tag port purpose s with
  | some c => (callAnswer c false bin tag 0 s, s)
  | none => callDecide bin tag port (purposeOf purpose) (min 3 r.param.toNat) (decide (3 < r.param.toNat)) s

/-- CALL (R84, R85). -/
def execCall (s : State) : Host.Outcome State Fault Refusal := .next (serve (isKind .call) callBody s)

/-! ### CANCEL (R86, R87, R88) -/

/-- Remove the first job of the pool with a tag. -/
def removeFirst (tag : Nat) : List Job → List Job
  | [] => []
  | j :: t => if j.tag = tag then t else j :: removeFirst tag t

/-- A cancelled FILL call asks hold clear, with no notice (R86). -/
def cancelHold (purpose : Purpose) (i : Nat) (s : State) : State := if purpose = .fill then (holdClear i s).2 else s

/-- A RETRIEVE that has not lifted its bin is removed, and its reservation released where it held one (R87). The record
keeps its follow-on entries, with no job behind them then (R49): the model's choice (DESIGN CHOICE, assumption log 83). -/
def cancelRemove (j : Job) (s : State) : State :=
  let s := s.onCrane fun k => { k with pool := removeFirst j.tag k.pool }
  let s := if j.state = .waiting then s else releaseStand s
  recordFreed (cancelHold j.purpose (indexOf j.bin) s)

/-- A lifted RETRIEVE becomes a RESTORE to the rack (R87). -/
def cancelConvert (j : Job) (s : State) : State := convertCurrent j (cancelHold j.purpose (indexOf j.bin) s)

/-- A MOVE is in flight. -/
def moveInFlight (s : State) : Bool :=
  match s.crane.inFlight with
  | some (.move _) => true
  | _ => false

/-- A MOVE in flight is stopped (R88); a STOP already in flight serves. -/
def stopMove (s : State) : State := if moveInFlight s then sendStop s else s

/-- A cancel that finds a job (R87, R88). -/
def cancelJob (j : Job) (s : State) : ResultCode × State :=
  if j.state = .waiting then (.cancelled, dispatch (cancelRemove j s))
  else if unlifted j then (.cancelled, dispatch (cancelRemove j (stopMove s)))
  else if j.stage = .forkPlace ∧ j.sent then (.tooLate, s)
  else (.cancelled, dispatch (cancelConvert j (if j.state = .active then stopMove s else s)))

/-- A cancel that finds a follow-on entry of this purpose asks follow-on remove, and for a FILL hold clear at the index
that the result returns (R66, R86, R87). -/
def cancelEntry (tag : Nat) (purpose : Purpose) (s : State) : ResultCode × State :=
  let a := followOnRemove tag s
  match a.1 with
  | .removed i => (.cancelled, cancelHold purpose i a.2)
  | .notHeld => (.conflict, a.2)

/-- A cancel that finds a tag in the Bin Table, or nowhere (R86, R87). -/
def cancelRecord (tag : Nat) (s : State) : ResultCode × State :=
  match tagSearch tag s with
  | some (.followOn i _) =>
    let e := entryWith tag (binAt i s).followOns
    cancelEntry tag ((e.map FollowOn.purpose).getD .noPurpose) s
  | some (.current i) =>
    match (binAt i s).state with
    | .out => (.tooLate, s)
    | .storing => (.tooLate, s)
    | .lost => (.missing, s)
    | _ => (.conflict, s)
  | none => (.conflict, s)

def cancelBody : OrderBody := fun r s =>
  let tag := wordAt r.payload 0
  if validTag tag then
    let a := match jobWith tag s with
      | some j => cancelJob j s
      | none => cancelRecord tag s
    (Answer.foundAt a.1 tag (whereFound tag s), a.2)
  else (Answer.plain .badField tag, s)

/-- CANCEL (R86, R87, R88). -/
def execCancel (s : State) : Host.Outcome State Fault Refusal := .next (serve (isKind .cancel) cancelBody s)

/-! ### RELEASE (R139, R140) -/

/-- The delta of a RELEASE is clamped (R139). -/
def releaseClamped (raw : Int) : Bool := decide (raw < -15) || decide (15 < raw)

/-- The answer to a RELEASE that released nothing (R139). -/
def releaseMissed (code : ResultCode) (mark : Bool) (bin : Nat) (s : State) : Answer :=
  { Answer.plain code bin with
    clampMark := mark, d3 := if s.ctl.straps.port then s.port.service.code else 0 }

/-- The answer to a RELEASE carried out: SERVICE is RELEASED (R139; assumption log 46). -/
def releaseDone (mark : Bool) (c : Carry) (delta : Int) : Answer :=
  let out := releasedCarry delta c
  { Answer.plain (if mark then .clamped else .done) c.bin with
    clampMark := mark, d0 := hiNat c.tag, d1 := loNat c.tag, d2 := (signedByte out.delta).toNat,
    d3 := (Service.released out none).code }

def releaseBody : OrderBody := fun r s =>
  let bin := wordAt r.payload 0
  let raw := signedAt r.payload 2
  let delta := clampInt (-15) 15 raw
  if !s.ctl.straps.port then (releaseMissed .unsupported false bin s, s)
  else match presented s with
    | some c =>
      if c.bin = bin then (releaseDone (releaseClamped raw) c delta, releaseService (releasedCarry delta c) s)
      else (releaseMissed .unknownBin (releaseClamped raw) bin s, s)
    | none => (releaseMissed .unknownBin (releaseClamped raw) bin s, s)

/-- RELEASE (R139, R140). -/
def execRelease (s : State) : Host.Outcome State Fault Refusal := .next (serve (isKind .release) releaseBody s)

/-! ### HALT and RESUME (R89, R90, R91) -/

/-- The doze park's MOVE, or the SLEEP, is in flight (R37, R89). -/
def dozePark (s : State) : Bool :=
  decide (s.crane.inFlight = some .sleep) || (moveInFlight s && (currentJob s).isNone)

/-- HALT by the crane state (R89, R91). -/
def haltCrane (s : State) : ResultCode × State :=
  match s.crane.state with
  | .idle => (.done, s.onCrane fun k => { k with state := .halted })
  | .running =>
    if dozePark s then (.busy, s) else (.done, (stopMove s).onCrane fun k => { k with state := .halting })
  | .halting => (.done, s)
  | .halted => (.done, s)
  | _ => (.busy, s)

def haltBody : OrderBody := fun _ s =>
  let a := haltCrane s
  (Answer.plain a.1 0, a.2)

/-- HALT (R89, R91). -/
def execHalt (s : State) : Host.Outcome State Fault Refusal := .next (serve (isKind .halt) haltBody s)

/-- A halted crane goes on (R90). -/
def resumeHalted (s : State) : State :=
  match currentJob s with
  | none => dispatch (s.onCrane fun k => { k with state := .idle })
  | some _ =>
    dispatch (beginStage ((onCurrent (fun j => { j with state := .active }) s).onCrane fun k => { k with state := .running }))

/-- RESUME by the crane state (R90). -/
def resumeCrane (s : State) : ResultCode × State :=
  match s.crane.state with
  | .halted => (.done, resumeHalted s)
  | .halting => (.done, s.onCrane fun k => { k with state := .running })
  | _ => (.conflict, s)

def resumeBody : OrderBody := fun _ s =>
  let a := resumeCrane s
  (Answer.plain a.1 0, a.2)

/-- RESUME (R90). -/
def execResume (s : State) : Host.Outcome State Fault Refusal := .next (serve (isKind .resume) resumeBody s)

/-! ### DOZE and WAKE (R37, R38) -/

/-- A segment counts as empty for the DOZE order (R128). -/
def segmentEmpty (g : Segment) : Bool := g.places.isEmpty && g.reservation.isNone && decide (g.head = .idle)

/-- No sensor of the segments, the stands and the port reports a bin (R37; assumption log 42). -/
def sensorsEmpty (s : State) : Bool :=
  let clearSeg := fun (g : SegSensors) => !g.head && !g.middle && !g.tail
  clearSeg s.pins.outSeg && clearSeg s.pins.backSeg && !s.pins.outStand && !s.pins.inStand
    && (!s.ctl.straps.port || (!s.pins.approach && !s.pins.service))

/-- The conditions of a DOZE order in ACTIVE (R37; a stray carriage keeps the station awake, R193). -/
def mayDoze (s : State) : Bool :=
  s.crane.pool.isEmpty && decide (s.crane.state = .idle) && segmentEmpty s.lanes.outSeg && segmentEmpty s.lanes.backSeg
    && decide (s.lanes.outStand = .empty) && decide (s.lanes.inStand = .empty) && decide (s.port.approach = .empty)
    && decide (s.port.service = .empty) && decide (s.crane.carriage = .nothing) && sensorsEmpty s

/-- The crane parks at the mouth and is sent to sleep (R37). -/
def parkCrane (s : State) : State :=
  let s := s.onCrane fun k => { k with state := .running }
  if s.crane.pos = some .mouth then sendDrive .sleep s else sendDrive (.move .mouth) s

/-- Entry to DOZE (R37). -/
def enterDoze (s : State) : State := parkCrane (shutterTakeUp (settleConditions (setStation .doze s)))

def dozeBody : OrderBody := fun _ s =>
  match s.ctl.station with
  | .active => if mayDoze s then (Answer.plain .done 0, enterDoze s) else (Answer.plain .busy 0, s)
  | .doze => (Answer.plain .done 0, s)
  | _ => (Answer.plain .notReady 0, s)

/-- DOZE (R37). -/
def execDoze (s : State) : Host.Outcome State Fault Refusal := .next (serve (isKind .doze) dozeBody s)

def wakeBody : OrderBody := fun _ s =>
  match s.ctl.station with
  | .active => (Answer.plain .done 0, s)
  | .doze => (Answer.plain .done 0, wakeCause s)
  | _ => (Answer.plain .notReady 0, s)

/-- WAKE (R38). -/
def execWake (s : State) : Host.Outcome State Fault Refusal := .next (serve (isKind .wake) wakeBody s)

/-! ### RESTART (R180, R181) -/

/-- A RESTART's result by the station and crane states (R180). -/
def restartResult (s : State) : ResultCode :=
  match s.ctl.station, s.crane.state with
  | .recovery, .stopped => if s.crane.inFlight = some .stop then .busy else .done
  | .recovery, .unreferenced => .done
  | .recovery, .faulted => .done
  | .recovery, .asleep => .done
  | .recovery, _ => .busy
  | .active, .faulted => .done
  | _, _ => .notReady

/-- The RESTART run begins (R181). A STOP still in flight with the crane UNREFERENCED is abandoned (assumption log
45). -/
def beginRestart (s : State) : State :=
  let s := (abandonCommand s).onCrane fun k => { k with restartRun := true }
  if s.crane.state = .asleep then sendWake s else sendHome s

def restartBody : OrderBody := fun _ s =>
  let code := restartResult s
  ({ Answer.plain code 0 with d0 := s.crane.state.code }, if code = .done then beginRestart s else s)

/-- RESTART (R180, R181). -/
def execRestart (s : State) : Host.Outcome State Fault Refusal := .next (serve (isKind .restart) restartBody s)

/-! ### ENROL (R53, R54, R55) -/

/-- The answer to an ENROL, with the record as it stands (R53). -/
def enrolAnswer (code : ResultCode) (mark : Bool) (bin : Nat) (s : State) : Answer :=
  let r := reported bin s
  { Answer.plain code bin with clampMark := mark, d0 := r.state.code, d1 := r.fill * 16 + r.hold }

/-- ENROL ADD on an own bin (R54). -/
def enrolAddOwn (bin fill : Nat) (s : State) : Answer × State :=
  let i := indexOf bin
  if (binAt i s).state = .absent then
    let s' := putBin i { BinRec.blank with state := .stored, fill := min 15 fill } s
    (enrolAnswer (if 15 < fill then .clamped else .done) (decide (15 < fill)) bin s', dispatch s')
  else (enrolAnswer .conflict false bin s, s)

def enrolAddBody : OrderBody := fun r s =>
  let bin := wordAt r.payload 1
  if byteAt r.payload 0 = 1 then
    match classRefusal (classify bin s) with
    | some c => (enrolAnswer c false bin s, s)
    | none => enrolAddOwn bin (byteAt r.payload 3) s
  else (enrolAnswer .badField false bin s, s)

/-- The record is an ENROL of action REMOVE. -/
def isRemove (r : RxRecord) : Bool := decide (r.kind = .enrol) && decide (byteAt r.payload 0 = 2)

/-- ENROL ADD (R53, R54). It takes every ENROL that is not a REMOVE, so that an action byte which is neither is replied
BAD-FIELD here (assumption log 28). -/
def execEnrolAdd (s : State) : Host.Outcome State Fault Refusal :=
  .next (serve (fun r => decide (r.kind = .enrol) && !isRemove r) enrolAddBody s)

/-- The record may be removed (R55). -/
def removable (i : Nat) (s : State) : Bool :=
  let r := binAt i s
  (decide (r.state = .stored) || decide (r.state = .lost)) && decide (r.hold = 0) && r.followOns.isEmpty && !hasJob i s

def enrolRemoveBody : OrderBody := fun r s =>
  let bin := wordAt r.payload 1
  match classRefusal (classify bin s) with
  | some c => (enrolAnswer c false bin s, s)
  | none =>
    if removable (indexOf bin) s then
      let s := putBin (indexOf bin) BinRec.blank s
      (enrolAnswer .done false bin s, s)
    else (enrolAnswer .busy false bin s, s)

/-- ENROL REMOVE (R53, R55). -/
def execEnrolRemove (s : State) : Host.Outcome State Fault Refusal := .next (serve isRemove enrolRemoveBody s)

/-! ### AUDIT (R191) -/

/-- The answer to an AUDIT (R191). -/
def auditAnswer (code : ResultCode) (mark : Bool) (first count : Nat) (s : State) : Answer :=
  { Answer.plain code 0 with
    clampMark := mark, d0 := hiNat first, d1 := loNat first, d2 := count, d3 := s.crane.pool.length }

/-- The tests of R191 in their order, and the job offered (R69). Detail byte 2 of a BAD-FIELD by the first index, with a
count of 65 to 255 that step 2 never clamps, is 64 with the clamp mark clear: the model's choice (DESIGN CHOICE,
assumption log 81). -/
def auditBody : OrderBody := fun r s =>
  let first := wordAt r.payload 0
  let raw := byteAt r.payload 2
  let count := min 64 raw
  if 2047 < first ∨ raw = 0 then (auditAnswer .badField false first count s, s)
  else
    let a := offerJob (auditJob first count) s
    match a.1 with
    | .entered => (auditAnswer .accepted (decide (64 < raw)) first count a.2, jobEntered a.2)
    | _ => (auditAnswer .full (decide (64 < raw)) first count a.2, a.2)

/-- AUDIT (R191). -/
def execAudit (s : State) : Host.Outcome State Fault Refusal := .next (serve (isKind .audit) auditBody s)

/-! ### IDENTIFY (R194 to R197) -/

/-- Tests 1 of R194: the place named, or the reply. -/
def identifyPlace (place : Nat) (s : State) : Place ⊕ ResultCode :=
  match placeOf place with
  | none => .inr .badField
  | some p => if p.atPort && !s.ctl.straps.port then .inr .unsupported else .inl p

/-- A refusal of an IDENTIFY. -/
def identifyRefused (code : ResultCode) (place bin : Nat) (s : State) : Answer × State :=
  (Answer.identify code place 0 bin s, s)

/-- An IDENTIFY carried out. -/
def identifyDone (place effect bin : Nat) (s : State) : Answer × State := (Answer.identify .done place effect bin s, s)

/-- A JAMMED head named with a bin ID that is not 0 (R197). -/
def identifyJam (place : Nat) (l : Lane) (bin : Nat) (s : State) : Answer × State :=
  if (headCarry l s).map Carry.bin = some bin then identifyDone place 3 bin (releaseJam l s)
  else match namingRefusal (.segment l 1) bin s with
    | some c => identifyRefused c place bin s
    | none =>
      let s := nameOwn (.segment l 1) bin (jamOldHead l s)
      let s := s.onSeg l fun g => { g with places := setHeadContent (.carrying (namedCarry bin)) g.places }
      identifyDone place 3 bin (releaseJam l s)

/-- A stray place named with a bin ID that is not 0 (R194, R195). -/
def identifyStray (place : Nat) (p : Place) (bin : Nat) (s : State) : Answer × State :=
  if holdsStray p s then
    match namingRefusal p bin s with
    | some c => identifyRefused c place bin s
    | none =>
      let s := nameOwn p bin s
      (Answer.identify .done place 1 bin s, placeNamed p (namedCarry bin) s)
  else identifyRefused .conflict place bin s

def identifyBody : OrderBody := fun r s =>
  let place := byteAt r.payload 0
  let bin := wordAt r.payload 1
  match identifyPlace place s with
  | .inr c => identifyRefused c place bin s
  | .inl p => match jammedLane p s with
    | some l => identifyJam place l bin s
    | none => identifyStray place p bin s

/-- The record is an IDENTIFY of bin ID 0. -/
def isIdentifyClear (r : RxRecord) : Bool := decide (r.kind = .identify) && decide (wordAt r.payload 1 = 0)

/-- IDENTIFY (R194, R195, R197). -/
def execIdentify (s : State) : Host.Outcome State Fault Refusal :=
  .next (serve (fun r => decide (r.kind = .identify) && !isIdentifyClear r) identifyBody s)

/-- A JAMMED head whose bin has been removed by hand (R197). -/
def clearJam (place : Nat) (l : Lane) (s : State) : Answer × State :=
  if s.headSensor l then identifyRefused .busy place 0 s
  else identifyDone place 3 0 (releaseJam l (removeHead l (jamOldHead l s)))

/-- A stray place whose bin has been removed by hand (R196). -/
def clearStray (place : Nat) (p : Place) (s : State) : Answer × State :=
  if holdsStray p s then
    if sensorAt p s then identifyRefused .busy place 0 s else identifyDone place 2 0 (placeCleared p s)
  else identifyRefused .conflict place 0 s

def identifyClearBody : OrderBody := fun r s =>
  let place := byteAt r.payload 0
  match identifyPlace place s with
  | .inr c => identifyRefused c place 0 s
  | .inl p => match jammedLane p s with
    | some l => clearJam place l s
    | none => clearStray place p s

/-- IDENTIFY with bin ID 0 (R196, R197). -/
def execIdentifyClear (s : State) : Host.Outcome State Fault Refusal := .next (serve isIdentifyClear identifyClearBody s)

/-! ### CLEAR-FAULTS and QUERY (R21 to R23, R36, R46) -/

def clearFaultsBody : OrderBody := fun r s =>
  let mask : Byte := r.payload.getD 0 0#8
  if mask.getLsbD 6 || mask.getLsbD 7 then (Answer.plain .badField 0, s)
  else (Answer.plain .done 0, s.onRecord (clearRecord mask))

/-- CLEAR-FAULTS (R46). -/
def execClearFaults (s : State) : Host.Outcome State Fault Refusal := .next (serve (isKind .clearFaults) clearFaultsBody s)

/-- Byte 1 of QUERY STATUS (R21). -/
def laneByte (s : State) : Nat :=
  s.lanes.outSeg.cond.code + 4 * s.lanes.backSeg.cond.code + (if s.lanes.outSeg.head = .jammed then 16 else 0)
    + (if s.lanes.backSeg.head = .jammed then 32 else 0)

/-- The answer to QUERY STATUS (R21): its reference carries the pending set, which it clears if it ends TAKEN (R20). -/
def statusAnswer (s : State) : Answer :=
  { code := .done, clampMark := false, ref := s.ctl.pendingSet.toNat, d0 := s.ctl.station.code * 16 + s.crane.state.code,
    d1 := laneByte s, d2 := faultFlags s, d3 := s.crane.pool.length, clears := s.ctl.pendingSet }

/-- The record is a QUERY of a form. -/
def isForm (n : Nat) (r : RxRecord) : Bool := decide (r.kind = .query) && decide (byteAt r.payload 0 = n)

/-- QUERY STATUS (R21). -/
def execQueryStatus (s : State) : Host.Outcome State Fault Refusal :=
  .next (serve (isForm 0) (fun _ s => (statusAnswer s, s)) s)

def requestAnswer (tag : Nat) (s : State) : Answer :=
  if validTag tag then Answer.foundAt .done tag (whereFound tag s) else Answer.plain .badField tag

/-- QUERY REQUEST (R22). -/
def execQueryRequest (s : State) : Host.Outcome State Fault Refusal :=
  .next (serve (isForm 1) (fun r s => (requestAnswer (wordAt r.payload 1) s, s)) s)

/-- The destination QUERY BIN reports: station and kind (R23). -/
def binDestination (r : BinRec) (num : Nat) : Nat × Nat :=
  match r.call with
  | some c => (c.port, 1)
  | none => if r.state = .lifting ∨ r.state = .out then (num, 2) else (0, 0)

/-- The answer to QUERY BIN (R23). -/
def binAnswer (i : Nat) (s : State) : Answer :=
  if 2047 < i ∨ !validIndex s.ctl.straps i then Answer.plain .unknownBin 0
  else
    let r := binAt i s
    if r.state = .absent then Answer.plain .done (ownBin i s)
    else
      { Answer.plain .done (ownBin i s) with
        d0 := r.state.code, d1 := r.fill * 16 + r.hold, d2 := (binDestination r s.num).1,
        d3 := (binDestination r s.num).2 }

/-- QUERY BIN (R23). -/
def execQueryBin (s : State) : Host.Outcome State Fault Refusal :=
  .next (serve (isForm 2) (fun r s => (binAnswer (wordAt r.payload 1) s, s)) s)

/-- The answer to QUERY COUNTS (R36). -/
def countsAnswer (s : State) : Answer :=
  { Answer.plain .done 0 with
    d0 := s.ctl.record.dropped, d1 := s.ctl.record.deferred, d2 := s.ctl.record.recircs, d3 := s.bus.failures }

def countsBody : OrderBody := fun r s =>
  if byteAt r.payload 0 = 3 then (countsAnswer s, s) else (Answer.plain .badField 0, s)

/-- The record is a QUERY of form 3 or above. -/
def isCounts (r : RxRecord) : Bool := decide (r.kind = .query) && decide (3 ≤ byteAt r.payload 0)

/-- QUERY COUNTS, and every QUERY of a form above it, which is replied BAD-FIELD (R36; assumption log 28). -/
def execQueryCounts (s : State) : Host.Outcome State Fault Refusal := .next (serve isCounts countsBody s)

/-! ### SETUP-A and SETUP-B (R32, R33, R34) -/

/-- The answer to a SETUP frame accepted (R32). -/
def setupAnswer (clamped : Bool) : Answer :=
  { Answer.plain (if clamped then .clamped else .done) 0 with clampMark := clamped }

def setupABody : OrderBody := fun r s =>
  if s.ctl.station = .joining then
    (setupAnswer (setupAClamped r.payload), s.onCtl fun c => { c with setup := setupAValues r.payload c.setup })
  else (Answer.plain .notReady 0, s)

/-- SETUP-A (R32, R34). -/
def execSetupA (s : State) : Host.Outcome State Fault Refusal := .next (serve (isKind .setupA) setupABody s)

def setupBBody : OrderBody := fun r s =>
  if s.ctl.station = .joining then
    (setupAnswer (setupBClamped r.payload),
      endJoining (s.onCtl fun c => { c with setup := setupBValues r.payload c.setup }))
  else (Answer.plain .notReady 0, s)

/-- SETUP-B (R33, R34): it also ends JOINING (R30). -/
def execSetupB (s : State) : Host.Outcome State Fault Refusal := .next (serve (isKind .setupB) setupBBody s)

end Sys2Proof.Machine
end

