-- ==== Sys2Proof/Machine/DriveReports.lean ====
section
/-! DEFINITION. The reports of the drive link and the expiry of its limits (R70 to R79, R82, R83, R88 to R91, R181 to
R183, R192), with the join wait (R30). -/

namespace Sys2Proof.Machine

open Sys2Proof

/-! ### Taking a report (R70, R71, R72) -/

/-- A report owed by a command that was given up has come: it is ignored (R70, R71). -/
def eraseStale (k : ReportKind) (s : State) : State := s.onCrane fun c => { c with stale := c.stale.erase k }

/-- A report taken: ignored in STRAP-FAULT (R28), while FAULTED (R74) and with nothing in flight (R72); completing the
command in flight; ignored as a given-up command's (R70, R71); or a FAULT of code 255 (R72). A report that is ignored
is owed no more (assumption log 15). -/
def takeReport (k : ReportKind) (onMatch : DriveCmd → State → State) (s : State) : State :=
  if s.ctl.station = .strapFault then s
  else if s.crane.state = .faulted then eraseStale k s
  else match s.crane.inFlight with
    | none => eraseStale k s
    | some c =>
      if completingReport c = k then onMatch c (reportTaken s)
      else if k ∈ s.crane.stale then eraseStale k s
      else driveFault 255 s

/-! ### DONE (R72, R75 to R77, R79, R88, R89) -/

/-- The stage just completed had effects that leave the current job at `stage`: under a HALT it waits there, otherwise
it is begun (R89). -/
def goOn (s : State) : State :=
  if s.crane.state = .halting then
    (onCurrent (fun j => { j with state := .halted }) s).onCrane fun k => { k with state := .halted }
  else beginStage s

/-- DONE to a MOVE (R72): the travel stage is complete; the doze park goes on to SLEEP (R37). -/
def moveDone (p : Position) (s : State) : State :=
  let s := s.onCrane fun k => { k with pos := some p }
  match currentJob s with
  | some _ => dispatch (goOn (advanceStage s))
  | none => if s.ctl.station = .doze then sendDrive .sleep s else s

/-- The pick of a STORE: the stand becomes EMPTY and its carry record passes to the carriage (R76). -/
def storePicked (s : State) : State :=
  match s.lanes.inStand with
  | .holding c => emptyInStand (s.onCrane fun k => { k with carriage := .carrying c })
  | _ => s

/-- DONE to a FORK PICK (R72). A RETRIEVE converted while its pick was in flight is at its RESTORE's TRAVEL-LOADED
already (R88; assumption log 17). -/
def pickDone (s : State) : State :=
  let s := s.onCrane fun k => { k with load := .loaded }
  match currentJob s with
  | none => s
  | some j => match j.kind with
    | .store => goOn (storePicked (advanceStage s))
    | .restore _ => goOn s
    | _ => goOn (advanceStage s)

/-- The carry record of a bin its home station has placed on the outbound stand (R75). -/
def standCarry (bin : Nat) (c : Call) : Carry :=
  { bin := bin, dest := c.port, kind := .port, tag := c.tag, purpose := c.purpose, recirc := 0, delta := 0,
    filled := false }

/-- A RETRIEVE's place is made: lift end, the stand's record or a stray, the job gone (R75). The stand's record is made
whether or not another place of the station holds the bin ID: the model's choice (R199; assumption log 76). -/
def finishRetrieve (j : Job) (s : State) : State :=
  let a := liftEnd (indexOf j.bin) s
  let s := removeCurrent a.2
  recordFreed (match a.1.join with
    | some c => holdOutStand (standCarry j.bin c) s
    | none => raise (.stray 7) (s.setOutStand .stray))

/-- A RESTORE's place onto the outbound stand is made (R77). -/
def finishToStand (s : State) : State :=
  let s' := (removeCurrent s).onCrane fun k => { k with carriage := .nothing }
  recordFreed (match s.crane.carriage with
    | .carrying c => holdOutStand c s'
    | _ => raise (.stray 7) (s'.setOutStand .stray))

/-- The place of the current job is made (R75 to R77, R79). -/
def finishJob (j : Job) (s : State) : State :=
  match j.kind with
  | .retrieve => finishRetrieve j s
  | .store => finishStore j s
  | .restore .rack => finishRestore j s
  | .restore .outStand => finishToStand s
  | .audit => s

/-- DONE to a FORK PLACE (R72, R79): the crane rests, and a dispatch follows. -/
def placeDone (s : State) : State :=
  let s := s.onCrane fun k => { k with load := .empty }
  match currentJob s with
  | none => s
  | some j => dispatch (craneRests (finishJob j s))

/-- DONE to SLEEP (R37): the crane is ASLEEP, and a kept wake cause starts the wake (R38). -/
def sleepDone (s : State) : State :=
  let kept := s.crane.wakeKept
  let s := s.onCrane fun k => { k with state := .asleep }
  if kept then wakeCause s else s

/-- What a DONE completes (R70). -/
def doneTo (c : DriveCmd) (s : State) : State :=
  match c with
  | .move p => moveDone p s
  | .fork _ .pick => pickDone s
  | .fork _ .place => placeDone s
  | .sleep => sleepDone s
  | _ => s

/-- DONE (R72). -/
def execDone (s : State) : Host.Outcome State Fault Refusal := .next (takeReport .done doneTo s)

/-! ### PROBE (R78, R83, R192) -/

/-- An audit has marked the bin LOST: a WAITING RETRIEVE for it goes and its call is dropped (R83). -/
def dropWaitingRetrieve (bin : Nat) (s : State) : State :=
  match retrieveFor bin s with
  | some j =>
    if j.state = .waiting then
      let s := s.onCrane fun k =>
        { k with pool := k.pool.filter fun i => !(decide (i.kind = .retrieve) && decide (i.bin = bin)) }
      recordFreed (dropCall bin j.tag j.purpose s)
    else s
  | none => s

/-- The comparison of a probe with the record (R192). -/
def compareProbe (i : Nat) (present : Bool) (s : State) : State :=
  let st := (binAt i s).state
  if present then
    match st with
    | .stored => s
    | .lost => markFoundByAudit i s
    | _ => raise (.unregistered (ownBin i s) st.code) s
  else if st = .stored then dropWaitingRetrieve (ownBin i s) (markLostByAudit i s)
  else s

/-- The AUDIT goes on to its next index, or is removed (R78). It returns to WAITING with a new estimate (R98); under a
HALT it is HALTED with its TRAVEL to that index not begun, and keeps its estimate (R89; assumption log 47). -/
def advanceAudit (j : Job) (s : State) : State :=
  match auditNext s.ctl.straps (j.remaining - 1) (j.nextIndex + 1) with
  | none => recordFreed (removeCurrent s)
  | some (i, n) =>
    let j' := { j with nextIndex := i, remaining := n, stage := .travel, sent := false }
    onCurrent (fun _ =>
      if s.crane.state = .halting then { j' with state := .halted }
      else { j' with state := .waiting, est := estOf s.ctl.setup j' }) s

/-- PROBE to a FORK PROBE (R78, R89, R192). -/
def probeTo (present : Bool) (_ : DriveCmd) (s : State) : State :=
  match currentJob s with
  | none => s
  | some j => dispatch (craneRests (advanceAudit j (compareProbe j.nextIndex present s)))

/-- PROBE (R192). -/
def execProbe (present : Bool) (s : State) : Host.Outcome State Fault Refusal :=
  .next (takeReport .probe (probeTo present) s)

/-! ### STOPPED (R70, R72, R88 to R91, R176) -/

/-- Position and load as STOPPED leaves them (R72). -/
def afterStop (p : Position) (k : Crane) : Crane :=
  { k with pos := some p, load := if k.forkAbandoned then .unknown else k.load, forkAbandoned := false }

/-- What a STOPPED completes, by the crane state: the fire stop (R176), a halt (R89, R91), a cancel or a halt withdrawn
(R88, R90). -/
def stoppedTo (p : Position) (_ : DriveCmd) (s : State) : State :=
  let s := s.onCrane (afterStop p)
  match s.crane.state with
  | .unreferenced => s.onCrane fun k => { k with pos := none, load := .unknown }
  | .halting => (onCurrent (fun j => { j with state := .halted }) s).onCrane fun k => { k with state := .halted }
  | .running => match currentJob s with
    | some _ => dispatch (beginStage s)
    | none => dispatch (s.onCrane fun k => { k with state := .idle })
  | _ => s

/-- STOPPED (R70). -/
def execStopped (column level : Nat) (s : State) : Host.Outcome State Fault Refusal :=
  .next (takeReport .stopped (stoppedTo { column := column, level := level }) s)

/-! ### HOMED (R73, R182, R183) -/

/-- The frozen job returns to WAITING at its first stage (R183). -/
def backToWaiting (st : Stage) (s : State) : State :=
  onCurrent (fun j => { j with state := .waiting, stage := st, sent := false }) s

/-- The current job goes on ACTIVE from a stage (R183). -/
def activeAt (st : Stage) (s : State) : State :=
  beginStage ((onCurrent (fun j => { j with state := .active, stage := st, sent := false }) s).onCrane
    fun k => { k with state := .running })

/-- The conversion of R183: the RETRIEVE becomes a RESTORE and goes on, its call is offered to the pool again. -/
def convertFrozen (j : Job) (s : State) : State :=
  let s := activeAt .travelLoaded (convertCurrent j s)
  let a := offerJob (retrieveJob j.bin j.tag j.port j.purpose j.urgency) s
  match a.1 with
  | .full => dropCall j.bin j.tag j.purpose a.2
  | _ => a.2

/-- A frozen RETRIEVE (R183). -/
def settleRetrieve (loaded : Bool) (j : Job) (s : State) : State :=
  if unlifted j then releaseStand (backToWaiting .travelEmpty s)
  else if loaded then convertFrozen j s
  else if j.stage = .forkPick then
    releaseStand (backToWaiting .travelEmpty (restoreEnd (indexOf j.bin) true s).2)
  else finishRetrieve j s

/-- A frozen STORE (R183). -/
def settleStore (loaded : Bool) (j : Job) (s : State) : State :=
  if unlifted j then
    if loaded then backToWaiting .travelEmpty s else activeAt .forkPick s
  else if j.stage = .forkPick then
    if loaded then activeAt .travelLoaded (storePicked s)
    else
      sendFork 1 .pick ((onCurrent (fun j => { j with state := .active }) s).onCrane fun k => { k with state := .running })
  else if loaded then activeAt .travelLoaded s
  else finishStore j s

/-- The frozen job is settled (R183). -/
def settleFrozen (loaded : Bool) (s : State) : State :=
  match currentJob s with
  | none => s
  | some j => match j.kind with
    | .retrieve => settleRetrieve loaded j s
    | .store => settleStore loaded j s
    | .restore _ => if loaded then activeAt .travelLoaded s else finishJob j s
    | .audit => backToWaiting .travel s

/-- A job of the pool accounts for the bin on the carriage: the current one, or a RESTORE that waits for it (R73, R77,
R182). -/
def carriageAccounted (s : State) : Bool :=
  (currentJob s).isSome || s.crane.pool.any fun j => match j.kind with
    | .restore _ => true
    | _ => false

/-- A carriage reported loaded that no job accounts for becomes a stray, a carry record whose RESTORE the pool refused
among them, whose asking ends with it (R73, R77, R182 step 3). One that is a stray stays so without a further notice
(assumption log 35). -/
def strayCarriage (loaded : Bool) (s : State) : State :=
  if loaded && !carriageAccounted s && decide (s.crane.carriage ≠ .stray) then
    raise (.stray 0) (s.onCrane fun k => { k with carriage := .stray, restoreWanted := false })
  else s

/-- The crane is IDLE, or RUNNING with the job that the settling set going (R182 step 4). -/
def homedState (s : State) : State :=
  s.onCrane fun k => { k with state := if (currentJob s).isSome then .running else .idle }

/-- The completion of a RESTART run (R182). -/
def restartCompletes (loaded : Bool) (s : State) : State :=
  let s := (s.onFire fun f => { f with latch := false }).onCrane fun k => { k with restartRun := false }
  let s := homedState (strayCarriage loaded (settleFrozen loaded s))
  if s.ctl.station = .recovery then afterActive (setStation .active s) else dispatch (settleConditions s)

/-- The first HOME run after a reset (R73). -/
def firstHomed (loaded : Bool) (s : State) : State := dispatch (homedState (strayCarriage loaded s))

/-- HOMED completes the HOME in flight (R72, R73, R182). A carry record on a carriage reported empty stays there: the
model's choice (assumption log 60). -/
def homedTo (loaded : Bool) (_ : DriveCmd) (s : State) : State :=
  let s := s.onCrane fun k => { k with pos := some .mouth, load := if loaded then .loaded else .empty }
  if s.crane.restartRun then restartCompletes loaded s else firstHomed loaded s

/-- HOMED (R73, R182). -/
def execHomed (loaded : Bool) (s : State) : Host.Outcome State Fault Refusal :=
  .next (takeReport .homed (homedTo loaded) s)

/-! ### WOKEN, FAULT and the limits (R39, R71, R74, R181) -/

/-- WOKEN completes the WAKE in flight: the end of a doze, or the HOME of a RESTART run (R39, R181). -/
def wokenTo (_ : DriveCmd) (s : State) : State :=
  if s.crane.restartRun then sendHome s
  else
    let s := s.onCrane fun k => { k with state := .idle }
    if s.ctl.station = .doze then wakeEnds s else s

/-- WOKEN (R39, R181). -/
def execWoken (s : State) : Host.Outcome State Fault Refusal := .next (takeReport .woken wokenTo s)

/-- FAULT (R74): ignored while FAULTED, and in STRAP-FAULT (R28). -/
def execFault (code : Nat) (s : State) : Host.Outcome State Fault Refusal :=
  .next (unlessStrapFault (fun s => if s.crane.state = .faulted then s else driveFault code s) s)

/-- DRIVE_LIMIT_EXPIRY: a completion limit other than WAKE's has expired (R71, R74). -/
def execDriveLimitExpiry (s : State) : Host.Outcome State Fault Refusal :=
  .next (if s.crane.limit.isSome ∧ s.crane.inFlight ≠ none ∧ s.crane.inFlight ≠ some .wake then driveFault 0 s else s)

/-- WAKE_LIMIT_EXPIRY (R39, R181). -/
def execWakeLimitExpiry (s : State) : Host.Outcome State Fault Refusal :=
  .next (if s.crane.limit.isSome ∧ s.crane.inFlight = some .wake then wakeFailed s else s)

/-- JOIN_WAIT_EXPIRY: the join wait ends JOINING (R30). -/
def execJoinWaitExpiry (s : State) : Host.Outcome State Fault Refusal :=
  .next (if s.ctl.joinWait.isSome ∧ s.ctl.station = .joining then endJoining s else s)

end Sys2Proof.Machine
end

