-- ==== Sys2Proof/Machine/LaneEvents.lean ====
section
/-! DEFINITION. The events of the Lane Unit: the presence sensors of the segments and the stands, and its limits (R110,
R119 to R122, R125, R126, R128, R130). -/

namespace Sys2Proof.Machine

open Sys2Proof

/-! ### Segment sensors -/

def setHeadPin (l : Lane) (b : Bool) (s : State) : State := s.onPins (Pins.onSeg l fun g => { g with head := b })
def setMiddlePin (l : Lane) (b : Bool) (s : State) : State := s.onPins (Pins.onSeg l fun g => { g with middle := b })
def setTailPin (l : Lane) (b : Bool) (s : State) : State := s.onPins (Pins.onSeg l fun g => { g with tail := b })

/-- A head acts when it becomes ready; a DEFERRED one waits while its offer retry interval runs (R119, R123). -/
def headBecomesReady (l : Lane) (s : State) : State := if (s.seg l).retry.isNone then actHead l s else s

/-- HEAD_SENSOR_REPORT (R110, R123, R130, R193). -/
def execHeadSensorReport (lane : Lane) (present : Bool) (s : State) : Host.Outcome State Fault Refusal :=
  .next (unlessStrapFault (fun s =>
    let was := s.headSensor lane
    let s := setHeadPin lane present s
    if present then headBecomesReady lane (headReported lane was s) else s) s)

/-- PLACE_SENSOR_REPORT of the middle place (R110, R130, R193). A sensor that reported no bin before may show the next
bin, its predecessor being on its way to the head (assumption log 12). -/
def execPlaceSensorReport (lane : Lane) (present : Bool) (s : State) : Host.Outcome State Fault Refusal :=
  .next (unlessStrapFault (fun s =>
    let was := (s.pins.seg lane).middle
    let s := setMiddlePin lane present s
    if present then placeReported lane 2 was s else s) s)

/-- The tail sensor reports a bin: the reservation lands (R120), or a record that stands there is confirmed, or the bin
is a late arrival (R121, R130). `was`: what the sensor reported before (assumption log 13). -/
def tailReported (l : Lane) (was : Bool) (s : State) : State :=
  match (s.seg l).reservation with
  | some r => dispatch (shutterTakeUp (landReserved l r s))
  | none => if was && placeTaken 3 (s.seg l).places then s else strayAt l 3 s

/-- TAIL_SENSOR_REPORT (R120, R121, R122, R128, R143). -/
def execTailSensorReport (lane : Lane) (present : Bool) (s : State) : Host.Outcome State Fault Refusal :=
  .next (unlessStrapFault (fun s =>
    let was := (s.pins.seg lane).tail
    let s := setTailPin lane present s
    if present then tailReported lane was s else s) s)

/-! ### Limits of the heads and tails -/

/-- OFFER_RETRY_EXPIRY: a DEFERRED head acts again (R119). -/
def execOfferRetryExpiry (lane : Lane) (s : State) : Host.Outcome State Fault Refusal :=
  .next (if (s.seg lane).retry.isSome ∧ (s.seg lane).head = .deferred then actHead lane (stopRetry lane s) else s)

/-- HANDOFF_LIMIT_EXPIRY at a MOVING head (R121, R122). A crossing handoff may have ended with it (R187). -/
def execHandoffLimitExpiry (lane : Lane) (s : State) : Host.Outcome State Fault Refusal :=
  .next (if (s.seg lane).headLimit.isSome ∧ (s.seg lane).head = .moving then shutterTakeUp (headTimeout lane s) else s)

/-- A through reservation stands. -/
def throughStands (g : Segment) : Bool :=
  match g.reservation with
  | some (.through ..) => true
  | _ => false

/-- RESERVATION_LIMIT_EXPIRY: a through reservation is cleared, and the tail opens (R121, R122). -/
def execReservationLimitExpiry (lane : Lane) (s : State) : Host.Outcome State Fault Refusal :=
  .next (if (s.seg lane).tailLimit.isSome ∧ throughStands (s.seg lane) then
      shutterTakeUp (openTail lane (clearReservation lane s))
    else s)

/-- The claim of a divert is released (R125, R135). -/
def releaseTarget (t : DivertTarget) (s : State) : State :=
  match t with
  | .inStand => if s.lanes.inStand = .incoming then dispatch (emptyInStand s) else s
  | .approach => if s.port.approach = .claimed then emptyApproach s else s

/-- DIVERT_LIMIT_EXPIRY (R125). -/
def execDivertLimitExpiry (lane : Lane) (s : State) : Host.Outcome State Fault Refusal :=
  .next (match (s.seg lane).head, (s.seg lane).headLimit with
    | .diverting t, some _ => headTimeout lane (releaseTarget t s)
    | _, _ => s)

/-- An entry from the outbound stand has timed out (R128). -/
def standEntryTimedOut (l : Lane) (s : State) : State :=
  match s.lanes.outStand with
  | .entering c _ =>
    if s.pins.outStand then raise (.stray 7) (s.setOutStand .stray)
    else dispatch (broadcastJam l c.bin (s.setOutStand .empty))
  | _ => s

/-- An exit from SERVICE has timed out (R128, R143). -/
def serviceEntryTimedOut (l : Lane) (s : State) : State :=
  match s.port.service with
  | .entering c _ =>
    if s.pins.service then raise (.stray 10) (s.setService .stray)
    else tryAdvance (broadcastJam l c.bin (s.setService .empty))
  | _ => s

/-- ENTRY_LIMIT_EXPIRY: the reservation is cleared, the tail opens, and the place is settled (R128, R143). -/
def execEntryLimitExpiry (lane : Lane) (s : State) : Host.Outcome State Fault Refusal :=
  .next (match (s.seg lane).reservation, (s.seg lane).tailLimit with
    | some (.entry .outStand), some _ => standEntryTimedOut lane (openTail lane (clearReservation lane s))
    | some (.entry .service), some _ => serviceEntryTimedOut lane (openTail lane (clearReservation lane s))
    | _, _ => s)

/-! ### The stands -/

/-- The outbound stand's bin has been lifted off by hand (R128). -/
def outStandLifted (s : State) : State :=
  match s.lanes.outStand with
  | .holding c _ =>
    let s := settleMerge .backLane (settleMerge .outLane (s.setOutStand .empty))
    dispatch (broadcastJam .outLane c.bin s)
  | _ => s

/-- A bin on the EMPTY outbound stand is a stray (R128), in DOZE a wake cause (R38). -/
def outStandFound (s : State) : State :=
  if s.lanes.outStand = .empty then wakeCause (raise (.stray 7) (s.setOutStand .stray)) else s

/-- OUTBOUND_STAND_SENSOR (R128). -/
def execOutboundStandSensor (present : Bool) (s : State) : Host.Outcome State Fault Refusal :=
  .next (unlessStrapFault (fun s =>
    let s := s.onPins fun p => { p with outStand := present }
    if present then outStandFound s else outStandLifted s) s)

/-- The lane whose head is diverting into a target. -/
def divertingLane (t : DivertTarget) (s : State) : Option Lane :=
  if s.lanes.outSeg.head = .diverting t then some .outLane
  else if s.lanes.backSeg.head = .diverting t then some .backLane
  else none

/-- The head record has left for its divert target: the tail opens (R125), before the next head record is decided: the
model's choice (assumption log 77). -/
def divertLeaves (l : Lane) (s : State) : State := actIdleHead l (openTail l (removeHead l s))

/-- A divert into the inbound stand ends: the stand HOLDs the record, and a STORE is asked (R76, R125, R126). -/
def divertToStand (s : State) : State :=
  match divertingLane .inStand s with
  | none => s
  | some l => match headCarry l s with
    | none => s
    | some c => dispatch (askStore c.bin (divertLeaves l (s.setInStand (.holding c))))

/-- A bin reported at the inbound stand (R125, R126). -/
def inStandFound (s : State) : State :=
  match s.lanes.inStand with
  | .incoming => divertToStand s
  | .empty => wakeCause (raise (.stray 8) (s.setInStand .stray))
  | _ => s

/-- The STORE job of a bin still to be picked. -/
def storesBin (bin : Nat) (j : Job) : Bool :=
  decide (j.kind = .store) && decide (j.bin = bin) && (decide (j.stage = .travelEmpty) || decide (j.stage = .forkPick))

/-- The STORE job of a bin lifted off the stand is removed; a MOVE of it in flight is stopped (R126). -/
def dropStore (bin : Nat) (s : State) : State :=
  let moving : Bool := match currentJob s with
    | some j => storesBin bin j && decide (j.state = .active) && moveInFlight s
    | none => false
  let s := if moving then sendStop s else s
  s.onCrane fun k => { k with storeWanted := false, pool := k.pool.filter fun j => !storesBin bin j }

/-- The FORK-PICK of a STORE is in flight, which takes the bin off the inbound stand (R76, R126). -/
def storePickInFlight (s : State) : Bool :=
  decide (s.crane.inFlight = some (.fork 1 .pick)) && (currentJob s).any fun j => decide (j.kind = .store)

/-- The inbound stand's bin has been lifted off by hand, unless a STORE's pick is in flight at it (R126). The JAM is
broadcast and the STORE dropped before the heads take up the freed stand: the model's choice (assumption log 72). -/
def inStandLifted (s : State) : State :=
  match s.lanes.inStand with
  | .holding c =>
    if storePickInFlight s then s
    else dispatch (recordFreed (emptyInStand (dropStore c.bin (broadcastJam .outLane c.bin (s.setInStand .empty)))))
  | _ => s

/-- INBOUND_STAND_SENSOR (R125, R126). -/
def execInboundStandSensor (present : Bool) (s : State) : Host.Outcome State Fault Refusal :=
  .next (unlessStrapFault (fun s =>
    let s := s.onPins fun p => { p with inStand := present }
    if present then inStandFound s else inStandLifted s) s)

end Sys2Proof.Machine
end

