-- ==== Sys2Proof/Machine/PortEvents.lean ====
section
/-! DEFINITION. The events of the Port Unit: the sensors of APPROACH and SERVICE, the advance limit and the release
button (R133 to R151). A station with no port fitted reads none of them (R133). -/

namespace Sys2Proof.Machine

open Sys2Proof

/-- The Port Unit exists and is read: not in STRAP-FAULT (R28), and with a port fitted (R133). -/
def withPort (f : State → State) (s : State) : State :=
  unlessStrapFault (fun s => if s.ctl.straps.port then f s else s) s

/-! ### APPROACH -/

/-- A divert into APPROACH ends: APPROACH HOLDs the record, and the advance is tried (R125, R135, R136). -/
def divertToApproach (s : State) : State :=
  match divertingLane .approach s with
  | none => s
  | some l => match headCarry l s with
    | none => s
    | some c => tryAdvance (divertLeaves l (s.setApproach (.holding c)))

/-- A bin reported at APPROACH (R135, R146, R148). -/
def approachFound (s : State) : State :=
  match s.port.approach with
  | .claimed => divertToApproach s
  | .empty => wakeCause (raise (.stray 9) (s.setApproach .stray))
  | _ => s

/-- No bin reported at APPROACH: expected during an advance (R137), otherwise taken by hand (R146, R147). The JAM is
broadcast before the Lane Unit is told that APPROACH is EMPTY: the model's choice (assumption log 63). -/
def approachLifted (s : State) : State :=
  match s.port.approach with
  | .holding c =>
    if s.port.service = .incoming then s else emptyApproach (broadcastJam .outLane c.bin s)
  | .stray => emptyApproach s
  | _ => s

/-- APPROACH_SENSOR (R135, R146, R147). -/
def execApproachSensor (present : Bool) (s : State) : Host.Outcome State Fault Refusal :=
  .next (withPort (fun s =>
    let s := s.onPins fun p => { p with approach := present }
    if present then approachFound s else approachLifted s) s)

/-! ### SERVICE -/

/-- The advance ends: the record passes to SERVICE, APPROACH becomes EMPTY, and SERVICE is PRESENTED with ARRIVED, or
RELEASED at once (R137). -/
def advanceEnds (s : State) : State :=
  let s' := s.onPort fun p => { p with advanceLimit := none }
  match s.port.approach with
  | .holding c =>
    let s := emptyApproach s'
    match c.kind with
    | .port => raise (.arrived c.bin c.tag) (s.setService (.presented c))
    | .home => releaseService c s
  | _ => s'

/-- A bin reported at SERVICE (R137, R146, R148). -/
def serviceFound (s : State) : State :=
  match s.port.service with
  | .incoming => advanceEnds s
  | .empty => wakeCause (raise (.stray 10) (s.setService .stray))
  | _ => s

/-- The bin at SERVICE has been taken by hand (R147): its waiting exit claim goes with it. -/
def serviceTaken (c : Carry) (s : State) : State :=
  let s := settleMerge .backLane (settleMerge .outLane (s.setService .empty))
  tryAdvance (broadcastJam .outLane c.bin s)

/-- No bin reported at SERVICE (R143, R146, R147). -/
def serviceLifted (s : State) : State :=
  match s.port.service with
  | .presented c => serviceTaken c s
  | .released c _ => serviceTaken c s
  | .stray => tryAdvance (s.setService .empty)
  | _ => s

/-- SERVICE_SENSOR (R137, R146, R147). -/
def execServiceSensor (present : Bool) (s : State) : Host.Outcome State Fault Refusal :=
  .next (withPort (fun s =>
    let s := s.onPins fun p => { p with service := present }
    if present then serviceFound s else serviceLifted s) s)

/-- An advance times out (R138). A bin lost has its JAM broadcast before the Lane Unit is told that APPROACH is EMPTY: the
model's choice (assumption log 63). -/
def advanceTimedOut (s : State) : State :=
  let s := s.onPort fun p => { p with service := .empty, advanceLimit := none }
  match s.port.approach with
  | .holding c =>
    if s.pins.approach then raise (.stray 9) (s.setApproach .stray) else emptyApproach (broadcastJam .outLane c.bin s)
  | _ => s

/-- ADVANCE_LIMIT_EXPIRY (R138). -/
def execAdvanceLimitExpiry (s : State) : Host.Outcome State Fault Refusal :=
  .next (if s.port.advanceLimit.isSome ∧ s.port.service = .incoming then advanceTimedOut s else s)

/-! ### The button (R141, R151) -/

/-- A press of the button: the bin PRESENTED is released with a delta of 0 (R141). -/
def pressed (s : State) : State :=
  match presented s with
  | some c => releaseService (releasedCarry 0 c) s
  | none => s

/-- RELEASE_BUTTON_PRESS: a press is the change from released to pressed (R141, R151). -/
def execReleaseButtonPress (s : State) : Host.Outcome State Fault Refusal :=
  .next (withPort (fun s => if s.pins.button then s else pressed (s.onPins fun p => { p with button := true })) s)

/-- RELEASE_BUTTON_RELEASED (R141, R151). -/
def execReleaseButtonReleased (s : State) : Host.Outcome State Fault Refusal :=
  .next (withPort (State.onPins fun p => { p with button := false }) s)

end Sys2Proof.Machine
end

