-- ==== Sys2Proof/Machine/AuctionEvents.lean ====
section
/-! DEFINITION. The events of an auction's time: the end of the candidate scan, bid close and window end, each for the
record of a room tag (R156, R160, R161). -/

namespace Sys2Proof.Machine

open Sys2Proof

/-- The scan's remaining reads are made (R155). -/
def readRest (tag : Nat) (s : State) : State :=
  onAuction tag (fun r => { r with noted := r.noted ++ scanRange r.units r.nextRead 2048 s, nextRead := 2048 }) s

/-- The end of the scan (R156). -/
def scanEnds (tag : Nat) (s : State) : State :=
  match auctionOf tag s with
  | none => s
  | some r => chooseBid r (scanRanking r s) s

/-- SCAN_END (R155, R156). -/
def execScanEnd (roomTag : Nat) (s : State) : Host.Outcome State Fault Refusal :=
  .next (match auctionOf roomTag s with
    | none => s
    | some r => if r.phase = .scanning then scanEnds roomTag (readRest roomTag s) else s)

/-- BID_CLOSE: bid close passes, and an own BID not yet returned is aborted (R154, R160). -/
def execBidClose (roomTag : Nat) (s : State) : Host.Outcome State Fault Refusal :=
  .next (match auctionOf roomTag s with
    | none => s
    | some r =>
      if r.closed then s
      else
        let s := onAuction roomTag (fun r => { r with closeLimit := none }) s
        if bidOut r then abortBid roomTag s else s)

/-- The record is freed (R161). -/
def freeAuction (tag : Nat) (s : State) : State :=
  s.onAuctions fun u => { u with records := u.records.filter fun r => decide (r.roomTag ≠ tag) }

/-- The lowest seen is the own pair (R161). -/
def ownLowest (r : Auction) (s : State) : Bool :=
  match r.own, r.lowest with
  | some v, some p => decide (p = { value := v, station := s.num })
  | _, _ => false

/-- A BIDDING record at its window end (R161, R163). -/
def decideAuction (r : Auction) (s : State) : State :=
  match r.candidate with
  | none => s
  | some i =>
    if !r.voidMark && ownLowest r s then fillCall r.roomTag r.port i (r.own.getD 0) s else (holdClear i s).2

/-- WINDOW_END (R161): the record is freed, and a BIDDING one decided. -/
def execWindowEnd (roomTag : Nat) (s : State) : Host.Outcome State Fault Refusal :=
  .next (match auctionOf roomTag s with
    | none => s
    | some r =>
      let s := freeAuction roomTag s
      if r.phase = .bidding then decideAuction r s else s)

end Sys2Proof.Machine
end

