-- ==== Sys2Proof/Machine/FireEvents.lean ====
section
/-! DEFINITION. The events of the Fire Unit: the fire line, the fire repeat, the listen period, and the shutter's
sensors and times (R170, R172, R187 to R190). -/

namespace Sys2Proof.Machine

open Sys2Proof

/-! ### The fire line (R170) -/

/-- FIRE_LINE_ASSERTED: the change to asserted (R170). -/
def execFireLineAsserted (s : State) : Host.Outcome State Fault Refusal :=
  .next (unlessStrapFault (fun s =>
    if s.pins.fireLine then s else ownFire (s.onPins fun p => { p with fireLine := true })) s)

/-- FIRE_LINE_RELEASED: the repeat stops, the view stands (R170). -/
def execFireLineReleased (s : State) : Host.Outcome State Fault Refusal :=
  .next (unlessStrapFault (fun s =>
    (s.onPins fun p => { p with fireLine := false }).onFire fun f => { f with repeatTimer := none }) s)

/-- FIRE_REPEAT_EXPIRY: with the line still asserted, again as at its assertion (R170). -/
def execFireRepeatExpiry (s : State) : Host.Outcome State Fault Refusal :=
  .next (if s.fire.repeatTimer.isSome ∧ s.pins.fireLine = true then ownFire s else s)

/-! ### The listen period (R172, R190) -/

/-- The end of the listen period: a shutter still OPENING has OPEN driven again (R190), ring hold may end (R129). -/
def listenEnds (s : State) : State :=
  let s := s.onFire fun f => { f with listen := none, openOut := f.openOut || decide (f.shutter = some .opening) }
  shutterTakeUp (settleConditions s)

/-- LISTEN_PERIOD_EXPIRY (R172). -/
def execListenPeriodExpiry (s : State) : Host.Outcome State Fault Refusal :=
  .next (if s.fire.listen.isSome then listenEnds s else s)

/-! ### The shutter (R187 to R189) -/

/-- SHUTTER_CLEAR_TIME_EXPIRY: CLEARING ends and CLOSING begins (R187). -/
def execShutterClearTimeExpiry (s : State) : Host.Outcome State Fault Refusal :=
  .next (if s.fire.clearTimer.isSome ∧ s.fire.shutter = some .clearing then beginClosing s else s)

/-- The close limit has expired: FAILED, CLOSE stays driven, SHUTTER-FAULT (R188). -/
def closeFails (s : State) : State :=
  let s := s.onFire fun f => { f with shutter := some .failed, closeLimit := none }
  shutterTakeUp (raise .shutterFault (s.onRecord fun r => { r with shutterFault := true }))

/-- CLOSE_LIMIT_EXPIRY (R188). -/
def execCloseLimitExpiry (s : State) : Host.Outcome State Fault Refusal :=
  .next (if s.fire.closeLimit.isSome ∧ s.fire.shutter = some .closing then closeFails s else s)

/-- The closed sensor reports closed in CLOSING or FAILED (R188). -/
def shutterCloses (s : State) : State :=
  shutterTakeUp (s.onFire fun f => { f with shutter := some .closed, closeLimit := none, closeOut := false })

/-- CLOSED_SENSOR_REPORT (R188). -/
def execClosedSensorReport (closed : Bool) (s : State) : Host.Outcome State Fault Refusal :=
  .next (unlessStrapFault (fun s =>
    let s := s.onPins fun p => { p with shutterClosed := closed }
    if closed ∧ (s.fire.shutter = some .closing ∨ s.fire.shutter = some .failed) then shutterCloses s else s) s)

/-- The open sensor reports open in OPENING (R186, R189). -/
def shutterOpens (s : State) : State :=
  shutterTakeUp (settleConditions (s.onFire fun f => { f with shutter := some .opened, openOut := false }))

/-- OPEN_SENSOR_REPORT (R189). -/
def execOpenSensorReport (opened : Bool) (s : State) : Host.Outcome State Fault Refusal :=
  .next (unlessStrapFault (fun s =>
    let s := s.onPins fun p => { p with shutterOpen := opened }
    if opened ∧ s.fire.shutter = some .opening then shutterOpens s else s) s)

end Sys2Proof.Machine
end

