-- ==== Sys2Proof/Machine/Resets.lean ====
section
/-! DEFINITION. The end of a power-on reset and of a warm reset, block by block (R11, R15, R27 to R31, R48, R67, R68,
R93, R132, R151, R168, R169, R170, R172, R184, R190). -/

namespace Sys2Proof.Machine

open Sys2Proof

/-- A warm reset with these straps is taken as a warm reset (R29). -/
def staysWarm (old new : Straps) : Bool :=
  decide (old.number = new.number) && decide (old.top = new.top) && decide (old.twoSided = new.twoSided)
    && decide (old.lengthClass = new.lengthClass)

/-- The fault record after a warm reset: the sticky flags kept, the counts 0 (R29). -/
def FaultRecord.warm (r : FaultRecord) : FaultRecord := { r with dropped := 0, deferred := 0, recircs := 0 }

/-- The station state after a reset (R27). -/
def freshStation (p : Straps) : StationState := if p.valid then .joining else .strapFault

/-- The roster after a reset: the own entry alone, made from the straps and following the own state (R29, section 2.7).
A strapped number that is none of the 24 stations' has no entry. -/
def freshRoster (p : Straps) : List (Nat × RosterEntry) :=
  if isStation p.number.toNat then
    [(p.number.toNat,
      { present := true, compartment := p.compartment.toNat, port := p.port, announced := freshStation p })]
  else []

/-- Station Control after a reset (R27, R29, R30). -/
def freshControl (warm : Bool) (p : Straps) (c : Control) : Control :=
  { straps := p, station := freshStation p, setup := if warm then c.setup else Setup.powerOn,
    roster := freshRoster p, record := if warm then c.record.warm else FaultRecord.clear, warmStart := warm,
    joinWait := if p.valid then some Config.joinWaitMs else none, notices := [], pendingSet := 0#16 }

/-- The shutter after a reset: state, CLOSE, OPEN, close limit (R190; assumption logs 24, 25). -/
structure ShutterReset where
  state : Option ShutterState
  close : Bool
  opening : Bool
  limit : Option Nat
deriving DecidableEq, Repr

/-- The table of R190. A CLOSE held over a shutter that the open sensor shows open stays driven, since that row stops
OPEN alone; an OPEN held over a shutter that the closed sensor shows closed stops (assumption log 24). -/
def shutterReset (warm : Bool) (i : Inputs) (f : FireUnit) : ShutterReset :=
  if !i.straps.valid then { state := f.shutter, close := f.closeOut, opening := f.openOut, limit := none }
  else if !i.straps.shutterFitted then { state := none, close := false, opening := false, limit := none }
  else if i.pins.shutterClosed then { state := some .closed, close := false, opening := false, limit := none }
  else if i.pins.shutterOpen then { state := some .opened, close := f.closeOut, opening := false, limit := none }
  else if f.openOut then { state := some .opening, close := false, opening := !warm, limit := none }
  else { state := some .closing, close := true, opening := false, limit := some Config.closeLimitMs }

/-- The Fire Unit after a reset (R169, R172, R184, R185, R190). -/
def freshFire (warm : Bool) (i : Inputs) (f : FireUnit) : FireUnit :=
  let h := shutterReset warm i f
  { view := 0#8, latch := warm && f.latch, listen := if warm && i.straps.valid then some Config.listenMs else none,
    repeatTimer := none, shutter := h.state, closeOut := h.close, openOut := h.opening, clearTimer := none,
    closeLimit := h.limit, below := none }

/-- A segment after a reset: a stray record for each place that reports a bin, in place order (R132). -/
def freshSegment (g : SegSensors) : Segment :=
  let at_ := fun (b : Bool) (pos : Nat) => if b then [{ content := .stray, pos := pos : PlaceRec }] else []
  { Segment.cleared with places := at_ g.head 1 ++ at_ g.middle 2 ++ at_ g.tail 3 }

/-- The Lane Unit after a reset (R132); in STRAP-FAULT no sensor is read (R28). -/
def freshLanes (i : Inputs) : Lanes :=
  if i.straps.valid then
    { outSeg := freshSegment i.pins.outSeg, backSeg := freshSegment i.pins.backSeg,
      outStand := if i.pins.outStand then .stray else .empty, inStand := if i.pins.inStand then .stray else .empty }
  else Lanes.cleared

/-- The Port Unit after a reset (R151). -/
def freshPort (i : Inputs) : Port :=
  if i.straps.valid && i.straps.port then
    { approach := if i.pins.approach then .stray else .empty, service := if i.pins.service then .stray else .empty,
      advanceLimit := none }
  else Port.cleared

/-- The Crane Sequencer after a reset (R68, R72, R73); entry to STRAP-FAULT sends STOP once (R28). -/
def freshCrane (p : Straps) : Crane :=
  if p.valid then Crane.cleared else { Crane.cleared with lastSent := some .stop }

/-- Every block as the reset leaves it, before the notices and the JOIN. -/
def clearedState (warm : Bool) (i : Inputs) (s : State) : State :=
  { pending := s.pending, pins := i.pins, bus := Bus.cleared, ctl := freshControl warm i.straps s.ctl,
    bins := if warm then warmBins s.bins else [], crane := freshCrane i.straps, est := { time := 0 }, lanes := freshLanes i,
    port := freshPort i, auctions := { records := [], scans := s.auctions.scans }, fire := freshFire warm i s.fire }

/-- The places that a reset has made strays, in place code order (R132, R151). -/
def freshStrays (i : Inputs) : List Nat :=
  let at_ := fun (b : Bool) (code : Nat) => if b then [code] else []
  if i.straps.valid then
    at_ i.pins.outSeg.head 1 ++ at_ i.pins.outSeg.middle 2 ++ at_ i.pins.outSeg.tail 3 ++ at_ i.pins.backSeg.head 4
      ++ at_ i.pins.backSeg.middle 5 ++ at_ i.pins.backSeg.tail 6 ++ at_ i.pins.outStand 7 ++ at_ i.pins.inStand 8
      ++ (if i.straps.port then at_ i.pins.approach 9 ++ at_ i.pins.service 10 else [])
  else []

/-- The notices of a reset: LOST for each record a warm reset made LOST (R67), then STRAY for each stray (R132, R151). -/
def resetNotices (warm : Bool) (i : Inputs) (s : State) : List Notice :=
  (if warm then (warmLost s.bins).map fun n => Notice.lost (i.straps.number.toNat * 2048 + n) 3 else [])
    ++ (freshStrays i).map Notice.stray

/-- The end of a reset. -/
def resetEnds (warm : Bool) (i : Inputs) (s : State) : State :=
  let t := clearedState warm i s
  let t := if i.straps.valid then announce t else t
  let t := (resetNotices warm i s).foldl (fun t n => raise n t) t
  if i.straps.valid && i.pins.fireLine then ownFire t else t

/-- POWER_ON_RESET (R29). -/
def execPowerOnReset (inputs : Inputs) (s : State) : Host.Outcome State Fault Refusal := .next (resetEnds false inputs s)

/-- WARM_RESET (R29): as a power-on reset where the number, T, sides or length has changed. -/
def execWarmReset (inputs : Inputs) (s : State) : Host.Outcome State Fault Refusal :=
  .next (resetEnds (staysWarm s.ctl.straps inputs.straps) inputs s)

end Sys2Proof.Machine
end

