-- ==== Sys2Proof/Machine/Dispatch.lean ====
section
/-! DEFINITION. One arm for each command, each one direct call of its meaning. -/

namespace Sys2Proof.Machine

def exec (i : Instr) (s : State) : Host.Outcome State Fault Refusal :=
  match i with
  | .powerOnReset inputs => Sys2Proof.Machine.execPowerOnReset inputs s
  | .warmReset inputs => Sys2Proof.Machine.execWarmReset inputs s
  | .startPoint => Sys2Proof.Machine.execStartPoint s
  | .arbitrationLost => Sys2Proof.Machine.execArbitrationLost s
  | .transmitError => Sys2Proof.Machine.execTransmitError s
  | .frameOutcome bits => Sys2Proof.Machine.execFrameOutcome bits s
  | .voidMark frame => Sys2Proof.Machine.execVoidMark frame s
  | .orderFrame kind frame => Sys2Proof.Machine.execOrderFrame kind frame s
  | .pass frame => Sys2Proof.Machine.execPass frame s
  | .space frame => Sys2Proof.Machine.execSpace frame s
  | .landed frame => Sys2Proof.Machine.execLanded frame s
  | .jam frame => Sys2Proof.Machine.execJam frame s
  | .bid frame => Sys2Proof.Machine.execBid frame s
  | .room frame => Sys2Proof.Machine.execRoom frame s
  | .fire frame => Sys2Proof.Machine.execFire frame s
  | .clear frame => Sys2Proof.Machine.execClear frame s
  | .join frame => Sys2Proof.Machine.execJoin frame s
  | .call => Sys2Proof.Machine.execCall s
  | .cancel => Sys2Proof.Machine.execCancel s
  | .release => Sys2Proof.Machine.execRelease s
  | .halt => Sys2Proof.Machine.execHalt s
  | .resume => Sys2Proof.Machine.execResume s
  | .doze => Sys2Proof.Machine.execDoze s
  | .wake => Sys2Proof.Machine.execWake s
  | .restart => Sys2Proof.Machine.execRestart s
  | .enrolAdd => Sys2Proof.Machine.execEnrolAdd s
  | .enrolRemove => Sys2Proof.Machine.execEnrolRemove s
  | .audit => Sys2Proof.Machine.execAudit s
  | .identify => Sys2Proof.Machine.execIdentify s
  | .identifyClear => Sys2Proof.Machine.execIdentifyClear s
  | .clearFaults => Sys2Proof.Machine.execClearFaults s
  | .queryStatus => Sys2Proof.Machine.execQueryStatus s
  | .queryRequest => Sys2Proof.Machine.execQueryRequest s
  | .queryBin => Sys2Proof.Machine.execQueryBin s
  | .queryCounts => Sys2Proof.Machine.execQueryCounts s
  | .setupA => Sys2Proof.Machine.execSetupA s
  | .setupB => Sys2Proof.Machine.execSetupB s
  | .joinWaitExpiry => Sys2Proof.Machine.execJoinWaitExpiry s
  | .done => Sys2Proof.Machine.execDone s
  | .probe present => Sys2Proof.Machine.execProbe present s
  | .stopped column level => Sys2Proof.Machine.execStopped column level s
  | .homed loaded => Sys2Proof.Machine.execHomed loaded s
  | .woken => Sys2Proof.Machine.execWoken s
  | .fault code => Sys2Proof.Machine.execFault code s
  | .driveLimitExpiry => Sys2Proof.Machine.execDriveLimitExpiry s
  | .wakeLimitExpiry => Sys2Proof.Machine.execWakeLimitExpiry s
  | .headSensorReport lane present => Sys2Proof.Machine.execHeadSensorReport lane present s
  | .placeSensorReport lane present => Sys2Proof.Machine.execPlaceSensorReport lane present s
  | .tailSensorReport lane present => Sys2Proof.Machine.execTailSensorReport lane present s
  | .offerRetryExpiry lane => Sys2Proof.Machine.execOfferRetryExpiry lane s
  | .handoffLimitExpiry lane => Sys2Proof.Machine.execHandoffLimitExpiry lane s
  | .reservationLimitExpiry lane => Sys2Proof.Machine.execReservationLimitExpiry lane s
  | .divertLimitExpiry lane => Sys2Proof.Machine.execDivertLimitExpiry lane s
  | .entryLimitExpiry lane => Sys2Proof.Machine.execEntryLimitExpiry lane s
  | .outboundStandSensor present => Sys2Proof.Machine.execOutboundStandSensor present s
  | .inboundStandSensor present => Sys2Proof.Machine.execInboundStandSensor present s
  | .approachSensor present => Sys2Proof.Machine.execApproachSensor present s
  | .serviceSensor present => Sys2Proof.Machine.execServiceSensor present s
  | .advanceLimitExpiry => Sys2Proof.Machine.execAdvanceLimitExpiry s
  | .releaseButtonPress => Sys2Proof.Machine.execReleaseButtonPress s
  | .scanEnd roomTag => Sys2Proof.Machine.execScanEnd roomTag s
  | .bidClose roomTag => Sys2Proof.Machine.execBidClose roomTag s
  | .windowEnd roomTag => Sys2Proof.Machine.execWindowEnd roomTag s
  | .fireLineAsserted => Sys2Proof.Machine.execFireLineAsserted s
  | .fireLineReleased => Sys2Proof.Machine.execFireLineReleased s
  | .fireRepeatExpiry => Sys2Proof.Machine.execFireRepeatExpiry s
  | .listenPeriodExpiry => Sys2Proof.Machine.execListenPeriodExpiry s
  | .shutterClearTimeExpiry => Sys2Proof.Machine.execShutterClearTimeExpiry s
  | .closeLimitExpiry => Sys2Proof.Machine.execCloseLimitExpiry s
  | .closedSensorReport closed => Sys2Proof.Machine.execClosedSensorReport closed s
  | .openSensorReport opened => Sys2Proof.Machine.execOpenSensorReport opened s
  | .releaseButtonReleased => Sys2Proof.Machine.execReleaseButtonReleased s

end Sys2Proof.Machine
end

