-- ==== Sys2Proof/Machine/Step.lean ====
section
/-! DEFINITION. The step: the command at the front of the queue, or a tenth of a second of the station's time base when
none waits. -/

namespace Sys2Proof.Machine

open Sys2Proof

/-- One step. With a command at the front of the queue it is executed on the state with the queue's rest. With none,
a tenth of a second passes (R93): DESIGN CHOICE, assumption log 3. -/
def step (s : State) : Host.Outcome State Fault Refusal :=
  match s.pending with
  | [] => .next (tickTime s)
  | c :: rest => exec c { s with pending := rest }

/-- The command a word spells, put at the front of the queue; `s` unchanged where the word spells none. -/
def State.withFetchWord (s : State) (nbits w : Nat) : State :=
  match decodeTableWord nbits w with
  | some c => { s with pending := c :: s.pending }
  | none => s

end Sys2Proof.Machine
end

