-- ==== Sys2Proof/WellFormed.lean ====
section
/-! DEFINITION. The well-formed commands: operands within the ranges the manual gives them. A meaning is total, and says
what it does with every operand; this says which operands the manual speaks of. -/

namespace Sys2Proof

/-- A received frame of a kind with a fixed payload length (R24). -/
def RxFrame.wf (length : Nat) (f : RxFrame) : Bool := decide (f.payload.length = length)

/-- The fixed payload length of an ORDER kind (R24). -/
def OrderKind.length : OrderKind → Nat
  | .call => 6
  | .cancel => 2
  | .release => 3
  | .halt => 0
  | .resume => 0
  | .doze => 0
  | .wake => 0
  | .restart => 0
  | .enrol => 4
  | .audit => 3
  | .identify => 3
  | .clearFaults => 1
  | .query => 3
  | .setupA => 7
  | .setupB => 8

/-- A room tag (R152). -/
def roomTagWf (tag : Nat) : Bool := decide (1 ≤ tag) && decide (tag ≤ 4095)

/-- The well-formed commands. -/
def wellFormed : Instr → Bool
  | .powerOnReset _ => true
  | .warmReset _ => true
  | .startPoint => true
  | .arbitrationLost => true
  | .transmitError => true
  | .frameOutcome _ => true
  | .voidMark f => decide (f.payload.length ≤ 15)
  | .orderFrame k f => f.wf k.length
  | .pass f => f.wf 8
  | .space f => f.wf 1
  | .landed f => f.wf 3
  | .jam f => f.wf 3
  | .bid f => f.wf 2
  | .room f => f.wf 4
  | .fire f => f.wf 1
  | .clear f => f.wf 1
  | .join f => f.wf 5
  | .call => true
  | .cancel => true
  | .release => true
  | .halt => true
  | .resume => true
  | .doze => true
  | .wake => true
  | .restart => true
  | .enrolAdd => true
  | .enrolRemove => true
  | .audit => true
  | .identify => true
  | .identifyClear => true
  | .clearFaults => true
  | .queryStatus => true
  | .queryRequest => true
  | .queryBin => true
  | .queryCounts => true
  | .setupA => true
  | .setupB => true
  | .joinWaitExpiry => true
  | .done => true
  | .probe _ => true
  | .stopped column level => decide (column ≤ 64) && decide (level ≤ 15)
  | .homed _ => true
  | .woken => true
  | .fault code => decide (1 ≤ code) && decide (code ≤ 254)
  | .driveLimitExpiry => true
  | .wakeLimitExpiry => true
  | .headSensorReport _ _ => true
  | .placeSensorReport _ _ => true
  | .tailSensorReport _ _ => true
  | .offerRetryExpiry _ => true
  | .handoffLimitExpiry _ => true
  | .reservationLimitExpiry _ => true
  | .divertLimitExpiry _ => true
  | .entryLimitExpiry _ => true
  | .outboundStandSensor _ => true
  | .inboundStandSensor _ => true
  | .approachSensor _ => true
  | .serviceSensor _ => true
  | .advanceLimitExpiry => true
  | .releaseButtonPress => true
  | .scanEnd tag => roomTagWf tag
  | .bidClose tag => roomTagWf tag
  | .windowEnd tag => roomTagWf tag
  | .fireLineAsserted => true
  | .fireLineReleased => true
  | .fireRepeatExpiry => true
  | .listenPeriodExpiry => true
  | .shutterClearTimeExpiry => true
  | .closeLimitExpiry => true
  | .closedSensorReport _ => true
  | .openSensorReport _ => true
  | .releaseButtonReleased => true

end Sys2Proof
end

