-- ==== Sys2Proof/Safety.lean ====
section
/-! DEFINITION. The words in which the claims about the AS40 are said: what it is to take an order and to reply, which
commands may touch which block, and the properties that every step keeps. -/

namespace Sys2Proof.Safety

open Sys2Proof Sys2Proof.Machine

/-! ### Orders -/

/-- The oldest record of the receive queue is `r`, from the gateway node, and slot `id` has been given to its REPLY
(R16); the station is not in STRAP-FAULT. -/
def Takes (s : State) (id : SlotId) (r : RxRecord) (rest : List RxRecord) : Prop :=
  s.bus.rx = r :: rest ∧ s.bus.slots.grantedSlot = some id ∧ r.sender.toNat = Config.gateway
    ∧ s.ctl.station ≠ .strapFault

/-- In `t` the record has been taken and slot `id` holds `a`, a REPLY not yet started (R16, R17). -/
def Replies (t : State) (id : SlotId) (rest : List RxRecord) (a : Reply) : Prop :=
  t.bus.rx = rest ∧ ∃ n, t.bus.slots.get id = .holds (newQueued (.reply a) n)

/-- A REPLY to the gateway node with no detail and no clamp mark (R17). -/
def plainReply (k : OrderKind) (code : ResultCode) (ref : Nat) : Reply :=
  { dest := Config.gateway, kind := k, clampMark := false, ref := ref, code := code, d0 := 0, d1 := 0, d2 := 0, d3 := 0,
    clears := 0#16 }

/-- The command that takes a record of the receive queue: the row of its kind, and for ENROL, IDENTIFY and QUERY that of
its action, its bin ID or its form (R16; for an action or a form that has no row, assumption log 28). -/
def commandFor (r : RxRecord) : Instr :=
  match r.kind with
  | .call => .call
  | .cancel => .cancel
  | .release => .release
  | .halt => .halt
  | .resume => .resume
  | .doze => .doze
  | .wake => .wake
  | .restart => .restart
  | .enrol => if byteAt r.payload 0 = 2 then .enrolRemove else .enrolAdd
  | .audit => .audit
  | .identify => if wordAt r.payload 1 = 0 then .identifyClear else .identify
  | .clearFaults => .clearFaults
  | .query =>
    match byteAt r.payload 0 with
    | 0 => .queryStatus
    | 1 => .queryRequest
    | 2 => .queryBin
    | _ => .queryCounts
  | .setupA => .setupA
  | .setupB => .setupB

/-- The tag or the bin ID that an order names, and 0 for one that names neither (R17, R26). -/
def namedBy (r : RxRecord) : Nat :=
  match r.kind with
  | .call => wordAt r.payload 2
  | .cancel => wordAt r.payload 0
  | .release => wordAt r.payload 0
  | .enrol => wordAt r.payload 1
  | .identify => wordAt r.payload 1
  | .query => if byteAt r.payload 0 = 1 then wordAt r.payload 1 else 0
  | _ => 0

/-! ### Slots -/

/-- Slot 0 holds nothing but a FIRE, and is never given to a REPLY (R6). -/
def SlotLaw (s : State) : Prop :=
  s.bus.slots.s0 ≠ .granted ∧ ∀ q, s.bus.slots.s0 = .holds q → ∃ m, q.frame = .fire m

/-- No JOIN waits to start beside the frame of slot `id` (R31). -/
def NoOtherJoin (id : SlotId) (s : State) : Prop :=
  (∀ c ∈ s.bus.claims, isJoin c.frame = false) ∧
    ∀ k q, k ≠ id → s.bus.slots.get k = .holds q → q.started = false → isJoin q.frame = false

/-! ### Resets and STRAP-FAULT -/

/-- The place list a reset makes from a segment's sensors (R132). -/
def straysSensed (g : SegSensors) : List PlaceRec :=
  (if g.head then [⟨.stray, 1⟩] else []) ++ (if g.middle then [⟨.stray, 2⟩] else [])
    ++ (if g.tail then [⟨.stray, 3⟩] else [])

/-- What a reset leaves in the Lane Unit and the Port Unit: a stray at every place whose sensor reports a bin, and nothing
else (R132, R151). -/
def PlacesAfterReset (i : Inputs) (t : State) : Prop :=
  t.lanes = { outSeg := { Segment.cleared with places := straysSensed i.pins.outSeg }
              backSeg := { Segment.cleared with places := straysSensed i.pins.backSeg }
              outStand := if i.pins.outStand then .stray else .empty
              inStand := if i.pins.inStand then .stray else .empty } ∧
    t.port = { approach := if i.straps.port && i.pins.approach then .stray else .empty
               service := if i.straps.port && i.pins.service then .stray else .empty
               advanceLimit := none }

/-- What a reset leaves of the shutter after a state `s` (R27, R185, R190): as the sensors and the output held give it,
and with the fire line asserted CLOSED as its sensor reports it or CLOSING. -/
def ShutterAfterReset (warm : Bool) (i : Inputs) (s t : State) : Prop :=
  let fitted := i.straps.shutter = true ∧ i.straps.number.toNat ≠ 1
  (i.pins.fireLine = true →
    (¬ fitted → t.fire.shutter = none ∧ t.fire.closeOut = false ∧ t.fire.openOut = false) ∧
    (fitted → i.pins.shutterClosed = true →
      t.fire.shutter = some .closed ∧ t.fire.closeOut = false ∧ t.fire.openOut = false) ∧
    (fitted → i.pins.shutterClosed = false →
      t.fire.shutter = some .closing ∧ t.fire.closeOut = true ∧ t.fire.openOut = false ∧
        t.fire.closeLimit = some 15000)) ∧
  (i.pins.fireLine = false →
    (¬ fitted → t.fire.shutter = none ∧ t.fire.closeOut = false ∧ t.fire.openOut = false) ∧
    (fitted → i.pins.shutterClosed = true → t.fire.shutter = some .closed ∧ t.fire.closeOut = false) ∧
    (fitted → i.pins.shutterClosed = false → i.pins.shutterOpen = true →
      t.fire.shutter = some .opened ∧ t.fire.openOut = false ∧ t.fire.closeOut = s.fire.closeOut) ∧
    (fitted → i.pins.shutterClosed = false → i.pins.shutterOpen = false → s.fire.openOut = true →
      t.fire.shutter = some .opening ∧ t.fire.openOut = !warm) ∧
    (fitted → i.pins.shutterClosed = false → i.pins.shutterOpen = false → s.fire.openOut = false →
      t.fire.shutter = some .closing ∧ t.fire.closeOut = true ∧ t.fire.closeLimit = some 15000))

/-- What a reset leaves of the alarm view (R169, R170, R185): empty, with no repeat running and no below compartment
known; but a fire line asserted at its end puts the own compartment into the view, queues a FIRE of it alone in slot 0
and starts the repeat. -/
def ViewAfterReset (i : Inputs) (t : State) : Prop :=
  t.fire.below = none ∧ t.fire.clearTimer = none ∧
    (i.pins.fireLine = false → t.fire.view = 0#8 ∧ t.fire.repeatTimer = none ∧ t.bus.slots.s0 = .free) ∧
    (i.pins.fireLine = true →
      t.fire.view = BitVec.ofNat 8 (2 ^ i.straps.compartment.toNat) ∧ t.fire.repeatTimer = some 2000 ∧
        ∃ n, t.bus.slots.s0 = .holds (newQueued (.fire (BitVec.ofNat 8 (2 ^ i.straps.compartment.toNat))) n))

/-- The command is one of the two resets. -/
def isReset : Instr → Bool
  | .powerOnReset _ => true
  | .warmReset _ => true
  | _ => false

/-- A station in STRAP-FAULT has started no frame, holds no order and no claim, and has no limit running and nothing in
flight (R28). -/
def StrapQuiet (s : State) : Prop :=
  s.ctl.station = .strapFault →
    s.bus.slots.started = none ∧ s.bus.claims = [] ∧ s.bus.rx = [] ∧ s.ctl.joinWait = none ∧ s.crane.inFlight = none
      ∧ s.crane.limit = none ∧ s.lanes = Lanes.cleared ∧ s.port = Port.cleared ∧ s.auctions.records = []
      ∧ s.fire.repeatTimer = none ∧ s.fire.listen = none ∧ s.fire.clearTimer = none ∧ s.fire.closeLimit = none

/-! ### The Bin Table -/

/-- The canonical form of the Bin Table, the fill law (R50), and a follow-on list of at most three (R48, R51). -/
def BinLaw (s : State) : Prop :=
  tableWf BinRec.blank s.bins = true ∧
    ∀ e ∈ s.bins, e.2.fill + e.2.hold ≤ 15 ∧ e.2.followOns.length ≤ 3

/-- The four classes of a bin ID at station `n` (R47), said on the ID itself. -/
def idIsOwn (s : State) (bin : Nat) : Prop :=
  1 ≤ s.num ∧ s.num ≤ 24 ∧ bin / 2048 = s.num ∧ (bin % 2048 / 1024 = 1 → s.ctl.straps.twoSided = true) ∧
    bin % 1024 / 16 + 1 ≤ 16 * (s.ctl.straps.lengthClass.toNat + 1)

/-- A record's detail as ENROL replies it (R53). -/
def enrolReply (code : ResultCode) (mark : Bool) (bin : Nat) (b : BinRec) : Reply :=
  { plainReply .enrol code bin with clampMark := mark, d0 := b.state.code, d1 := b.fill * 16 + b.hold }

/-! ### Capacities -/

/-- The receive queue, the notice list, the pool and the auction records, the failure count, the two merge counters, the
continuity count, the counts of the fault record and the station time are within their limits (R8, R15, R19, R45, R68,
R81, R93, R110, R152). -/
def WithinCapacity (s : State) : Prop :=
  s.bus.rx.length ≤ 8 ∧ s.ctl.notices.length ≤ 8 ∧ s.crane.pool.length ≤ 32 ∧ s.auctions.records.length ≤ 4 ∧
    s.bus.failures ≤ 16 ∧ s.lanes.outSeg.merge ≤ 8 ∧ s.lanes.backSeg.merge ≤ 8 ∧ s.crane.continuity ≤ 8 ∧
    s.ctl.record.dropped ≤ 255 ∧ s.ctl.record.deferred ≤ 255 ∧ s.ctl.record.recircs ≤ 255 ∧ s.est.time ≤ 4294967295

/-! ### The ring -/

/-- A frame with a payload of `length` bytes, addressed to this station, from another station, at a station that hears
it (R12, R13). -/
def AddressedHere (s : State) (f : RxFrame) (length : Nat) : Prop :=
  s.ctl.station ≠ .strapFault ∧ s.bus.offBus = false ∧ isStation f.sender.toNat = true ∧ f.sender.toNat ≠ s.num ∧
    isStation s.num = true ∧ f.dest.toNat = s.num ∧ f.payload.length = length

/-- Nothing waits for the tail of the segment to open (R114). -/
def TailQuiet (l : Lane) (s : State) : Prop :=
  localWaits l s = false ∧ (s.seg l.other).head ≠ .deferred ∧ (s.seg l).deferredUp = false

/-- Only the lanes' segment `l` differs between the two. -/
def OnlySegment (l : Lane) (s t : State) : Prop :=
  t.seg l.other = s.seg l.other ∧ t.lanes.outStand = s.lanes.outStand ∧ t.lanes.inStand = s.lanes.inStand

/-- Between `s` and `t` the bin at SERVICE is turned round with `delta` added: bound for its home, and its exit claimed
(R140, R143). -/
def LeavesService (c : Carry) (delta : Int) (s t : State) : Prop :=
  let turned : Carry := ⟨c.bin, c.bin / 2048, .home, 0, .noPurpose, 0, max (-15) (min (c.delta + delta) 15),
    c.filled || decide (c.purpose = .fill)⟩
  (∃ l, t.port.service = .released turned (some l) ∨ t.port.service = .entering turned l) ∧
    t.port.approach = s.port.approach ∧ lampLit t = false

/-- Ring hold keeps bins still: a segment that RUNS has an empty alarm view, no listen period running, a station that is
not JOINING, DOZE, SHUTDOWN or RECOVERY, and no shutter that is not OPEN (R129, R186). -/
def RingHoldLaw (s : State) : Prop :=
  (s.lanes.outSeg.cond = .running ∨ s.lanes.backSeg.cond = .running) →
    s.fire.view = 0#8 ∧ s.fire.listen = none ∧ s.ctl.station ≠ .joining ∧ s.ctl.station ≠ .doze ∧
      s.ctl.station ≠ .shutdown ∧ s.ctl.station ≠ .recovery ∧ (s.fire.shutter = none ∨ s.fire.shutter = some .opened)

/-- No PASS of an OFFERING head waits to start: the beginning of ring hold takes back the offers that have not started
(R119, R129). -/
def OffersStarted (s : State) : Prop :=
  ∀ l, (s.seg l).head = .offering →
    (∀ c ∈ s.bus.claims, isPassOf l c.frame = false) ∧
      ∀ id q, s.bus.slots.get id = .holds q → isPassOf l q.frame = true → q.started = true

/-! ### Fire -/

/-- A broadcast frame with a payload of `length` bytes that the station hears, and that is not its own (R12, R13). An
off-bus station hears the ALARM and the JOIN frames too (R9). -/
def BroadcastHere (s : State) (f : RxFrame) (length : Nat) : Prop :=
  s.ctl.station ≠ .strapFault ∧ deafSender f.sender.toNat = false ∧ f.sender.toNat ≠ s.num ∧ f.dest = 0#5 ∧
    f.payload.length = length

/-- The shutter law (R189): OPEN and CLOSE are never driven together; OPEN is driven only in OPENING; and while the state
is OPENING, CLOSE is not driven and neither adjacent compartment is in the alarm view, nor any compartment at all where
the one below is unknown. -/
def ShutterLaw (s : State) : Prop :=
  (s.fire.openOut = true → s.fire.closeOut = false ∧ s.fire.shutter = some .opening) ∧
    (s.fire.shutter = some .opening → s.fire.closeOut = false ∧
      s.ownAlarmed = false ∧ (s.fire.below = none → s.fire.view = 0#8) ∧
      (∀ b, s.fire.below = some b → s.alarmed b = false))

/-- The station state agrees with the alarm view and the fire latch (R175, R179, R184). -/
def AlarmLaw (s : State) : Prop :=
  (s.ctl.station = .shutdown → s.ownAlarmed = true ∧ s.fire.latch = true ∧ s.crane.restartRun = false) ∧
    (s.ctl.station = .recovery → s.ownAlarmed = false ∧ s.fire.latch = true) ∧
    (s.ctl.station = .active ∨ s.ctl.station = .doze → s.ownAlarmed = false)

/-- The crane is UNREFERENCED, STOPPED, FAULTED or ASLEEP (R180): it rests until a RESTART or a HOME. -/
def AtRest (c : CraneState) : Prop := c = .unreferenced ∨ c = .stopped ∨ c = .faulted ∨ c = .asleep

/-- The law of the stopped crane (R176, R177): a crane at rest has no command but a STOP in flight, and while the station
is SHUTDOWN the crane is at rest, no job is ACTIVE or HALTED, and no RESTART run is under way. -/
def StoppedCraneLaw (s : State) : Prop :=
  (AtRest s.crane.state → s.crane.inFlight = none ∨ s.crane.inFlight = some .stop) ∧
    (s.ctl.station = .shutdown → AtRest s.crane.state ∧ s.crane.restartRun = false ∧
      ∀ j ∈ s.crane.pool, j.state = .waiting ∨ j.state = .frozen)

end Sys2Proof.Safety
end

