-- ==== Sys2Proof/Certificates/Slice0/Obligations.lean ====
section
/-! DEFINITION. The statements about the AS40 for the provers, chapter by chapter. -/

open Sys2Proof Sys2Proof.Machine Sys2Proof.Safety

/-! ### The Wing Bus -/

/-- R7: at a start point the queued frame with the lowest arbitration word begins, and of two equal words the one
queued earlier; nothing else changes. -/
def Obligations.StartPointSendsLowestWord : Prop :=
  ∀ s : State, s.ctl.station ≠ .strapFault → s.bus.offBus = false → s.bus.slots.started = none →
    (∃ id q, s.bus.slots.get id = .holds q) →
    ∃ id q, s.bus.slots.get id = .holds q ∧
      (∀ id' q', s.bus.slots.get id' = .holds q' →
        q.frame.word s.num < q'.frame.word s.num
          ∨ (q.frame.word s.num = q'.frame.word s.num ∧ q.order ≤ q'.order)) ∧
      exec .startPoint s = .next { s with bus := { s.bus with
        slots := s.bus.slots.set id (.holds { q with started := true }), tx := some (q.frame.image s.num) } }

/-- R7, R8, R9, R10 (with R158, R164): a frame that loses arbitration stays queued and unstarted and the failure count does
not change; an own BID whose abort waited for the loss is returned ABORTED and its auction record is LOST. A transmit
error stops the driving and adds 1 to the count. A JOIN that loses arbitration with a fresh JOIN queued behind it stays,
brought up to date, and the fresh one goes (R31; which of the two goes is the model's choice, assumption log 57). The
sixteenth failure in a row takes the station off-bus: every frame not started and every claim goes, the receive queue is
emptied, OFF-BUS-EVENT is set, and no auction record stays SCANNING or BIDDING. (That the count rises at the error
itself is the model's reading, assumption log 8.) -/
def Obligations.TransmitFailuresLeadOffBus : Prop :=
  (∀ (s : State) (id : SlotId) (q : Queued), s.bus.slots.started = some id → s.bus.slots.get id = .holds q →
    q.errored = false →
    (q.abortAsked = false → (isJoin q.frame = true → NoOtherJoin id s) →
      exec .arbitrationLost s = .next { s with bus := { s.bus with
        slots := s.bus.slots.set id (.holds { q with started := false }), tx := none } }) ∧
    (q.abortAsked = false → isJoin q.frame = true → s.bus.claims = [] → s.ctl.notices = [] → s.bus.rx = [] →
      ∀ k q', k ≠ id → k ≠ .s0 → s.bus.slots.get k = .holds q' → q'.started = false → isJoin q'.frame = true →
      (∀ m p, s.bus.slots.get m = .holds p → isJoin p.frame = true → m = id ∨ m = k) →
      exec .arbitrationLost s = .next { s with bus := { s.bus with
        slots := (s.bus.slots.set id (.holds { q with frame := .join (joinBody s), started := false })).set k .free,
        tx := none } }) ∧
    (q.abortAsked = true → ∀ tag v r, q.frame = .bid tag v → auctionOf tag s = some r → r.phase = .bidding →
      r.bidReturned = false →
      ∃ t, exec .arbitrationLost s = .next t ∧ t.bus.failures = s.bus.failures ∧ t.bus.tx = none ∧
        auctionOf tag t = some { r with phase := .lost, bidReturned := true } ∧
        (∀ i, r.candidate = some i → t.bins = tablePut BinRec.blank s.bins i { binAt i s with hold := 0 }))) ∧
  (∀ (s : State) (id : SlotId) (q : Queued), s.bus.slots.started = some id → s.bus.slots.get id = .holds q →
    q.errored = false → s.bus.failures < 15 →
    exec .transmitError s = .next { s with bus := { s.bus with
      slots := s.bus.slots.set id (.holds { q with errored := true }), tx := none, failures := s.bus.failures + 1 } }) ∧
  (∀ (s : State) (id : SlotId) (q : Queued), s.bus.slots.started = some id → s.bus.slots.get id = .holds q →
    (∀ id' q', s.bus.slots.get id' = .holds q' → q'.started = true → id' = id) →
    q.errored = false → s.bus.failures = 15 → s.bus.offBus = false →
    (s.auctions.records.map Auction.roomTag).Nodup →
    ∃ t, exec .transmitError s = .next t ∧ t.bus.offBus = true ∧ t.bus.failures = 16 ∧ t.bus.rx = [] ∧
      t.bus.claims = [] ∧ t.bus.firePending = none ∧ t.ctl.notices = [] ∧ t.ctl.record.offBusEvent = true ∧
      (∀ id', id' ≠ id → t.bus.slots.get id' = .free) ∧
      (∃ q', t.bus.slots.get id = .holds q' ∧ q'.started = true ∧ q'.errored = true) ∧
      (∀ r ∈ t.auctions.records, r.phase ≠ .scanning ∧ r.phase ≠ .bidding) ∧
      t.pins = s.pins ∧ t.est = s.est ∧ t.fire = s.fire ∧ t.ctl.station = s.ctl.station ∧ t.ctl.setup = s.ctl.setup)

/-- R4, R6, R8, R11, R20, R158, R160: a frame that ends VOID stays queued, unstarted, and adds 1 to the failure count; a
broadcast frame that is not voided leaves its slot and sets the count to 0. A FIRE returned SENT marks the auction
records void, and one that waited for slot 0 takes it; a BID returned SENT is compared with the lowest seen. A NOTICE
that ends TAKEN is finished, and one that ends HELD or NONE sets its kind's position in the pending set; the REPLY to
QUERY STATUS clears, when it ends TAKEN, the positions that it carries to be cleared; both leave their slot. -/
def Obligations.FrameOutcomeEndsTheFrame : Prop :=
  (∀ (s : State) (id : SlotId) (q : Queued) (bits : AnswerBits), s.bus.slots.started = some id →
    s.bus.slots.get id = .holds q → q.errored = false →
    (bits.voidMark = true → q.abortAsked = false → s.bus.offBus = false → s.bus.failures < 15 →
      (isJoin q.frame = true → NoOtherJoin id s) →
      exec (.frameOutcome bits) s = .next { s with bus := { s.bus with
        slots := s.bus.slots.set id (.holds { q with started := false }), tx := none,
        failures := s.bus.failures + 1 } }) ∧
    (bits.voidMark = false → ((∃ l b, q.frame = .jam l b) ∨ ∃ b, q.frame = .join b) → id ≠ .s0 →
      s.bus.claims = [] → s.ctl.notices = [] → s.bus.rx = [] →
      exec (.frameOutcome bits) s = .next { s with bus := { s.bus with
        slots := s.bus.slots.set id .free, tx := none, failures := 0 } })) ∧
  (∀ (s : State) (id : SlotId) (q : Queued) (bits : AnswerBits), s.bus.slots.started = some id →
    s.bus.slots.get id = .holds q → q.errored = false → bits.voidMark = false → bits.answerMark = false →
    ((∃ m, q.frame = .fire m) → id = .s0 →
      (s.bus.firePending = none → s.auctions.records = [] →
        exec (.frameOutcome bits) s = .next { s with bus := { s.bus with
          slots := s.bus.slots.set .s0 .free, tx := none, failures := 0 } }) ∧
      ∃ t, exec (.frameOutcome bits) s = .next t ∧ t.bus.failures = 0 ∧ t.bus.tx = none ∧ t.bus.firePending = none ∧
        (∀ r ∈ t.auctions.records, r.voidMark = true) ∧
        (∀ m, s.bus.firePending = some m → ∃ n, t.bus.slots.s0 = .holds (newQueued (.fire m) n))) ∧
    (∀ tag v, q.frame = .bid tag v → id ≠ .s0 → s.bus.claims = [] → s.ctl.notices = [] → s.bus.rx = [] →
      let ended := { s.bus with slots := s.bus.slots.set id .free, tx := none, failures := 0 }
      (auctionOf tag s = none → exec (.frameOutcome bits) s = .next { s with bus := ended }) ∧
      (∀ r own, auctionOf tag s = some r → r.phase = .bidding → r.bidReturned = false → r.own = some own →
        ∃ t u, exec (.frameOutcome bits) s = .next t ∧ t = { s with bus := ended, auctions := t.auctions } ∧
          auctionOf tag t = some u ∧ u = { r with bidReturned := true, lowest := u.lowest } ∧
          u.lowest = (match r.lowest with
            | none => some ⟨own, s.num⟩
            | some b => if own < b.value ∨ (own = b.value ∧ s.num < b.station) then some ⟨own, s.num⟩ else some b)))) ∧
  (∀ (s : State) (id : SlotId) (q : Queued) (bits : AnswerBits), s.bus.slots.started = some id →
    s.bus.slots.get id = .holds q → q.errored = false → bits.voidMark = false →
    let taken := bits.answerMark = true ∧ bits.answerKind = true
    let leaves := fun (t : State) (whole : Prop) =>
      id ≠ .s0 → s.bus.claims = [] → s.ctl.notices = [] → s.bus.rx = [] →
        t.bus.slots.get id = .free ∧ (whole → t.bus.slots = s.bus.slots.set id .free)
    (∀ n, q.frame = .notice n →
      ∃ t, exec (.frameOutcome bits) s = .next t ∧
        t = { s with
          bus := t.bus
          ctl := { s.ctl with
            notices := t.ctl.notices
            pendingSet := if bits.answerMark && bits.answerKind then s.ctl.pendingSet
              else s.ctl.pendingSet ||| BitVec.ofNat 16 (2 ^ n.code) } } ∧
        t.bus.failures = 0 ∧ t.bus.tx = none ∧ leaves t taken) ∧
    (∀ r, q.frame = .reply r → r.dest = Config.gateway →
      ∃ t, exec (.frameOutcome bits) s = .next t ∧
        t = { s with
          bus := t.bus
          ctl := { s.ctl with
            notices := t.ctl.notices
            pendingSet := if bits.answerMark && bits.answerKind then s.ctl.pendingSet &&& ~~~r.clears
              else s.ctl.pendingSet } } ∧
        t.bus.failures = 0 ∧ t.bus.tx = none ∧ leaves t True))

/-- R3: of a received frame of class 0 to 4 from a station or node, the station drives the void mark exactly when the
check or the length is wrong, or no row of the kind code table fits kind, class, length and destination. Nothing but
the answer changes. -/
def Obligations.VoidMarkOnAFaultyFrame : Prop :=
  ∀ (s : State) (f : RawFrame), s.ctl.station ≠ .strapFault → f.arb.toNat / 8192 ≤ 4 →
    deafSender (f.arb.toNat % 32) = false →
    ∃ t, exec (.voidMark f) s = .next t ∧ t = { s with bus := { s.bus with answer := t.bus.answer } } ∧
      (t.bus.answer = driveVoid ↔ s.bus.offBus = false ∧
        ¬ (f.check = some (checkOf f.arb f.ctrl f.payload) ∧ f.payload.length = f.ctrl.toNat % 16 ∧
          ∃ r ∈ kindTable, r.code = f.ctrl.toNat / 16 % 128 ∧ r.cls = f.arb.toNat / 8192 ∧
            r.length = f.ctrl.toNat % 16 ∧ ¬ (25 ≤ f.ctrl.toNat / 2048 ∧ f.ctrl.toNat / 2048 ≤ 29) ∧
            (r.addressing = .broadcast → f.ctrl.toNat / 2048 = 0) ∧
            (r.addressing = .addressed → f.ctrl.toNat / 2048 ≠ 0))) ∧
      (t.bus.answer = driveVoid ∨ t.bus.answer = silent)

/-- R15 (with R12), R13, R35, R178: an ORDER for this station is stored at the tail of a queue of fewer than 8, an
addressed one answered TAKEN; at a full queue an addressed one is answered HELD, and a broadcast one dropped and counted.
At its take an order from a sender other than the gateway node is replied UNSUPPORTED to that sender; one from the
gateway node is replied NOT-READY in JOINING unless it is SETUP-A, SETUP-B, QUERY, CLEAR-FAULTS (or RESTART, of which see
RestartReferencesTheCrane), CLOSED in SHUTDOWN for CALL, ENROL and AUDIT, NOT-READY in SHUTDOWN for RESTART, and NOT-READY
in SHUTDOWN and RECOVERY for HALT, RESUME, DOZE, WAKE and the two SETUP orders, which are NOT-READY in ACTIVE and DOZE too;
the order changes nothing then. Every such REPLY has all details 0. (That no detail is replied in JOINING and to another
sender is the model's choice, assumption log 70. That RESTART in SHUTDOWN is replied with all details 0, by R178 and not
with the crane state code of R180, is the model's reading, DEDUCED, assumption log 50. The reference of a QUERY is
log 26.) -/
def Obligations.OrderFrameIsStoredHeldOrDropped : Prop :=
  (∀ (s : State) (r : RxRecord) (rest : List RxRecord) (id : SlotId), s.bus.rx = r :: rest →
    s.bus.slots.grantedSlot = some id → s.ctl.station ≠ .strapFault →
    let gateway := r.sender.toNat = Config.gateway
    let refused := fun (code : ResultCode) =>
      ∃ t, exec (commandFor r) s = .next t ∧
        Replies t id rest { plainReply r.kind code (namedBy r) with dest := r.sender.toNat } ∧ t = { s with bus := t.bus }
    (¬ gateway → refused .unsupported) ∧
    (gateway → s.ctl.station = .joining →
      r.kind ∈ [OrderKind.call, .cancel, .release, .halt, .resume, .doze, .wake, .enrol, .audit, .identify] →
      refused .notReady) ∧
    (gateway → s.ctl.station = .shutdown → r.kind ∈ [OrderKind.call, .enrol, .audit] → refused .closed) ∧
    (gateway → s.ctl.station = .shutdown → r.kind = .restart → refused .notReady) ∧
    (gateway → s.ctl.station = .shutdown ∨ s.ctl.station = .recovery →
      r.kind ∈ [OrderKind.halt, .resume, .doze, .wake, .setupA, .setupB] → refused .notReady) ∧
    (gateway → s.ctl.station = .active ∨ s.ctl.station = .doze → r.kind ∈ [OrderKind.setupA, .setupB] →
      refused .notReady)) ∧
  ∀ (s : State) (k : OrderKind) (f : RxFrame), s.ctl.station ≠ .strapFault → s.bus.offBus = false →
    deafSender f.sender.toNat = false → f.sender.toNat ≠ s.num → f.payload.length = k.length →
    (f.dest.toNat = s.num ∧ isStation s.num = true ∨ f.dest.toNat = 0 ∧ (orderRow k).addressing = .either) →
    ∃ t, exec (.orderFrame k f) s = .next t ∧
      (s.bus.rx.length < 8 →
        t = { s with bus := t.bus } ∧ t.bus.failures = s.bus.failures ∧ t.bus.claims = s.bus.claims ∧
        t.bus.rx = s.bus.rx ++ [⟨f.sender, decide (f.dest.toNat ≠ 0), k, f.param, f.payload⟩] ∧
        t.bus.answer = if f.dest.toNat = 0 then silent else driveTaken) ∧
      (8 ≤ s.bus.rx.length → f.dest.toNat ≠ 0 → t = { s with bus := { s.bus with answer := driveHeld } }) ∧
      (8 ≤ s.bus.rx.length → f.dest.toNat = 0 → s.ctl.record.dropped ≤ 255 →
        t = { s with
          bus := { s.bus with answer := silent }
          ctl := { s.ctl with record := { s.ctl.record with dropped := min 255 (s.ctl.record.dropped + 1) } } })

/-- R19: a notice that arises is masked, queued, listed with a claim, or not kept, and where it is not sent its kind's
position is set in the pending set. -/
def Obligations.NoticeIsQueuedListedOrPending : Prop :=
  ∀ (s : State) (n : Notice),
    let t := raise n s
    let masked := s.ctl.setup.noticeMask.getLsbD n.code || s.bus.offBus
    (masked = true → t.ctl = { s.ctl with pendingSet := s.ctl.pendingSet ||| BitVec.ofNat 16 (2 ^ n.code) } ∧
      t.bus.claims = s.bus.claims) ∧
    (masked = false → ∀ id, s.bus.slots.freeSlot = some id →
      t.ctl = s.ctl ∧ t.bus.slots = s.bus.slots.set id (.holds (newQueued (.notice n) s.bus.order))) ∧
    (masked = false → s.bus.slots.freeSlot = none → s.ctl.notices.length < 8 →
      t.ctl = { s.ctl with notices := s.ctl.notices ++ [{ notice := n, since := s.bus.order }] } ∧
      t.bus.slots = s.bus.slots) ∧
    (masked = false → s.bus.slots.freeSlot = none → 8 ≤ s.ctl.notices.length →
      t.ctl = { s.ctl with pendingSet := s.ctl.pendingSet ||| BitVec.ofNat 16 (2 ^ n.code) }) ∧
    t = { s with bus := t.bus, ctl := t.ctl }

/-- R21, R22, R23: QUERY STATUS reports the pending set and the four detail bytes. QUERY REQUEST refuses a tag of 0 or
above 4,095 with BAD-FIELD, and otherwise reports the first place where the tag is found: the first such job of the
pool, the follow-on entry of lowest index and there the oldest, the current call of lowest index (R66), or nowhere.
QUERY BIN answers UNKNOWN-BIN for an index above 2,047, on an absent side or in an absent column, and otherwise the
record. None of them changes anything but the Bus Interface. (The reference 0 of an UNKNOWN-BIN is the model's reading,
assumption log 26.) -/
def Obligations.QueryReports : Prop :=
  (∀ (s : State) (id : SlotId) (r : RxRecord) (rest : List RxRecord), Takes s id r rest → r.kind = .query →
    byteAt r.payload 0 = 0 →
    ∃ t, exec .queryStatus s = .next t ∧ t = { s with bus := t.bus } ∧
      Replies t id rest
        { plainReply .query .done s.ctl.pendingSet.toNat with
          d0 := s.ctl.station.code * 16 + s.crane.state.code
          d1 := s.lanes.outSeg.cond.code + 4 * s.lanes.backSeg.cond.code
            + (if s.lanes.outSeg.head = .jammed then 16 else 0) + (if s.lanes.backSeg.head = .jammed then 32 else 0)
          d2 := (if s.ctl.record.shutterFault then 1 else 0) + (if s.ctl.record.driveFault then 2 else 0)
            + (if s.ctl.record.offBusEvent then 4 else 0) + (if s.ctl.record.ringMismatch then 8 else 0)
            + (if s.fire.latch then 16 else 0)
          d3 := s.crane.pool.length
          clears := s.ctl.pendingSet }) ∧
  (∀ (s : State) (id : SlotId) (r : RxRecord) (rest : List RxRecord), Takes s id r rest → r.kind = .query →
    byteAt r.payload 0 = 1 →
    let tag := wordAt r.payload 1
    let found := fun (place info index : Nat) =>
      { plainReply .query .done tag with d0 := place, d1 := info, d2 := index / 256, d3 := index % 256 }
    ∃ t a, exec .queryRequest s = .next t ∧ t = { s with bus := t.bus } ∧ Replies t id rest a ∧
      (tag = 0 ∨ 4095 < tag → a = plainReply .query .badField tag) ∧
      (1 ≤ tag → tag ≤ 4095 → ∀ j, s.crane.pool.find? (fun j => j.tag == tag) = some j →
        a = found 1 (j.state.code * 16 + j.stage.code) (indexOf j.bin)) ∧
      (1 ≤ tag → tag ≤ 4095 → (∀ j ∈ s.crane.pool, j.tag ≠ tag) → tableWf BinRec.blank s.bins = true →
        ∀ i p, (binAt i s).followOns[p]?.map FollowOn.tag = some tag →
          (∀ f ∈ (binAt i s).followOns.take p, f.tag ≠ tag) →
          (∀ k < i, ∀ f ∈ (binAt k s).followOns, f.tag ≠ tag) → a = found 2 (p + 1) i) ∧
      (1 ≤ tag → tag ≤ 4095 → (∀ j ∈ s.crane.pool, j.tag ≠ tag) → tableWf BinRec.blank s.bins = true →
        (∀ e ∈ s.bins, ∀ f ∈ e.2.followOns, f.tag ≠ tag) →
        ∀ i, (binAt i s).call.map Call.tag = some tag → (∀ k < i, (binAt k s).call.map Call.tag ≠ some tag) →
          a = found 3 0 i) ∧
      (1 ≤ tag → tag ≤ 4095 → (∀ j ∈ s.crane.pool, j.tag ≠ tag) →
        (∀ e ∈ s.bins, ∀ f ∈ e.2.followOns, f.tag ≠ tag) → (∀ e ∈ s.bins, e.2.call.map Call.tag ≠ some tag) →
        a = found 0 0 0)) ∧
  (∀ (s : State) (id : SlotId) (r : RxRecord) (rest : List RxRecord), Takes s id r rest → r.kind = .query →
    byteAt r.payload 0 = 2 →
    let i := wordAt r.payload 1
    let b := binAt i s
    let wrong := 2047 < i ∨ (i / 1024 = 1 ∧ s.ctl.straps.twoSided = false)
      ∨ 16 * (s.ctl.straps.lengthClass.toNat + 1) < i % 1024 / 16 + 1
    ∃ t a, exec .queryBin s = .next t ∧ t = { s with bus := t.bus } ∧ Replies t id rest a ∧
      (wrong → a = plainReply .query .unknownBin 0) ∧
      (¬ wrong → b.state = .absent → a = plainReply .query .done (s.num * 2048 + i)) ∧
      (¬ wrong → b.state ≠ .absent →
        a = { plainReply .query .done (s.num * 2048 + i) with
          d0 := b.state.code
          d1 := b.fill * 16 + b.hold
          d2 := match b.call with
            | some c => c.port
            | none => if b.state = .lifting ∨ b.state = .out then s.num else 0
          d3 := match b.call with
            | some _ => 1
            | none => if b.state = .lifting ∨ b.state = .out then 2 else 0 }))

/-- R24, R25, R118: a PASS read back by its receiver gives the lane and the carry record that the sender laid into its
bytes, for every carry record whose fields lie in their ranges. -/
def Obligations.PassDecodesToItsCarryRecord : Prop :=
  ∀ (l : Lane) (c : Carry), c.bin < 65536 → c.dest < 256 → c.tag < 65536 → c.recirc ≤ 15 → -15 ≤ c.delta →
    c.delta ≤ 15 →
    passCarry (passBytes l c) = c ∧ laneOf (byteAt (passBytes l c) 5) = l ∧ (passBytes l c).length = 8

/-! ### Station States and the Roster -/

/-- R29, R34, R132, R151, R169, R170, R190: what a power-on reset leaves where the straps are valid: JOINING, the
power-on defaults, a roster of the own entry alone, a clear fault record, no warm-start mark, every bin record ABSENT,
the crane UNREFERENCED; a stray at every place of the segments, the stands and the port whose sensor reports a bin; an
empty alarm view and the shutter as its sensors and the output held give it. A fire line asserted at the end of the
reset is a change to asserted: the own compartment is in the view, its FIRE in slot 0, the repeat runs, and a shutter
not CLOSED is CLOSING. -/
def Obligations.PowerOnResetLeaves : Prop :=
  ∀ (s : State) (i : Inputs), i.straps.valid = true →
    ∃ t, exec (.powerOnReset i) s = .next t ∧ t.pending = s.pending ∧ t.pins = i.pins ∧ t.ctl.straps = i.straps ∧
      t.ctl.station = .joining ∧ t.ctl.joinWait = some 10000 ∧
      t.ctl.setup = { hPitch := 60, hRamp := 800, vPitch := 120, vRamp := 600, fork := 3000, settle := 200, hop := 2400,
                      handoffLimit := 6000, bidWindow := 100, packWeight := 2, recircLimit := 6, mergeContinuity := 4,
                      storageContinuity := 3, clearTime := 8000, wakeLimit := 2000, takesReturns := true,
                      noticeMask := 0#16 } ∧
      (∀ n, rosterOf n t = if n = i.straps.number.toNat
        then { present := true, compartment := i.straps.compartment.toNat, port := i.straps.port, announced := .joining }
        else RosterEntry.cleared) ∧
      t.ctl.record = FaultRecord.clear ∧ t.fire.latch = false ∧ t.fire.listen = none ∧ t.ctl.warmStart = false ∧
      t.ctl.pendingSet = 0#16 ∧ (∀ n, binAt n t = BinRec.blank) ∧ t.crane = Crane.cleared ∧ t.est.time = 0 ∧
      t.auctions.records = [] ∧ t.bus.rx = [] ∧ t.bus.failures = 0 ∧ t.bus.offBus = false ∧ t.bus.tx = none ∧
      PlacesAfterReset i t ∧ ShutterAfterReset false i s t ∧ ViewAfterReset i t

/-- R29, R67, R132, R151, R169, R170, R172, R190: what a warm reset leaves where the straps are valid and number, T,
sides and length are as before: the setup parameters, the sticky flags and the fire latch are kept, the counts are 0,
the listen period runs; the places, the alarm view and the shutter are as after a power-on reset, but that OPEN is not
driven. Each record of the Bin Table is set by its state: a STORED one loses hold and list, a LIFTING or STORING one
becomes LOST, an OUT or LOST one keeps its hold only with a call of purpose FILL behind it. With another number, T,
sides or length it is a power-on reset. -/
def Obligations.WarmResetKeeps : Prop :=
  (∀ (s : State) (i : Inputs), i.straps.valid = true → i.straps.number = s.ctl.straps.number →
    i.straps.top = s.ctl.straps.top → i.straps.twoSided = s.ctl.straps.twoSided →
    i.straps.lengthClass = s.ctl.straps.lengthClass →
    ∃ t, exec (.warmReset i) s = .next t ∧ t.pending = s.pending ∧ t.pins = i.pins ∧ t.ctl.straps = i.straps ∧
      t.ctl.station = .joining ∧ t.ctl.joinWait = some 10000 ∧ t.ctl.setup = s.ctl.setup ∧
      t.ctl.record = { s.ctl.record with dropped := 0, deferred := 0, recircs := 0 } ∧
      t.fire.latch = s.fire.latch ∧ t.fire.listen = some 3000 ∧ t.ctl.warmStart = true ∧ t.bins = warmBins s.bins ∧
      t.crane = Crane.cleared ∧ t.est.time = 0 ∧ t.auctions.records = [] ∧ t.bus.rx = [] ∧ t.bus.failures = 0 ∧
      t.bus.offBus = false ∧ PlacesAfterReset i t ∧ ShutterAfterReset true i s t ∧ ViewAfterReset i t ∧
      (∀ n, let b := binAt n s
        let filled := (∃ k, b.call = some k ∧ k.purpose = .fill) ∨ ∃ e ∈ b.followOns, e.purpose = .fill
        (b.state = .absent → binAt n t = b) ∧
        (b.state = .stored → binAt n t = { b with hold := 0, followOns := [] }) ∧
        (b.state = .lifting → binAt n t = { b with state := .lost, call := none, hold := 0, followOns := [] }) ∧
        (b.state = .storing → binAt n t = { b with state := .lost, hold := 0, followOns := [] }) ∧
        (b.state = .out ∨ b.state = .lost → filled → binAt n t = b) ∧
        (b.state = .out ∨ b.state = .lost → ¬ filled → binAt n t = { b with hold := 0 }))) ∧
  (∀ (s : State) (i : Inputs), i.straps.number ≠ s.ctl.straps.number ∨ i.straps.top ≠ s.ctl.straps.top ∨
      i.straps.twoSided ≠ s.ctl.straps.twoSided ∨ i.straps.lengthClass ≠ s.ctl.straps.lengthClass →
    ∃ t, exec (.warmReset i) s = .next t ∧ exec (.powerOnReset i) s = .next t ∧
      (i.straps.valid = true → t.ctl.setup = Setup.powerOn ∧ t.bins = [] ∧ t.ctl.record = FaultRecord.clear))

/-- R27, R28, R29: a reset with invalid straps leaves the station in STRAP-FAULT, with STOP sent on the drive link and
nothing started, and a roster of the own entry alone where the strapped number is a station's; then no command but a
reset changes anything. -/
def Obligations.StrapFaultTakesPartInNothing : Prop :=
  (∀ (s : State) (i : Inputs), i.straps.valid = false →
    ∃ t u, exec (.powerOnReset i) s = .next t ∧ exec (.warmReset i) s = .next u ∧ StrapQuiet t ∧ StrapQuiet u ∧
      t.ctl.station = .strapFault ∧ u.ctl.station = .strapFault ∧ t.crane.lastSent = some .stop ∧
      u.crane.lastSent = some .stop ∧ t.ctl.roster = u.ctl.roster ∧
      (∀ n, rosterOf n t = if n = i.straps.number.toNat ∧ 1 ≤ n ∧ n ≤ 24
        then { present := true, compartment := i.straps.compartment.toNat, port := i.straps.port, announced := .strapFault }
        else RosterEntry.cleared)) ∧
  (∀ (s : State) (c : Instr), StrapQuiet s → s.ctl.station = .strapFault → isReset c = false → exec c s = .next s)

/-- That a station in STRAP-FAULT has nothing started, held or running is kept by every step (R28). -/
def Obligations.StrapQuietIsKept : Prop :=
  ∀ s t : State, StrapQuiet s → step s = .next t → StrapQuiet t

/-- R30, R32, R33, R34, R73: SETUP-A and SETUP-B while JOINING set all the frame's parameters, each clamped into its range,
replied CLAMPED with the clamp mark where one was out of it and DONE otherwise; out of JOINING they are NOT-READY. SETUP-B
and the join wait end JOINING: SHUTDOWN where the own compartment is in the view, else RECOVERY where the latch is set,
else ACTIVE with the first HOME run under way; a crane made FAULTED while JOINING is sent no HOME and stays FAULTED. -/
def Obligations.JoiningTakesSetupAndEnds : Prop :=
  (∀ s : State, s.ctl.station = .joining → s.ctl.joinWait.isSome = true → s.crane.state = .unreferenced →
    s.crane.inFlight = none → s.crane.pool = [] →
    ∃ t, exec .joinWaitExpiry s = .next t ∧ t.ctl.joinWait = none ∧ t.ctl.setup = s.ctl.setup ∧
      t.pins = s.pins ∧ t.est = s.est ∧ t.auctions = s.auctions ∧ t.bins = s.bins ∧ t.crane.pool = [] ∧
      (s.ownAlarmed = true → t.ctl.station = .shutdown ∧ t.crane.state = .unreferenced ∧ t.crane.inFlight = none ∧
        t.fire.latch = true) ∧
      (s.ownAlarmed = false → s.fire.latch = true → t.ctl.station = .recovery ∧ t.crane = s.crane ∧
        t.fire.latch = true) ∧
      (s.ownAlarmed = false → s.fire.latch = false → t.ctl.station = .active ∧ t.crane.state = .homing ∧
        t.crane.inFlight = some .home ∧ t.crane.limit = some 60000 ∧ t.fire.latch = false)) ∧
  (∀ s : State, s.ctl.station = .joining → s.ctl.joinWait.isSome = true → s.crane.state = .faulted →
    s.crane.inFlight = none → s.ownAlarmed = false → s.fire.latch = false →
    ∃ t, exec .joinWaitExpiry s = .next t ∧ t.ctl.station = .active ∧ t.ctl.joinWait = none ∧ t.crane = s.crane) ∧
  (∀ (s : State) (id : SlotId) (r : RxRecord) (rest : List RxRecord), Takes s id r rest →
    let accepted := fun (k : OrderKind) (clamped : Bool) =>
      { plainReply k (if clamped then .clamped else .done) 0 with clampMark := clamped }
    (r.kind = .setupA → s.ctl.station = .joining →
      ∃ t, exec .setupA s = .next t ∧ Replies t id rest (accepted .setupA (setupAClamped r.payload)) ∧
        t = { s with bus := t.bus, ctl := { s.ctl with setup := setupAValues r.payload s.ctl.setup } }) ∧
    (r.kind = .setupB → s.ctl.station = .joining →
      ∃ t, exec .setupB s = .next t ∧ Replies t id rest (accepted .setupB (setupBClamped r.payload)) ∧
        t.ctl.setup = setupBValues r.payload s.ctl.setup ∧ t.ctl.joinWait = none ∧
        t.pins = s.pins ∧ t.est = s.est ∧ t.auctions = s.auctions ∧
        (s.ownAlarmed = true → t.ctl.station = .shutdown ∧ t.fire.latch = true) ∧
        (s.ownAlarmed = false → s.fire.latch = true → t.ctl.station = .recovery ∧ t.crane = s.crane ∧
          t.fire.latch = true) ∧
        (s.ownAlarmed = false → s.fire.latch = false → t.ctl.station = .active ∧ t.fire.latch = false) ∧
        (s.crane.state = .unreferenced → s.crane.inFlight = none → s.crane.pool = [] →
          t.crane.pool = [] ∧ t.bins = s.bins ∧
          (s.ownAlarmed = true → t.crane.state = .unreferenced ∧ t.crane.inFlight = none) ∧
          (s.ownAlarmed = false → s.fire.latch = false → t.crane.state = .homing ∧ t.crane.inFlight = some .home ∧
            t.crane.limit = some 60000)) ∧
        (s.crane.state = .faulted → s.crane.inFlight = none → s.ownAlarmed = false → s.fire.latch = false →
          t.crane = s.crane)) ∧
    (r.kind = .setupA → s.ctl.station ≠ .joining →
      ∃ t, exec .setupA s = .next t ∧ Replies t id rest (plainReply .setupA .notReady 0) ∧ t = { s with bus := t.bus }) ∧
    (r.kind = .setupB → s.ctl.station ≠ .joining →
      ∃ t, exec .setupB s = .next t ∧ Replies t id rest (plainReply .setupB .notReady 0) ∧ t = { s with bus := t.bus })) ∧
  (∀ (a b : List Byte) (u : Setup),
    let low := fun (p : List Byte) (k : Nat) => byteAt p k % 16
    let high := fun (p : List Byte) (k : Nat) => byteAt p k / 16
    setupAValues a u = { u with
      hPitch := max 10 (min (byteAt a 0) 255)
      hRamp := byteAt a 1 * 10
      vPitch := max 20 (min (byteAt a 2) 255)
      vRamp := byteAt a 3 * 10
      fork := max 500 (min (byteAt a 4 * 20) 5100)
      settle := byteAt a 5 * 10
      hop := max 200 (min (byteAt a 6 * 20) 5100) } ∧
    setupBValues b u = { u with
      handoffLimit := max 1 (min (byteAt b 0) 25) * 1000
      bidWindow := max 50 (min (byteAt b 1 * 10) 500)
      packWeight := high b 2
      recircLimit := max 1 (low b 2)
      mergeContinuity := max 1 (min (high b 3) 8)
      storageContinuity := max 1 (min (low b 3) 8)
      clearTime := max 2000 (min (byteAt b 4 * 1000) 30000)
      wakeLimit := max 500 (min (byteAt b 5 % 128 * 500) 8000)
      takesReturns := decide (128 ≤ byteAt b 5)
      noticeMask := BitVec.ofNat 16 (byteAt b 6 * 256 + byteAt b 7) } ∧
    (setupAClamped a = true ↔ byteAt a 0 < 10 ∨ byteAt a 2 < 20 ∨ byteAt a 4 < 25 ∨ byteAt a 6 < 10) ∧
    (setupBClamped b = true ↔
      byteAt b 0 < 1 ∨ 25 < byteAt b 0 ∨ byteAt b 1 < 5 ∨ 50 < byteAt b 1 ∨ low b 2 < 1 ∨ high b 3 < 1 ∨ 8 < high b 3 ∨
        low b 3 < 1 ∨ 8 < low b 3 ∨ byteAt b 4 < 2 ∨ 30 < byteAt b 4 ∨ byteAt b 5 % 128 < 1 ∨ 16 < byteAt b 5 % 128))

/-- R36: the QUERY of form 3 reports the three counts of the fault record and the consecutive-failure count, with DONE
and reference 0, and changes none of them; a QUERY of form 4 or more is replied BAD-FIELD (that the row QUERY_COUNTS
answers those forms too is the model's choice, assumption log 28). -/
def Obligations.QueryCountsReports : Prop :=
  ∀ (s : State) (id : SlotId) (r : RxRecord) (rest : List RxRecord), Takes s id r rest → r.kind = .query →
    3 ≤ byteAt r.payload 0 →
    ∃ t a, exec .queryCounts s = .next t ∧ t = { s with bus := t.bus } ∧ t.bus.failures = s.bus.failures ∧
      Replies t id rest a ∧
      (byteAt r.payload 0 = 3 → a = { plainReply .query .done 0 with
        d0 := s.ctl.record.dropped, d1 := s.ctl.record.deferred, d2 := s.ctl.record.recircs, d3 := s.bus.failures }) ∧
      (4 ≤ byteAt r.payload 0 → a = plainReply .query .badField 0)

/-- R46: CLEAR-FAULTS clears the items its mask names and is replied DONE with reference 0; weight 64 or 128 is replied
BAD-FIELD and nothing is cleared; FIRE-LATCH is never cleared. -/
def Obligations.ClearFaultsClears : Prop :=
  ∀ (s : State) (id : SlotId) (r : RxRecord) (rest : List RxRecord) (mask : Byte), Takes s id r rest →
    r.kind = .clearFaults → r.payload = [mask] →
    ∃ t, exec .clearFaults s = .next t ∧
      (mask.toNat / 64 ≠ 0 → t = { s with bus := t.bus } ∧ Replies t id rest (plainReply .clearFaults .badField 0)) ∧
      (mask.toNat / 64 = 0 → Replies t id rest (plainReply .clearFaults .done 0) ∧
        t = { s with
          bus := t.bus
          ctl := { s.ctl with
            record := {
              shutterFault := if mask.toNat % 2 = 1 then false else s.ctl.record.shutterFault
              driveFault := if mask.toNat / 2 % 2 = 1 then false else s.ctl.record.driveFault
              offBusEvent := if mask.toNat / 4 % 2 = 1 then false else s.ctl.record.offBusEvent
              ringMismatch := if mask.toNat / 8 % 2 = 1 then false else s.ctl.record.ringMismatch
              dropped := if mask.toNat / 32 % 2 = 1 then 0 else s.ctl.record.dropped
              deferred := if mask.toNat / 32 % 2 = 1 then 0 else s.ctl.record.deferred
              recircs := if mask.toNat / 32 % 2 = 1 then 0 else s.ctl.record.recircs } } })

/-- R37: a DOZE order in ACTIVE with the pool empty, the crane IDLE and every place empty is replied DONE, the station
enters DOZE with both segments ASLEEP (HELD behind a shutter that is not OPEN: assumption log 23), and the crane is
parked at the mouth or sent to sleep there; with the aisle not empty it is replied BUSY and nothing changes. (What empty
takes in is the model's reading, assumption log 42.) -/
def Obligations.DozeOrderParksTheCrane : Prop :=
  ∀ (s : State) (id : SlotId) (r : RxRecord) (rest : List RxRecord), Takes s id r rest → r.kind = .doze →
    s.ctl.station = .active →
    let still := fun (g : Segment) => g.places = [] ∧ g.reservation = none ∧ g.head = .idle
    let unseen := fun (g : SegSensors) => g.head = false ∧ g.middle = false ∧ g.tail = false
    let empty : Prop := s.crane.pool = [] ∧ s.crane.state = .idle ∧ s.crane.carriage = .nothing ∧
      still s.lanes.outSeg ∧ still s.lanes.backSeg ∧ unseen s.pins.outSeg ∧ unseen s.pins.backSeg ∧
      (s.lanes.outStand = .empty ∧ s.pins.outStand = false) ∧ (s.lanes.inStand = .empty ∧ s.pins.inStand = false) ∧
      s.port.approach = .empty ∧ s.port.service = .empty ∧
      (s.ctl.straps.port = true → s.pins.approach = false ∧ s.pins.service = false)
    (empty → (s.fire.shutter = some .opened ∨ s.fire.shutter = some .opening → s.fire.view = 0#8) →
      s.fire.shutter ≠ some .clearing →
      let cond : Condition := if s.fire.shutter = none ∨ s.fire.shutter = some .opened then .asleep else .held
      ∃ t, exec .doze s = .next t ∧ Replies t id rest (plainReply .doze .done 0) ∧ t.ctl.station = .doze ∧
        t.lanes.outSeg = { s.lanes.outSeg with cond := cond } ∧
        t.lanes.backSeg = { s.lanes.backSeg with cond := cond } ∧
        t.crane = { s.crane with
          state := .running
          inFlight := t.crane.inFlight
          lastSent := t.crane.inFlight
          limit := t.crane.limit } ∧
        t.crane.inFlight = (if s.crane.pos = some Position.mouth then some .sleep else some (.move Position.mouth)) ∧
        (rosterOf s.num t).announced = .doze ∧ t.bins = s.bins ∧ t.port = s.port ∧ t.fire = s.fire ∧
        t.auctions = s.auctions ∧ t.pins = s.pins) ∧
    (¬ empty →
      ∃ t, exec .doze s = .next t ∧ Replies t id rest (plainReply .doze .busy 0) ∧ t = { s with bus := t.bus })

/-- R38, R39: a WAKE order in DOZE with the crane ASLEEP is replied DONE and starts the wake, the station still DOZE; with
the park or the SLEEP in flight it is kept, with a wake in progress it does nothing more, and in ACTIVE it is replied
DONE with no change. WOKEN ends the doze with the crane IDLE and its position kept, and a RETRIEVE waiting in the pool
starts; the wake limit ends it with the crane FAULTED, DRIVE-FAULT set and no job started. In both the station enters
ACTIVE, and a deferred-upstream flag still set is cleared. (That the wall rule holds the segments through it all is the
model's reading, assumption log 23.) -/
def Obligations.WakeRuns : Prop :=
  (∀ (s : State) (id : SlotId) (r : RxRecord) (rest : List RxRecord), Takes s id r rest → r.kind = .wake →
    (s.ctl.station = .doze → s.crane.state = .asleep →
      let cond : Condition := if s.fire.shutter = none ∨ s.fire.shutter = some .opened then .waking else .held
      (cond = .waking → s.lanes.outSeg.cond = .asleep ∧ s.lanes.backSeg.cond = .asleep) →
      (cond = .held → s.lanes.outSeg.cond = .held ∧ s.lanes.backSeg.cond = .held) →
      ∃ t, exec .wake s = .next t ∧ Replies t id rest (plainReply .wake .done 0) ∧
        t = { s with
          bus := t.bus
          lanes := { s.lanes with
            outSeg := { s.lanes.outSeg with cond := cond }
            backSeg := { s.lanes.backSeg with cond := cond } }
          crane := { s.crane with
            state := .waking
            wakeKept := false
            inFlight := some .wake
            lastSent := some .wake
            limit := some s.ctl.setup.wakeLimit } }) ∧
    (s.ctl.station = .doze → s.crane.state = .running →
      ∃ t, exec .wake s = .next t ∧ Replies t id rest (plainReply .wake .done 0) ∧
        t = { s with bus := t.bus, crane := { s.crane with wakeKept := true } }) ∧
    (s.ctl.station = .active ∨ s.ctl.station = .doze ∧ s.crane.state = .waking →
      ∃ t, exec .wake s = .next t ∧ Replies t id rest (plainReply .wake .done 0) ∧ t = { s with bus := t.bus })) ∧
  (∀ s : State, s.ctl.station = .doze → s.crane.state = .waking → s.crane.inFlight = some .wake →
    s.crane.limit.isSome = true → s.crane.restartRun = false →
    (∃ t, exec .woken s = .next t ∧ t.ctl.station = .active ∧ t.crane.pos = s.crane.pos ∧
      ((∀ j ∈ s.crane.pool, j.state ≠ .waiting) →
        t.crane.state = .idle ∧ t.crane.inFlight = none ∧ t.crane.pool = s.crane.pool) ∧
      (∀ j p, s.crane.pool = [j] → j.kind = .retrieve → j.state = .waiting → s.crane.pos = some p →
        p ≠ positionOf (j.bin % 2048) → j.stage = .travelEmpty → s.fire.view = 0#8 →
        (binAt (j.bin % 2048) s).state = .stored → s.lanes.outStand = .empty → s.crane.load = .empty →
        s.crane.carriage = .nothing → s.crane.continuity ≠ s.ctl.setup.storageContinuity →
        t.crane.state = .running ∧ t.crane.inFlight = some (.move (positionOf (j.bin % 2048))) ∧
          t.crane.pool = [{ j with state := .active }] ∧ t.lanes.outStand = .reserved) ∧
      t.lanes.outSeg.deferredUp = false ∧ t.lanes.backSeg.deferredUp = false ∧
      t.pins = s.pins ∧ t.est = s.est ∧ t.auctions = s.auctions ∧ t.ctl.setup = s.ctl.setup ∧
      t.ctl.record.driveFault = s.ctl.record.driveFault) ∧
    (∃ t, exec .wakeLimitExpiry s = .next t ∧ t.ctl.station = .active ∧ t.crane.state = .faulted ∧
      t.crane.inFlight = none ∧ t.crane.limit = none ∧ t.crane.pool = s.crane.pool ∧ t.ctl.record.driveFault = true ∧
      t.lanes.outSeg.deferredUp = false ∧ t.lanes.backSeg.deferredUp = false ∧ t.pins = s.pins ∧ t.est = s.est ∧
      t.auctions = s.auctions ∧ t.ctl.setup = s.ctl.setup))

/-- R41, R42, R43, R44, R171: a JOIN with the own T makes its sender's entry present with the compartment, port and
state it carries; one with another T makes the entry absent, its other fields kept, sets RING-MISMATCH and raises a
STATE notice with the own state and the sender. A station that is not JOINING answers one that announces JOINING with
its own JOIN, and with its whole alarm view as a FIRE where that is not empty, merged into an unstarted one (that it
answers one with another T too is the model's reading, assumption log 34; that the STATE notice of such a JOIN is queued
before the answering JOIN is the model's choice, assumption log 66). A JOIN whose number, compartment or state byte is
wrong is ignored. -/
def Obligations.JoinUpdatesTheRoster : Prop :=
  ∀ (s : State) (f : RxFrame), s.ctl.station ≠ .strapFault → isStation f.sender.toNat = true →
    f.sender.toNat ≠ s.num → f.dest = 0#5 → f.payload.length = 5 →
    tableWf RosterEntry.cleared s.ctl.roster = true →
    let n := f.sender.toNat
    let good := byteAt f.payload 0 = n ∧ byteAt f.payload 2 ≤ 7 ∧ byteAt f.payload 4 ≤ 4
    ∃ t, exec (.join f) s = .next t ∧ t.ctl.station = s.ctl.station ∧ t.ctl.setup = s.ctl.setup ∧ t.bins = s.bins ∧
      t.pins = s.pins ∧ t.est = s.est ∧ t.auctions = s.auctions ∧
      (∀ m, m ≠ n → rosterOf m t = rosterOf m s) ∧
      (good → byteAt f.payload 1 = s.top → ∃ st, stationStateOf (byteAt f.payload 4) = some st ∧
        rosterOf n t = ⟨true, byteAt f.payload 2, decide (byteAt f.payload 3 % 2 = 1), st⟩) ∧
      (good → byteAt f.payload 1 ≠ s.top →
        let noted := raise (.state s.ctl.station.code n) { s with
          bus := { s.bus with answer := silent }
          ctl := { s.ctl with roster := t.ctl.roster, record := { s.ctl.record with ringMismatch := true } } }
        rosterOf n t = { rosterOf n s with present := false } ∧ t = { noted with bus := t.bus } ∧
        (byteAt f.payload 4 ≠ 0 ∨ s.ctl.station = .joining → t = noted)) ∧
      (good → byteAt f.payload 4 = 0 → s.ctl.station ≠ .joining → s.bus.offBus = false →
        ((∃ id q, t.bus.slots.get id = .holds q ∧ q.started = false ∧ q.frame = .join (joinBody s)) ∨
          ∃ c ∈ t.bus.claims, c.frame = .join (joinBody s)) ∧
        (s.fire.view ≠ 0#8 →
          (s.bus.slots.s0 = .free → ∃ k, t.bus.slots.s0 = .holds (newQueued (.fire s.fire.view) k)) ∧
          (∀ q m, s.bus.slots.s0 = .holds q → q.frame = .fire m →
            (q.started = false → t.bus.slots.s0 = .holds { q with frame := .fire (m ||| s.fire.view) }) ∧
            (q.started = true → t.bus.firePending = some (s.bus.firePending.getD 0#8 ||| s.fire.view))))) ∧
      (¬ good → t = { s with bus := { s.bus with answer := silent } })

/-! ### The Bin Table -/

/-- R50, R51: every step keeps the Bin Table in its canonical form, fill plus room hold at most 15 in every record, and
every follow-on list at most three long. -/
def Obligations.BinLawIsKept : Prop :=
  ∀ s t : State, BinLaw s → step s = .next t → BinLaw t

/-- R54, R55: ENROL ADD makes an ABSENT own record STORED with the fill given, clamped to 15, and is replied CONFLICT on
any other; ENROL REMOVE makes a STORED or LOST record with no hold, follow-on or job ABSENT, and is replied BUSY in
every other case. (That a CONFLICT carries no clamp mark is the model's reading, assumption log 27, and that an AUDIT is
no job for the index its choice, assumption log 58.) -/
def Obligations.EnrolAddsAndRemoves : Prop :=
  ∀ (s : State) (id : SlotId) (r : RxRecord) (rest : List RxRecord), Takes s id r rest → r.kind = .enrol →
    s.ctl.station = .active → tableWf BinRec.blank s.bins = true →
    let bin := wordAt r.payload 1
    let fill := byteAt r.payload 3
    let i := bin % 2048
    let b := binAt i s
    idIsOwn s bin →
    (byteAt r.payload 0 = 1 → b.state = .absent → s.crane.state ≠ .idle →
      ∃ t, exec .enrolAdd s = .next t ∧
        Replies t id rest (enrolReply (if 15 < fill then .clamped else .done) (decide (15 < fill)) bin
          { BinRec.blank with state := .stored, fill := min 15 fill }) ∧
        binAt i t = { BinRec.blank with state := .stored, fill := min 15 fill } ∧
        (∀ k, k ≠ i → binAt k t = binAt k s) ∧ t = { s with bus := t.bus, bins := t.bins }) ∧
    (byteAt r.payload 0 = 1 → b.state ≠ .absent →
      ∃ t, exec .enrolAdd s = .next t ∧ Replies t id rest (enrolReply .conflict false bin b) ∧ t = { s with bus := t.bus }) ∧
    (byteAt r.payload 0 = 2 → (b.state = .stored ∨ b.state = .lost) → b.hold = 0 → b.followOns = [] →
      (∀ j ∈ s.crane.pool, j.kind = .audit ∨ j.bin ≠ bin) →
      ∃ t, exec .enrolRemove s = .next t ∧ Replies t id rest (enrolReply .done false bin BinRec.blank) ∧
        binAt i t = BinRec.blank ∧ (∀ k, k ≠ i → binAt k t = binAt k s) ∧
        t = { s with bus := t.bus, bins := t.bins }) ∧
    (byteAt r.payload 0 = 2 →
      (b.state = .absent ∨ b.state = .lifting ∨ b.state = .out ∨ b.state = .storing ∨ b.hold ≠ 0 ∨ b.followOns ≠ []
        ∨ ∃ j ∈ s.crane.pool, j.kind ≠ .audit ∧ j.bin = bin) →
      ∃ t, exec .enrolRemove s = .next t ∧ Replies t id rest (enrolReply .busy false bin b) ∧ t = { s with bus := t.bus })

/-- R59, R60: the home visit of an OUT bin: the fill takes the delta, clamped against the hold that remains; a filled or
unserved hold becomes 0; a bin bound home goes on to its oldest follow-on call, or home without a call; a bin bound for
a port keeps its destination. A LIFTING or STORING record is left and the bin sent home; an ABSENT, STORED or LOST one
becomes OUT. The result is the rewritten carry record with the record's new state. -/
def Obligations.HomeVisitRewritesTheCarry : Prop :=
  (∀ (c : Carry) (s : State), idIsOwn s c.bin → tableWf BinRec.blank s.bins = true →
    let i := c.bin % 2048
    let b := binAt i s
    b.state = .out →
    let unserved : Prop := c.kind = .home ∧ c.filled = false ∧ ∃ k, b.call = some k ∧ k.purpose = .fill
    ∃ c' t, homeVisit c s = (some ⟨c', .out⟩, t) ∧ (binAt i t).state = .out ∧ c'.bin = c.bin ∧ c'.delta = 0 ∧ c'.filled = false ∧
      (c.filled = true ∨ unserved → (binAt i t).hold = 0) ∧
      (c.filled = false → ¬ unserved → (binAt i t).hold = b.hold) ∧
      ((binAt i t).fill : Int) = max 0 (min (15 - ((binAt i t).hold : Int)) ((b.fill : Int) + c.delta)) ∧
      (c.kind = .port → c'.dest = c.dest ∧ c'.kind = .port ∧ c'.tag = c.tag ∧ c'.purpose = c.purpose ∧
        c'.recirc = c.recirc ∧ (binAt i t).call = b.call ∧ (binAt i t).followOns = b.followOns) ∧
      (c.kind = .home → ∀ e l, b.followOns = e :: l →
        c'.dest = e.port ∧ c'.kind = .port ∧ c'.tag = e.tag ∧ c'.purpose = e.purpose ∧ c'.recirc = 0 ∧
        (binAt i t).call = some ⟨e.tag, e.port, e.purpose⟩ ∧ (binAt i t).followOns = l) ∧
      (c.kind = .home → b.followOns = [] →
        c'.dest = s.num ∧ c'.kind = .home ∧ c'.tag = 0 ∧ c'.purpose = .noPurpose ∧ c'.recirc = c.recirc ∧
        (binAt i t).call = none) ∧
      (∀ k, k ≠ i → binAt k t = binAt k s) ∧ t = { s with bus := t.bus, ctl := t.ctl, bins := t.bins }) ∧
  (∀ (c : Carry) (s : State), idIsOwn s c.bin → tableWf BinRec.blank s.bins = true →
    let i := c.bin % 2048
    let b := binAt i s
    let v := homeVisit c s
    (b.state = .lifting ∨ b.state = .storing →
      v.1 = some ⟨{ c with dest := s.num, kind := .home, tag := 0, purpose := .noPurpose }, b.state⟩ ∧ v.2.bins = s.bins) ∧
    (b.state = .absent ∨ b.state = .stored ∨ b.state = .lost ∨ b.state = .out →
      (binAt i v.2).state = .out ∧ ∃ c', v.1 = some ⟨c', .out⟩) ∧
    (b.state = .lost → c.kind = .port → c.delta = 0 → c.filled = false → b.fill + b.hold ≤ 15 →
      binAt i v.2 = { b with state := .out }))

/-- R63, R64, R65, R66: hold set is SET when the record is STORED, its hold is 0 and its fill plus the units is at most 15, and
REFUSED with nothing changed in any other case; a second hold set is refused. Hold clear sets the hold to 0 in any state,
and is CLEARED when the hold was above 0 and NONE-HELD when it was 0. Follow-on append refuses an ABSENT or LOST record,
merges a port already pending, is FULL at three entries, and otherwise appends the entry at the tail. Follow-on remove
takes out the first entry with the tag, lowest index first and oldest first, and is REMOVED with its index; with no such
entry it is NOT-HELD and nothing changes. -/
def Obligations.HoldSetAndFollowOnAppend : Prop :=
  (∀ (i units : Nat) (s : State), 1 ≤ units → tableWf BinRec.blank s.bins = true →
    let b := binAt i s
    let v := holdSet i units s
    (b.state = .stored ∧ b.hold = 0 ∧ b.fill + units ≤ 15 →
      v.1 = true ∧ binAt i v.2 = { b with hold := units } ∧ (∀ k, k ≠ i → binAt k v.2 = binAt k s) ∧
      v.2 = { s with bins := v.2.bins } ∧ ∀ more, holdSet i more v.2 = (false, v.2)) ∧
    (¬ (b.state = .stored ∧ b.hold = 0 ∧ b.fill + units ≤ 15) → v = (false, s))) ∧
  (∀ (i : Nat) (s : State), tableWf BinRec.blank s.bins = true →
    let b := binAt i s
    let v := holdClear i s
    (0 < b.hold → v.1 = .cleared) ∧ (b.hold = 0 → v = (.noneHeld, s)) ∧
    binAt i v.2 = { b with hold := 0 } ∧ (∀ k, k ≠ i → binAt k v.2 = binAt k s) ∧
    v.2 = { s with bins := v.2.bins } ∧ holdClear i v.2 = (.noneHeld, v.2)) ∧
  (∀ (i : Nat) (e : FollowOn) (jobPort : Option Nat) (s : State), tableWf BinRec.blank s.bins = true →
    let b := binAt i s
    let v := followOnAppend i e jobPort s
    let gone : Prop := b.state = .absent ∨ b.state = .lost
    let pending : Prop := b.call.map Call.port = some e.port ∨ jobPort = some e.port ∨ ∃ f ∈ b.followOns, f.port = e.port
    (gone → v = (.refused, s)) ∧
    (¬ gone → pending → v = (.merged, s)) ∧
    (¬ gone → ¬ pending → 3 ≤ b.followOns.length → v = (.full, s)) ∧
    (¬ gone → ¬ pending → b.followOns.length < 3 → v.1 = .appended ∧
      binAt i v.2 = { b with followOns := b.followOns ++ [e] } ∧ (∀ k, k ≠ i → binAt k v.2 = binAt k s) ∧
      v.2 = { s with bins := v.2.bins })) ∧
  (∀ (tag : Nat) (s : State), tableWf BinRec.blank s.bins = true →
    let v := followOnRemove tag s
    (∀ i older e later, (binAt i s).followOns = older ++ e :: later → e.tag = tag → (∀ f ∈ older, f.tag ≠ tag) →
      (∀ k < i, ∀ f ∈ (binAt k s).followOns, f.tag ≠ tag) →
      v.1 = .removed i ∧ binAt i v.2 = { binAt i s with followOns := older ++ later } ∧
      (∀ k, k ≠ i → binAt k v.2 = binAt k s) ∧ v.2 = { s with bins := v.2.bins }) ∧
    ((∀ e ∈ s.bins, ∀ f ∈ e.2.followOns, f.tag ≠ tag) → v = (.notHeld, s)))

/-- R61: a JAM naming an own bin that is OUT makes it LOST with its other fields kept and raises LOST with cause 1; one
naming any other bin, or a bin in another state, changes nothing but the answer. -/
def Obligations.JamMarksAnOutBinLost : Prop :=
  ∀ (s : State) (f : RxFrame), s.ctl.station ≠ .strapFault → s.bus.offBus = false → isStation f.sender.toNat = true →
    f.sender.toNat ≠ s.num → f.dest = 0#5 → f.payload.length = 3 → tableWf BinRec.blank s.bins = true →
    let bin := wordAt f.payload 0
    let i := bin % 2048
    ∃ t, exec (.jam f) s = .next t ∧
      (idIsOwn s bin → (binAt i s).state = .out →
        binAt i t = { binAt i s with state := .lost } ∧ (∀ k, k ≠ i → binAt k t = binAt k s) ∧
        t = { raise (.lost bin 1) { s with bus := { s.bus with answer := silent } } with bins := t.bins }) ∧
      (¬ (idIsOwn s bin ∧ (binAt i s).state = .out) → t = { s with bus := { s.bus with answer := silent } })

/-! ### Crane Jobs -/

/-- R84, R85 (with R47, R65, R69, R80, R82): a CALL with a bad field is replied BAD-FIELD; then an invalid bin ID
UNKNOWN-BIN, another station's bin and a port station without a port UNSUPPORTED. An own bin ABSENT is UNKNOWN-BIN, LOST
is MISSING. One STORED or STORING without a RETRIEVE is ACCEPTED, its job in the pool with the urgency clamped to 3, or
FULL; with the crane IDLE a dispatch follows, at which the job starts where it alone is eligible and waits where none is,
and in DOZE it is a wake cause (R38). One OUT or LIFTING, or with a RETRIEVE, is MERGED, FULL or FOLLOW-ON by its port and
list, and wakes nothing. (The record's state in the detail of a refused CALL is the model's reading, assumption log 53;
that the wall rule holds the segments of a waking station behind a shutter that is not OPEN is too, assumption log 23, and
so is that the details are those before the dispatch, assumption log 49.
Which job starts of several that are eligible is said by DispatchStartsTheBestJob.) -/
def Obligations.CallIsDecidedByTheRecord : Prop :=
  ∀ (s : State) (id : SlotId) (r : RxRecord) (rest : List RxRecord), Takes s id r rest → r.kind = .call →
    s.ctl.station = .active ∨ s.ctl.station = .doze ∨ s.ctl.station = .recovery → tableWf BinRec.blank s.bins = true →
    let bin := wordAt r.payload 0
    let tag := wordAt r.payload 2
    let port := byteAt r.payload 4
    let purpose := byteAt r.payload 5
    let b := binAt (bin % 2048) s
    let pool := s.crane.pool.length
    let job := retrieveJob bin tag port (purposeOf purpose) (min 3 r.param.toNat)
    let entered := { job with stamp := s.est.time, est := estOf s.ctl.setup job }
    let reply := fun (code : ResultCode) (d0 d1 d2 : Nat) =>
      { plainReply .call code tag with clampMark := decide (3 < r.param.toNat), d0 := d0, d1 := d1, d2 := d2 }
    let refused := fun (a : Reply) => ∃ t, exec .call s = .next t ∧ t = { s with bus := t.bus } ∧ Replies t id rest a
    let undecided := fun (code : ResultCode) (d0 : Nat) => refused { plainReply .call code tag with d0 := d0, d2 := pool }
    let wrong := tag = 0 ∨ 4095 < tag ∨ (purpose ≠ 1 ∧ purpose ≠ 3) ∨ isStation port = false
    let away := b.state = .lifting ∨ b.state = .out
    let kept := b.state = .stored ∨ b.state = .storing
    let listed := away ∨ (kept ∧ (retrieveFor bin s).isSome = true)
    let named := b.call.map Call.port = some port ∨ (retrieveFor bin s).map Job.port = some port ∨
      ∃ f ∈ b.followOns, f.port = port
    (wrong → (idIsOwn s bin → undecided .badField b.state.code) ∧ (¬ idIsOwn s bin → undecided .badField 0)) ∧
    (¬ wrong → bin / 2048 = 0 ∨ 25 ≤ bin / 2048 ∨ (bin / 2048 = s.num ∧ ¬ idIsOwn s bin) → undecided .unknownBin 0) ∧
    (¬ wrong → 1 ≤ bin / 2048 → bin / 2048 ≤ 24 → bin / 2048 ≠ s.num → undecided .unsupported 0) ∧
    (¬ wrong → idIsOwn s bin → (rosterOf port s).port = false → undecided .unsupported b.state.code) ∧
    (¬ wrong → idIsOwn s bin → (rosterOf port s).port = true →
      (b.state = .absent → refused (reply .unknownBin 0 0 pool)) ∧
      (b.state = .lost → refused (reply .missing 5 0 pool)) ∧
      (kept → retrieveFor bin s = none → 31 ≤ nonStoreCount s.crane.pool ∨ 32 ≤ pool →
        refused (reply .full b.state.code 0 pool)) ∧
      (kept → retrieveFor bin s = none → nonStoreCount s.crane.pool < 31 → pool < 32 → s.crane.state ≠ .idle →
        (s.ctl.station = .doze → s.crane.state = .asleep → RingHoldLaw s) →
        let cond : Condition := if s.fire.shutter = none ∨ s.fire.shutter = some .opened then .waking else .held
        ∃ t, exec .call s = .next t ∧ t = { s with bus := t.bus, lanes := t.lanes, crane := t.crane } ∧
          t.crane.pool = s.crane.pool ++ [entered] ∧ Replies t id rest (reply .accepted b.state.code 0 (pool + 1)) ∧
          (s.ctl.station ≠ .doze ∨ (s.crane.state ≠ .asleep ∧ s.crane.state ≠ .running) →
            t = { s with bus := t.bus, crane := { s.crane with pool := t.crane.pool } }) ∧
          (s.ctl.station = .doze → s.crane.state = .running →
            t = { s with bus := t.bus, crane := { s.crane with pool := t.crane.pool, wakeKept := true } }) ∧
          (s.ctl.station = .doze → s.crane.state = .asleep →
            t.crane = { s.crane with
              pool := t.crane.pool, state := .waking, inFlight := some .wake, lastSent := some .wake,
              limit := some s.ctl.setup.wakeLimit, wakeKept := false } ∧
            t.lanes = { s.lanes with
              outSeg := { s.lanes.outSeg with cond := cond }, backSeg := { s.lanes.backSeg with cond := cond } })) ∧
      (kept → retrieveFor bin s = none → nonStoreCount s.crane.pool < 31 → pool < 32 → s.crane.state = .idle →
        ∃ t u, exec .call s = .next t ∧ Replies t id rest (reply .accepted b.state.code 0 (pool + 1)) ∧
          u = { s with bus := u.bus, crane := { s.crane with pool := s.crane.pool ++ [entered] } } ∧
          t = { dispatch u with bus := t.bus } ∧
          (s.ctl.station = .recovery ∨ (∀ j ∈ u.crane.pool, eligible s j = false) → t = { u with bus := t.bus })) ∧
      (b.state = .stored → retrieveFor bin s = none → nonStoreCount s.crane.pool < 31 → pool < 32 →
        s.ctl.station = .active → s.crane.state = .idle → s.fire.view = 0#8 →
        (∀ j ∈ s.crane.pool, j.state = .waiting ∧ eligible s j = false) →
        s.lanes.outStand = .empty → s.crane.load = .empty → s.crane.carriage = .nothing →
        s.crane.continuity ≠ s.ctl.setup.storageContinuity →
        ∀ p, s.crane.pos = some p → p ≠ positionOf (bin % 2048) →
        ∃ t, exec .call s = .next t ∧
          t = { s with
            bus := t.bus
            lanes := { s.lanes with outStand := .reserved }
            crane := { s.crane with
              pool := s.crane.pool ++ [{ entered with state := .active }]
              state := .running
              continuity := t.crane.continuity
              inFlight := some (.move (positionOf (bin % 2048)))
              lastSent := some (.move (positionOf (bin % 2048)))
              limit := some (2 * moveTime s.ctl.setup p (positionOf (bin % 2048)) + 2000) } } ∧
          t.crane.continuity = (if ∃ j ∈ s.crane.pool, j.kind = .store then min 8 (s.crane.continuity + 1)
            else s.crane.continuity) ∧
          Replies t id rest (reply .accepted 1 0 (pool + 1))) ∧
      (listed → named → refused (reply .merged b.state.code 0 pool)) ∧
      (listed → ¬ named → 3 ≤ b.followOns.length → refused (reply .full b.state.code 0 pool)) ∧
      (listed → ¬ named → b.followOns.length < 3 →
        ∃ t, exec .call s = .next t ∧ t = { s with bus := t.bus, bins := t.bins } ∧
          binAt (bin % 2048) t =
            { b with followOns := b.followOns ++ [⟨tag, port, purposeOf purpose, min 3 r.param.toNat⟩] } ∧
          (∀ k, k ≠ bin % 2048 → binAt k t = binAt k s) ∧
          Replies t id rest (reply .followOn b.state.code (b.followOns.length + 1) pool)))

/-- R86, R87, R88 (with R22, R66): what a CANCEL finds decides it. A tag out of range is BAD-FIELD. Of a job: a WAITING
one goes; a current one that has not lifted its bin is removed, its reservation released, a MOVE in flight stopped; one
that has lifted its bin, HALTED and FROZEN ones too, becomes a RESTORE to the rack in the state it had, its call
cleared, a MOVE in flight stopped and a FORK PICK going on; one whose place has been sent is TOO-LATE. A follow-on entry
is removed; the current call of an OUT or STORING bin is TOO-LATE, of a LOST one MISSING; a tag held nowhere is a
CONFLICT. The REPLY's details are those of QUERY REQUEST, and a FILL's hold is cleared. (That a job converted with its
pick under way is at TRAVEL-LOADED at once is the model's reading, assumption log 17; that the follow-on entries of a job
removed before its lift stay on the record is its choice, assumption log 83.) -/
def Obligations.CancelActsByWhatItFinds : Prop :=
  ∀ (s : State) (id : SlotId) (r : RxRecord) (rest : List RxRecord), Takes s id r rest → r.kind = .cancel →
    s.ctl.station ≠ .joining → tableWf BinRec.blank s.bins = true →
    let tag := wordAt r.payload 0
    let cancels := fun (t : State) (code : ResultCode) (place info index : Nat) =>
      exec .cancel s = .next t ∧ Replies t id rest
        { plainReply .cancel code tag with d0 := place, d1 := info, d2 := index / 256, d3 := index % 256 }
    let others := s.crane.pool.eraseP fun j => j.tag == tag
    let freed := if s.lanes.outStand = .reserved then { s.lanes with outStand := .empty } else s.lanes
    let noJob := ∀ j ∈ s.crane.pool, j.tag ≠ tag
    let noEntry := ∀ e ∈ s.bins, ∀ f ∈ e.2.followOns, f.tag ≠ tag
    (tag = 0 ∨ 4095 < tag → ∃ t, cancels t .badField 0 0 0 ∧ t = { s with bus := t.bus }) ∧
    (1 ≤ tag → tag ≤ 4095 → noJob → noEntry → (∀ e ∈ s.bins, e.2.call.map Call.tag ≠ some tag) →
      ∃ t, cancels t .conflict 0 0 0 ∧ t = { s with bus := t.bus }) ∧
    (1 ≤ tag → tag ≤ 4095 → noJob → noEntry →
      ∀ i, (binAt i s).call.map Call.tag = some tag → (∀ k < i, (binAt k s).call.map Call.tag ≠ some tag) →
        ((binAt i s).state = .out ∨ (binAt i s).state = .storing →
          ∃ t, cancels t .tooLate 3 0 i ∧ t = { s with bus := t.bus }) ∧
        ((binAt i s).state = .lost → ∃ t, cancels t .missing 3 0 i ∧ t = { s with bus := t.bus })) ∧
    (1 ≤ tag → tag ≤ 4095 → noJob →
      ∀ i p f, (binAt i s).followOns[p]? = some f → f.tag = tag →
        (∀ g ∈ (binAt i s).followOns.take p, g.tag ≠ tag) →
        (∀ k < i, ∀ g ∈ (binAt k s).followOns, g.tag ≠ tag) →
        ∃ t, cancels t .cancelled 2 (p + 1) i ∧ t = { s with bus := t.bus, bins := t.bins } ∧
          binAt i t = { binAt i s with
            followOns := (binAt i s).followOns.eraseIdx p
            hold := if f.purpose = .fill then 0 else (binAt i s).hold } ∧
          (∀ k, k ≠ i → binAt k t = binAt k s)) ∧
    (1 ≤ tag → tag ≤ 4095 → ∀ j, s.crane.pool.find? (fun k => k.tag == tag) = some j →
      s.crane.restoreWanted = false → s.crane.storeWanted = false → s.crane.state ≠ .idle →
      let i := j.bin % 2048
      let bins := if j.purpose = .fill
        then tablePut BinRec.blank s.bins i { binAt i s with hold := 0 } else s.bins
      let place := j.state.code * 16 + j.stage.code
      let lifted := j.stage = .travelLoaded ∨ (j.stage = .forkPick ∧ j.sent = true) ∨
        (j.stage = .forkPlace ∧ j.sent = false)
      (j.state = .waiting →
        ∃ t, cancels t .cancelled 1 place i ∧
          t = { s with bus := t.bus, bins := bins, crane := { s.crane with pool := others } }) ∧
      (j.state ≠ .waiting → j.kind = .retrieve → j.stage = .travelEmpty →
        (∀ p, s.crane.inFlight = some (.move p) →
          ∃ t, cancels t .cancelled 1 place i ∧
            t = { s with
              bus := t.bus
              bins := bins
              lanes := freed
              crane := { s.crane with
                pool := others
                inFlight := some .stop
                lastSent := some .stop
                limit := some 5000
                stale := t.crane.stale
                forkAbandoned := false } }) ∧
        ((∀ p, s.crane.inFlight ≠ some (.move p)) →
          ∃ t, cancels t .cancelled 1 place i ∧
            t = { s with bus := t.bus, bins := bins, lanes := freed, crane := { s.crane with pool := others } })) ∧
      (j.state ≠ .waiting → j.kind = .retrieve → lifted → (∀ k ∈ s.crane.pool, k.state ≠ .waiting → k = j) →
        (binAt i s).state = .lifting → (binAt i s).call.map Call.tag = some tag →
        ∃ t k, cancels t .cancelled 1 place i ∧ currentJob t = some k ∧
          k = { j with
            tag := 0
            kind := .restore .rack
            port := 0
            purpose := .noPurpose
            urgency := 3
            stamp := s.est.time
            est := cycleEstimate s.ctl.setup Position.mouth k
            stage := .travelLoaded
            sent := false } ∧
          t.crane.pool = s.crane.pool.map (fun x => if x.state = .waiting then x else k) ∧ t.lanes = freed ∧
          binAt i t = { binAt i s with
            call := none
            hold := if j.purpose = .fill then 0 else (binAt i s).hold } ∧
          (∀ m, m ≠ i → binAt m t = binAt m s) ∧
          t = { s with bus := t.bus, bins := t.bins, lanes := t.lanes, crane := t.crane } ∧
          (j.state = .active → ∀ p, s.crane.inFlight = some (.move p) →
            t.crane = { s.crane with
              pool := t.crane.pool
              inFlight := some .stop
              lastSent := some .stop
              limit := some 5000
              stale := t.crane.stale
              forkAbandoned := false }) ∧
          (j.state ≠ .active ∨ (∀ p, s.crane.inFlight ≠ some (.move p)) →
            t.crane = { s.crane with pool := t.crane.pool })) ∧
      (j.state = .active → j.stage = .forkPlace → j.sent = true →
        ∃ t, cancels t .tooLate 1 place i ∧ t = { s with bus := t.bus }))

/-- R72, R78, R88, R89, R90, R91, R176: HALT stops an IDLE crane where it stands, stops a MOVE by STOP, lets a FORK in
flight end, and is BUSY in the crane states that have no motion to halt and in the doze park. STOPPED gives the
position: a halt ends HALTED, a cancel's STOP ends IDLE or begins the RESTORE the job has become, a crane stopped by
fire stays STOPPED, its load unknown if a FORK was abandoned. A FORK that ends under a HALT leaves the job HALTED with
its next stage not begun, an AUDIT with locations left at the TRAVEL to its next index (log 47), or removed; the FORK
PICK of a converted job goes on to its place. RESUME begins a halted job's travel from the recorded position, frees a
crane halted with no job, withdraws a halt not ended, and is else a CONFLICT. (That HALT with a STOP in flight is DONE and
HALTING with a converted job current too, where R91 speaks of a crane with no job, is the model's reading, assumption log
18; that a converted job stands at TRAVEL-LOADED while its pick is under way is too, assumption log 17.) -/
def Obligations.HaltStopsAndResumeGoesOn : Prop :=
  (∀ (s : State) (id : SlotId) (r : RxRecord) (rest : List RxRecord), Takes s id r rest → r.kind = .halt →
    s.ctl.station = .active ∨ s.ctl.station = .doze →
    ∃ t code, exec .halt s = .next t ∧ Replies t id rest (plainReply .halt code 0) ∧
      t = { s with bus := t.bus, crane := t.crane } ∧
      (s.crane.state = .idle → code = .done ∧ t.crane = { s.crane with state := .halted }) ∧
      (s.crane.state = .running → ∀ j p, currentJob s = some j → s.crane.inFlight = some (.move p) →
        code = .done ∧ t.crane.state = .halting ∧ t.crane.inFlight = some .stop ∧ t.crane.limit = some 5000 ∧
        t.crane.pool = s.crane.pool ∧ t.crane.pos = s.crane.pos) ∧
      (s.crane.state = .running → ∀ side op, s.crane.inFlight = some (.fork side op) →
        code = .done ∧ t.crane = { s.crane with state := .halting }) ∧
      (s.crane.state = .running → s.crane.inFlight = some .stop →
        code = .done ∧ t.crane = { s.crane with state := .halting }) ∧
      (s.crane.state = .running → ∀ p, currentJob s = none → s.crane.inFlight = some (.move p) →
        code = .busy ∧ t.crane = s.crane) ∧
      (s.crane.state = .halting ∨ s.crane.state = .halted → code = .done ∧ t.crane = s.crane) ∧
      (s.crane.state = .unreferenced ∨ s.crane.state = .homing ∨ s.crane.state = .stopped ∨ s.crane.state = .faulted
        ∨ s.crane.state = .asleep ∨ s.crane.state = .waking ∨ s.crane.state = .running ∧ s.crane.inFlight = some .sleep →
        code = .busy ∧ t.crane = s.crane)) ∧
  (∀ (s : State) (id : SlotId) (r : RxRecord) (rest : List RxRecord), Takes s id r rest → r.kind = .resume →
    s.ctl.station = .active ∨ s.ctl.station = .doze →
    ∃ t code, exec .resume s = .next t ∧ Replies t id rest (plainReply .resume code 0) ∧
      (s.crane.state = .halted → ∀ j p q, currentJob s = some j → travelTarget j = some p → s.crane.pos = some q → q ≠ p →
        code = .done ∧ t.crane.state = .running ∧ t.crane.inFlight = some (.move p) ∧
        t.crane.limit = some (2 * moveTime s.ctl.setup q p + 2000) ∧ currentJob t = some { j with state := .active } ∧
        t = { s with bus := t.bus, crane := t.crane }) ∧
      (s.crane.state = .halted → s.crane.pool = [] →
        code = .done ∧ t = { s with bus := t.bus, crane := { s.crane with state := .idle } }) ∧
      (s.crane.state = .halting → code = .done ∧ t = { s with bus := t.bus, crane := { s.crane with state := .running } }) ∧
      (s.crane.state ≠ .halted → s.crane.state ≠ .halting → code = .conflict ∧ t = { s with bus := t.bus })) ∧
  (∀ (s : State) (column level : Nat), s.ctl.station ≠ .strapFault → s.crane.inFlight = some .stop →
    let load := if s.crane.forkAbandoned then Load.unknown else s.crane.load
    let still := { s.crane with
      pos := some ⟨column, level⟩, load := load, forkAbandoned := false, inFlight := none, limit := none }
    (s.crane.state = .halting → s.crane.pool = [] →
      exec (.stopped column level) s = .next { s with crane := { still with state := .halted } }) ∧
    (s.crane.state = .halting → ∀ j, s.crane.pool = [j] → j.state = .active →
      exec (.stopped column level) s =
        .next { s with crane := { still with state := .halted, pool := [{ j with state := .halted }] } }) ∧
    (s.crane.state = .running → s.crane.pool = [] →
      exec (.stopped column level) s = .next { s with crane := { still with state := .idle } }) ∧
    (s.crane.state = .running → ∀ j p, s.crane.pool = [j] → j.state = .active → travelTarget j = some p →
      p ≠ ⟨column, level⟩ →
      exec (.stopped column level) s = .next { s with crane := { still with
        inFlight := some (.move p)
        lastSent := some (.move p)
        limit := some (2 * moveTime s.ctl.setup ⟨column, level⟩ p + 2000) } }) ∧
    (s.crane.state = .stopped → exec (.stopped column level) s = .next { s with crane := still })) ∧
  (∀ (s : State) (side : Nat) (j : Job), s.ctl.station ≠ .strapFault → s.crane.pool = [j] → j.state = .active →
    let halted := { s.crane with state := .halted, inFlight := none, limit := none }
    (s.crane.state = .halting → s.crane.inFlight = some (.fork side .pick) → j.kind = .retrieve → j.stage = .forkPick →
      exec .done s = .next { s with crane := { halted with
        load := .loaded, pool := [{ j with state := .halted, stage := .travelLoaded, sent := false }] } }) ∧
    (s.crane.state = .halting → s.crane.inFlight = some (.fork side .place) → j.kind = .retrieve → j.stage = .forkPlace →
      s.crane.restoreWanted = false → s.crane.storeWanted = false →
      ∃ t, exec .done s = .next t ∧ t.crane = { halted with load := .empty, pool := [] }) ∧
    (s.crane.state = .halting → s.crane.inFlight = some (.fork side .probe) → j.kind = .audit → 1 < j.remaining →
      (binAt j.nextIndex s).state = .stored → validIndex s.ctl.straps (j.nextIndex + 1) = true →
      j.nextIndex + 1 ≤ 2047 →
      exec (.probe true) s = .next { s with crane := { halted with
        pool := [{ j with
          state := .halted
          nextIndex := j.nextIndex + 1
          remaining := j.remaining - 1
          stage := .travel
          sent := false }] } }) ∧
    (s.crane.state = .running → s.crane.inFlight = some (.fork side .pick) → j.kind = .restore .rack →
      j.stage = .travelLoaded → s.crane.pos = some (positionOf (j.bin % 2048)) →
      ∃ t, exec .done s = .next t ∧ t = { s with crane := t.crane } ∧
        t.crane.inFlight = some (.fork (j.bin % 2048 / 1024) .place) ∧ t.crane.load = .loaded ∧
        t.crane.limit = some (2 * s.ctl.setup.fork + 2000) ∧
        currentJob t = some { j with stage := .forkPlace, sent := true }))

/-- R72, R75, R76, R79: a RETRIEVE goes from stage to stage on DONE: at the bin lift begin is asked and the FORK picks; with
the bin loaded it travels to the mouth; there the FORK places. The place of a RETRIEVE makes the record OUT and gives
the outbound stand the call's carry record; the place of a STORE makes the record STORED with its call cleared. Either
way the job goes, the carriage is empty and the crane IDLE. -/
def Obligations.DoneCarriesAJobThrough : Prop :=
  (∀ (s : State) (j : Job), s.ctl.station ≠ .strapFault → s.crane.state = .running → currentJob s = some j →
    j.kind = .retrieve → tableWf BinRec.blank s.bins = true →
    let i := j.bin % 2048
    (∀ p, s.crane.inFlight = some (.move p) → j.stage = .travelEmpty → (binAt i s).state = .stored →
      ∃ t, exec .done s = .next t ∧ t.crane.pos = some p ∧ t.crane.load = s.crane.load ∧
        t.crane.inFlight = some (.fork (i / 1024) .pick) ∧ t.crane.limit = some (2 * s.ctl.setup.fork + 2000) ∧
        currentJob t = some { j with stage := .forkPick, sent := true } ∧
        binAt i t = { binAt i s with state := .lifting, call := some ⟨j.tag, j.port, j.purpose⟩ } ∧
        (∀ k, k ≠ i → binAt k t = binAt k s) ∧ t = { s with bins := t.bins, crane := t.crane }) ∧
    (∀ side q, s.crane.inFlight = some (.fork side .pick) → j.stage = .forkPick → s.crane.pos = some q →
      q ≠ Position.mouth →
      ∃ t, exec .done s = .next t ∧ t.crane.pos = s.crane.pos ∧ t.crane.load = .loaded ∧
        t.crane.inFlight = some (.move Position.mouth) ∧
        currentJob t = some { j with stage := .travelLoaded, sent := false } ∧ t = { s with crane := t.crane }) ∧
    (∀ p, s.crane.inFlight = some (.move p) → j.stage = .travelLoaded →
      ∃ t, exec .done s = .next t ∧ t.crane.pos = some p ∧ t.crane.inFlight = some (.fork 0 .place) ∧
        currentJob t = some { j with stage := .forkPlace, sent := true } ∧ t = { s with crane := t.crane })) ∧
  (∀ (s : State) (j : Job) (side : Nat), s.ctl.station = .active → s.crane.state = .running → s.crane.pool = [j] →
    j.state = .active → j.stage = .forkPlace → s.crane.inFlight = some (.fork side .place) →
    s.crane.restoreWanted = false → s.crane.storeWanted = false → tableWf BinRec.blank s.bins = true →
    let i := j.bin % 2048
    (j.kind = .retrieve → (binAt i s).state = .lifting → ∀ k, (binAt i s).call = some k →
      ∃ t c, exec .done s = .next t ∧ c = ⟨j.bin, k.port, .port, k.tag, k.purpose, 0, 0, false⟩ ∧
        (t.lanes.outStand = .holding c none ∨ (∃ l, t.lanes.outStand = .holding c (some l) ∨ t.lanes.outStand = .entering c l)) ∧
        binAt i t = { binAt i s with state := .out } ∧ (∀ m, m ≠ i → binAt m t = binAt m s) ∧
        t.crane = { s.crane with state := .idle, pool := [], load := .empty, inFlight := none, limit := none } ∧
        t = { s with bins := t.bins, crane := t.crane, lanes := t.lanes }) ∧
    (j.kind = .store → j.bin / 2048 = s.num → (binAt i s).state = .storing → (binAt i s).followOns = [] →
      ∃ t, exec .done s = .next t ∧ binAt i t = { binAt i s with state := .stored, call := none } ∧
        (∀ m, m ≠ i → binAt m t = binAt m s) ∧
        t.crane = { s.crane with
          state := .idle
          pool := []
          load := .empty
          carriage := .nothing
          inFlight := none
          limit := none } ∧
        t = { raise (.stored j.bin (binAt i s).fill) s with bins := t.bins, crane := t.crane }))

/-- R37, R74 (with R39, R64, R71, R72): a FAULT report and the expiry of a completion limit leave the crane FAULTED with
nothing in flight, the current job FROZEN and DRIVE-FAULT set. Every RETRIEVE of purpose FILL that has not lifted its
bin is failed: removed, its reservation released, its hold cleared, FILL-FAILED raised (of several, in the order of the
pool: the model's choice, assumption log 68; its record's follow-on entries stay: the model's choice, assumption log 83).
In DOZE the station enters ACTIVE too, its segments RUNNING or HELD, its
deferred-upstream flags cleared, a wake in progress abandoned. A FAULT while FAULTED changes nothing, and another report
is ignored and owed no more (assumption log 15); a report that does not complete the command in flight is a FAULT of
code 255. -/
def Obligations.DriveFaultFreezesTheCrane : Prop :=
  ∀ (s : State) (code : Nat), s.ctl.station = .active ∨ s.ctl.station = .doze →
    let cmd := commandCode s.crane.inFlight
    let frozen := fun (l : List Job) => l.map fun j => if j.state = .waiting then j else { j with state := .frozen }
    let fails := fun (j : Job) => decide (j.kind = .retrieve ∧ j.purpose = .fill ∧
      (j.state = .waiting ∨ j.stage = .travelEmpty ∨ j.stage = .forkPick ∧ j.sent = false))
    let faulted := fun (pool : List Job) (t : State) => t.crane = { s.crane with
      state := .faulted
      pos := match s.crane.inFlight with
        | some (.move _) => none
        | some .home => none
        | _ => s.crane.pos
      load := match s.crane.inFlight with
        | some (.fork ..) => .unknown
        | _ => s.crane.load
      inFlight := none
      limit := t.crane.limit
      stale := t.crane.stale
      restartRun := false
      wakeKept := false
      forkAbandoned := false
      pool := pool }
    let expires := s.crane.limit.isSome = true ∧ s.crane.inFlight ≠ none ∧ s.crane.inFlight ≠ some .wake
    let noticed := fun (n : Nat) => raise (.driveFault n cmd)
      { s with ctl := { s.ctl with record := { s.ctl.record with driveFault := true } } }
    (s.crane.state = .faulted → exec (.fault code) s = .next s ∧
      exec .done s = .next { s with crane := { s.crane with stale := s.crane.stale.erase .done } }) ∧
    (s.crane.state ≠ .faulted → ∀ p, s.crane.inFlight = some (.move p) → ReportKind.woken ∉ s.crane.stale →
      exec .woken s = exec (.fault 255) s) ∧
    (s.crane.state ≠ .faulted → s.ctl.station = .active → (∀ j ∈ s.crane.pool, j.purpose ≠ .fill) →
      let settled := fun (n : Nat) (t : State) =>
        faulted (frozen s.crane.pool) t ∧ t = { noticed n with crane := t.crane }
      (∃ t, exec (.fault code) s = .next t ∧ settled code t) ∧
      (expires → ∃ t, exec .driveLimitExpiry s = .next t ∧ settled 0 t)) ∧
    (s.crane.state ≠ .faulted → s.ctl.station = .active → s.crane.restoreWanted = false → s.crane.storeWanted = false →
      let failed := s.crane.pool.filter fails
      let settled := fun (n : Nat) (t : State) =>
        faulted (frozen (s.crane.pool.filter fun j => !fails j)) t ∧
        (∀ i, i ∈ failed.map (fun j => j.bin % 2048) → tableWf BinRec.blank s.bins = true →
          binAt i t = { binAt i s with hold := 0 }) ∧
        (∀ i, i ∉ failed.map (fun j => j.bin % 2048) → tableWf BinRec.blank s.bins = true → binAt i t = binAt i s) ∧
        t.lanes = (if (failed.any fun j => decide (j.state ≠ .waiting)) = true ∧ s.lanes.outStand = .reserved
          then { s.lanes with outStand := .empty } else s.lanes) ∧
        t = { failed.foldl (fun u j => raise (.fillFailed j.tag (j.bin % 2048)) u) (noticed n) with
          bins := t.bins, lanes := t.lanes, crane := t.crane }
      (∃ t, exec (.fault code) s = .next t ∧ settled code t) ∧
      (expires → ∃ t, exec .driveLimitExpiry s = .next t ∧ settled 0 t)) ∧
    (s.crane.state ≠ .faulted → s.ctl.station = .doze →
      (∀ j ∈ s.crane.pool, j.purpose ≠ .fill) ∨ s.crane.restoreWanted = false ∧ s.crane.storeWanted = false →
      let failed := (s.crane.pool.filter fails).map fun j => j.bin % 2048
      let settled := fun (t : State) =>
        faulted (frozen (s.crane.pool.filter fun j => !fails j)) t ∧
        (∀ i, i ∈ failed → tableWf BinRec.blank s.bins = true → binAt i t = { binAt i s with hold := 0 }) ∧
        (∀ i, i ∉ failed → tableWf BinRec.blank s.bins = true → binAt i t = binAt i s) ∧
        (failed = [] → t.bins = s.bins) ∧ t.ctl.station = .active ∧ t.ctl.record.driveFault = true ∧
        t.lanes.outSeg.deferredUp = false ∧ t.lanes.backSeg.deferredUp = false ∧ t.pins = s.pins ∧
        t.est = s.est ∧ t.auctions = s.auctions ∧ t.ctl.setup = s.ctl.setup ∧
        (s.crane.inFlight = some .wake → t.crane.limit = none ∧ ReportKind.woken ∈ t.crane.stale) ∧
        (s.fire.view ≠ 0#8 → t.lanes.outSeg.cond = .held ∧ t.lanes.backSeg.cond = .held) ∧
        (s.fire.view = 0#8 → s.fire.listen = none → s.fire.shutter = none ∨ s.fire.shutter = some .opened →
          t.lanes.outSeg.cond = .running ∧ t.lanes.backSeg.cond = .running)
      (∃ t, exec (.fault code) s = .next t ∧ settled t) ∧
      (expires → ∃ t, exec .driveLimitExpiry s = .next t ∧ settled t))

/-- R6, R8, R15, R19, R45, R68, R69, R81, R93, R110, R152: every step keeps that the receive queue holds at most 8 records,
the notice list 8 notices, the job pool 32 jobs and the Auction Unit 4 records, that the failure count is at most 16, the
merge counters and the continuity count at most 8, the fault record's counts at most 255 and the station time at most
4,294,967,295; and that slot 0 holds nothing but a FIRE. (Of the place lists see assumption log 14.) -/
def Obligations.CapacitiesAreKept : Prop :=
  (∀ s t : State, WithinCapacity s → step s = .next t → WithinCapacity t) ∧
    ∀ s t : State, SlotLaw s → step s = .next t → SlotLaw t

/-! ### Estimates, Routes and Dispatch -/

/-- R95, R96, R97, R98, R107, R108: the move time is 0 between equal positions and otherwise the larger axis time plus
settle. The cycle estimate from a position is by kind the moves and forks of the job, saturating at 65,535 ms, and
est_ms is that from the mouth. The bid value is the raw time in quarter seconds rounded up plus pack weight × the free
space after filling, at most 254; a bin that would pass 15 units has none. The ranking holds exactly the valued bins, by
value, then by index. -/
def Obligations.EstimatesOfTimeAndBid : Prop :=
  (∀ (u : Setup) (a b : Position), u.hPitch ≤ 255 → u.vPitch ≤ 255 → u.hRamp ≤ 2550 → u.vRamp ≤ 2550 → u.settle ≤ 2550 →
    a.column ≤ 64 → b.column ≤ 64 → a.level ≤ 15 → b.level ≤ 15 →
    let axis := fun (ramp pitch x y : Nat) => if x = y then 0 else ramp + (max x y - min x y) * pitch
    moveTime u a a = 0 ∧ moveTime u a b = moveTime u b a ∧ moveTime u a b ≤ 21420 ∧
      (a ≠ b → moveTime u a b =
        max (axis u.hRamp u.hPitch a.column b.column) (axis u.vRamp u.vPitch a.level b.level) + u.settle)) ∧
  (∀ (u : Setup) (p : Position) (j : Job),
    let location := positionOf (j.bin % 2048)
    let mouth : Position := ⟨0, 0⟩
    estOf u j = cycleEstimate u mouth j ∧
    (j.kind = .retrieve → cycleEstimate u p j =
      min 65535 (moveTime u p location + u.fork + moveTime u location mouth + u.fork)) ∧
    (j.kind = .store → cycleEstimate u p j =
      min 65535 (moveTime u p mouth + u.fork + moveTime u mouth location + u.fork)) ∧
    (j.kind = .restore .rack → cycleEstimate u p j = min 65535 (moveTime u p location + u.fork)) ∧
    (j.kind = .restore .outStand → cycleEstimate u p j = min 65535 (moveTime u p mouth + u.fork)) ∧
    (j.kind = .audit → cycleEstimate u p j = min 65535 (moveTime u p (positionOf j.nextIndex) + u.fork)) ∧
    ∀ i < 2048, positionOf i = ⟨i % 1024 / 16 + 1, i % 1024 % 16⟩) ∧
  (∀ (u : Setup) (pool : List Job) (top n index fill units port : Nat),
    let cycle := estOf u (retrieveJob index 0 0 .noPurpose 0)
    let raw := min 65535 (cycle + (entryLane u top n port).transit + (pool.map Job.est).sum)
    (15 < fill + units → bidValue u pool top n index fill units port = none) ∧
    (fill + units ≤ 15 → bidValue u pool top n index fill units port =
      some (min 254 ((raw + 249) / 250 + u.packWeight * (15 - fill - units))))) ∧
  (∀ l : List Valued, (ranking l).Perm l ∧
    (ranking l).Pairwise fun a b => a.value < b.value ∨ (a.value = b.value ∧ a.index ≤ b.index))

/-- R109: every bid value lies in 0 to 254, and every time the Estimator gives lies in 0 to 65,535 ms, whatever the
parameters; a saturated time gives at most 263 time units and 656 travel units. -/
def Obligations.EstimatorRangeLaw : Prop :=
  ∀ (u : Setup) (p q : Position) (j : Job) (pool : List Job) (top n d index fill units : Nat) (ramp pitch dist : Nat),
    axisTime ramp pitch dist ≤ 65535 ∧ moveTime u p q ≤ 65535 ∧ cycleEstimate u p j ≤ 65535 ∧ estOf u j ≤ 65535 ∧
    backlog pool ≤ 65535 ∧ (entryLane u top n d).transit ≤ 65535 ∧ travelUnits u p j ≤ 656 ∧
    rawTime u pool top n index d ≤ 65535 ∧ (rawTime u pool top n index d + 249) / 250 ≤ 263 ∧
    (∀ now, credit now j ≤ 65535) ∧ (∀ v, bidValue u pool top n index fill units d = some v → v ≤ 254)

/-- R100 to R103: for a destination on the ring the entry lane is the one with the shorter way to either of its segments,
the out-lane when they are equal, with that distance as its hop count and hop count × hop as its transit time; a
destination off the ring gets the out-lane, no hop count and 65,535 ms. -/
def Obligations.EntryLaneIsTheShorterWay : Prop :=
  ∀ (u : Setup) (top n d : Nat), 2 ≤ top → 1 ≤ n → n ≤ top →
    let ahead := fun (a b : Nat) => (b + 2 * top - a) % (2 * top)
    let way := fun (a : Nat) => min (ahead a (top - d)) (ahead a (top + d - 1))
    (d = 0 ∨ top < d → entryLane u top n d = { lane := .outLane, hops := none, transit := 65535 }) ∧
    (1 ≤ d → d ≤ top →
      entryLane u top n d =
        if way (top + n - 1) < way (top - n)
        then { lane := .backLane, hops := some (way (top + n - 1)), transit := min (way (top + n - 1) * u.hop) 65535 }
        else { lane := .outLane, hops := some (way (top - n)), transit := min (way (top - n) * u.hop) 65535 }) ∧
    entryLane u top n n = { lane := .outLane, hops := some 0, transit := 0 }

/-- R80, R81, R82, R104, R105, R106: at a dispatch of an IDLE crane the eligible job with the highest score starts, ties
going to the earlier stamp, the lower tag, the earlier record; the score is the credit less the travel units. A job is
eligible only while WAITING and under its kind's conditions. The start of a RETRIEVE with a STORE WAITING adds 1 to the
continuity count, the start of a STORE and the inbound stand's emptying return it to 0. (That the carriage is not empty
while a carry record stands on it, even with the load empty, is the model's choice, assumption log 60.) -/
def Obligations.DispatchStartsTheBestJob : Prop :=
  (∀ s : State, s.crane.state = .idle → dispatches s = true →
    let score := fun (j : Job) =>
      ((min 65535 (min 65535 (s.est.time - j.stamp) * 2 ^ min 3 j.urgency) : Nat) : Int)
        - (((cycleEstimate s.ctl.setup (craneAt s) j + 99) / 100 : Nat) : Int)
    ((∀ j ∈ s.crane.pool, eligible s j = false) → dispatch s = s) ∧
    ((∃ j ∈ s.crane.pool, eligible s j = true) →
      ∃ n j, s.crane.pool[n]? = some j ∧ eligible s j = true ∧
        (∀ m k, s.crane.pool[m]? = some k → eligible s k = true →
          score k < score j ∨ (score k = score j ∧ (j.stamp < k.stamp ∨ (j.stamp = k.stamp ∧
            (j.tag < k.tag ∨ (j.tag = k.tag ∧ n ≤ m)))))) ∧
        ((startJob n s).crane.state ≠ .idle → dispatch s = startJob n s))) ∧
  (∀ (s : State) (j : Job),
    let empty : Prop := s.crane.load = .empty ∧ s.crane.carriage = .nothing
    (eligible s j = true → j.state = .waiting) ∧
    (j.kind = .retrieve → j.state = .waiting →
      (eligible s j = true ↔ s.ctl.station = .active ∧ s.fire.view = 0#8 ∧ (binAt (j.bin % 2048) s).state = .stored ∧
        s.lanes.outStand = .empty ∧ empty ∧ s.crane.continuity ≠ s.ctl.setup.storageContinuity)) ∧
    (j.kind = .store → j.state = .waiting →
      (eligible s j = true ↔ (∃ c, s.lanes.inStand = .holding c ∧ c.bin = j.bin) ∧ empty)) ∧
    (j.kind = .restore .rack → j.state = .waiting → (eligible s j = true ↔ s.crane.load = .loaded)) ∧
    (j.kind = .restore .outStand → j.state = .waiting →
      (eligible s j = true ↔ s.crane.load = .loaded ∧ s.lanes.outStand = .empty)) ∧
    (j.kind = .audit → j.state = .waiting → (eligible s j = true ↔ s.ctl.station = .active ∧ empty))) ∧
  (∀ (s : State) (n : Nat) (j : Job), s.crane.pool[n]? = some j →
    let count := (startJob n s).crane.continuity
    (j.kind = .retrieve → (∃ k ∈ s.crane.pool, k.kind = .store ∧ k.state = .waiting) →
      count = min 8 (s.crane.continuity + 1)) ∧
    (j.kind = .retrieve → (∀ k ∈ s.crane.pool, k.kind = .store → k.state ≠ .waiting) → count = s.crane.continuity) ∧
    (j.kind = .store → count = 0) ∧
    (j.kind = .audit ∨ j.kind = .restore .rack ∨ j.kind = .restore .outStand → count = s.crane.continuity)) ∧
  ∀ s : State, (emptyInStand s).lanes.inStand = .empty → (emptyInStand s).crane.continuity = 0

/-! ### The Ring -/

/-- R118 (with R112, R116): a PASS is answered TAKEN exactly when it comes from the upstream neighbour for its lane, the
station is ACTIVE and the segment RUNNING, the head is not JAMMED, a place is free and no reservation stands, and the
merge counter is below merge continuity; TAKEN makes the through reservation under the handoff limit. HELD counts the
offer and, from the upstream neighbour, sets the deferred-upstream flag. -/
def Obligations.PassIsTakenOrHeld : Prop :=
  ∀ (s : State) (f : RxFrame), AddressedHere s f 8 →
    let l := laneOf (byteAt f.payload 5)
    let g := s.seg l
    let fed := s.upstream l = some f.sender.toNat
    let takes := fed ∧ s.ctl.station = .active ∧ g.cond = .running ∧ g.head ≠ .jammed ∧ g.reservation = none ∧
      g.places.length < 3 ∧ g.merge < s.ctl.setup.mergeContinuity
    ∃ t, exec (.pass f) s = .next t ∧
      (takes → t = { s with bus := { s.bus with answer := driveTaken }, lanes := t.lanes } ∧ OnlySegment l s t ∧
        t.seg l = { g with
          reservation := some (.through .neighbour (passCarry f.payload))
          tailLimit := some s.ctl.setup.handoffLimit
          merge := if localWaits l s then min 8 (g.merge + 1) else g.merge }) ∧
      (¬ takes → s.ctl.station ≠ .doze →
        t = { s with
          bus := { s.bus with answer := driveHeld }
          ctl := { s.ctl with record := { s.ctl.record with deferred := min 255 (s.ctl.record.deferred + 1) } }
          lanes := t.lanes } ∧ OnlySegment l s t ∧ t.seg l = { g with deferredUp := g.deferredUp || decide fed }) ∧
      (s.ctl.station = .doze → s.crane.state = .asleep →
        t.bus.answer = driveHeld ∧ t.ctl.record.deferred = min 255 (s.ctl.record.deferred + 1) ∧
        t.crane.state = .waking ∧ t.crane.inFlight = some .wake ∧ t.ctl.station = .doze)

/-- R117, R119, R123: a DEFERRED head offers its bin afresh when its retry interval expires or its downstream neighbour
sends SPACE: the PASS is queued with the head's record and the head is OFFERING. A SPACE from any other sender, or for
a head in any other state, changes nothing. -/
def Obligations.DeferredHeadOffersAgain : Prop :=
  (∀ (s : State) (l : Lane) (d : Nat) (p : PlaceRec) (c : Carry) (id : SlotId),
    (s.seg l).head = .deferred → (s.seg l).cond = .running → (s.seg l).places.head? = some p → p.content = .carrying c →
    (s.pins.seg l).head = true → s.downstream l = some d → mayOffer d s = true → 1 ≤ c.dest → c.dest ≤ s.top →
    c.dest ≠ s.num → s.bus.slots.freeSlot = some id →
    let offers := fun (s t : State) =>
      t = { s with bus := t.bus, lanes := t.lanes } ∧ OnlySegment l s t ∧
        t.seg l = { s.seg l with head := .offering, retry := none } ∧
        t.bus.slots = s.bus.slots.set id (.holds (newQueued (.pass l d c) s.bus.order))
    ((s.seg l).retry.isSome = true → ∃ t, exec (.offerRetryExpiry l) s = .next t ∧ offers s t) ∧
    (∀ f : RxFrame, AddressedHere s f 1 → f.sender.toNat = d → laneOf (byteAt f.payload 0) = l →
      ∃ t, exec (.space f) s = .next t ∧ offers s t ∧ t.bus.answer = driveTaken)) ∧
  (∀ (s : State) (f : RxFrame), AddressedHere s f 1 →
    s.downstream (laneOf (byteAt f.payload 0)) ≠ some f.sender.toNat ∨ (s.seg (laneOf (byteAt f.payload 0))).head ≠ .deferred →
    exec (.space f) s = .next { s with bus := { s.bus with answer := driveTaken } })

/-- R119, R120, R123, R124 (with R43): the sender of a PASS takes its outcome: TAKEN sets the head MOVING with the
offered record under the handoff limit, and for a bin that wanted a divert here adds 1 to the count of recirculations
and, where the offer abandoned its call, raises ABANDONED with the old tag; HELD makes the head DEFERRED with the retry
interval of 500 ms; NONE makes the neighbour absent and the head IDLE, but a ready head whose wanted divert target has
become free diverts its bin. A LANDED from the downstream neighbour that names a MOVING head's bin takes the head record
from the list; every other LANDED is answered TAKEN and ignored. -/
def Obligations.HandoffAtTheSender : Prop :=
  (∀ (s : State) (id : SlotId) (q : Queued) (l : Lane) (d : Nat) (c old : Carry) (pos : Nat) (more : List PlaceRec)
    (bits : AnswerBits),
    s.bus.slots.started = some id → s.bus.slots.get id = .holds q → q.errored = false → q.frame = .pass l d c →
    1 ≤ d → d ≤ 24 → s.downstream l = some d → (s.seg l).head = .offering →
    (s.seg l).places = ⟨.carrying old, pos⟩ :: more → tableWf RosterEntry.cleared s.ctl.roster = true → bits.voidMark = false →
    ∃ t, exec (.frameOutcome bits) s = .next t ∧ t.bus.failures = 0 ∧ t.bins = s.bins ∧ t.crane = s.crane ∧
      t.fire = s.fire ∧ t.auctions = s.auctions ∧ t.pins = s.pins ∧ t.seg l.other = s.seg l.other ∧
      (bits.answerMark = true → t.port = s.port ∧ OnlySegment l s t) ∧
      (bits.answerMark = true → bits.answerKind = true → t.seg l = { s.seg l with
        places := ⟨.carrying c, pos⟩ :: more
        head := .moving
        headLimit := some s.ctl.setup.handoffLimit
        retry := none }) ∧
      (bits.answerMark = true → bits.answerKind = true → old.dest ≠ s.num → t.ctl.record = s.ctl.record) ∧
      (bits.answerMark = true → bits.answerKind = true → old.dest = s.num →
        t.ctl.record = { s.ctl.record with recircs := min 255 (s.ctl.record.recircs + 1) } ∧
        (id ≠ .s0 → s.bus.claims = [] → s.ctl.notices = [] → s.bus.rx = [] →
          let base := { s with
            bus := { s.bus with slots := s.bus.slots.set id .free, tx := none, failures := 0 }
            ctl := { s.ctl with record := t.ctl.record } }
          t = { (if old.kind = .port ∧ c.kind = .home then raise (.abandoned old.bin old.tag) base else base) with
            lanes := t.lanes })) ∧
      (bits.answerMark = true → bits.answerKind = false →
        t.seg l = { s.seg l with head := .deferred, retry := some 500 }) ∧
      (bits.answerMark = false → (rosterOf d t).present = false ∧ ∀ n, n ≠ d → rosterOf n t = rosterOf n s) ∧
      (bits.answerMark = false → 1 ≤ old.dest → old.dest ≤ s.top → (s.seg l).retry = none →
        let ready := (s.pins.seg l).head = true ∧ (s.seg l).cond = .running
        let diverting := fun (x : DivertTarget) =>
          { s.seg l with head := .diverting x, headLimit := some s.ctl.setup.handoffLimit }
        let home := old.kind = .home ∧ s.lanes.inStand = .empty
        let port := old.kind = .port ∧ s.ctl.straps.port = true ∧ s.port.approach = .empty
        (¬ (ready ∧ old.dest = s.num ∧ (home ∨ port)) →
          t.seg l = { s.seg l with head := .idle } ∧ t.port = s.port ∧ OnlySegment l s t) ∧
        (ready → old.dest = s.num → home → t.seg l = diverting .inStand ∧ t.lanes.inStand = .incoming ∧
          t.lanes.outStand = s.lanes.outStand ∧ t.port = s.port) ∧
        (ready → old.dest = s.num → port → t.seg l = diverting .approach ∧ OnlySegment l s t ∧
          t.port = { s.port with approach := .claimed }))) ∧
  (∀ (s : State) (f : RxFrame), AddressedHere s f 3 →
    let l := laneOf (byteAt f.payload 2)
    let bin := wordAt f.payload 0
    ∃ t, exec (.landed f) s = .next t ∧ t.bus.answer = driveTaken ∧ t.bins = s.bins ∧ t.crane = s.crane ∧
      t.pins = s.pins ∧ t.est = s.est ∧
      (∀ c pos, s.downstream l = some f.sender.toNat → (s.seg l).head = .moving →
        (s.seg l).places = [⟨.carrying c, pos⟩] → c.bin = bin →
        (t.seg l).places = [] ∧ (t.seg l).head = .idle ∧ (t.seg l).headLimit = none) ∧
      (s.downstream l ≠ some f.sender.toNat ∨ (s.seg l).head ≠ .moving ∨ (headCarry l s).map Carry.bin ≠ some bin →
        t = { s with bus := { s.bus with answer := driveTaken } }))

/-- R117, R122, R123, R124, R125: a ready head whose bin is for this station diverts it: a HOME bin into an EMPTY inbound
stand, a PORT bin into an EMPTY APPROACH. A destination of 0 or above T makes the record a stray. A ready head whose bin
passes offers it by PASS to a neighbour that may be offered one and otherwise stays IDLE; the record offered is the
head's, and for a bin that wanted a divert here has its recirculation count raised, or its call abandoned past the limit.
A ready turn head whose bin passes claims the other lane's tail: admitted, it is MOVING; refused, DEFERRED. A bin that
follows a MOVING head to the sensor takes its record to the head place (R110; the model's reading, assumption log 12). A
report of no bin changes the sensor's reading alone. -/
def Obligations.ReadyHeadActs : Prop :=
  (∀ (s : State) (l : Lane) (p : PlaceRec) (more : List PlaceRec), s.ctl.station ≠ .strapFault →
    (s.seg l).cond = .running → (s.seg l).head = .idle → (s.seg l).retry = none →
    (s.seg l).places = p :: more → p.pos = 1 →
    let seen := { s with pins := Pins.onSeg l (fun g => { g with head := true }) s.pins }
    let diverts := fun (t : State) (x : DivertTarget) =>
      t.seg l = { s.seg l with head := .diverting x, headLimit := some s.ctl.setup.handoffLimit, retry := none } ∧
        t.seg l.other = s.seg l.other
    (∀ c, p.content = .carrying c → c.dest = s.num → c.kind = .home → 1 ≤ s.num → s.num ≤ s.top →
      s.lanes.inStand = .empty →
      ∃ t, exec (.headSensorReport l true) s = .next t ∧ diverts t .inStand ∧ t.lanes.inStand = .incoming ∧
        t = { seen with lanes := t.lanes }) ∧
    (∀ c, p.content = .carrying c → c.dest = s.num → c.kind = .port → 1 ≤ s.num → s.num ≤ s.top →
      s.ctl.straps.port = true → s.port.approach = .empty →
      ∃ t, exec (.headSensorReport l true) s = .next t ∧ diverts t .approach ∧ t.port.approach = .claimed ∧
        t = { seen with lanes := t.lanes, port := t.port }) ∧
    (∀ c, p.content = .carrying c → c.dest = 0 ∨ s.top < c.dest →
      ∃ t, exec (.headSensorReport l true) s = .next t ∧ OnlySegment l s t ∧
        t.seg l = { s.seg l with places := ⟨.stray, 1⟩ :: more } ∧
        t = { raise (.stray (3 * l.code + 1)) seen with lanes := t.lanes }) ∧
    (p.content = .stray → exec (.headSensorReport l true) s = .next seen) ∧
    exec (.headSensorReport l false) s =
      .next { s with pins := Pins.onSeg l (fun g => { g with head := false }) s.pins }) ∧
  (∀ (s : State) (l : Lane) (c : Carry) (more : List PlaceRec), s.ctl.station ≠ .strapFault → s.bus.offBus = false →
    (s.seg l).cond = .running → (s.seg l).head = .idle → (s.seg l).retry = none →
    (s.seg l).places = ⟨.carrying c, 1⟩ :: more → s.downstream l = none → 1 ≤ c.dest → c.dest ≤ s.top → c.dest ≠ s.num →
    (takesThrough l.other s = true →
      ∃ t, exec (.headSensorReport l true) s = .next t ∧
        t.seg l = { s.seg l with head := .moving, headLimit := some s.ctl.setup.handoffLimit } ∧
        t.seg l.other = { s.seg l.other with
          reservation := some (.through .turn c)
          tailLimit := some s.ctl.setup.handoffLimit
          merge := if localWaits l.other s then min 8 ((s.seg l.other).merge + 1) else (s.seg l.other).merge } ∧
        t = { s with pins := t.pins, lanes := t.lanes }) ∧
    (takesThrough l.other s = false →
      ∃ t, exec (.headSensorReport l true) s = .next t ∧ t.seg l = { s.seg l with head := .deferred } ∧
        OnlySegment l s t ∧ t = { s with pins := t.pins, lanes := t.lanes })) ∧
  (∀ (s : State) (l : Lane) (c : Carry) (more : List PlaceRec) (d : Nat) (id : SlotId), s.ctl.station ≠ .strapFault →
    (s.seg l).cond = .running → (s.seg l).head = .idle → (s.seg l).retry = none →
    (s.seg l).places = ⟨.carrying c, 1⟩ :: more → s.downstream l = some d → 1 ≤ c.dest → c.dest ≤ s.top →
    s.bus.slots.freeSlot = some id →
    let seen := { s with pins := Pins.onSeg l (fun g => { g with head := true }) s.pins }
    let offers := fun (o : Carry) =>
      ∃ t, exec (.headSensorReport l true) s = .next t ∧ OnlySegment l s t ∧
        t.seg l = { s.seg l with head := .offering } ∧
        t.bus.slots = s.bus.slots.set id (.holds (newQueued (.pass l d o) s.bus.order)) ∧
        t = { seen with bus := t.bus, lanes := t.lanes }
    (mayOffer d s = false → c.dest ≠ s.num → exec (.headSensorReport l true) s = .next seen) ∧
    (mayOffer d s = true → c.dest ≠ s.num → offers c) ∧
    (mayOffer d s = true → c.dest = s.num → c.kind = .home → s.lanes.inStand ≠ .empty →
      offers { c with recirc := min 15 (c.recirc + 1) }) ∧
    (mayOffer d s = true → c.dest = s.num → c.kind = .port → s.ctl.straps.port = false ∨ s.port.approach ≠ .empty →
      (c.recirc + 1 ≤ s.ctl.setup.recircLimit → offers { c with recirc := min 15 (c.recirc + 1) }) ∧
      (s.ctl.setup.recircLimit < c.recirc + 1 → offers { c with
        dest := c.bin / 2048, kind := .home, tag := 0, purpose := .noPurpose, recirc := min 15 (c.recirc + 1) }))) ∧
  (∀ (s : State) (l : Lane) (x y : Content) (pos : Nat) (more : List PlaceRec), s.ctl.station ≠ .strapFault →
    (s.seg l).head = .moving → (s.seg l).cond = .running → (s.seg l).places = ⟨x, 1⟩ :: ⟨y, pos⟩ :: more → 1 < pos →
    (∀ p ∈ more, p.pos ≠ 1) → (s.pins.seg l).head = false →
    ∃ t, exec (.headSensorReport l true) s = .next t ∧ OnlySegment l s t ∧
      t.seg l = { s.seg l with places := ⟨x, 1⟩ :: ⟨y, 1⟩ :: more } ∧ t = { s with pins := t.pins, lanes := t.lanes })

/-- R110, R111, R120, R121, R122, R127, R128, R130, R143, R193, R199: the middle sensor reporting a bin moves the
nearest record upstream there while the segment runs (the model's reading, assumption log 12), and with no record to
account for it makes a stray. The first bin at the tail sensor takes the reservation: a through bin joins the list and
LANDED is queued, the record of an own bin as the home visit returns it; a bin whose ID another record holds becomes a
stray (its STRAY notice after the LANDED: the model's choice, assumption log 79); a turn's head record leaves the other
lane; a bin from the outbound stand leaves the stand EMPTY, and one from SERVICE leaves SERVICE EMPTY, to which a bin in
APPROACH then advances; with no reservation it is a late arrival, a stray. -/
def Obligations.SegmentSensorsAreTaken : Prop :=
  (∀ (s : State) (l : Lane), s.ctl.station ≠ .strapFault →
    let seen := fun (b : Bool) => { s with pins := Pins.onSeg l (fun g => { g with middle := b }) s.pins }
    exec (.placeSensorReport l false) s = .next (seen false) ∧
    (placeTaken 2 (s.seg l).places = true →
      (s.pins.seg l).middle = true ∨ (s.seg l).cond ≠ .running ∨ (s.seg l).head = .jammed
        ∨ (∀ p ∈ (s.seg l).places, p.pos ≤ 2) →
      exec (.placeSensorReport l true) s = .next (seen true)) ∧
    (∀ before x after, (s.seg l).places = before ++ ⟨x, 3⟩ :: after → (∀ p ∈ before, p.pos ≤ 2) →
      (s.pins.seg l).middle = false → (s.seg l).cond = .running → (s.seg l).head ≠ .jammed →
      ∃ t, exec (.placeSensorReport l true) s = .next t ∧ OnlySegment l s t ∧
        t.seg l = { s.seg l with places := before ++ ⟨x, 2⟩ :: after } ∧ t = { seen true with lanes := t.lanes }) ∧
    (∀ x, (s.seg l).places = [⟨x, 3⟩] → (s.seg l).cond = .running → (s.seg l).head ≠ .jammed →
      ∃ t, exec (.placeSensorReport l true) s = .next t ∧ OnlySegment l s t ∧
        t.seg l = { s.seg l with places := [⟨x, 2⟩] } ∧ t = { seen true with lanes := t.lanes }) ∧
    ((s.seg l).places = [] → s.ctl.station ≠ .doze →
      ∃ t, exec (.placeSensorReport l true) s = .next t ∧ OnlySegment l s t ∧
        t.seg l = { s.seg l with places := [⟨.stray, 2⟩] } ∧
        t = { raise (.stray (3 * l.code + 2)) (seen true) with lanes := t.lanes }) ∧
    ((s.seg l).places = [] → s.ctl.station = .doze → s.crane.state = .asleep →
      ∃ t, exec (.placeSensorReport l true) s = .next t ∧ t.crane.state = .waking ∧ t.crane.inFlight = some .wake)) ∧
  (∀ (s : State) (l : Lane), s.ctl.station = .active → s.crane.state ≠ .idle → s.fire.shutter = none →
    s.bus.offBus = false → (s.pins.seg l).head = false → TailQuiet l s →
    let seen := { s with pins := Pins.onSeg l (fun g => { g with tail := true }) s.pins }
    let lands := fun (t : State) (x : Content) =>
      t.seg l = { s.seg l with reservation := none, tailLimit := none, places := (s.seg l).places ++ [⟨x, 3⟩] } ∧
        t.seg l.other = s.seg l.other
    (∀ c u id, (s.seg l).reservation = some (.through .neighbour c) → s.upstream l = some u → c.bin / 2048 ≠ s.num →
      c.bin ∉ heldBins { s with lanes := (s.onSeg l fun g => { g with reservation := none }).lanes } →
      s.bus.slots.freeSlot = some id →
      ∃ t, exec (.tailSensorReport l true) s = .next t ∧ lands t (.carrying c) ∧ OnlySegment l s t ∧
        t.bus.slots = s.bus.slots.set id (.holds (newQueued (.landed l u c.bin) s.bus.order)) ∧
        t = { seen with bus := t.bus, lanes := t.lanes }) ∧
    (∀ c k, (s.seg l).reservation = some (.entry .outStand) → s.lanes.outStand = .entering c k →
      c.bin ∉ heldBins (s.setOutStand .empty) →
      ∃ t, exec (.tailSensorReport l true) s = .next t ∧ lands t (.carrying c) ∧ t.lanes.outStand = .empty ∧
        t.lanes.inStand = s.lanes.inStand ∧ t = { seen with lanes := t.lanes }) ∧
    (let visited := fun (c : Carry) => match (homeVisit c s).1 with
        | some v => Content.carrying v.carry
        | none => Content.stray
      let without := (s.onSeg l fun g => { g with reservation := none }).lanes
      let landedTo := fun (u bin : Nat) (id : SlotId) =>
        s.bus.slots.set id (.holds (newQueued (.landed l u bin) s.bus.order))
      (∀ c u id, (s.seg l).reservation = some (.through .neighbour c) → s.upstream l = some u → c.bin / 2048 = s.num →
        c.bin ∉ heldBins { s with lanes := without } → s.bus.slots.freeSlot = some id →
        ∃ t, exec (.tailSensorReport l true) s = .next t ∧ lands t (visited c) ∧ OnlySegment l s t ∧
          t.bus.slots.get id = (landedTo u c.bin id).get id ∧ t.bins = (homeVisit c s).2.bins ∧
          t = { seen with bus := t.bus, ctl := t.ctl, bins := t.bins, lanes := t.lanes }) ∧
      (∀ c u id, (s.seg l).reservation = some (.through .neighbour c) → s.upstream l = some u →
        c.bin ∈ heldBins { s with lanes := without } → s.bus.slots.freeSlot = some id →
        ∃ t, exec (.tailSensorReport l true) s = .next t ∧ lands t .stray ∧ OnlySegment l s t ∧
          t = { raise (.stray (3 * l.code + 3))
            { seen with bus := { s.bus with slots := landedTo u c.bin id, order := s.bus.order + 1 } } with
            lanes := t.lanes }) ∧
      (∀ c k, (s.seg l).reservation = some (.entry .service) → s.port.service = .entering c k →
        c.bin ∉ heldBins (s.setService .empty) →
        ∃ t, exec (.tailSensorReport l true) s = .next t ∧ OnlySegment l s t ∧
          lands t (if c.bin / 2048 = s.num then visited c else .carrying c) ∧
          t.bins = (if c.bin / 2048 = s.num then (homeVisit c s).2.bins else s.bins) ∧
          (s.port.approach = .empty → t.port = { s.port with service := .empty }) ∧
          (∀ a, s.port.approach = .holding a →
            t.port = { s.port with service := .incoming, advanceLimit := some s.ctl.setup.handoffLimit }))) ∧
    (∀ c d pos more, (s.seg l).reservation = some (.through .turn c) → (s.seg l.other).head = .moving →
      (s.seg l.other).places = ⟨.carrying d, pos⟩ :: more → d.bin = c.bin → c.bin / 2048 ≠ s.num →
      TailQuiet l.other s → (s.pins.seg l.other).head = false →
      c.bin ∉ heldBins { s with lanes := ((s.onSeg l fun g => { g with reservation := none }).onSeg l.other
        fun g => { g with places := more }).lanes } →
      ∃ t, exec (.tailSensorReport l true) s = .next t ∧
        t.seg l = { s.seg l with reservation := none, tailLimit := none, places := (s.seg l).places ++ [⟨.carrying c, 3⟩] } ∧
        t.seg l.other = { s.seg l.other with places := more, head := .idle, headLimit := none, retry := none } ∧
        t.lanes.outStand = s.lanes.outStand ∧ t.lanes.inStand = s.lanes.inStand ∧ t = { seen with lanes := t.lanes }) ∧
    ((s.seg l).reservation = none → (s.seg l).places = [] →
      ∃ t, exec (.tailSensorReport l true) s = .next t ∧ OnlySegment l s t ∧
        t.seg l = { s.seg l with places := [⟨.stray, 3⟩] } ∧
        t = { raise (.stray (3 * l.code + 3)) seen with lanes := t.lanes }) ∧
    exec (.tailSensorReport l false) s =
      .next { s with pins := Pins.onSeg l (fun g => { g with tail := false }) s.pins })

/-- R121, R125, R128, R138, R143: at the expiry of a MOVING head's limit, a bin still at the head sensor makes the head
JAMMED, and an empty sensor takes the record from the list and makes an own bin LOST; a through reservation's limit
clears it. A divert, an entry from the outbound stand, an exit from SERVICE and an advance that run out of time release
what they had claimed; a bin that its sensor still shows is a jam or a stray with the notice. -/
def Obligations.RingLimitsExpire : Prop :=
  (∀ (s : State) (l : Lane) (c : Carry) (pos : Nat), s.ctl.station = .active → s.fire.shutter = none →
    s.bus.offBus = false → TailQuiet l s →
    ((s.seg l).head = .moving → (s.seg l).headLimit.isSome = true → (s.seg l).places = [⟨.carrying c, pos⟩] →
      ((s.pins.seg l).head = true →
        ∃ t, exec (.handoffLimitExpiry l) s = .next t ∧ OnlySegment l s t ∧
          t.seg l = { s.seg l with head := .jammed, headLimit := none, retry := none } ∧
          t = { raise (.jam c.bin l) s with lanes := t.lanes }) ∧
      ((s.pins.seg l).head = false → ∀ id, s.bus.slots.freeSlot = some id → ¬ idIsOwn s c.bin →
        ∃ t, exec (.handoffLimitExpiry l) s = .next t ∧ OnlySegment l s t ∧
          t.seg l = { s.seg l with places := [], head := .idle, headLimit := none, retry := none } ∧
          t.bus.slots = s.bus.slots.set id (.holds (newQueued (.jam l c.bin) s.bus.order)) ∧
          t = { s with bus := t.bus, lanes := t.lanes }) ∧
      ((s.pins.seg l).head = false → tableWf BinRec.blank s.bins = true → idIsOwn s c.bin →
        (binAt (c.bin % 2048) s).state = .out →
        ∃ t, exec (.handoffLimitExpiry l) s = .next t ∧
          binAt (c.bin % 2048) t = { binAt (c.bin % 2048) s with state := .lost } ∧ (t.seg l).places = [])) ∧
    (∀ src, (s.seg l).reservation = some (.through src c) → (s.seg l).tailLimit.isSome = true →
      ∃ t, exec (.reservationLimitExpiry l) s = .next t ∧ OnlySegment l s t ∧
        t.seg l = { s.seg l with reservation := none, tailLimit := none } ∧ t = { s with lanes := t.lanes })) ∧
  (∀ (s : State) (l : Lane) (c : Carry), s.ctl.station = .active → s.crane.state ≠ .idle →
    (∀ pos, (s.seg l).head = .diverting .inStand → (s.seg l).headLimit.isSome = true →
      (s.seg l).places = [⟨.carrying c, pos⟩] → s.lanes.inStand = .incoming → (s.pins.seg l).head = true →
      headCarry l.other s = none →
      ∃ t, exec (.divertLimitExpiry l) s = .next t ∧ t.lanes.inStand = .empty ∧ t.lanes.outStand = s.lanes.outStand ∧
        t.seg l = { s.seg l with head := .jammed, headLimit := none, retry := none } ∧
        t.seg l.other = s.seg l.other ∧
        t = { raise (.jam c.bin l) s with lanes := t.lanes, crane := { s.crane with continuity := 0 } }) ∧
    ((s.seg l).reservation = some (.entry .outStand) → (s.seg l).tailLimit.isSome = true →
      s.lanes.outStand = .entering c l → s.pins.outStand = true → TailQuiet l s →
      ∃ t, exec (.entryLimitExpiry l) s = .next t ∧ t.lanes.outStand = .stray ∧ t.lanes.inStand = s.lanes.inStand ∧
        t.seg l = { s.seg l with reservation := none, tailLimit := none } ∧ t.seg l.other = s.seg l.other ∧
        t = { raise (.stray 7) s with lanes := t.lanes }) ∧
    ((s.seg l).reservation = some (.entry .service) → (s.seg l).tailLimit.isSome = true →
      s.port.service = .entering c l → s.pins.service = true → TailQuiet l s →
      ∃ t, exec (.entryLimitExpiry l) s = .next t ∧ OnlySegment l s t ∧
        t.seg l = { s.seg l with reservation := none, tailLimit := none } ∧
        t = { raise (.stray 10) s with lanes := t.lanes, port := { s.port with service := .stray } }) ∧
    (s.port.service = .incoming → s.port.advanceLimit.isSome = true → s.port.approach = .holding c →
      s.pins.approach = true →
      exec .advanceLimitExpiry s =
        .next { raise (.stray 9) s with port := { approach := .stray, service := .empty, advanceLimit := none } }))

/-- R126, R128, R135, R136, R137, R146, R147: a bin reported on an EMPTY stand, APPROACH or SERVICE is a stray with its STRAY
notice. A divert that ends on the inbound stand asks a STORE; one that ends at APPROACH is HOLDING and begins its
advance; a called bin that reaches SERVICE is PRESENTED with the lamp lit and ARRIVED. A bin lifted off by hand leaves
its place EMPTY and a JAM of lane code 0 is queued for it. -/
def Obligations.StandAndPortSensorsAreTaken : Prop :=
  (∀ s : State, s.ctl.station = .active → s.crane.state ≠ .idle → s.bus.offBus = false →
    (s.lanes.outStand = .empty → exec (.outboundStandSensor true) s =
      .next { raise (.stray 7) { s with pins := { s.pins with outStand := true } } with
        lanes := { s.lanes with outStand := .stray } }) ∧
    (s.lanes.inStand = .empty → exec (.inboundStandSensor true) s =
      .next { raise (.stray 8) { s with pins := { s.pins with inStand := true } } with
        lanes := { s.lanes with inStand := .stray } }) ∧
    (∀ c k id, s.lanes.outStand = .holding c k → ¬ idIsOwn s c.bin → s.bus.slots.freeSlot = some id →
      ∃ t, exec (.outboundStandSensor false) s = .next t ∧ t.lanes.outStand = .empty ∧
        t.lanes.inStand = s.lanes.inStand ∧ t.lanes.outSeg.places = s.lanes.outSeg.places ∧
        t.lanes.backSeg.places = s.lanes.backSeg.places ∧
        t.bus.slots = s.bus.slots.set id (.holds (newQueued (.jam .outLane c.bin) s.bus.order)) ∧
        t = { s with pins := { s.pins with outStand := false }, bus := t.bus, lanes := t.lanes }) ∧
    (∀ c k, s.lanes.inStand = .incoming → s.lanes.outSeg.head = .diverting .inStand →
      s.lanes.outSeg.places = [⟨.carrying c, k⟩] → s.crane.pool.length < 32 → TailQuiet .outLane s →
      ∃ t, exec (.inboundStandSensor true) s = .next t ∧ t.lanes.inStand = .holding c ∧
        t.lanes.outSeg.places = [] ∧ t.lanes.outSeg.head = .idle ∧ t.lanes.backSeg = s.lanes.backSeg ∧
        t.crane = { s.crane with
          pool := s.crane.pool ++ [{ storeJob c.bin with
            stamp := s.est.time, est := estOf s.ctl.setup (storeJob c.bin) }]
          storeWanted := false } ∧
        t = { s with pins := { s.pins with inStand := true }, lanes := t.lanes, crane := t.crane })) ∧
  (∀ s : State, s.ctl.station = .active → s.ctl.straps.port = true →
    let seen := fun (b : Bool) => { s with pins := { s.pins with approach := b } }
    (∀ c pos, s.port.approach = .claimed → s.lanes.outSeg.head = .diverting .approach →
      s.lanes.outSeg.places = [⟨.carrying c, pos⟩] → s.port.service = .empty → TailQuiet .outLane s →
      ∃ t, exec (.approachSensor true) s = .next t ∧
        t.port = { approach := .holding c, service := .incoming, advanceLimit := some s.ctl.setup.handoffLimit } ∧
        t.lanes = { s.lanes with
          outSeg := { s.lanes.outSeg with places := [], head := .idle, headLimit := none, retry := none } } ∧
        t = { seen true with port := t.port, lanes := t.lanes }) ∧
    (s.port.approach = .empty → exec (.approachSensor true) s =
      .next { raise (.stray 9) (seen true) with port := { s.port with approach := .stray } }) ∧
    (s.port.approach = .stray → headCarry .outLane s = none → headCarry .backLane s = none →
      exec (.approachSensor false) s = .next { seen false with port := { s.port with approach := .empty } })) ∧
  (∀ s : State, s.ctl.station = .active → s.ctl.straps.port = true → s.bus.offBus = false →
    let seen := fun (b : Bool) => { s with pins := { s.pins with service := b } }
    (∀ c, s.port.service = .incoming → s.port.approach = .holding c → c.kind = .port →
      headCarry .outLane s = none → headCarry .backLane s = none →
      ∃ t, exec (.serviceSensor true) s = .next t ∧ lampLit t = true ∧
        t = { raise (.arrived c.bin c.tag) (seen true) with
          port := { approach := .empty, service := .presented c, advanceLimit := none } }) ∧
    (s.port.service = .empty → exec (.serviceSensor true) s =
      .next { raise (.stray 10) (seen true) with port := { s.port with service := .stray } }) ∧
    (∀ c id, s.port.service = .presented c → ¬ idIsOwn s c.bin → s.port.approach = .empty →
      s.bus.slots.freeSlot = some id →
      ∃ t, exec (.serviceSensor false) s = .next t ∧ lampLit t = false ∧ t.port = { s.port with service := .empty } ∧
        t.lanes.outSeg.places = s.lanes.outSeg.places ∧ t.lanes.backSeg.places = s.lanes.backSeg.places ∧
        t.bus.slots = s.bus.slots.set id (.holds (newQueued (.jam .outLane c.bin) s.bus.order)) ∧
        t = { seen false with bus := t.bus, port := t.port, lanes := t.lanes }))

/-- R129, R186: no step leaves a segment RUNNING under ring hold or behind a shutter that is not OPEN. -/
def Obligations.RingHoldLawIsKept : Prop :=
  ∀ s t : State, RingHoldLaw s → step s = .next t → RingHoldLaw t

/-! ### Ports, Calls and Lending -/

/-- R139 to R142: a RELEASE that names the bin PRESENTED at SERVICE, and a press of the button there, turn the bin
round: bound for its home, tag 0, purpose NONE, the delta added and clamped, the filled flag set for a FILL bin, and the
exit claim made. A RELEASE of any other bin, or with SERVICE not PRESENTED, is replied UNKNOWN-BIN with the clamp mark
as the delta gives it, and at a station with no port UNSUPPORTED; a press in any other SERVICE state is ignored. A
button held down is one press (R141, R151). (That the REPLY reports SERVICE as RELEASED is the model's reading,
assumption log 46.) -/
def Obligations.ReleaseTurnsTheBinRound : Prop :=
  (∀ (s : State) (id : SlotId) (r : RxRecord) (rest : List RxRecord), Takes s id r rest → r.kind = .release →
    s.ctl.station ≠ .joining → s.bus.offBus = false →
    let bin := wordAt r.payload 0
    let raw := signedAt r.payload 2
    let clamped := raw < -15 ∨ 15 < raw
    let within := fun (x : Int) => max (-15) (min x 15)
    (s.ctl.straps.port = false →
      ∃ t, exec .release s = .next t ∧ Replies t id rest (plainReply .release .unsupported bin) ∧
        t = { s with bus := t.bus }) ∧
    (s.ctl.straps.port = true → ∀ c, s.port.service = .presented c →
      (c.bin = bin → ∃ t a, exec .release s = .next t ∧ LeavesService c (within raw) s t ∧ Replies t id rest a ∧
        (clamped → a.code = .clamped ∧ a.clampMark = true) ∧ (¬ clamped → a.code = .done ∧ a.clampMark = false) ∧
        a.ref = bin ∧ a.d0 = c.tag / 256 ∧ a.d1 = c.tag % 256 ∧
        a.d2 = (BitVec.ofInt 8 (within (c.delta + within raw))).toNat ∧ a.d3 = 3 ∧
        t = { s with bus := t.bus, lanes := t.lanes, port := t.port }) ∧
      (c.bin ≠ bin → ∃ t, exec .release s = .next t ∧
        Replies t id rest { plainReply .release .unknownBin bin with clampMark := decide clamped, d3 := 2 } ∧
        t = { s with bus := t.bus })) ∧
    (s.ctl.straps.port = true → (∀ c, s.port.service ≠ .presented c) →
      ∃ t, exec .release s = .next t ∧
        Replies t id rest { plainReply .release .unknownBin bin with
          clampMark := decide clamped, d3 := s.port.service.code } ∧
        t = { s with bus := t.bus })) ∧
  (∀ s : State, s.ctl.station ≠ .strapFault →
    (s.ctl.straps.port = true → s.pins.button = false → s.bus.offBus = false → ∀ c, s.port.service = .presented c →
      ∃ t, exec .releaseButtonPress s = .next t ∧ LeavesService c 0 s t ∧ t.pins.button = true ∧
        t = { s with pins := t.pins, lanes := t.lanes, port := t.port }) ∧
    (s.ctl.straps.port = true → (∀ c, s.port.service ≠ .presented c) → s.pins.button = false →
      exec .releaseButtonPress s = .next { s with pins := { s.pins with button := true } }) ∧
    (s.pins.button = true → exec .releaseButtonPress s = .next s) ∧
    (s.ctl.straps.port = true →
      exec .releaseButtonReleased s = .next { s with pins := { s.pins with button := false } }) ∧
    (s.ctl.straps.port = false → exec .releaseButtonPress s = .next s ∧ exec .releaseButtonReleased s = .next s))

/-! ### Returns and the Room Auction -/

/-- R152, R153, R154: a ROOM from the gateway node is joined when its tag and units are in range, its port station is recorded
with a port, the station is ACTIVE or DOZE and takes returns, the alarm view is empty, no record holds the tag and one
of the four is free: a SCANNING record is taken, with bid close and window end the bid window less 10 ms and the bid
window after the start. In every other case it is ignored. (That the start is recorded in tenths of a second and the two
times as intervals from it is the model's choice, assumption log 64.) -/
def Obligations.RoomIsJoinedOrIgnored : Prop :=
  ∀ (s : State) (f : RxFrame), s.ctl.station ≠ .strapFault → s.bus.offBus = false → f.sender.toNat = 30 →
    s.num ≤ 24 → f.dest = 0#5 → f.payload.length = 4 →
    let tag := wordAt f.payload 0
    let units := byteAt f.payload 2
    let port := byteAt f.payload 3
    let joins := (1 ≤ tag ∧ tag ≤ 4095) ∧ (1 ≤ units ∧ units ≤ 15) ∧ (1 ≤ port ∧ port ≤ 24) ∧
      (rosterOf port s).port = true ∧ (s.ctl.station = .active ∨ s.ctl.station = .doze) ∧
      s.ctl.setup.takesReturns = true ∧ s.fire.view = 0#8 ∧ (∀ r ∈ s.auctions.records, r.roomTag ≠ tag) ∧
      s.auctions.records.length < 4
    ∃ t, exec (.room f) s = .next t ∧
      t = { s with bus := { s.bus with answer := silent }, auctions := t.auctions } ∧
      (joins → ∃ r, t.auctions.records = s.auctions.records ++ [r] ∧ r.roomTag = tag ∧ r.units = units ∧ r.port = port ∧
        r.start = s.est.time ∧ r.phase = .scanning ∧ r.candidate = none ∧ r.own = none ∧ r.lowest = none ∧
        r.voidMark = false ∧ r.closeLimit = some (s.ctl.setup.bidWindow - 10) ∧ r.windowLimit = s.ctl.setup.bidWindow) ∧
      (¬ joins → t.auctions = s.auctions)

/-- R157, R158, R159, R160: a BID becomes the lowest seen of its tag's record when it is lower, by value and then by
station; one lower than an own BID still queued and not started has that one returned ABORTED, the record LOST and its
hold cleared; one already started is marked for the abort. Bid close does the same to an own BID not yet returned; a bid
close that has passed already is no event (the model's choice, assumption log 4). -/
def Obligations.BidsAreComparedUntilTheClose : Prop :=
  (∀ (s : State) (f : RxFrame), s.ctl.station ≠ .strapFault → isStation f.sender.toNat = true → f.sender.toNat ≠ s.num →
    f.dest = 0#5 → f.payload.length = 2 →
    let tag := wordAt f.payload 0
    let value := f.param.toNat
    let lower := fun (b : BidPair) => value < b.value ∨ (value = b.value ∧ f.sender.toNat < b.station)
    ∃ t, exec (.bid f) s = .next t ∧
      t = { s with bus := t.bus, ctl := t.ctl, bins := t.bins, auctions := t.auctions } ∧
      (auctionOf tag s = none → t = { s with bus := { s.bus with answer := silent } }) ∧
      (∀ r, auctionOf tag s = some r →
        (∃ u, auctionOf tag t = some u ∧ u.candidate = r.candidate ∧ u.own = r.own ∧
          u.lowest = (match r.lowest with
            | none => some ⟨value, f.sender.toNat⟩
            | some b => if lower b then some ⟨value, f.sender.toNat⟩ else some b)) ∧
        (∀ v i id q, r.phase = .bidding → r.bidReturned = false → r.own = some v → r.candidate = some i →
          lower ⟨v, s.num⟩ → (∀ c ∈ s.bus.claims, isBidOf tag c.frame = false) →
          s.bus.slots.find (fun q => isBidOf tag q.frame) = some id → s.bus.slots.get id = .holds q →
          (q.started = false → (∃ u, auctionOf tag t = some u ∧ u.phase = .lost) ∧
            t.bins = tablePut BinRec.blank s.bins i { binAt i s with hold := 0 }) ∧
          (q.started = true → (∃ u, auctionOf tag t = some u ∧ u.phase = .bidding) ∧ t.bins = s.bins ∧
            t.bus.slots.get id = .holds { q with abortAsked := true })))) ∧
  (∀ (s : State) (tag : Nat) (r : Auction), auctionOf tag s = some r →
    ∃ t, exec (.bidClose tag) s = .next t ∧
      t = { s with bus := t.bus, ctl := t.ctl, bins := t.bins, auctions := t.auctions } ∧
      (r.phase ≠ .bidding ∨ r.bidReturned = true →
        auctionOf tag t = some { r with closeLimit := none } ∧ t.bus = s.bus ∧ t.ctl = s.ctl ∧ t.bins = s.bins) ∧
      (r.closed = true → t = s) ∧
      (∀ i id q, r.closed = false → r.phase = .bidding → r.bidReturned = false → r.candidate = some i →
        (∀ c ∈ s.bus.claims, isBidOf tag c.frame = false) →
        s.bus.slots.find (fun q => isBidOf tag q.frame) = some id → s.bus.slots.get id = .holds q → q.started = false →
        auctionOf tag t = some { r with closeLimit := none, phase := .lost, bidReturned := true } ∧
        t.bins = tablePut BinRec.blank s.bins i { binAt i s with hold := 0 }))

/-- R155, R156: at the end of its scan a record whose best bin is lower than the lowest seen, has no RETRIEVE and takes the
hold is BIDDING with it, its BID queued; where that bin has gone meanwhile the next best is tried; with the void mark
set or no bin valued the record is QUIET. (That the indices not read at the ROOM's delivery are read at SCAN_END is the
model's choice, assumption log 6.) -/
def Obligations.ScanEndBidsOrGoesQuiet : Prop :=
  ∀ (s : State) (tag : Nat) (r : Auction) (id : SlotId), auctionOf tag s = some r → r.phase = .scanning →
    s.bus.offBus = false → s.bus.slots.freeSlot = some id →
    let noted := r.noted ++ scanRange r.units r.nextRead 2048 s
    let ranked := scanRanking { r with noted := noted } s
    let beats := fun (v : Valued) =>
      ∀ b, r.lowest = some b → v.value < b.value ∨ (v.value = b.value ∧ s.num < b.station)
    let takesHold := fun (v : Valued) => hasRetrieve v.index s = false ∧ (binAt v.index s).state = .stored ∧
      (binAt v.index s).hold = 0 ∧ (binAt v.index s).fill + r.units ≤ 15
    let bids := fun (t : State) (v : Valued) =>
      (∃ u, auctionOf tag t = some u ∧ u.phase = .bidding ∧ u.candidate = some v.index ∧ u.own = some v.value) ∧
        t.bins = tablePut BinRec.blank s.bins v.index { binAt v.index s with hold := r.units } ∧
        t.bus.slots = s.bus.slots.set id (.holds (newQueued (.bid tag v.value) s.bus.order))
    let quiet := fun (t : State) => (∃ u, auctionOf tag t = some u ∧ u.phase = .quiet) ∧ t.bins = s.bins ∧ t.bus = s.bus
    ∃ t, exec (.scanEnd tag) s = .next t ∧ t = { s with bus := t.bus, bins := t.bins, auctions := t.auctions } ∧
      (r.voidMark = true ∨ ranked = [] → quiet t) ∧
      (r.voidMark = false → r.closed = false → ∀ v more, ranked = v :: more →
        (beats v → takesHold v → bids t v) ∧
        (¬ beats v → quiet t) ∧
        (beats v → ¬ takesHold v → ∀ w rest, more = w :: rest → beats w → takesHold w → bids t w) ∧
        (beats v → ¬ takesHold v → more = [] → quiet t))

/-- R161, R163: at its window end a record is freed; a BIDDING one whose own pair is the lowest seen, not marked void, has
WON and its FILL job enters the pool with urgency 1; one that is beaten or void has its hold cleared; any other has no
effect. -/
def Obligations.WindowEndDecidesTheAuction : Prop :=
  ∀ (s : State) (tag : Nat) (r : Auction), auctionOf tag s = some r →
    let others := s.auctions.records.filter fun x => decide (x.roomTag ≠ tag)
    let freed := { s with auctions := { s.auctions with records := others } }
    let own := ∃ v, r.own = some v ∧ r.lowest = some ⟨v, s.num⟩
    (r.phase ≠ .bidding → exec (.windowEnd tag) s = .next freed) ∧
    (∀ i, r.phase = .bidding → r.candidate = some i → (r.voidMark = true ∨ ¬ own) →
      exec (.windowEnd tag) s =
        .next { freed with bins := tablePut BinRec.blank s.bins i { binAt i s with hold := 0 } }) ∧
    (∀ i v, r.phase = .bidding → r.candidate = some i → r.voidMark = false → r.own = some v →
      r.lowest = some ⟨v, s.num⟩ → s.ctl.station = .active → s.crane.state ≠ .idle → s.crane.state ≠ .faulted →
      s.crane.state ≠ .stopped → (binAt i s).state = .stored → (binAt i s).hold ≠ 0 → hasRetrieve i s = false →
      nonStoreCount s.crane.pool < 31 → s.crane.pool.length < 32 →
      let job := retrieveJob (s.num * 2048 + i) tag r.port .fill 1
      r.roomTag = tag →
      exec (.windowEnd tag) s = .next { raise (.won tag i v) freed with
        crane := { s.crane with
          pool := s.crane.pool ++ [{ job with stamp := s.est.time, est := estOf s.ctl.setup job }] } }) ∧
    (∀ i v, r.phase = .bidding → r.candidate = some i → r.voidMark = false → r.own = some v →
      r.lowest = some ⟨v, s.num⟩ → r.roomTag = tag →
      (s.ctl.station = .shutdown ∨ s.ctl.station = .recovery ∨ s.crane.state = .faulted ∨ s.crane.state = .stopped
        ∨ (binAt i s).state = .lost ∨ (binAt i s).hold = 0) →
      exec (.windowEnd tag) s = .next (raise (.fillFailed tag i)
        { raise (.won tag i v) freed with bins := tablePut BinRec.blank s.bins i { binAt i s with hold := 0 } }))

/-- R156, R157, R161, R162: the lowest seen does not depend on the order in which the bids arrived, so of two stations
that have compared the same bids, each station bidding once, at most one finds its own pair the lowest. -/
def Obligations.SameBidsHaveOneWinner : Prop :=
  ∀ (p q : List BidPair) (a b : Auction), p.Perm q → (p.map BidPair.station).Nodup → a.lowest = none → b.lowest = none →
    let seenA := p.foldl (fun r x => seeBid x r) a
    let seenB := q.foldl (fun r x => seeBid x r) b
    seenA.lowest = seenB.lowest ∧
      (∀ m ∈ p, (∀ x ∈ p, m.value < x.value ∨ (m.value = x.value ∧ m.station ≤ x.station)) → seenA.lowest = some m) ∧
      (∀ x y, seenA.lowest = some x → seenB.lowest = some y → x.station = y.station)

/-! ### Fire Shutdown -/

/-- R169, R170, R175, R179 (with R160): a FIRE adds its mask to the alarm view and marks every auction record void; the
own compartment's entry takes a station that is ACTIVE, DOZE or RECOVERY to SHUTDOWN with the fire latch set. A CLEAR
from the fire panel node takes its mask out, less the own compartment while the fire line is asserted; the own
compartment's leaving takes SHUTDOWN to RECOVERY with the crane as it was. A CLEAR from any other sender changes
nothing. -/
def Obligations.FireAndClearMoveTheView : Prop :=
  ∀ (s : State) (f : RxFrame) (mask : BitVec 8), BroadcastHere s f 1 → f.payload = [mask] →
    let grown := s.fire.view ||| mask
    let shrunk := s.fire.view &&& ~~~mask
    let kept := s.pins.fireLine = true ∧ mask.getLsbD s.compartment = true
    (∃ t, exec (.fire f) s = .next t ∧ t.fire.view = grown ∧ t.pins = s.pins ∧ t.est = s.est ∧ t.port = s.port ∧
      t.ctl.setup = s.ctl.setup ∧ t.bus.answer = silent ∧ (∀ a ∈ t.auctions.records, a.voidMark = true) ∧
      (grown = s.fire.view → t.fire = s.fire ∧ t.crane = s.crane ∧ t.lanes = s.lanes ∧ t.ctl.station = s.ctl.station) ∧
      (s.ctl.station = .active ∨ s.ctl.station = .doze ∨ s.ctl.station = .recovery → s.ownAlarmed = false →
        grown.getLsbD s.compartment = true →
        t.ctl.station = .shutdown ∧ t.fire.latch = true ∧ (rosterOf s.num t).announced = .shutdown ∧
        t.lanes.outSeg.cond = .held ∧ t.lanes.backSeg.cond = .held) ∧
      (s.ctl.station = .joining ∨ s.ctl.station = .shutdown ∧ s.ownAlarmed = true ∨
        s.ctl.station ≠ .shutdown ∧ grown.getLsbD s.compartment = false →
        t.ctl.station = s.ctl.station ∧ t.fire.latch = s.fire.latch ∧ t.crane = s.crane)) ∧
    (f.sender.toNat = 31 →
      ∃ t, exec (.clear f) s = .next t ∧ t.pins = s.pins ∧ t.est = s.est ∧ t.auctions = s.auctions ∧
        t.ctl.setup = s.ctl.setup ∧
        (kept → t.fire.view = s.fire.view &&& (~~~mask ||| s.ownMask) ∧ t.fire.repeatTimer = some 2000) ∧
        (¬ kept → t.fire.view = shrunk ∧ t.fire.repeatTimer = s.fire.repeatTimer) ∧
        (¬ kept → shrunk = s.fire.view → t = { s with bus := { s.bus with answer := silent } }) ∧
        (s.ctl.station = .shutdown → s.ownAlarmed = true → ¬ kept → mask.getLsbD s.compartment = true →
          t.ctl.station = .recovery ∧ t.crane = s.crane ∧ t.fire.latch = s.fire.latch ∧
          t.lanes.outSeg.cond = .held ∧ t.lanes.backSeg.cond = .held) ∧
        (s.ctl.station = .active → s.ownAlarmed = false → s.fire.view ≠ 0#8 → shrunk = 0#8 → s.fire.shutter = none →
          s.fire.listen = none → t.lanes.outSeg.cond = .running ∧ t.lanes.backSeg.cond = .running)) ∧
    (f.sender.toNat ≠ 31 → exec (.clear f) s = .next { s with bus := { s.bus with answer := silent } })

/-- R176 (with R74, R175): at entry to SHUTDOWN the crane is stopped by STOP, but for one that is UNREFERENCED, STOPPED,
FAULTED or ASLEEP, which gets no command, and a WAKING one, whose WAKE is given up; a HOMING one becomes UNREFERENCED.
The current job is FROZEN, and no FILL job that has not lifted its bin stays in the pool. -/
def Obligations.ShutdownStopsTheCrane : Prop :=
  ∀ (s : State) (f : RxFrame) (mask : BitVec 8), BroadcastHere s f 1 → f.payload = [mask] →
    s.ctl.station = .active ∨ s.ctl.station = .doze ∨ s.ctl.station = .recovery → s.ownAlarmed = false →
    mask.getLsbD s.compartment = true →
    ∃ t, exec (.fire f) s = .next t ∧ t.crane.restartRun = false ∧
      (AtRest s.crane.state → t.crane.state = s.crane.state ∧ t.crane.inFlight = s.crane.inFlight) ∧
      (s.crane.state = .homing → t.crane.state = .unreferenced ∧ t.crane.inFlight = some .stop) ∧
      (s.crane.state = .idle ∨ s.crane.state = .running ∨ s.crane.state = .halting ∨ s.crane.state = .halted →
        t.crane.state = .stopped ∧ t.crane.inFlight = some .stop ∧
        (s.crane.inFlight ≠ some .stop → t.crane.limit = some 5000)) ∧
      (s.crane.state = .waking → t.crane.state = .asleep ∧ t.crane.inFlight = none) ∧
      (∀ j ∈ t.crane.pool, j.state = .waiting ∨ j.state = .frozen) ∧
      (∀ j ∈ t.crane.pool, j.kind = .retrieve → j.purpose = .fill →
        j.state = .frozen ∧ j.stage ≠ .travelEmpty ∧ (j.stage = .forkPick → j.sent = true)) ∧
      ((∀ j ∈ s.crane.pool, j.purpose ≠ .fill) →
        t.crane.pool = s.crane.pool.map fun j => if j.state = .waiting then j else { j with state := .frozen })

/-- R170: the fire line's change to asserted, and each expiry of the fire repeat with the line still asserted, put the
own compartment in the view, queue a FIRE of that compartment alone in slot 0 (merged into an unstarted one there), and
start the repeat of 2 s; the change to not asserted stops the repeat and leaves the view. (That the expiry of a repeat
that is not running changes nothing is the model's choice, assumption log 4.) -/
def Obligations.FireLineRaisesTheAlarm : Prop :=
  ∀ s : State, s.ctl.station ≠ .strapFault → SlotLaw s →
    let lit := { s with pins := { s.pins with fireLine := true } }
    let rings := fun (t : State) =>
      t.pins = lit.pins ∧ t.fire.view = s.fire.view ||| s.ownMask ∧ t.fire.repeatTimer = some 2000 ∧ t.ownAlarmed = true ∧
        (s.ownAlarmed = true → t = { lit with bus := t.bus, fire := { s.fire with repeatTimer := some 2000 } }) ∧
        (s.bus.offBus = false → s.bus.slots.s0 = .free →
          ∃ n, t.bus.slots.s0 = .holds (newQueued (.fire s.ownMask) n)) ∧
        (∀ q m, s.bus.offBus = false → s.bus.slots.s0 = .holds q → q.started = false → q.frame = .fire m →
          t.bus.slots.s0 = .holds { q with frame := .fire (m ||| s.ownMask) }) ∧
        (s.bus.offBus = true → t.bus.slots.s0 = s.bus.slots.s0 ∧ t.bus.firePending = s.bus.firePending)
    (s.pins.fireLine = false → ∃ t, exec .fireLineAsserted s = .next t ∧ rings t) ∧
    (s.pins.fireLine = true → exec .fireLineAsserted s = .next s) ∧
    (s.pins.fireLine = true → s.fire.repeatTimer.isSome = true → ∃ t, exec .fireRepeatExpiry s = .next t ∧ rings t) ∧
    (s.pins.fireLine = false ∨ s.fire.repeatTimer = none → exec .fireRepeatExpiry s = .next s) ∧
    exec .fireLineReleased s = .next { s with
      pins := { s.pins with fireLine := false }
      fire := { s.fire with repeatTimer := none } }

/-- R180, R181, R182: RESTART is taken in RECOVERY with the crane at rest and no STOP in flight, and in ACTIVE with a
FAULTED crane: an ASLEEP crane gets WAKE, every other HOME. It is BUSY in RECOVERY in the other crane states, NOT-READY
in every other case. WOKEN goes on to HOME. HOMED ends the run of a station in RECOVERY with the latch cleared and the
station ACTIVE, at the mouth with the load as reported; a load that no job accounts for, one with a carry record among
them, makes the carriage a stray, and its RESTORE is wanted no more (that a carry record becomes a stray is the model's
reading, assumption log 35). The first HOME run after a reset ends likewise (R73). (That a STOP in flight with an
UNREFERENCED crane does not make it BUSY is read from R180's table, assumption log 45; that R180 decides the reply in
JOINING is log 50.) -/
def Obligations.RestartReferencesTheCrane : Prop :=
  (∀ (s : State) (id : SlotId) (r : RxRecord) (rest : List RxRecord), Takes s id r rest → r.kind = .restart →
    let reply := fun (code : ResultCode) => { plainReply .restart code 0 with d0 := s.crane.state.code }
    let stops := s.crane.state = .stopped ∧ s.crane.inFlight = some .stop
    (s.ctl.station = .recovery ∧ (s.crane.state = .unreferenced ∨ s.crane.state = .stopped ∨ s.crane.state = .faulted)
        ∧ ¬ stops ∨ s.ctl.station = .active ∧ s.crane.state = .faulted →
      ∃ t, exec .restart s = .next t ∧ Replies t id rest (reply .done) ∧
        t = { s with
          bus := t.bus
          crane := { s.crane with
            state := .homing
            inFlight := some .home
            lastSent := some .home
            limit := some 60000
            stale := t.crane.stale
            restartRun := true } }) ∧
    (s.ctl.station = .recovery → s.crane.state = .asleep →
      ∃ t, exec .restart s = .next t ∧ Replies t id rest (reply .done) ∧
        t = { s with
          bus := t.bus
          crane := { s.crane with
            state := .waking
            inFlight := some .wake
            lastSent := some .wake
            limit := some s.ctl.setup.wakeLimit
            stale := t.crane.stale
            wakeKept := false
            restartRun := true } }) ∧
    (s.ctl.station = .recovery → stops ∨ ¬ AtRest s.crane.state →
      ∃ t, exec .restart s = .next t ∧ Replies t id rest (reply .busy) ∧ t = { s with bus := t.bus }) ∧
    (s.ctl.station = .active ∧ s.crane.state ≠ .faulted ∨ s.ctl.station = .doze ∨ s.ctl.station = .joining →
      ∃ t, exec .restart s = .next t ∧ Replies t id rest (reply .notReady) ∧ t = { s with bus := t.bus }) ∧
    (s.ctl.station = .shutdown →
      ∃ t a, exec .restart s = .next t ∧ Replies t id rest a ∧ a.code = .notReady ∧ a.ref = 0 ∧ t = { s with bus := t.bus })) ∧
  (∀ s : State, s.ctl.station ≠ .strapFault → s.crane.restartRun = true →
    (s.crane.state = .waking → s.crane.inFlight = some .wake →
      exec .woken s = .next { s with crane := { s.crane with
        state := .homing, inFlight := some .home, lastSent := some .home, limit := some 60000 } }) ∧
    (s.ctl.station = .recovery → s.crane.state = .homing → s.crane.inFlight = some .home → s.crane.pool = [] →
      let ends := fun (t : State) (load : Load) (carriage : Carriage) =>
        t.ctl.station = .active ∧ t.fire.latch = false ∧ t.pins = s.pins ∧ t.est = s.est ∧ t.auctions = s.auctions ∧
          t.ctl.setup = s.ctl.setup ∧ t.bins = s.bins ∧ (rosterOf s.num t).announced = .active ∧
          t.crane = { s.crane with
            state := .idle
            pos := some Position.mouth
            load := load
            carriage := carriage
            inFlight := none
            limit := none
            restoreWanted := t.crane.restoreWanted
            restartRun := false }
      (s.crane.carriage = .nothing → ∃ t, exec (.homed false) s = .next t ∧ ends t .empty .nothing ∧
        t.crane.restoreWanted = s.crane.restoreWanted) ∧
      (s.crane.carriage ≠ .stray → ∃ t, exec (.homed true) s = .next t ∧ ends t .loaded .stray ∧
        t.crane.restoreWanted = false))) ∧
  (∀ (s : State), s.ctl.station ≠ .strapFault → s.crane.state = .homing → s.crane.inFlight = some .home →
    s.crane.restartRun = false → s.crane.pool = [] →
    (s.crane.carriage = .nothing → exec (.homed false) s = .next { s with crane := { s.crane with
      state := .idle, pos := some Position.mouth, load := .empty, inFlight := none, limit := none } }) ∧
    (s.crane.carriage ≠ .stray → ∃ t, exec (.homed true) s = .next t ∧
      t = { raise (.stray 0) s with crane := { s.crane with
        state := .idle, pos := some Position.mouth, load := .loaded, carriage := .stray, inFlight := none,
        limit := none, restoreWanted := false } }))

/-- R183 (with R182): how HOMED settles the frozen job of a RESTART run in RECOVERY, by its kind, its stage and the load
reported. An AUDIT settled with the carriage empty starts again at once, since the station is then ACTIVE (R80, R82). -/
def Obligations.FrozenJobIsSettled : Prop :=
  ∀ (s : State) (j : Job), s.ctl.station = .recovery → s.crane.restartRun = true → s.crane.state = .homing →
    s.crane.inFlight = some .home → s.crane.pool = [j] → j.state = .frozen → s.fire.view ≠ 0#8 →
    s.crane.restoreWanted = false → s.crane.storeWanted = false → tableWf BinRec.blank s.bins = true →
    (j.kind = .audit ∨ j.kind = .restore .outStand ∨ idIsOwn s j.bin) →
    let i := j.bin % 2048
    let b := binAt i s
    let unpicked := j.stage = .travelEmpty ∨ j.stage = .forkPick ∧ j.sent = false
    let carrying := j.stage = .travelLoaded ∨ j.stage = .forkPlace ∧ j.sent = true
    let loc := positionOf i
    let homed := fun (loaded : Bool) (t : State) => exec (.homed loaded) s = .next t ∧ t.ctl.station = .active
    let waits := fun (t : State) (st : Stage) => t.crane.pool = [{ j with state := .waiting, stage := st, sent := false }]
    let goesTo := fun (t : State) (p : Position) => t.crane.state = .running ∧ t.crane.inFlight = some (.move p)
    let others := fun (t : State) => ∀ k, k ≠ i → binAt k t = binAt k s
    (j.kind = .retrieve → unpicked → s.crane.carriage = .nothing → s.lanes.outStand = .reserved →
      (∃ t, homed true t ∧ waits t .travelEmpty ∧ t.lanes.outStand = .empty ∧ t.crane.state = .idle ∧
        t.crane.carriage = .stray ∧ t.bins = s.bins) ∧
      (∃ t, homed false t ∧ waits t .travelEmpty ∧ t.lanes.outStand = .empty ∧ t.crane.state = .idle ∧
        t.crane.carriage = .nothing ∧ t.bins = s.bins)) ∧
    (j.kind = .retrieve → j.stage = .forkPick → j.sent = true → s.lanes.outStand = .reserved → b.state = .lifting →
      ∃ t, homed false t ∧ waits t .travelEmpty ∧ t.lanes.outStand = .empty ∧ t.crane.state = .idle ∧
        binAt i t = { b with state := .stored, call := none } ∧ others t) ∧
    (j.kind = .retrieve → carrying → b.state = .lifting → ∀ c, b.call = some c →
      ∃ t x, homed false t ∧ t.crane.pool = [] ∧ t.crane.state = .idle ∧ binAt i t = { b with state := .out } ∧ others t ∧
        x = ⟨j.bin, c.port, .port, c.tag, c.purpose, 0, 0, false⟩ ∧
        ((∃ l, t.lanes.outStand = .holding x l) ∨ ∃ l, t.lanes.outStand = .entering x l)) ∧
    (j.kind = .retrieve → (j.stage = .forkPick ∧ j.sent = true ∨ carrying) → s.lanes.outStand = .reserved →
      b.state = .lifting → b.call.map Call.tag = some j.tag →
      ∃ t k m, homed true t ∧ goesTo t loc ∧ t.lanes.outStand = .empty ∧ binAt i t = { b with call := none } ∧ others t ∧
        t.crane.pool = [k, m] ∧ k.kind = .restore .rack ∧ k.bin = j.bin ∧ k.tag = 0 ∧ k.urgency = 3 ∧ k.state = .active ∧
        k.stage = .travelLoaded ∧ k.stamp = s.est.time ∧ m.kind = .retrieve ∧ m.bin = j.bin ∧ m.tag = j.tag ∧
        m.port = j.port ∧ m.purpose = j.purpose ∧ m.urgency = j.urgency ∧ m.state = .waiting ∧ m.stamp = s.est.time) ∧
    (j.kind = .store → unpicked → b.state = .out →
      (s.crane.carriage = .nothing → ∃ t, homed true t ∧ waits t .travelEmpty ∧ t.crane.carriage = .stray ∧ t.bins = s.bins) ∧
      (∃ t, homed false t ∧ t.crane.state = .running ∧ t.crane.inFlight = some (.fork 1 .pick) ∧
        t.crane.pool = [{ j with state := .active, stage := .forkPick, sent := true }] ∧
        binAt i t = { b with state := .storing } ∧ others t)) ∧
    (j.kind = .store → j.stage = .forkPick → j.sent = true →
      (∀ c, s.lanes.inStand = .holding c → (s.lanes.outSeg.head = .idle ∧ s.lanes.backSeg.head = .idle) →
        ∃ t, homed true t ∧ goesTo t loc ∧ t.crane.carriage = .carrying c ∧ t.bins = s.bins) ∧
      (∃ t, homed false t ∧ t.crane.state = .running ∧ t.crane.inFlight = some (.fork 1 .pick) ∧ t.bins = s.bins)) ∧
    (j.kind = .store ∨ j.kind = .restore .rack → carrying →
      (∃ t, homed true t ∧ goesTo t loc ∧ t.bins = s.bins) ∧
      (b.state = (if j.kind = .store then .storing else .lifting) → b.followOns = [] →
        ∃ t, homed false t ∧ t.crane.pool = [] ∧ t.crane.state = .idle ∧
          binAt i t = { b with state := .stored, call := none } ∧ others t)) ∧
    (j.kind = .restore .outStand → carrying →
      (∃ t, homed true t ∧ t.crane.state = .running ∧ t.crane.inFlight = some (.fork 0 .place) ∧
        t.crane.pool = [{ j with state := .active, stage := .forkPlace, sent := true }] ∧ t.bins = s.bins) ∧
      (∀ c, s.crane.carriage = .carrying c →
        ∃ t, homed false t ∧ t.crane.pool = [] ∧ t.crane.state = .idle ∧ t.crane.carriage = .nothing ∧ t.bins = s.bins ∧
          ((∃ l, t.lanes.outStand = .holding c l) ∨ ∃ l, t.lanes.outStand = .entering c l))) ∧
    (j.kind = .audit → s.crane.carriage = .nothing →
      (∃ t, homed true t ∧ waits t .travel ∧ t.crane.carriage = .stray ∧ t.bins = s.bins) ∧
      (∃ t, homed false t ∧ goesTo t (positionOf j.nextIndex) ∧ t.bins = s.bins ∧
        t.crane.pool = [{ j with state := .active, stage := .travel, sent := false }]))

/-- R172, R185, R187, R188, R189, R190 (with R169, R186): a FIRE that brings the close condition begins the clear wait
of an OPEN shutter, both segments HELD, or CLOSING at once where no handoff crosses, and ends OPENING in CLOSING; an own
alarm ends OPENING too (assumption log 48). CLEARING ends at its clear time or with the last crossing handoff, by
LANDED, landing or limit. CLOSING drives CLOSE under a 15 s limit; the closed sensor ends CLOSING or FAILED in CLOSED,
the close limit ends CLOSING in FAILED with SHUTTER-FAULT, and either goes on to OPENING where the open condition holds,
as a CLEAR that brings it does. The open sensor ends OPENING in OPEN, and the segments leave the wall rule. The end of
the listen period ends its ring hold, and drives OPEN again for a shutter still OPENING; its expiry while it is not
running changes nothing (the model's choice, log 4). (That CLOSING and OPENING wait for the next report of their sensor
is the model's choice, log 65.) -/
def Obligations.ShutterSequence : Prop :=
  ∀ s : State, s.ctl.station ≠ .strapFault →
    let shut := fun (b : Bool) => { s with pins := { s.pins with shutterClosed := b } }
    let opened := fun (b : Bool) => { s with pins := { s.pins with shutterOpen := b } }
    let own := fun (v : BitVec 8) => v.getLsbD s.compartment = true
    let closes := fun (v : BitVec 8) => s.fire.below = none ∧ v ≠ 0#8 ∨
      ∃ b, s.fire.below = some b ∧ b ≠ s.compartment ∧ (own v ∨ v.getLsbD b = true)
    let opens := fun (v : BitVec 8) => (s.fire.below = none → v = 0#8) ∧
      (∀ b, s.fire.below = some b → v.getLsbD s.compartment = false ∧ v.getLsbD b = false) ∧
      s.ctl.station = .active ∧ s.fire.listen = none
    let mayOpen := opens s.fire.view
    let closing := fun (t : State) => t.fire.shutter = some .closing ∧ t.fire.closeOut = true ∧ t.fire.openOut = false ∧
      t.fire.closeLimit = some 15000
    let opening := fun (t : State) =>
      t.fire.shutter = some .opening ∧ t.fire.closeOut = false ∧ t.fire.openOut = true
    let moving := s.lanes.outSeg.head = .moving
    let incoming := ∃ c, s.lanes.backSeg.reservation = some (.through .neighbour c)
    let still := s.lanes.outSeg.cond = .held ∧ s.lanes.backSeg.cond = .held
    -- the alarm view
    (∀ (f : RxFrame) (mask : BitVec 8), BroadcastHere s f 1 → f.payload = [mask] →
      (s.fire.view ||| mask ≠ s.fire.view → ∃ t, exec (.fire f) s = .next t ∧
        (s.fire.shutter = some .opened → closes (s.fire.view ||| mask) →
          t.lanes.outSeg.cond = .held ∧ t.lanes.backSeg.cond = .held ∧ (¬ (moving ∨ incoming) → closing t) ∧
          (moving ∨ incoming → t.fire.shutter = some .clearing ∧ t.fire.clearTimer = some s.ctl.setup.clearTime ∧
            t.fire.closeOut = s.fire.closeOut ∧ t.fire.openOut = s.fire.openOut)) ∧
        (s.fire.shutter = some .opening → closes (s.fire.view ||| mask) ∨ own (s.fire.view ||| mask) → closing t)) ∧
      (f.sender.toNat = 31 → s.pins.fireLine = false → s.fire.view &&& ~~~mask ≠ s.fire.view →
        ∃ t, exec (.clear f) s = .next t ∧
          (s.fire.shutter = some .closed ∨ s.fire.shutter = some .failed → opens (s.fire.view &&& ~~~mask) → opening t) ∧
          (s.fire.shutter = some .closing ∨ s.fire.shutter = some .clearing ∧ (moving ∨ incoming) →
            t.fire.shutter = s.fire.shutter ∧ t.fire.closeOut = s.fire.closeOut ∧ t.fire.openOut = s.fire.openOut))) ∧
    -- the clear wait
    (s.fire.shutter = some .clearing → s.fire.clearTimer.isSome = true →
      exec .shutterClearTimeExpiry s = .next { s with fire := { s.fire with
        shutter := some .closing, closeOut := true, openOut := false, clearTimer := none, closeLimit := some 15000 } }) ∧
    (s.fire.shutter = some .clearing → still →
      let ended := { s.fire with
        shutter := some .closing, closeOut := true, openOut := false, clearTimer := none, closeLimit := some 15000 }
      (∀ (f : RxFrame) (c : Carry) (pos : Nat) (more : List PlaceRec), AddressedHere s f 3 →
        laneOf (byteAt f.payload 2) = .outLane → wordAt f.payload 0 = c.bin →
        s.downstream .outLane = some f.sender.toNat → moving → s.lanes.outSeg.places = ⟨.carrying c, pos⟩ :: more →
        ∃ t, exec (.landed f) s = .next t ∧ (¬ incoming → t.fire = ended) ∧ (incoming → t.fire = s.fire)) ∧
      (moving → s.lanes.outSeg.headLimit.isSome = true →
        ∃ t, exec (.handoffLimitExpiry .outLane) s = .next t ∧
          (¬ incoming → t.fire = ended) ∧ (incoming → t.fire = s.fire)) ∧
      (incoming → ∃ t, exec (.tailSensorReport .backLane true) s = .next t ∧
        (¬ moving → t.fire = ended) ∧ (moving → t.fire = s.fire)) ∧
      (incoming → s.lanes.backSeg.tailLimit.isSome = true →
        ∃ t, exec (.reservationLimitExpiry .backLane) s = .next t ∧
          (¬ moving → t.fire = ended) ∧ (moving → t.fire = s.fire))) ∧
    -- the sensors and the close limit
    (s.fire.shutter = some .closing → s.fire.closeLimit.isSome = true →
      ∃ t, exec .closeLimitExpiry s = .next t ∧
        t = { raise .shutterFault
                { s with ctl := { s.ctl with record := { s.ctl.record with shutterFault := true } } } with fire := t.fire } ∧
        (¬ mayOpen → t.fire = { s.fire with shutter := some .failed, closeLimit := none }) ∧
        (mayOpen → t.fire = { s.fire with
          shutter := some .opening, closeLimit := none, closeOut := false, openOut := true })) ∧
    (s.fire.shutter = some .closing ∨ s.fire.shutter = some .failed →
      (¬ mayOpen → exec (.closedSensorReport true) s =
        .next { shut true with fire := { s.fire with shutter := some .closed, closeLimit := none, closeOut := false } }) ∧
      (mayOpen → exec (.closedSensorReport true) s =
        .next { shut true with fire := { s.fire with
          shutter := some .opening, closeLimit := none, closeOut := false, openOut := true } }) ∧
      exec (.openSensorReport true) s = .next (opened true)) ∧
    (s.fire.shutter = some .opening → mayOpen →
      ∃ t, exec (.openSensorReport true) s = .next t ∧ t.fire = { s.fire with shutter := some .opened, openOut := false } ∧
        (s.fire.view = 0#8 → t.lanes.outSeg.cond = .running ∧ t.lanes.backSeg.cond = .running) ∧
        (s.fire.view ≠ 0#8 → t.lanes.outSeg.cond = .held ∧ t.lanes.backSeg.cond = .held) ∧
        t.pins = (opened true).pins ∧ t.bins = s.bins ∧ t.est = s.est ∧ t.auctions = s.auctions) ∧
    exec (.closedSensorReport false) s = .next (shut false) ∧ exec (.openSensorReport false) s = .next (opened false) ∧
    -- the listen period
    (s.fire.listen.isSome = true → s.fire.view = 0#8 → s.ctl.station = .active →
      ∃ t, exec .listenPeriodExpiry s = .next t ∧ t.pins = s.pins ∧ t.est = s.est ∧ t.auctions = s.auctions ∧
        (s.fire.shutter = none → t.fire = { s.fire with listen := none } ∧ t.lanes.outSeg.cond = .running ∧
          t.lanes.backSeg.cond = .running) ∧
        (s.fire.shutter = some .opening → t.fire = { s.fire with listen := none, openOut := true }) ∧
        (s.fire.shutter = some .closed → t.fire = { s.fire with
          listen := none, shutter := some .opening, closeOut := false, openOut := true })) ∧
    (s.fire.listen = none → exec .listenPeriodExpiry s = .next s)

/-- R189: every step keeps the shutter law: OPEN is never driven while an adjacent compartment is in the alarm view. (How
OPENING ends at an own alarm where the compartment below is the same is the model's reading, assumption log 48.) -/
def Obligations.ShutterLawIsKept : Prop :=
  ∀ s t : State, ShutterLaw s → step s = .next t → ShutterLaw t

/-- R175, R179, R184: every step keeps the agreement of station state, alarm view and fire latch. -/
def Obligations.AlarmLawIsKept : Prop :=
  ∀ s t : State, AlarmLaw s → step s = .next t → AlarmLaw t

/-- R176, R177: every step keeps the law of the stopped crane, so in SHUTDOWN nothing but a STOP is ever in flight. -/
def Obligations.StoppedCraneLawIsKept : Prop :=
  (∀ s t : State, StoppedCraneLaw s → step s = .next t → StoppedCraneLaw t) ∧
    ∀ s : State, StoppedCraneLaw s → s.ctl.station = .shutdown →
      s.crane.inFlight = none ∨ s.crane.inFlight = some .stop

/-! ### Audits, Strays and Lost Bins -/

/-- R191, R192 (with R61, R62, R78): an AUDIT with a good run enters the pool with its count clamped to 64, or is FULL; a
first index above 2,047 or a count of 0 is BAD-FIELD. A PROBE compares its report with the record: a bin felt where none
is recorded is UNREGISTERED, a STORED record with no bin felt is LOST with cause 2, a LOST record with a bin felt is
found, STORED with no hold, call or list; in every other case the two agree. -/
def Obligations.AuditAndProbe : Prop :=
  (∀ (s : State) (id : SlotId) (r : RxRecord) (rest : List RxRecord), Takes s id r rest → r.kind = .audit →
    s.ctl.station = .active ∨ s.ctl.station = .recovery → s.crane.state ≠ .idle →
    let first := wordAt r.payload 0
    let raw := byteAt r.payload 2
    let room := nonStoreCount s.crane.pool < 31 ∧ s.crane.pool.length < 32
    let reply := fun (code : ResultCode) (n : Nat) =>
      { plainReply .audit code 0 with
        clampMark := decide (64 < raw), d0 := first / 256, d1 := first % 256, d2 := min 64 raw, d3 := n }
    (2047 < first ∨ raw = 0 →
      ∃ t a, exec .audit s = .next t ∧ Replies t id rest a ∧ a.code = .badField ∧ t = { s with bus := t.bus }) ∧
    (first ≤ 2047 → raw ≠ 0 → room → validIndex s.ctl.straps first = true →
      let job := auditJob first (min 64 raw)
      ∃ t, exec .audit s = .next t ∧ Replies t id rest (reply .accepted (s.crane.pool.length + 1)) ∧
        t = { s with
          bus := t.bus
          crane := { s.crane with
            pool := s.crane.pool ++ [{ job with stamp := s.est.time, est := estOf s.ctl.setup job }] } }) ∧
    (first ≤ 2047 → raw ≠ 0 → ¬ room →
      ∃ t, exec .audit s = .next t ∧ Replies t id rest (reply .full s.crane.pool.length) ∧ t = { s with bus := t.bus })) ∧
  (∀ (s : State) (j : Job) (side : Nat), s.ctl.station = .active → s.crane.state = .running →
    s.crane.inFlight = some (.fork side .probe) → s.crane.pool = [j] → j.state = .active → j.kind = .audit →
    j.remaining = 1 → s.crane.restoreWanted = false → s.crane.storeWanted = false →
    tableWf BinRec.blank s.bins = true →
    let i := j.nextIndex
    let b := binAt i s
    let ended := { s.crane with state := .idle, pool := [], inFlight := none, limit := none }
    let bin := s.num * 2048 + i
    (b.state ≠ .stored → b.state ≠ .lost →
      exec (.probe true) s = .next { raise (.unregistered bin b.state.code) s with crane := ended } ∧
      exec (.probe false) s = .next { s with crane := ended }) ∧
    (b.state = .stored →
      exec (.probe true) s = .next { s with crane := ended } ∧
      ∃ t, exec (.probe false) s = .next t ∧ binAt i t = { b with state := .lost } ∧
        (∀ k, k ≠ i → binAt k t = binAt k s) ∧ t = { raise (.lost bin 2) s with bins := t.bins, crane := ended }) ∧
    (b.state = .lost →
      exec (.probe false) s = .next { s with crane := ended } ∧
      ∃ t, exec (.probe true) s = .next t ∧
        binAt i t = { b with state := .stored, hold := 0, call := none, followOns := [] } ∧
        (∀ k, k ≠ i → binAt k t = binAt k s) ∧
        ((∀ c, b.call = some c → c.purpose ≠ .fill) →
          t = { raise (.found bin 1) s with bins := t.bins, crane := ended })))

/-- R194 to R197 (with R35, R150, R178), in every state but JOINING: an IDENTIFY of a place above 10 is BAD-FIELD, of a
port place without a port UNSUPPORTED, of a place that holds no stray a CONFLICT; a bin ID of no station or of no
location here is UNKNOWN-BIN, and one already held, of another station at the inbound stand, or being lifted or stored
is a CONFLICT. A bin named at a stray place gets a carry record bound for its home, and the place goes on with it: a
segment place (its head acts when it is ready), the outbound stand with its claim, the inbound stand with a STORE,
APPROACH with the advance, SERVICE with the exit claim, the carriage with a RESTORE. An own LOST bin is found, and an
ABSENT or STORED one at the inbound stand is made OUT. Of two strays at one place the first of the list is taken (the
model's choice, assumption log 74). With bin ID 0 the stray is cleared unless its sensor reports a bin. At a JAMMED head
the head's own bin, another bin, or bin ID 0 with no bin there, releases the jam (effect 3: the model's reading,
assumption log 30). -/
def Obligations.IdentifyNamesOrClears : Prop :=
  ∀ (s : State) (id : SlotId) (r : RxRecord) (rest : List RxRecord), Takes s id r rest → r.kind = .identify →
    s.ctl.station ≠ .joining → tableWf BinRec.blank s.bins = true →
    let place := byteAt r.payload 0
    let bin := wordAt r.payload 1
    let i := bin % 2048
    let reply := fun (code : ResultCode) (effect state : Nat) =>
      { plainReply .identify code bin with d0 := place, d1 := effect, d2 := state }
    let refusedWith := fun (code : ResultCode) =>
      ∃ t a, exec (commandFor r) s = .next t ∧ Replies t id rest a ∧ a.code = code ∧ a.ref = bin ∧ a.d0 = place ∧
        a.d1 = 0 ∧ t = { s with bus := t.bus }
    let clears := fun (t : State) (effect : Nat) =>
      exec .identifyClear s = .next t ∧ Replies t id rest (reply .done effect 0) ∧ t.bins = s.bins
    let named : Carry := ⟨bin, bin / 2048, .home, 0, .noPurpose, 0, 0, false⟩
    let other := 1 ≤ bin / 2048 ∧ bin / 2048 ≤ 24 ∧ bin / 2048 ≠ s.num
    let mine := idIsOwn s bin
    let naming := bin ∉ heldBins s ∧ (other ∧ place ≠ 8 ∨
      mine ∧ (binAt i s).state ≠ .lifting ∧ (binAt i s).state ≠ .storing)
    let names := fun (t : State) (effect : Nat) => exec .identify s = .next t ∧
      ∃ a, Replies t id rest a ∧ a = reply .done effect a.d2 ∧ (other → a.d2 = 0 ∧ t.bins = s.bins ∧ t.ctl = s.ctl) ∧
        (mine → a.d2 = (binAt i t).state.code ∧ (∀ k, k ≠ i → binAt k t = binAt k s) ∧
          binAt i t = (if (binAt i s).state = .lost then { binAt i s with state := .out }
            else if place = 8 ∧ (binAt i s).state = .absent then { BinRec.blank with state := .out }
            else if place = 8 ∧ (binAt i s).state = .stored then { binAt i s with state := .out }
            else binAt i s))
    let jam := fun (l : Lane) => place = 3 * l.code + 1 ∧ (s.seg l).head = .jammed
    let strayHere : Prop := place = 0 ∧ s.crane.carriage = .stray ∨ place = 7 ∧ s.lanes.outStand = .stray ∨
      place = 8 ∧ s.lanes.inStand = .stray ∨ place = 9 ∧ s.ctl.straps.port = true ∧ s.port.approach = .stray ∨
      place = 10 ∧ s.ctl.straps.port = true ∧ s.port.service = .stray ∨
      ∃ l, (s.seg l).head ≠ .jammed ∧ place = 3 * l.code + 1 ∧ (⟨.stray, 1⟩ : PlaceRec) ∈ (s.seg l).places ∨
        place = 3 * l.code + 2 ∧ (⟨.stray, 2⟩ : PlaceRec) ∈ (s.seg l).places ∨
        place = 3 * l.code + 3 ∧ (⟨.stray, 3⟩ : PlaceRec) ∈ (s.seg l).places
    let jamElse : Prop := ∃ l, jam l ∧ (headCarry l s).map Carry.bin ≠ some bin
    let calm := s.crane.state ≠ .idle ∧ s.ctl.station ≠ .doze
    let stopped := s.lanes.outSeg.cond ≠ .running ∧ s.lanes.backSeg.cond ≠ .running
    -- refusals
    (10 < place → refusedWith .badField) ∧
    (place = 9 ∨ place = 10 → s.ctl.straps.port = false → refusedWith .unsupported) ∧
    (place < 9 ∨ place ≤ 10 ∧ s.ctl.straps.port = true → (∀ l, ¬ jam l) → ¬ strayHere → refusedWith .conflict) ∧
    (strayHere ∨ jamElse → bin ≠ 0 →
      (bin / 2048 = 0 ∨ 25 ≤ bin / 2048 → refusedWith .unknownBin) ∧
      (bin / 2048 = s.num → ¬ mine → refusedWith .unknownBin) ∧
      (other ∨ mine → bin ∈ heldBins s → refusedWith .conflict) ∧
      (place = 8 → other → refusedWith .conflict) ∧
      (mine → (binAt i s).state = .lifting ∨ (binAt i s).state = .storing → refusedWith .conflict)) ∧
    -- segment places
    (∀ l pos before after, place = 3 * l.code + pos → 1 ≤ pos → pos ≤ 3 → (pos = 1 → (s.seg l).head ≠ .jammed) →
      (s.seg l).places = before ++ ⟨.stray, pos⟩ :: after → (⟨.stray, pos⟩ : PlaceRec) ∉ before →
      let seen := if pos = 1 then (s.pins.seg l).head else if pos = 2 then (s.pins.seg l).middle else (s.pins.seg l).tail
      let still := (s.seg l).cond ≠ .running ∨ (s.pins.seg l).head = false
      (naming → still → ∃ t, names t 1 ∧ OnlySegment l s t ∧
        t.seg l = { s.seg l with places := before ++ ⟨.carrying named, pos⟩ :: after } ∧
        t = { s with bus := t.bus, ctl := t.ctl, bins := t.bins, lanes := t.lanes }) ∧
      (naming → other → pos = 1 → before = [] → (s.seg l).cond = .running → (s.seg l).head = .idle →
        (s.pins.seg l).head = true → bin / 2048 ≤ s.top → ∀ d k, s.downstream l = some d → mayOffer d s = true →
        s.bus.slots.freeSlot = some k → ∃ t n, names t 1 ∧ OnlySegment l s t ∧
          t.seg l = { s.seg l with places := ⟨.carrying named, 1⟩ :: after, head := .offering, retry := none } ∧
          t.bus.slots.get k = .holds (newQueued (.pass l d named) n) ∧
          t = { s with bus := t.bus, lanes := t.lanes }) ∧
      (bin = 0 → seen = true → refusedWith .busy) ∧
      (bin = 0 → seen = false → still → (s.seg l).cond ≠ .running ∨ TailQuiet l s → ∃ t, clears t 2 ∧ OnlySegment l s t ∧
        t.seg l = { s.seg l with places := before ++ after } ∧ t = { s with bus := t.bus, lanes := t.lanes })) ∧
    -- the carriage
    (place = 0 → s.crane.carriage = .stray →
      let loaded := { s.crane with carriage := .carrying named, load := .loaded }
      let job := { restoreJob bin with stamp := s.est.time, est := estOf s.ctl.setup (restoreJob bin) }
      (naming → calm → ∃ t, names t 1 ∧ t = { s with bus := t.bus, ctl := t.ctl, bins := t.bins, crane := t.crane } ∧
        (nonStoreCount s.crane.pool < 31 → s.crane.pool.length < 32 →
          t.crane = { loaded with restoreWanted := false, pool := s.crane.pool ++ [job] }) ∧
        (31 ≤ nonStoreCount s.crane.pool → t.crane = { loaded with restoreWanted := true })) ∧
      (naming → s.ctl.station = .active → s.crane.state = .idle → s.crane.pool = [] → s.lanes.outStand = .empty →
        s.crane.pos = some Position.mouth → ∃ t, names t 1 ∧ t.crane.state = .running ∧
          t.crane.inFlight = some (.fork 0 .place) ∧ t.lanes.outStand = .reserved ∧ t.crane.carriage = .carrying named) ∧
      (naming → s.ctl.station = .doze → s.crane.state = .asleep → s.crane.pool = [] → RingHoldLaw s → ∃ t, names t 1 ∧
        t.crane.state = .waking ∧ t.crane.inFlight = some .wake ∧ t.crane.pool = [job]) ∧
      (bin = 0 → calm → ∃ t, clears t 2 ∧
        t = { s with bus := t.bus, crane := { s.crane with carriage := .nothing, load := .empty } })) ∧
    -- the stands
    (place = 7 → s.lanes.outStand = .stray →
      (naming → s.bus.offBus = false → ∃ t l, names t 1 ∧
        (t.lanes.outStand = .holding named (some l) ∨ t.lanes.outStand = .entering named l) ∧
        (stopped → t.lanes = { s.lanes with outStand := .holding named (some l) }) ∧
        t = { s with bus := t.bus, ctl := t.ctl, bins := t.bins, lanes := t.lanes }) ∧
      (bin = 0 → s.pins.outStand = true → refusedWith .busy) ∧
      (bin = 0 → s.pins.outStand = false → s.crane.state ≠ .idle ∨ s.ctl.station = .shutdown →
        ∃ t, clears t 2 ∧ t = { s with bus := t.bus, lanes := { s.lanes with outStand := .empty } })) ∧
    (place = 8 → s.lanes.inStand = .stray →
      (naming → calm → ∃ t, names t 1 ∧
        t = { s with bus := t.bus, ctl := t.ctl, bins := t.bins, crane := t.crane,
                     lanes := { s.lanes with inStand := .holding named } } ∧
        (s.crane.pool.length < 32 → t.crane = { s.crane with
          storeWanted := false
          pool := s.crane.pool ++ [{ storeJob bin with stamp := s.est.time, est := estOf s.ctl.setup (storeJob bin) }] }) ∧
        (32 ≤ s.crane.pool.length → t.crane = { s.crane with storeWanted := true })) ∧
      (bin = 0 → s.pins.inStand = true → refusedWith .busy) ∧
      (bin = 0 → s.pins.inStand = false → stopped → OffersStarted s → s.crane.state ≠ .idle → ∃ t, clears t 2 ∧
        t = { s with bus := t.bus, lanes := { s.lanes with inStand := .empty }, crane := { s.crane with continuity := 0 } })) ∧
    -- the port places
    (place = 9 → s.ctl.straps.port = true → s.port.approach = .stray →
      (naming → ∃ t, names t 1 ∧ t = { s with bus := t.bus, ctl := t.ctl, bins := t.bins, port := t.port } ∧
        t.port = (if s.port.service = .empty ∧ s.ctl.station = .active
          then ⟨.holding named, .incoming, some s.ctl.setup.handoffLimit⟩
          else { s.port with approach := .holding named })) ∧
      (bin = 0 → s.pins.approach = true → refusedWith .busy) ∧
      (bin = 0 → s.pins.approach = false → stopped → OffersStarted s → ∃ t, clears t 2 ∧
        t = { s with bus := t.bus, port := { s.port with approach := .empty } })) ∧
    (place = 10 → s.ctl.straps.port = true → s.port.service = .stray →
      (naming → s.bus.offBus = false → ∃ t l, names t 1 ∧ t.port.approach = s.port.approach ∧
        (t.port.service = .released named (some l) ∨ t.port.service = .entering named l) ∧
        (stopped → t.port.service = .released named (some l) ∧ t.lanes = s.lanes) ∧
        t = { s with bus := t.bus, ctl := t.ctl, bins := t.bins, lanes := t.lanes, port := t.port }) ∧
      (bin = 0 → s.pins.service = true → refusedWith .busy) ∧
      (bin = 0 → s.pins.service = false → ∃ t, clears t 2 ∧ t = { s with bus := t.bus, port := t.port } ∧
        (∀ c, s.port.approach = .holding c → s.ctl.station = .active →
          t.port = { s.port with service := .incoming, advanceLimit := some s.ctl.setup.handoffLimit }) ∧
        ((∀ c, s.port.approach ≠ .holding c) ∨ s.ctl.station ≠ .active →
          t.port = { s.port with service := .empty }))) ∧
    -- a JAMMED head
    (∀ l c pos more, jam l → (s.seg l).places = ⟨.carrying c, pos⟩ :: more → (s.seg l).cond ≠ .running →
      let broadcast := fun (t : State) => s.bus.offBus = false → s.bus.slots.freeSlot.isSome = true →
        ∃ k n, t.bus.slots.get k = .holds (newQueued (.jam l c.bin) n)
      (bin ≠ 0 → bin = c.bin → ∃ t a, exec .identify s = .next t ∧ Replies t id rest a ∧ a = reply .done 3 a.d2 ∧
        OnlySegment l s t ∧ t.seg l = { s.seg l with head := .idle } ∧ t = { s with bus := t.bus, lanes := t.lanes }) ∧
      (bin ≠ c.bin → naming → ¬ idIsOwn s c.bin → ∃ t, names t 3 ∧ OnlySegment l s t ∧ broadcast t ∧
        t.seg l = { s.seg l with places := ⟨.carrying named, pos⟩ :: more, head := .idle } ∧
        t = { s with bus := t.bus, ctl := t.ctl, bins := t.bins, lanes := t.lanes }) ∧
      (bin ≠ c.bin → naming → other → idIsOwn s c.bin → (binAt (c.bin % 2048) s).state = .out → ∃ t a,
        exec .identify s = .next t ∧ Replies t id rest a ∧ a = reply .done 3 0 ∧ OnlySegment l s t ∧ broadcast t ∧
          binAt (c.bin % 2048) t = { binAt (c.bin % 2048) s with state := .lost }) ∧
      (bin = 0 → (s.pins.seg l).head = true → refusedWith .busy) ∧
      (bin = 0 → (s.pins.seg l).head = false → ¬ idIsOwn s c.bin → ∃ t, clears t 3 ∧ OnlySegment l s t ∧ broadcast t ∧
        t.seg l = { s.seg l with places := more, head := .idle, headLimit := none, retry := none } ∧
        t = { s with bus := t.bus, ctl := t.ctl, lanes := t.lanes }))

/-! ### The step and the reset state -/

/-- spec/95_what_each_step_holds.md (each step whole and indivisible): the step runs the command at the front of the queue
on the state with the queue's rest, and with none waiting lets a tenth of a second of station time pass (R93; the
model's choice, assumption log 3). The queue is the model's own. Every command answers a next state: that none faults
and none is refused is the model's reading (assumption log 38), and none touches the queue. -/
def Obligations.StepRunsTheFrontCommand : Prop :=
  (∀ (s : State) (c : Instr) (rest : List Instr), s.pending = c :: rest →
    step s = exec c { s with pending := rest }) ∧
  (∀ s : State, s.pending = [] → step s = .next { s with est := { time := min 4294967295 (s.est.time + 1) } }) ∧
  (∀ (s : State) (c : Instr), ∃ t, exec c s = .next t ∧ t.pending = s.pending)

/-- R6, R28, R50, R93, R129, R175, R177, R189: the state after reset meets every law that the steps keep, and a power-on
reset on its board (the model's choice, assumption log 5) leaves it as it is. -/
def Obligations.ResetMeetsTheLaws : Prop :=
  let s := State.reset
  StrapQuiet s ∧ SlotLaw s ∧ BinLaw s ∧ WithinCapacity s ∧ RingHoldLaw s ∧ ShutterLaw s ∧ AlarmLaw s ∧ StoppedCraneLaw s ∧
    exec (.powerOnReset resetInputs) s = .next s
end

