-- ==== Sys2Proof/Laws/State.lean ====
section
/-! SUPPORT. One lemma for each block and each update of a block, true by `rfl` (Ops.lean), with the laws of the two
segments, of the sparse tables and of the slots: read after write, and the canonical form kept. -/

namespace Sys2Proof.Machine

open Sys2Proof

/-! ### One block at a time -/

@[simp] theorem State.onPins_pending (f) (s : State) : (s.onPins f).pending = s.pending := rfl
@[simp] theorem State.onPins_pins (f) (s : State) : (s.onPins f).pins = f s.pins := rfl
@[simp] theorem State.onPins_bus (f) (s : State) : (s.onPins f).bus = s.bus := rfl
@[simp] theorem State.onPins_ctl (f) (s : State) : (s.onPins f).ctl = s.ctl := rfl
@[simp] theorem State.onPins_bins (f) (s : State) : (s.onPins f).bins = s.bins := rfl
@[simp] theorem State.onPins_crane (f) (s : State) : (s.onPins f).crane = s.crane := rfl
@[simp] theorem State.onPins_est (f) (s : State) : (s.onPins f).est = s.est := rfl
@[simp] theorem State.onPins_lanes (f) (s : State) : (s.onPins f).lanes = s.lanes := rfl
@[simp] theorem State.onPins_port (f) (s : State) : (s.onPins f).port = s.port := rfl
@[simp] theorem State.onPins_auctions (f) (s : State) : (s.onPins f).auctions = s.auctions := rfl
@[simp] theorem State.onPins_fire (f) (s : State) : (s.onPins f).fire = s.fire := rfl

@[simp] theorem State.onBus_pending (f) (s : State) : (s.onBus f).pending = s.pending := rfl
@[simp] theorem State.onBus_pins (f) (s : State) : (s.onBus f).pins = s.pins := rfl
@[simp] theorem State.onBus_bus (f) (s : State) : (s.onBus f).bus = f s.bus := rfl
@[simp] theorem State.onBus_ctl (f) (s : State) : (s.onBus f).ctl = s.ctl := rfl
@[simp] theorem State.onBus_bins (f) (s : State) : (s.onBus f).bins = s.bins := rfl
@[simp] theorem State.onBus_crane (f) (s : State) : (s.onBus f).crane = s.crane := rfl
@[simp] theorem State.onBus_est (f) (s : State) : (s.onBus f).est = s.est := rfl
@[simp] theorem State.onBus_lanes (f) (s : State) : (s.onBus f).lanes = s.lanes := rfl
@[simp] theorem State.onBus_port (f) (s : State) : (s.onBus f).port = s.port := rfl
@[simp] theorem State.onBus_auctions (f) (s : State) : (s.onBus f).auctions = s.auctions := rfl
@[simp] theorem State.onBus_fire (f) (s : State) : (s.onBus f).fire = s.fire := rfl

@[simp] theorem State.onCtl_pending (f) (s : State) : (s.onCtl f).pending = s.pending := rfl
@[simp] theorem State.onCtl_pins (f) (s : State) : (s.onCtl f).pins = s.pins := rfl
@[simp] theorem State.onCtl_bus (f) (s : State) : (s.onCtl f).bus = s.bus := rfl
@[simp] theorem State.onCtl_ctl (f) (s : State) : (s.onCtl f).ctl = f s.ctl := rfl
@[simp] theorem State.onCtl_bins (f) (s : State) : (s.onCtl f).bins = s.bins := rfl
@[simp] theorem State.onCtl_crane (f) (s : State) : (s.onCtl f).crane = s.crane := rfl
@[simp] theorem State.onCtl_est (f) (s : State) : (s.onCtl f).est = s.est := rfl
@[simp] theorem State.onCtl_lanes (f) (s : State) : (s.onCtl f).lanes = s.lanes := rfl
@[simp] theorem State.onCtl_port (f) (s : State) : (s.onCtl f).port = s.port := rfl
@[simp] theorem State.onCtl_auctions (f) (s : State) : (s.onCtl f).auctions = s.auctions := rfl
@[simp] theorem State.onCtl_fire (f) (s : State) : (s.onCtl f).fire = s.fire := rfl

@[simp] theorem State.onBins_pending (f) (s : State) : (s.onBins f).pending = s.pending := rfl
@[simp] theorem State.onBins_pins (f) (s : State) : (s.onBins f).pins = s.pins := rfl
@[simp] theorem State.onBins_bus (f) (s : State) : (s.onBins f).bus = s.bus := rfl
@[simp] theorem State.onBins_ctl (f) (s : State) : (s.onBins f).ctl = s.ctl := rfl
@[simp] theorem State.onBins_bins (f) (s : State) : (s.onBins f).bins = f s.bins := rfl
@[simp] theorem State.onBins_crane (f) (s : State) : (s.onBins f).crane = s.crane := rfl
@[simp] theorem State.onBins_est (f) (s : State) : (s.onBins f).est = s.est := rfl
@[simp] theorem State.onBins_lanes (f) (s : State) : (s.onBins f).lanes = s.lanes := rfl
@[simp] theorem State.onBins_port (f) (s : State) : (s.onBins f).port = s.port := rfl
@[simp] theorem State.onBins_auctions (f) (s : State) : (s.onBins f).auctions = s.auctions := rfl
@[simp] theorem State.onBins_fire (f) (s : State) : (s.onBins f).fire = s.fire := rfl

@[simp] theorem State.onCrane_pending (f) (s : State) : (s.onCrane f).pending = s.pending := rfl
@[simp] theorem State.onCrane_pins (f) (s : State) : (s.onCrane f).pins = s.pins := rfl
@[simp] theorem State.onCrane_bus (f) (s : State) : (s.onCrane f).bus = s.bus := rfl
@[simp] theorem State.onCrane_ctl (f) (s : State) : (s.onCrane f).ctl = s.ctl := rfl
@[simp] theorem State.onCrane_bins (f) (s : State) : (s.onCrane f).bins = s.bins := rfl
@[simp] theorem State.onCrane_crane (f) (s : State) : (s.onCrane f).crane = f s.crane := rfl
@[simp] theorem State.onCrane_est (f) (s : State) : (s.onCrane f).est = s.est := rfl
@[simp] theorem State.onCrane_lanes (f) (s : State) : (s.onCrane f).lanes = s.lanes := rfl
@[simp] theorem State.onCrane_port (f) (s : State) : (s.onCrane f).port = s.port := rfl
@[simp] theorem State.onCrane_auctions (f) (s : State) : (s.onCrane f).auctions = s.auctions := rfl
@[simp] theorem State.onCrane_fire (f) (s : State) : (s.onCrane f).fire = s.fire := rfl

@[simp] theorem State.onEst_pending (f) (s : State) : (s.onEst f).pending = s.pending := rfl
@[simp] theorem State.onEst_pins (f) (s : State) : (s.onEst f).pins = s.pins := rfl
@[simp] theorem State.onEst_bus (f) (s : State) : (s.onEst f).bus = s.bus := rfl
@[simp] theorem State.onEst_ctl (f) (s : State) : (s.onEst f).ctl = s.ctl := rfl
@[simp] theorem State.onEst_bins (f) (s : State) : (s.onEst f).bins = s.bins := rfl
@[simp] theorem State.onEst_crane (f) (s : State) : (s.onEst f).crane = s.crane := rfl
@[simp] theorem State.onEst_est (f) (s : State) : (s.onEst f).est = f s.est := rfl
@[simp] theorem State.onEst_lanes (f) (s : State) : (s.onEst f).lanes = s.lanes := rfl
@[simp] theorem State.onEst_port (f) (s : State) : (s.onEst f).port = s.port := rfl
@[simp] theorem State.onEst_auctions (f) (s : State) : (s.onEst f).auctions = s.auctions := rfl
@[simp] theorem State.onEst_fire (f) (s : State) : (s.onEst f).fire = s.fire := rfl

@[simp] theorem State.onLanes_pending (f) (s : State) : (s.onLanes f).pending = s.pending := rfl
@[simp] theorem State.onLanes_pins (f) (s : State) : (s.onLanes f).pins = s.pins := rfl
@[simp] theorem State.onLanes_bus (f) (s : State) : (s.onLanes f).bus = s.bus := rfl
@[simp] theorem State.onLanes_ctl (f) (s : State) : (s.onLanes f).ctl = s.ctl := rfl
@[simp] theorem State.onLanes_bins (f) (s : State) : (s.onLanes f).bins = s.bins := rfl
@[simp] theorem State.onLanes_crane (f) (s : State) : (s.onLanes f).crane = s.crane := rfl
@[simp] theorem State.onLanes_est (f) (s : State) : (s.onLanes f).est = s.est := rfl
@[simp] theorem State.onLanes_lanes (f) (s : State) : (s.onLanes f).lanes = f s.lanes := rfl
@[simp] theorem State.onLanes_port (f) (s : State) : (s.onLanes f).port = s.port := rfl
@[simp] theorem State.onLanes_auctions (f) (s : State) : (s.onLanes f).auctions = s.auctions := rfl
@[simp] theorem State.onLanes_fire (f) (s : State) : (s.onLanes f).fire = s.fire := rfl

@[simp] theorem State.onPort_pending (f) (s : State) : (s.onPort f).pending = s.pending := rfl
@[simp] theorem State.onPort_pins (f) (s : State) : (s.onPort f).pins = s.pins := rfl
@[simp] theorem State.onPort_bus (f) (s : State) : (s.onPort f).bus = s.bus := rfl
@[simp] theorem State.onPort_ctl (f) (s : State) : (s.onPort f).ctl = s.ctl := rfl
@[simp] theorem State.onPort_bins (f) (s : State) : (s.onPort f).bins = s.bins := rfl
@[simp] theorem State.onPort_crane (f) (s : State) : (s.onPort f).crane = s.crane := rfl
@[simp] theorem State.onPort_est (f) (s : State) : (s.onPort f).est = s.est := rfl
@[simp] theorem State.onPort_lanes (f) (s : State) : (s.onPort f).lanes = s.lanes := rfl
@[simp] theorem State.onPort_port (f) (s : State) : (s.onPort f).port = f s.port := rfl
@[simp] theorem State.onPort_auctions (f) (s : State) : (s.onPort f).auctions = s.auctions := rfl
@[simp] theorem State.onPort_fire (f) (s : State) : (s.onPort f).fire = s.fire := rfl

@[simp] theorem State.onAuctions_pending (f) (s : State) : (s.onAuctions f).pending = s.pending := rfl
@[simp] theorem State.onAuctions_pins (f) (s : State) : (s.onAuctions f).pins = s.pins := rfl
@[simp] theorem State.onAuctions_bus (f) (s : State) : (s.onAuctions f).bus = s.bus := rfl
@[simp] theorem State.onAuctions_ctl (f) (s : State) : (s.onAuctions f).ctl = s.ctl := rfl
@[simp] theorem State.onAuctions_bins (f) (s : State) : (s.onAuctions f).bins = s.bins := rfl
@[simp] theorem State.onAuctions_crane (f) (s : State) : (s.onAuctions f).crane = s.crane := rfl
@[simp] theorem State.onAuctions_est (f) (s : State) : (s.onAuctions f).est = s.est := rfl
@[simp] theorem State.onAuctions_lanes (f) (s : State) : (s.onAuctions f).lanes = s.lanes := rfl
@[simp] theorem State.onAuctions_port (f) (s : State) : (s.onAuctions f).port = s.port := rfl
@[simp] theorem State.onAuctions_auctions (f) (s : State) : (s.onAuctions f).auctions = f s.auctions := rfl
@[simp] theorem State.onAuctions_fire (f) (s : State) : (s.onAuctions f).fire = s.fire := rfl

@[simp] theorem State.onFire_pending (f) (s : State) : (s.onFire f).pending = s.pending := rfl
@[simp] theorem State.onFire_pins (f) (s : State) : (s.onFire f).pins = s.pins := rfl
@[simp] theorem State.onFire_bus (f) (s : State) : (s.onFire f).bus = s.bus := rfl
@[simp] theorem State.onFire_ctl (f) (s : State) : (s.onFire f).ctl = s.ctl := rfl
@[simp] theorem State.onFire_bins (f) (s : State) : (s.onFire f).bins = s.bins := rfl
@[simp] theorem State.onFire_crane (f) (s : State) : (s.onFire f).crane = s.crane := rfl
@[simp] theorem State.onFire_est (f) (s : State) : (s.onFire f).est = s.est := rfl
@[simp] theorem State.onFire_lanes (f) (s : State) : (s.onFire f).lanes = s.lanes := rfl
@[simp] theorem State.onFire_port (f) (s : State) : (s.onFire f).port = s.port := rfl
@[simp] theorem State.onFire_auctions (f) (s : State) : (s.onFire f).auctions = s.auctions := rfl
@[simp] theorem State.onFire_fire (f) (s : State) : (s.onFire f).fire = f s.fire := rfl

/-! ### The numbers read from the straps -/

@[simp] theorem State.onPins_num (f) (s : State) : (s.onPins f).num = s.num := rfl
@[simp] theorem State.onPins_top (f) (s : State) : (s.onPins f).top = s.top := rfl
@[simp] theorem State.onPins_compartment (f) (s : State) : (s.onPins f).compartment = s.compartment := rfl
@[simp] theorem State.onBus_num (f) (s : State) : (s.onBus f).num = s.num := rfl
@[simp] theorem State.onBus_top (f) (s : State) : (s.onBus f).top = s.top := rfl
@[simp] theorem State.onBus_compartment (f) (s : State) : (s.onBus f).compartment = s.compartment := rfl
@[simp] theorem State.onBins_num (f) (s : State) : (s.onBins f).num = s.num := rfl
@[simp] theorem State.onBins_top (f) (s : State) : (s.onBins f).top = s.top := rfl
@[simp] theorem State.onBins_compartment (f) (s : State) : (s.onBins f).compartment = s.compartment := rfl
@[simp] theorem State.onCrane_num (f) (s : State) : (s.onCrane f).num = s.num := rfl
@[simp] theorem State.onCrane_top (f) (s : State) : (s.onCrane f).top = s.top := rfl
@[simp] theorem State.onCrane_compartment (f) (s : State) : (s.onCrane f).compartment = s.compartment := rfl
@[simp] theorem State.onEst_num (f) (s : State) : (s.onEst f).num = s.num := rfl
@[simp] theorem State.onEst_top (f) (s : State) : (s.onEst f).top = s.top := rfl
@[simp] theorem State.onEst_compartment (f) (s : State) : (s.onEst f).compartment = s.compartment := rfl
@[simp] theorem State.onLanes_num (f) (s : State) : (s.onLanes f).num = s.num := rfl
@[simp] theorem State.onLanes_top (f) (s : State) : (s.onLanes f).top = s.top := rfl
@[simp] theorem State.onLanes_compartment (f) (s : State) : (s.onLanes f).compartment = s.compartment := rfl
@[simp] theorem State.onPort_num (f) (s : State) : (s.onPort f).num = s.num := rfl
@[simp] theorem State.onPort_top (f) (s : State) : (s.onPort f).top = s.top := rfl
@[simp] theorem State.onPort_compartment (f) (s : State) : (s.onPort f).compartment = s.compartment := rfl
@[simp] theorem State.onAuctions_num (f) (s : State) : (s.onAuctions f).num = s.num := rfl
@[simp] theorem State.onAuctions_top (f) (s : State) : (s.onAuctions f).top = s.top := rfl
@[simp] theorem State.onAuctions_compartment (f) (s : State) : (s.onAuctions f).compartment = s.compartment := rfl
@[simp] theorem State.onFire_num (f) (s : State) : (s.onFire f).num = s.num := rfl
@[simp] theorem State.onFire_top (f) (s : State) : (s.onFire f).top = s.top := rfl
@[simp] theorem State.onFire_compartment (f) (s : State) : (s.onFire f).compartment = s.compartment := rfl

/-! ### The two segments -/

@[simp] theorem Lane.other_other (l : Lane) : l.other.other = l := by cases l <;> rfl
@[simp] theorem Lane.other_ne (l : Lane) : l.other ≠ l := by cases l <;> decide

@[simp] theorem State.onSeg_pending (l f) (s : State) : (s.onSeg l f).pending = s.pending := by cases l <;> rfl
@[simp] theorem State.onSeg_pins (l f) (s : State) : (s.onSeg l f).pins = s.pins := by cases l <;> rfl
@[simp] theorem State.onSeg_bus (l f) (s : State) : (s.onSeg l f).bus = s.bus := by cases l <;> rfl
@[simp] theorem State.onSeg_ctl (l f) (s : State) : (s.onSeg l f).ctl = s.ctl := by cases l <;> rfl
@[simp] theorem State.onSeg_bins (l f) (s : State) : (s.onSeg l f).bins = s.bins := by cases l <;> rfl
@[simp] theorem State.onSeg_crane (l f) (s : State) : (s.onSeg l f).crane = s.crane := by cases l <;> rfl
@[simp] theorem State.onSeg_est (l f) (s : State) : (s.onSeg l f).est = s.est := by cases l <;> rfl
@[simp] theorem State.onSeg_port (l f) (s : State) : (s.onSeg l f).port = s.port := by cases l <;> rfl
@[simp] theorem State.onSeg_auctions (l f) (s : State) : (s.onSeg l f).auctions = s.auctions := by cases l <;> rfl
@[simp] theorem State.onSeg_fire (l f) (s : State) : (s.onSeg l f).fire = s.fire := by cases l <;> rfl
@[simp] theorem State.onSeg_outStand (l f) (s : State) : (s.onSeg l f).lanes.outStand = s.lanes.outStand := by
  cases l <;> rfl
@[simp] theorem State.onSeg_inStand (l f) (s : State) : (s.onSeg l f).lanes.inStand = s.lanes.inStand := by
  cases l <;> rfl

/-- Reading a segment just changed. -/
@[simp] theorem State.seg_onSeg (l f) (s : State) : (s.onSeg l f).seg l = f (s.seg l) := by cases l <;> rfl

/-- The other segment is untouched. -/
theorem State.seg_onSeg_other {l k : Lane} (h : k ≠ l) (f) (s : State) : (s.onSeg l f).seg k = s.seg k := by
  cases l <;> cases k <;> first | rfl | exact absurd rfl h

@[simp] theorem State.seg_onSeg_of_other (l f) (s : State) : (s.onSeg l f).seg l.other = s.seg l.other := by
  cases l <;> rfl
@[simp] theorem State.seg_other_onSeg (l f) (s : State) : (s.onSeg l.other f).seg l = s.seg l := by cases l <;> rfl

@[simp] theorem State.onPins_seg (l f) (s : State) : (s.onPins f).seg l = s.seg l := by cases l <;> rfl
@[simp] theorem State.onBus_seg (l f) (s : State) : (s.onBus f).seg l = s.seg l := by cases l <;> rfl
@[simp] theorem State.onCtl_seg (l f) (s : State) : (s.onCtl f).seg l = s.seg l := by cases l <;> rfl
@[simp] theorem State.onBins_seg (l f) (s : State) : (s.onBins f).seg l = s.seg l := by cases l <;> rfl
@[simp] theorem State.onCrane_seg (l f) (s : State) : (s.onCrane f).seg l = s.seg l := by cases l <;> rfl
@[simp] theorem State.onEst_seg (l f) (s : State) : (s.onEst f).seg l = s.seg l := by cases l <;> rfl
@[simp] theorem State.onPort_seg (l f) (s : State) : (s.onPort f).seg l = s.seg l := by cases l <;> rfl
@[simp] theorem State.onAuctions_seg (l f) (s : State) : (s.onAuctions f).seg l = s.seg l := by cases l <;> rfl
@[simp] theorem State.onFire_seg (l f) (s : State) : (s.onFire f).seg l = s.seg l := by cases l <;> rfl

@[simp] theorem State.setOutStand_pending (x) (s : State) : (s.setOutStand x).pending = s.pending := rfl
@[simp] theorem State.setOutStand_pins (x) (s : State) : (s.setOutStand x).pins = s.pins := rfl
@[simp] theorem State.setOutStand_bus (x) (s : State) : (s.setOutStand x).bus = s.bus := rfl
@[simp] theorem State.setOutStand_ctl (x) (s : State) : (s.setOutStand x).ctl = s.ctl := rfl
@[simp] theorem State.setOutStand_bins (x) (s : State) : (s.setOutStand x).bins = s.bins := rfl
@[simp] theorem State.setOutStand_crane (x) (s : State) : (s.setOutStand x).crane = s.crane := rfl
@[simp] theorem State.setOutStand_est (x) (s : State) : (s.setOutStand x).est = s.est := rfl
@[simp] theorem State.setOutStand_port (x) (s : State) : (s.setOutStand x).port = s.port := rfl
@[simp] theorem State.setOutStand_auctions (x) (s : State) : (s.setOutStand x).auctions = s.auctions := rfl
@[simp] theorem State.setOutStand_fire (x) (s : State) : (s.setOutStand x).fire = s.fire := rfl
@[simp] theorem State.setOutStand_lanes_outSeg (x) (s : State) : (s.setOutStand x).lanes.outSeg = s.lanes.outSeg := rfl
@[simp] theorem State.setOutStand_lanes_backSeg (x) (s : State) : (s.setOutStand x).lanes.backSeg = s.lanes.backSeg := rfl
@[simp] theorem State.setOutStand_lanes_outStand (x) (s : State) : (s.setOutStand x).lanes.outStand = x := rfl
@[simp] theorem State.setOutStand_lanes_inStand (x) (s : State) : (s.setOutStand x).lanes.inStand = s.lanes.inStand := rfl
@[simp] theorem State.setOutStand_seg (l x) (s : State) : (s.setOutStand x).seg l = s.seg l := by cases l <;> rfl

@[simp] theorem State.setInStand_pending (x) (s : State) : (s.setInStand x).pending = s.pending := rfl
@[simp] theorem State.setInStand_pins (x) (s : State) : (s.setInStand x).pins = s.pins := rfl
@[simp] theorem State.setInStand_bus (x) (s : State) : (s.setInStand x).bus = s.bus := rfl
@[simp] theorem State.setInStand_ctl (x) (s : State) : (s.setInStand x).ctl = s.ctl := rfl
@[simp] theorem State.setInStand_bins (x) (s : State) : (s.setInStand x).bins = s.bins := rfl
@[simp] theorem State.setInStand_crane (x) (s : State) : (s.setInStand x).crane = s.crane := rfl
@[simp] theorem State.setInStand_est (x) (s : State) : (s.setInStand x).est = s.est := rfl
@[simp] theorem State.setInStand_port (x) (s : State) : (s.setInStand x).port = s.port := rfl
@[simp] theorem State.setInStand_auctions (x) (s : State) : (s.setInStand x).auctions = s.auctions := rfl
@[simp] theorem State.setInStand_fire (x) (s : State) : (s.setInStand x).fire = s.fire := rfl
@[simp] theorem State.setInStand_lanes_outSeg (x) (s : State) : (s.setInStand x).lanes.outSeg = s.lanes.outSeg := rfl
@[simp] theorem State.setInStand_lanes_backSeg (x) (s : State) : (s.setInStand x).lanes.backSeg = s.lanes.backSeg := rfl
@[simp] theorem State.setInStand_lanes_outStand (x) (s : State) : (s.setInStand x).lanes.outStand = s.lanes.outStand := rfl
@[simp] theorem State.setInStand_lanes_inStand (x) (s : State) : (s.setInStand x).lanes.inStand = x := rfl
@[simp] theorem State.setInStand_seg (l x) (s : State) : (s.setInStand x).seg l = s.seg l := by cases l <;> rfl

@[simp] theorem State.setApproach_pending (x) (s : State) : (s.setApproach x).pending = s.pending := rfl
@[simp] theorem State.setApproach_pins (x) (s : State) : (s.setApproach x).pins = s.pins := rfl
@[simp] theorem State.setApproach_bus (x) (s : State) : (s.setApproach x).bus = s.bus := rfl
@[simp] theorem State.setApproach_ctl (x) (s : State) : (s.setApproach x).ctl = s.ctl := rfl
@[simp] theorem State.setApproach_bins (x) (s : State) : (s.setApproach x).bins = s.bins := rfl
@[simp] theorem State.setApproach_crane (x) (s : State) : (s.setApproach x).crane = s.crane := rfl
@[simp] theorem State.setApproach_est (x) (s : State) : (s.setApproach x).est = s.est := rfl
@[simp] theorem State.setApproach_lanes (x) (s : State) : (s.setApproach x).lanes = s.lanes := rfl
@[simp] theorem State.setApproach_auctions (x) (s : State) : (s.setApproach x).auctions = s.auctions := rfl
@[simp] theorem State.setApproach_fire (x) (s : State) : (s.setApproach x).fire = s.fire := rfl
@[simp] theorem State.setApproach_port_approach (x) (s : State) : (s.setApproach x).port.approach = x := rfl
@[simp] theorem State.setApproach_port_service (x) (s : State) : (s.setApproach x).port.service = s.port.service := rfl
@[simp] theorem State.setApproach_port_advanceLimit (x) (s : State) : (s.setApproach x).port.advanceLimit = s.port.advanceLimit := rfl
@[simp] theorem State.setApproach_seg (l x) (s : State) : (s.setApproach x).seg l = s.seg l := by cases l <;> rfl

@[simp] theorem State.setService_pending (x) (s : State) : (s.setService x).pending = s.pending := rfl
@[simp] theorem State.setService_pins (x) (s : State) : (s.setService x).pins = s.pins := rfl
@[simp] theorem State.setService_bus (x) (s : State) : (s.setService x).bus = s.bus := rfl
@[simp] theorem State.setService_ctl (x) (s : State) : (s.setService x).ctl = s.ctl := rfl
@[simp] theorem State.setService_bins (x) (s : State) : (s.setService x).bins = s.bins := rfl
@[simp] theorem State.setService_crane (x) (s : State) : (s.setService x).crane = s.crane := rfl
@[simp] theorem State.setService_est (x) (s : State) : (s.setService x).est = s.est := rfl
@[simp] theorem State.setService_lanes (x) (s : State) : (s.setService x).lanes = s.lanes := rfl
@[simp] theorem State.setService_auctions (x) (s : State) : (s.setService x).auctions = s.auctions := rfl
@[simp] theorem State.setService_fire (x) (s : State) : (s.setService x).fire = s.fire := rfl
@[simp] theorem State.setService_port_approach (x) (s : State) : (s.setService x).port.approach = s.port.approach := rfl
@[simp] theorem State.setService_port_service (x) (s : State) : (s.setService x).port.service = x := rfl
@[simp] theorem State.setService_port_advanceLimit (x) (s : State) : (s.setService x).port.advanceLimit = s.port.advanceLimit := rfl
@[simp] theorem State.setService_seg (l x) (s : State) : (s.setService x).seg l = s.seg l := by cases l <;> rfl

/-! ### Slots -/

@[simp] theorem Slots.get_set (id x) (t : Slots) : (t.set id x).get id = x := by cases id <;> rfl
theorem Slots.get_set_other {i j : SlotId} (h : j ≠ i) (x) (t : Slots) : (t.set i x).get j = t.get j := by
  cases i <;> cases j <;> first | rfl | exact absurd rfl h

/-! ### Sparse tables -/

section Tables

variable {α : Type} [DecidableEq α] (d : α)

/-- Everything above an index is above a smaller one. -/
theorem tableAbove_mono {m n : Nat} (h : m ≤ n) {t : List (Nat × α)} (ht : tableAbove n t = true) :
    tableAbove m t = true := by
  induction t with
  | nil => rfl
  | cons e t ih =>
    obtain ⟨k, v⟩ := e
    simp only [tableAbove, Bool.and_eq_true, decide_eq_true_eq] at ht ⊢
    exact ⟨by omega, ih ht.2⟩

/-- An index below the whole table reads as the blank entry. -/
theorem tableGet_below {n : Nat} {t : List (Nat × α)} (h : tableAbove n t = true) : tableGet d t n = d := by
  induction t with
  | nil => rfl
  | cons e t ih =>
    obtain ⟨k, v⟩ := e
    simp only [tableAbove, Bool.and_eq_true, decide_eq_true_eq] at h
    have : n ≠ k := by omega
    simp [tableGet, this, ih h.2]

/-- Read after write: the entry written. -/
theorem tableGet_tablePut {t : List (Nat × α)} (h : tableWf d t = true) (n : Nat) (v : α) :
    tableGet d (tablePut d t n v) n = v := by
  induction t with
  | nil => by_cases hv : v = d <;> simp [tablePut, tableGet, hv]
  | cons e t ih =>
    obtain ⟨k, w⟩ := e
    simp only [tableWf, Bool.and_eq_true, decide_eq_true_eq] at h
    rcases Nat.lt_trichotomy n k with hlt | heq | hgt
    · have hne : n ≠ k := by omega
      by_cases hv : v = d
      · have ha : tableAbove n t = true := tableAbove_mono (by omega) h.1.2
        simp [tablePut, hlt, hv, tableGet, hne, tableGet_below d ha]
      · simp [tablePut, hlt, hv, tableGet]
    · subst heq
      by_cases hv : v = d
      · simp [tablePut, hv, tableGet_below d h.1.2]
      · simp [tablePut, hv, tableGet]
    · have h1 : ¬ n < k := by omega
      have h2 : n ≠ k := by omega
      simp [tablePut, h1, h2, tableGet, ih h.2]

/-- A write leaves every other entry alone. -/
theorem tableGet_tablePut_other {t : List (Nat × α)} (h : tableWf d t = true) {m n : Nat} (hmn : m ≠ n) (v : α) :
    tableGet d (tablePut d t n v) m = tableGet d t m := by
  induction t with
  | nil => by_cases hv : v = d <;> simp [tablePut, tableGet, hv, hmn]
  | cons e t ih =>
    obtain ⟨k, w⟩ := e
    simp only [tableWf, Bool.and_eq_true, decide_eq_true_eq] at h
    rcases Nat.lt_trichotomy n k with hlt | heq | hgt
    · by_cases hv : v = d <;> simp [tablePut, hlt, hv, tableGet, hmn]
    · subst heq
      by_cases hv : v = d <;> simp [tablePut, hv, tableGet, hmn]
    · have h1 : ¬ n < k := by omega
      have h2 : n ≠ k := by omega
      by_cases hk : m = k <;> simp [tablePut, h1, h2, tableGet, hk, ih h.2]

theorem tableAbove_tablePut {t : List (Nat × α)} {k n : Nat} (hk : k < n) (v : α) (h : tableAbove k t = true) :
    tableAbove k (tablePut d t n v) = true := by
  induction t with
  | nil => by_cases hv : v = d <;> simp [tablePut, tableAbove, hv, hk]
  | cons e t ih =>
    obtain ⟨j, w⟩ := e
    simp only [tableAbove, Bool.and_eq_true, decide_eq_true_eq] at h
    rcases Nat.lt_trichotomy n j with hlt | heq | hgt
    · by_cases hv : v = d <;> simp [tablePut, hlt, hv, tableAbove, hk, h.1, h.2]
    · subst heq
      by_cases hv : v = d <;> simp [tablePut, hv, tableAbove, hk, h.2]
    · have h1 : ¬ n < j := by omega
      have h2 : n ≠ j := by omega
      simp [tablePut, h1, h2, tableAbove, h.1, ih h.2]

/-- A write keeps the canonical form. -/
theorem tableWf_tablePut {t : List (Nat × α)} (h : tableWf d t = true) (n : Nat) (v : α) :
    tableWf d (tablePut d t n v) = true := by
  induction t with
  | nil => by_cases hv : v = d <;> simp [tablePut, tableWf, tableAbove, hv]
  | cons e t ih =>
    obtain ⟨k, w⟩ := e
    have h0 := h
    simp only [tableWf, Bool.and_eq_true, decide_eq_true_eq] at h
    rcases Nat.lt_trichotomy n k with hlt | heq | hgt
    · by_cases hv : v = d
      · simpa [tablePut, hlt, hv] using h0
      · simp [tablePut, hlt, hv, tableWf, tableAbove, h.1.1, h.1.2, h.2, tableAbove_mono (Nat.le_of_lt hlt) h.1.2]
    · subst heq
      by_cases hv : v = d
      · simpa [tablePut, hv] using h.2
      · simp [tablePut, hv, tableWf, h.1.2, h.2]
    · have h1 : ¬ n < k := by omega
      have h2 : n ≠ k := by omega
      simp [tablePut, h1, h2, tableWf, h.1.1, ih h.2, tableAbove_tablePut d hgt v h.1.2]

end Tables

/-- A step that keeps a property's value is kept by a whole fold of it. -/
theorem foldl_keeps {α β : Type} (g : State → β) (f : State → α → State) (h : ∀ s a, g (f s a) = g s) (l : List α)
    (s : State) : g (l.foldl f s) = g s := by
  induction l generalizing s with
  | nil => rfl
  | cons a t ih => simp [List.foldl_cons, ih, h]

end Sys2Proof.Machine
end

