-- ==== Sys2Proof/Laws/Flags.lean ====
section
/-! SUPPORT. What the counts of the fault record leave unchanged. -/

namespace Sys2Proof.Machine

open Sys2Proof

/-- `State.onRecord` changes nothing outside `ctl`. -/
@[simp] theorem State.onRecord_keeps (f : FaultRecord → FaultRecord) (s : State) :
    (State.onRecord f s).pending = s.pending ∧ (State.onRecord f s).pins = s.pins ∧
    (State.onRecord f s).bus = s.bus ∧ (State.onRecord f s).ctl.straps = s.ctl.straps ∧
    (State.onRecord f s).ctl.station = s.ctl.station ∧ (State.onRecord f s).ctl.setup = s.ctl.setup ∧
    (State.onRecord f s).ctl.roster = s.ctl.roster ∧ (State.onRecord f s).ctl.warmStart = s.ctl.warmStart ∧
    (State.onRecord f s).ctl.joinWait = s.ctl.joinWait ∧ (State.onRecord f s).bins = s.bins ∧
    (State.onRecord f s).crane = s.crane ∧ (State.onRecord f s).est = s.est ∧
    (State.onRecord f s).lanes = s.lanes ∧ (State.onRecord f s).port = s.port ∧
    (State.onRecord f s).auctions = s.auctions ∧ (State.onRecord f s).fire = s.fire := by
  refine ⟨?_, ?_, ?_, ?_, ?_, ?_, ?_, ?_, ?_, ?_, ?_, ?_, ?_, ?_, ?_, ?_⟩ <;>
    rfl

/-- `countDropped` changes nothing outside `ctl`. -/
@[simp] theorem countDropped_keeps (s : State) :
    (countDropped s).pending = s.pending ∧ (countDropped s).pins = s.pins ∧ (countDropped s).bus = s.bus ∧
    (countDropped s).ctl.straps = s.ctl.straps ∧ (countDropped s).ctl.station = s.ctl.station ∧
    (countDropped s).ctl.setup = s.ctl.setup ∧ (countDropped s).ctl.roster = s.ctl.roster ∧
    (countDropped s).ctl.warmStart = s.ctl.warmStart ∧ (countDropped s).ctl.joinWait = s.ctl.joinWait ∧
    (countDropped s).bins = s.bins ∧ (countDropped s).crane = s.crane ∧ (countDropped s).est = s.est ∧
    (countDropped s).lanes = s.lanes ∧ (countDropped s).port = s.port ∧
    (countDropped s).auctions = s.auctions ∧ (countDropped s).fire = s.fire := by
  refine ⟨?_, ?_, ?_, ?_, ?_, ?_, ?_, ?_, ?_, ?_, ?_, ?_, ?_, ?_, ?_, ?_⟩ <;>
    rfl

/-- `countDeferred` changes nothing outside `ctl`. -/
@[simp] theorem countDeferred_keeps (s : State) :
    (countDeferred s).pending = s.pending ∧ (countDeferred s).pins = s.pins ∧ (countDeferred s).bus = s.bus ∧
    (countDeferred s).ctl.straps = s.ctl.straps ∧ (countDeferred s).ctl.station = s.ctl.station ∧
    (countDeferred s).ctl.setup = s.ctl.setup ∧ (countDeferred s).ctl.roster = s.ctl.roster ∧
    (countDeferred s).ctl.warmStart = s.ctl.warmStart ∧ (countDeferred s).ctl.joinWait = s.ctl.joinWait ∧
    (countDeferred s).bins = s.bins ∧ (countDeferred s).crane = s.crane ∧ (countDeferred s).est = s.est ∧
    (countDeferred s).lanes = s.lanes ∧ (countDeferred s).port = s.port ∧
    (countDeferred s).auctions = s.auctions ∧ (countDeferred s).fire = s.fire := by
  refine ⟨?_, ?_, ?_, ?_, ?_, ?_, ?_, ?_, ?_, ?_, ?_, ?_, ?_, ?_, ?_, ?_⟩ <;>
    rfl

/-- `countRecirc` changes nothing outside `ctl`. -/
@[simp] theorem countRecirc_keeps (s : State) :
    (countRecirc s).pending = s.pending ∧ (countRecirc s).pins = s.pins ∧ (countRecirc s).bus = s.bus ∧
    (countRecirc s).ctl.straps = s.ctl.straps ∧ (countRecirc s).ctl.station = s.ctl.station ∧
    (countRecirc s).ctl.setup = s.ctl.setup ∧ (countRecirc s).ctl.roster = s.ctl.roster ∧
    (countRecirc s).ctl.warmStart = s.ctl.warmStart ∧ (countRecirc s).ctl.joinWait = s.ctl.joinWait ∧
    (countRecirc s).bins = s.bins ∧ (countRecirc s).crane = s.crane ∧ (countRecirc s).est = s.est ∧
    (countRecirc s).lanes = s.lanes ∧ (countRecirc s).port = s.port ∧ (countRecirc s).auctions = s.auctions ∧
    (countRecirc s).fire = s.fire := by
  refine ⟨?_, ?_, ?_, ?_, ?_, ?_, ?_, ?_, ?_, ?_, ?_, ?_, ?_, ?_, ?_, ?_⟩ <;>
    rfl

end Sys2Proof.Machine
end

