-- ==== Sys2Proof/Laws/BusOps.lean ====
section
/-! SUPPORT. What the shared operations of the bus station leave unchanged. -/

namespace Sys2Proof.Machine

open Sys2Proof

/-- `setSlot` changes nothing outside `bus`. -/
@[simp] theorem setSlot_keeps (id : SlotId) (x : Slot) (s : State) :
    (setSlot id x s).pending = s.pending ∧ (setSlot id x s).pins = s.pins ∧
    (setSlot id x s).bus.rx = s.bus.rx ∧ (setSlot id x s).bus.offBus = s.bus.offBus ∧
    (setSlot id x s).bus.failures = s.bus.failures ∧ (setSlot id x s).bus.tx = s.bus.tx ∧
    (setSlot id x s).bus.answer = s.bus.answer ∧ (setSlot id x s).bus.order = s.bus.order ∧
    (setSlot id x s).ctl = s.ctl ∧ (setSlot id x s).bins = s.bins ∧ (setSlot id x s).crane = s.crane ∧
    (setSlot id x s).est = s.est ∧ (setSlot id x s).lanes = s.lanes ∧ (setSlot id x s).port = s.port ∧
    (setSlot id x s).auctions = s.auctions ∧ (setSlot id x s).fire = s.fire := by
  refine ⟨?_, ?_, ?_, ?_, ?_, ?_, ?_, ?_, ?_, ?_, ?_, ?_, ?_, ?_, ?_, ?_⟩ <;>
    rfl

/-- `placeFrame` changes nothing outside `bus`. -/
@[simp] theorem placeFrame_keeps (id : SlotId) (f : Frame) (s : State) :
    (placeFrame id f s).pending = s.pending ∧ (placeFrame id f s).pins = s.pins ∧
    (placeFrame id f s).bus.rx = s.bus.rx ∧ (placeFrame id f s).bus.offBus = s.bus.offBus ∧
    (placeFrame id f s).bus.failures = s.bus.failures ∧ (placeFrame id f s).bus.tx = s.bus.tx ∧
    (placeFrame id f s).bus.answer = s.bus.answer ∧ (placeFrame id f s).ctl = s.ctl ∧
    (placeFrame id f s).bins = s.bins ∧ (placeFrame id f s).crane = s.crane ∧
    (placeFrame id f s).est = s.est ∧ (placeFrame id f s).lanes = s.lanes ∧
    (placeFrame id f s).port = s.port ∧ (placeFrame id f s).auctions = s.auctions ∧
    (placeFrame id f s).fire = s.fire := by
  refine ⟨?_, ?_, ?_, ?_, ?_, ?_, ?_, ?_, ?_, ?_, ?_, ?_, ?_, ?_, ?_⟩ <;>
    rfl

/-- `queueFire` changes nothing outside `bus`. -/
@[simp] theorem queueFire_keeps (mask : BitVec 8) (s : State) :
    (queueFire mask s).pending = s.pending ∧ (queueFire mask s).pins = s.pins ∧
    (queueFire mask s).bus.rx = s.bus.rx ∧ (queueFire mask s).bus.offBus = s.bus.offBus ∧
    (queueFire mask s).bus.failures = s.bus.failures ∧ (queueFire mask s).bus.tx = s.bus.tx ∧
    (queueFire mask s).bus.answer = s.bus.answer ∧ (queueFire mask s).ctl = s.ctl ∧
    (queueFire mask s).bins = s.bins ∧ (queueFire mask s).crane = s.crane ∧ (queueFire mask s).est = s.est ∧
    (queueFire mask s).lanes = s.lanes ∧ (queueFire mask s).port = s.port ∧
    (queueFire mask s).auctions = s.auctions ∧ (queueFire mask s).fire = s.fire := by
  refine ⟨?_, ?_, ?_, ?_, ?_, ?_, ?_, ?_, ?_, ?_, ?_, ?_, ?_, ?_, ?_⟩ <;>
    (unfold queueFire; (repeat' split) <;> first | rfl | simp)

/-- `queueFrame` changes nothing outside `bus`. -/
@[simp] theorem queueFrame_keeps (f : Frame) (s : State) :
    (queueFrame f s).pending = s.pending ∧ (queueFrame f s).pins = s.pins ∧
    (queueFrame f s).bus.rx = s.bus.rx ∧ (queueFrame f s).bus.offBus = s.bus.offBus ∧
    (queueFrame f s).bus.failures = s.bus.failures ∧ (queueFrame f s).bus.tx = s.bus.tx ∧
    (queueFrame f s).bus.answer = s.bus.answer ∧ (queueFrame f s).ctl = s.ctl ∧
    (queueFrame f s).bins = s.bins ∧ (queueFrame f s).crane = s.crane ∧ (queueFrame f s).est = s.est ∧
    (queueFrame f s).lanes = s.lanes ∧ (queueFrame f s).port = s.port ∧
    (queueFrame f s).auctions = s.auctions ∧ (queueFrame f s).fire = s.fire := by
  refine ⟨?_, ?_, ?_, ?_, ?_, ?_, ?_, ?_, ?_, ?_, ?_, ?_, ?_, ?_, ?_⟩ <;>
    (unfold queueFrame; (repeat' split) <;> first | rfl | simp)

/-- `setPendingKind` changes nothing outside `bus`, `ctl`. -/
@[simp] theorem setPendingKind_keeps (k : Nat) (s : State) :
    (setPendingKind k s).pending = s.pending ∧ (setPendingKind k s).pins = s.pins ∧
    (setPendingKind k s).bus.rx = s.bus.rx ∧ (setPendingKind k s).bus.offBus = s.bus.offBus ∧
    (setPendingKind k s).bus.failures = s.bus.failures ∧ (setPendingKind k s).bus.tx = s.bus.tx ∧
    (setPendingKind k s).bus.answer = s.bus.answer ∧ (setPendingKind k s).bus.order = s.bus.order ∧
    (setPendingKind k s).ctl.straps = s.ctl.straps ∧ (setPendingKind k s).ctl.station = s.ctl.station ∧
    (setPendingKind k s).ctl.setup = s.ctl.setup ∧ (setPendingKind k s).ctl.roster = s.ctl.roster ∧
    (setPendingKind k s).ctl.record = s.ctl.record ∧ (setPendingKind k s).ctl.warmStart = s.ctl.warmStart ∧
    (setPendingKind k s).ctl.joinWait = s.ctl.joinWait ∧ (setPendingKind k s).bins = s.bins ∧
    (setPendingKind k s).crane = s.crane ∧ (setPendingKind k s).est = s.est ∧
    (setPendingKind k s).lanes = s.lanes ∧ (setPendingKind k s).port = s.port ∧
    (setPendingKind k s).auctions = s.auctions ∧ (setPendingKind k s).fire = s.fire := by
  refine ⟨?_, ?_, ?_, ?_, ?_, ?_, ?_, ?_, ?_, ?_, ?_, ?_, ?_, ?_, ?_, ?_, ?_, ?_, ?_, ?_, ?_,
          ?_⟩ <;>
    rfl

/-- `raise` changes nothing outside `bus`, `ctl`. -/
@[simp] theorem raise_keeps (n : Notice) (s : State) :
    (raise n s).pending = s.pending ∧ (raise n s).pins = s.pins ∧ (raise n s).bus.rx = s.bus.rx ∧
    (raise n s).bus.offBus = s.bus.offBus ∧ (raise n s).bus.failures = s.bus.failures ∧
    (raise n s).bus.tx = s.bus.tx ∧ (raise n s).bus.answer = s.bus.answer ∧
    (raise n s).ctl.straps = s.ctl.straps ∧ (raise n s).ctl.station = s.ctl.station ∧
    (raise n s).ctl.setup = s.ctl.setup ∧ (raise n s).ctl.roster = s.ctl.roster ∧
    (raise n s).ctl.record = s.ctl.record ∧ (raise n s).ctl.warmStart = s.ctl.warmStart ∧
    (raise n s).ctl.joinWait = s.ctl.joinWait ∧ (raise n s).bins = s.bins ∧ (raise n s).crane = s.crane ∧
    (raise n s).est = s.est ∧ (raise n s).lanes = s.lanes ∧ (raise n s).port = s.port ∧
    (raise n s).auctions = s.auctions ∧ (raise n s).fire = s.fire := by
  refine ⟨?_, ?_, ?_, ?_, ?_, ?_, ?_, ?_, ?_, ?_, ?_, ?_, ?_, ?_, ?_, ?_, ?_, ?_, ?_, ?_, ?_⟩ <;>
    (unfold raise; (repeat' split) <;> first | rfl | simp)

/-- `grantSlot` changes nothing outside `bus`, `ctl`. -/
@[simp] theorem grantSlot_keeps (id : SlotId) (s : State) :
    (grantSlot id s).pending = s.pending ∧ (grantSlot id s).pins = s.pins ∧
    (grantSlot id s).bus.rx = s.bus.rx ∧ (grantSlot id s).bus.offBus = s.bus.offBus ∧
    (grantSlot id s).bus.failures = s.bus.failures ∧ (grantSlot id s).bus.tx = s.bus.tx ∧
    (grantSlot id s).bus.answer = s.bus.answer ∧ (grantSlot id s).ctl.straps = s.ctl.straps ∧
    (grantSlot id s).ctl.station = s.ctl.station ∧ (grantSlot id s).ctl.setup = s.ctl.setup ∧
    (grantSlot id s).ctl.roster = s.ctl.roster ∧ (grantSlot id s).ctl.record = s.ctl.record ∧
    (grantSlot id s).ctl.warmStart = s.ctl.warmStart ∧ (grantSlot id s).ctl.joinWait = s.ctl.joinWait ∧
    (grantSlot id s).bins = s.bins ∧ (grantSlot id s).crane = s.crane ∧ (grantSlot id s).est = s.est ∧
    (grantSlot id s).lanes = s.lanes ∧ (grantSlot id s).port = s.port ∧
    (grantSlot id s).auctions = s.auctions ∧ (grantSlot id s).fire = s.fire := by
  refine ⟨?_, ?_, ?_, ?_, ?_, ?_, ?_, ?_, ?_, ?_, ?_, ?_, ?_, ?_, ?_, ?_, ?_, ?_, ?_, ?_, ?_⟩ <;>
    (unfold grantSlot; (repeat' split) <;> first | rfl | simp)

/-- `freeSlotThen` changes nothing outside `bus`, `ctl`. -/
@[simp] theorem freeSlotThen_keeps (id : SlotId) (s : State) :
    (freeSlotThen id s).pending = s.pending ∧ (freeSlotThen id s).pins = s.pins ∧
    (freeSlotThen id s).bus.rx = s.bus.rx ∧ (freeSlotThen id s).bus.offBus = s.bus.offBus ∧
    (freeSlotThen id s).bus.failures = s.bus.failures ∧ (freeSlotThen id s).bus.tx = s.bus.tx ∧
    (freeSlotThen id s).bus.answer = s.bus.answer ∧ (freeSlotThen id s).ctl.straps = s.ctl.straps ∧
    (freeSlotThen id s).ctl.station = s.ctl.station ∧ (freeSlotThen id s).ctl.setup = s.ctl.setup ∧
    (freeSlotThen id s).ctl.roster = s.ctl.roster ∧ (freeSlotThen id s).ctl.record = s.ctl.record ∧
    (freeSlotThen id s).ctl.warmStart = s.ctl.warmStart ∧ (freeSlotThen id s).ctl.joinWait = s.ctl.joinWait ∧
    (freeSlotThen id s).bins = s.bins ∧ (freeSlotThen id s).crane = s.crane ∧
    (freeSlotThen id s).est = s.est ∧ (freeSlotThen id s).lanes = s.lanes ∧
    (freeSlotThen id s).port = s.port ∧ (freeSlotThen id s).auctions = s.auctions ∧
    (freeSlotThen id s).fire = s.fire := by
  refine ⟨?_, ?_, ?_, ?_, ?_, ?_, ?_, ?_, ?_, ?_, ?_, ?_, ?_, ?_, ?_, ?_, ?_, ?_, ?_, ?_, ?_⟩
  · unfold freeSlotThen; dsimp only; (repeat' split) <;> first
          | rfl | simp [apply_ite State.pending]
  · unfold freeSlotThen; dsimp only; (repeat' split) <;> first | rfl | simp [apply_ite State.pins]
  · unfold freeSlotThen; dsimp only; (repeat' split) <;> first | rfl | simp [apply_ite State.bus,
          apply_ite Bus.rx]
  · unfold freeSlotThen; dsimp only; (repeat' split) <;> first | rfl | simp [apply_ite State.bus,
          apply_ite Bus.offBus]
  · unfold freeSlotThen; dsimp only; (repeat' split) <;> first | rfl | simp [apply_ite State.bus,
          apply_ite Bus.failures]
  · unfold freeSlotThen; dsimp only; (repeat' split) <;> first | rfl | simp [apply_ite State.bus,
          apply_ite Bus.tx]
  · unfold freeSlotThen; dsimp only; (repeat' split) <;> first | rfl | simp [apply_ite State.bus,
          apply_ite Bus.answer]
  · unfold freeSlotThen; dsimp only; (repeat' split) <;> first | rfl | simp [apply_ite State.ctl,
          apply_ite Control.straps]
  · unfold freeSlotThen; dsimp only; (repeat' split) <;> first | rfl | simp [apply_ite State.ctl,
          apply_ite Control.station]
  · unfold freeSlotThen; dsimp only; (repeat' split) <;> first | rfl | simp [apply_ite State.ctl,
          apply_ite Control.setup]
  · unfold freeSlotThen; dsimp only; (repeat' split) <;> first | rfl | simp [apply_ite State.ctl,
          apply_ite Control.roster]
  · unfold freeSlotThen; dsimp only; (repeat' split) <;> first | rfl | simp [apply_ite State.ctl,
          apply_ite Control.record]
  · unfold freeSlotThen; dsimp only; (repeat' split) <;> first | rfl | simp [apply_ite State.ctl,
          apply_ite Control.warmStart]
  · unfold freeSlotThen; dsimp only; (repeat' split) <;> first | rfl | simp [apply_ite State.ctl,
          apply_ite Control.joinWait]
  · unfold freeSlotThen; dsimp only; (repeat' split) <;> first | rfl | simp [apply_ite State.bins]
  · unfold freeSlotThen; dsimp only; (repeat' split) <;> first | rfl | simp [apply_ite State.crane]
  · unfold freeSlotThen; dsimp only; (repeat' split) <;> first | rfl | simp [apply_ite State.est]
  · unfold freeSlotThen; dsimp only; (repeat' split) <;> first | rfl | simp [apply_ite State.lanes]
  · unfold freeSlotThen; dsimp only; (repeat' split) <;> first | rfl | simp [apply_ite State.port]
  · unfold freeSlotThen; dsimp only; (repeat' split) <;> first
          | rfl | simp [apply_ite State.auctions]
  · unfold freeSlotThen; dsimp only; (repeat' split) <;> first | rfl | simp [apply_ite State.fire]

/-- `wishGoesOn` changes nothing outside `bus`. -/
@[simp] theorem wishGoesOn_keeps (s : State) :
    (wishGoesOn s).pending = s.pending ∧ (wishGoesOn s).pins = s.pins ∧ (wishGoesOn s).bus.rx = s.bus.rx ∧
    (wishGoesOn s).bus.offBus = s.bus.offBus ∧ (wishGoesOn s).bus.failures = s.bus.failures ∧
    (wishGoesOn s).bus.tx = s.bus.tx ∧ (wishGoesOn s).bus.answer = s.bus.answer ∧ (wishGoesOn s).ctl = s.ctl ∧
    (wishGoesOn s).bins = s.bins ∧ (wishGoesOn s).crane = s.crane ∧ (wishGoesOn s).est = s.est ∧
    (wishGoesOn s).lanes = s.lanes ∧ (wishGoesOn s).port = s.port ∧ (wishGoesOn s).auctions = s.auctions ∧
    (wishGoesOn s).fire = s.fire := by
  refine ⟨?_, ?_, ?_, ?_, ?_, ?_, ?_, ?_, ?_, ?_, ?_, ?_, ?_, ?_, ?_⟩ <;>
    (unfold wishGoesOn; (repeat' split) <;> first | rfl | simp)

/-- `wishBegins` changes nothing outside `bus`. -/
@[simp] theorem wishBegins_keeps (s : State) :
    (wishBegins s).pending = s.pending ∧ (wishBegins s).pins = s.pins ∧ (wishBegins s).bus.rx = s.bus.rx ∧
    (wishBegins s).bus.offBus = s.bus.offBus ∧ (wishBegins s).bus.failures = s.bus.failures ∧
    (wishBegins s).bus.tx = s.bus.tx ∧ (wishBegins s).bus.answer = s.bus.answer ∧ (wishBegins s).ctl = s.ctl ∧
    (wishBegins s).bins = s.bins ∧ (wishBegins s).crane = s.crane ∧ (wishBegins s).est = s.est ∧
    (wishBegins s).lanes = s.lanes ∧ (wishBegins s).port = s.port ∧ (wishBegins s).auctions = s.auctions ∧
    (wishBegins s).fire = s.fire := by
  refine ⟨?_, ?_, ?_, ?_, ?_, ?_, ?_, ?_, ?_, ?_, ?_, ?_, ?_, ?_, ?_⟩ <;> rfl

/-- `wishTake` changes nothing outside `bus`. -/
@[simp] theorem wishTake_keeps (s : State) :
    (wishTake s).pending = s.pending ∧ (wishTake s).pins = s.pins ∧ (wishTake s).bus.rx = s.bus.rx ∧
    (wishTake s).bus.offBus = s.bus.offBus ∧ (wishTake s).bus.failures = s.bus.failures ∧
    (wishTake s).bus.tx = s.bus.tx ∧ (wishTake s).bus.answer = s.bus.answer ∧ (wishTake s).ctl = s.ctl ∧
    (wishTake s).bins = s.bins ∧ (wishTake s).crane = s.crane ∧ (wishTake s).est = s.est ∧
    (wishTake s).lanes = s.lanes ∧ (wishTake s).port = s.port ∧ (wishTake s).auctions = s.auctions ∧
    (wishTake s).fire = s.fire := by
  simp [wishTake]

/-- `abortFrame` changes nothing outside `bus`, `ctl`. -/
@[simp] theorem abortFrame_keeps (p : Frame → Bool) (s : State) :
    (abortFrame p s).2.pending = s.pending ∧ (abortFrame p s).2.pins = s.pins ∧
    (abortFrame p s).2.bus.rx = s.bus.rx ∧ (abortFrame p s).2.bus.offBus = s.bus.offBus ∧
    (abortFrame p s).2.bus.failures = s.bus.failures ∧ (abortFrame p s).2.bus.tx = s.bus.tx ∧
    (abortFrame p s).2.bus.answer = s.bus.answer ∧ (abortFrame p s).2.ctl.straps = s.ctl.straps ∧
    (abortFrame p s).2.ctl.station = s.ctl.station ∧ (abortFrame p s).2.ctl.setup = s.ctl.setup ∧
    (abortFrame p s).2.ctl.roster = s.ctl.roster ∧ (abortFrame p s).2.ctl.record = s.ctl.record ∧
    (abortFrame p s).2.ctl.warmStart = s.ctl.warmStart ∧ (abortFrame p s).2.ctl.joinWait = s.ctl.joinWait ∧
    (abortFrame p s).2.bins = s.bins ∧ (abortFrame p s).2.crane = s.crane ∧ (abortFrame p s).2.est = s.est ∧
    (abortFrame p s).2.lanes = s.lanes ∧ (abortFrame p s).2.port = s.port ∧
    (abortFrame p s).2.auctions = s.auctions ∧ (abortFrame p s).2.fire = s.fire := by
  refine ⟨?_, ?_, ?_, ?_, ?_, ?_, ?_, ?_, ?_, ?_, ?_, ?_, ?_, ?_, ?_, ?_, ?_, ?_, ?_, ?_, ?_⟩ <;>
    (unfold abortFrame; (repeat' split) <;> first | rfl | simp)

/-- `setRoster` changes nothing outside `ctl`. -/
@[simp] theorem setRoster_keeps (n : Nat) (e : RosterEntry) (s : State) :
    (setRoster n e s).pending = s.pending ∧ (setRoster n e s).pins = s.pins ∧ (setRoster n e s).bus = s.bus ∧
    (setRoster n e s).ctl.straps = s.ctl.straps ∧ (setRoster n e s).ctl.station = s.ctl.station ∧
    (setRoster n e s).ctl.setup = s.ctl.setup ∧ (setRoster n e s).ctl.record = s.ctl.record ∧
    (setRoster n e s).ctl.warmStart = s.ctl.warmStart ∧ (setRoster n e s).ctl.joinWait = s.ctl.joinWait ∧
    (setRoster n e s).bins = s.bins ∧ (setRoster n e s).crane = s.crane ∧ (setRoster n e s).est = s.est ∧
    (setRoster n e s).lanes = s.lanes ∧ (setRoster n e s).port = s.port ∧
    (setRoster n e s).auctions = s.auctions ∧ (setRoster n e s).fire = s.fire := by
  refine ⟨?_, ?_, ?_, ?_, ?_, ?_, ?_, ?_, ?_, ?_, ?_, ?_, ?_, ?_, ?_, ?_⟩ <;>
    rfl

/-- `stationSilent` changes nothing outside `bus`, `ctl`. -/
@[simp] theorem stationSilent_keeps (n : Nat) (s : State) :
    (stationSilent n s).pending = s.pending ∧ (stationSilent n s).pins = s.pins ∧
    (stationSilent n s).bus.rx = s.bus.rx ∧ (stationSilent n s).bus.offBus = s.bus.offBus ∧
    (stationSilent n s).bus.failures = s.bus.failures ∧ (stationSilent n s).bus.tx = s.bus.tx ∧
    (stationSilent n s).bus.answer = s.bus.answer ∧ (stationSilent n s).ctl.straps = s.ctl.straps ∧
    (stationSilent n s).ctl.station = s.ctl.station ∧ (stationSilent n s).ctl.setup = s.ctl.setup ∧
    (stationSilent n s).ctl.record = s.ctl.record ∧ (stationSilent n s).ctl.warmStart = s.ctl.warmStart ∧
    (stationSilent n s).ctl.joinWait = s.ctl.joinWait ∧ (stationSilent n s).bins = s.bins ∧
    (stationSilent n s).crane = s.crane ∧ (stationSilent n s).est = s.est ∧
    (stationSilent n s).lanes = s.lanes ∧ (stationSilent n s).port = s.port ∧
    (stationSilent n s).auctions = s.auctions ∧ (stationSilent n s).fire = s.fire := by
  refine ⟨?_, ?_, ?_, ?_, ?_, ?_, ?_, ?_, ?_, ?_, ?_, ?_, ?_, ?_, ?_, ?_, ?_, ?_, ?_, ?_⟩
  · simp [stationSilent, apply_ite State.pending]
  · simp [stationSilent, apply_ite State.pins]
  · simp [stationSilent, apply_ite State.bus, apply_ite Bus.rx]
  · simp [stationSilent, apply_ite State.bus, apply_ite Bus.offBus]
  · simp [stationSilent, apply_ite State.bus, apply_ite Bus.failures]
  · simp [stationSilent, apply_ite State.bus, apply_ite Bus.tx]
  · simp [stationSilent, apply_ite State.bus, apply_ite Bus.answer]
  · simp [stationSilent, apply_ite State.ctl, apply_ite Control.straps]
  · simp [stationSilent, apply_ite State.ctl, apply_ite Control.station]
  · simp [stationSilent, apply_ite State.ctl, apply_ite Control.setup]
  · simp [stationSilent, apply_ite State.ctl, apply_ite Control.record]
  · simp [stationSilent, apply_ite State.ctl, apply_ite Control.warmStart]
  · simp [stationSilent, apply_ite State.ctl, apply_ite Control.joinWait]
  · simp [stationSilent, apply_ite State.bins]
  · simp [stationSilent, apply_ite State.crane]
  · simp [stationSilent, apply_ite State.est]
  · simp [stationSilent, apply_ite State.lanes]
  · simp [stationSilent, apply_ite State.port]
  · simp [stationSilent, apply_ite State.auctions]
  · simp [stationSilent, apply_ite State.fire]

/-- `answerWith` changes nothing outside `bus`. -/
@[simp] theorem answerWith_keeps (a : AnswerBits) (s : State) :
    (answerWith a s).pending = s.pending ∧ (answerWith a s).pins = s.pins ∧
    (answerWith a s).bus.rx = s.bus.rx ∧ (answerWith a s).bus.offBus = s.bus.offBus ∧
    (answerWith a s).bus.failures = s.bus.failures ∧ (answerWith a s).bus.tx = s.bus.tx ∧
    (answerWith a s).bus.order = s.bus.order ∧ (answerWith a s).ctl = s.ctl ∧ (answerWith a s).bins = s.bins ∧
    (answerWith a s).crane = s.crane ∧ (answerWith a s).est = s.est ∧ (answerWith a s).lanes = s.lanes ∧
    (answerWith a s).port = s.port ∧ (answerWith a s).auctions = s.auctions ∧
    (answerWith a s).fire = s.fire := by
  refine ⟨?_, ?_, ?_, ?_, ?_, ?_, ?_, ?_, ?_, ?_, ?_, ?_, ?_, ?_, ?_⟩ <;>
    rfl

end Sys2Proof.Machine
end

