-- ==== Sys2Proof/Laws/Estimator.lean ====
section
/-! SUPPORT. What the shared operations of the estimator leave unchanged. -/

namespace Sys2Proof.Machine

open Sys2Proof

/-- `tickTime` changes nothing outside `est`. -/
@[simp] theorem tickTime_keeps (s : State) :
    (tickTime s).pending = s.pending ∧ (tickTime s).pins = s.pins ∧ (tickTime s).bus = s.bus ∧
    (tickTime s).ctl = s.ctl ∧ (tickTime s).bins = s.bins ∧ (tickTime s).crane = s.crane ∧
    (tickTime s).lanes = s.lanes ∧ (tickTime s).port = s.port ∧ (tickTime s).auctions = s.auctions ∧
    (tickTime s).fire = s.fire := by
  refine ⟨?_, ?_, ?_, ?_, ?_, ?_, ?_, ?_, ?_, ?_⟩ <;>
    rfl

end Sys2Proof.Machine
end

