-- ==== Sys2Proof/Laws/BinTable.lean ====
section
/-! SUPPORT. What the shared operations over the Bin Table and the pool leave unchanged. -/

namespace Sys2Proof.Machine

open Sys2Proof

/-- `putBin` changes nothing outside `bins`. -/
@[simp] theorem putBin_keeps (i : Nat) (r : BinRec) (s : State) :
    (putBin i r s).pending = s.pending ∧ (putBin i r s).pins = s.pins ∧ (putBin i r s).bus = s.bus ∧
    (putBin i r s).ctl = s.ctl ∧ (putBin i r s).crane = s.crane ∧ (putBin i r s).est = s.est ∧
    (putBin i r s).lanes = s.lanes ∧ (putBin i r s).port = s.port ∧ (putBin i r s).auctions = s.auctions ∧
    (putBin i r s).fire = s.fire := by
  refine ⟨?_, ?_, ?_, ?_, ?_, ?_, ?_, ?_, ?_, ?_⟩ <;>
    rfl

/-- `liftBegin` changes nothing outside `bins`. -/
@[simp] theorem liftBegin_keeps (i : Nat) (call : Call) (s : State) :
    (liftBegin i call s).2.pending = s.pending ∧ (liftBegin i call s).2.pins = s.pins ∧
    (liftBegin i call s).2.bus = s.bus ∧ (liftBegin i call s).2.ctl = s.ctl ∧
    (liftBegin i call s).2.crane = s.crane ∧ (liftBegin i call s).2.est = s.est ∧
    (liftBegin i call s).2.lanes = s.lanes ∧ (liftBegin i call s).2.port = s.port ∧
    (liftBegin i call s).2.auctions = s.auctions ∧ (liftBegin i call s).2.fire = s.fire := by
  refine ⟨?_, ?_, ?_, ?_, ?_, ?_, ?_, ?_, ?_, ?_⟩
  · unfold liftBegin; dsimp only; (repeat' split) <;> first | rfl | simp [apply_ite State.pending]
  · unfold liftBegin; dsimp only; (repeat' split) <;> first | rfl | simp [apply_ite State.pins]
  · unfold liftBegin; dsimp only; (repeat' split) <;> first | rfl | simp [apply_ite State.bus]
  · unfold liftBegin; dsimp only; (repeat' split) <;> first | rfl | simp [apply_ite State.ctl]
  · unfold liftBegin; dsimp only; (repeat' split) <;> first | rfl | simp [apply_ite State.crane]
  · unfold liftBegin; dsimp only; (repeat' split) <;> first | rfl | simp [apply_ite State.est]
  · unfold liftBegin; dsimp only; (repeat' split) <;> first | rfl | simp [apply_ite State.lanes]
  · unfold liftBegin; dsimp only; (repeat' split) <;> first | rfl | simp [apply_ite State.port]
  · unfold liftBegin; dsimp only; (repeat' split) <;> first | rfl | simp [apply_ite State.auctions]
  · unfold liftBegin; dsimp only; (repeat' split) <;> first | rfl | simp [apply_ite State.fire]

/-- `liftEnd` changes nothing outside `bins`. -/
@[simp] theorem liftEnd_keeps (i : Nat) (s : State) :
    (liftEnd i s).2.pending = s.pending ∧ (liftEnd i s).2.pins = s.pins ∧ (liftEnd i s).2.bus = s.bus ∧
    (liftEnd i s).2.ctl = s.ctl ∧ (liftEnd i s).2.crane = s.crane ∧ (liftEnd i s).2.est = s.est ∧
    (liftEnd i s).2.lanes = s.lanes ∧ (liftEnd i s).2.port = s.port ∧ (liftEnd i s).2.auctions = s.auctions ∧
    (liftEnd i s).2.fire = s.fire := by
  refine ⟨?_, ?_, ?_, ?_, ?_, ?_, ?_, ?_, ?_, ?_⟩
  · unfold liftEnd; dsimp only; (repeat' split) <;> first | rfl | simp [apply_ite State.pending]
  · unfold liftEnd; dsimp only; (repeat' split) <;> first | rfl | simp [apply_ite State.pins]
  · unfold liftEnd; dsimp only; (repeat' split) <;> first | rfl | simp [apply_ite State.bus]
  · unfold liftEnd; dsimp only; (repeat' split) <;> first | rfl | simp [apply_ite State.ctl]
  · unfold liftEnd; dsimp only; (repeat' split) <;> first | rfl | simp [apply_ite State.crane]
  · unfold liftEnd; dsimp only; (repeat' split) <;> first | rfl | simp [apply_ite State.est]
  · unfold liftEnd; dsimp only; (repeat' split) <;> first | rfl | simp [apply_ite State.lanes]
  · unfold liftEnd; dsimp only; (repeat' split) <;> first | rfl | simp [apply_ite State.port]
  · unfold liftEnd; dsimp only; (repeat' split) <;> first | rfl | simp [apply_ite State.auctions]
  · unfold liftEnd; dsimp only; (repeat' split) <;> first | rfl | simp [apply_ite State.fire]

/-- `storeBegin` changes nothing outside `bins`. -/
@[simp] theorem storeBegin_keeps (i : Nat) (s : State) :
    (storeBegin i s).2.pending = s.pending ∧ (storeBegin i s).2.pins = s.pins ∧
    (storeBegin i s).2.bus = s.bus ∧ (storeBegin i s).2.ctl = s.ctl ∧ (storeBegin i s).2.crane = s.crane ∧
    (storeBegin i s).2.est = s.est ∧ (storeBegin i s).2.lanes = s.lanes ∧ (storeBegin i s).2.port = s.port ∧
    (storeBegin i s).2.auctions = s.auctions ∧ (storeBegin i s).2.fire = s.fire := by
  refine ⟨?_, ?_, ?_, ?_, ?_, ?_, ?_, ?_, ?_, ?_⟩
  · unfold storeBegin; dsimp only; (repeat' split) <;> first | rfl | simp [apply_ite State.pending]
  · unfold storeBegin; dsimp only; (repeat' split) <;> first | rfl | simp [apply_ite State.pins]
  · unfold storeBegin; dsimp only; (repeat' split) <;> first | rfl | simp [apply_ite State.bus]
  · unfold storeBegin; dsimp only; (repeat' split) <;> first | rfl | simp [apply_ite State.ctl]
  · unfold storeBegin; dsimp only; (repeat' split) <;> first | rfl | simp [apply_ite State.crane]
  · unfold storeBegin; dsimp only; (repeat' split) <;> first | rfl | simp [apply_ite State.est]
  · unfold storeBegin; dsimp only; (repeat' split) <;> first | rfl | simp [apply_ite State.lanes]
  · unfold storeBegin; dsimp only; (repeat' split) <;> first | rfl | simp [apply_ite State.port]
  · unfold storeBegin; dsimp only; (repeat' split) <;> first | rfl | simp [apply_ite State.auctions]
  · unfold storeBegin; dsimp only; (repeat' split) <;> first | rfl | simp [apply_ite State.fire]

/-- `storeEnd` changes nothing outside `bus`, `ctl`, `bins`. -/
@[simp] theorem storeEnd_keeps (i : Nat) (hasRetrieve : Bool) (s : State) :
    (storeEnd i hasRetrieve s).2.pending = s.pending ∧ (storeEnd i hasRetrieve s).2.pins = s.pins ∧
    (storeEnd i hasRetrieve s).2.bus.rx = s.bus.rx ∧ (storeEnd i hasRetrieve s).2.bus.offBus = s.bus.offBus ∧
    (storeEnd i hasRetrieve s).2.bus.failures = s.bus.failures ∧
    (storeEnd i hasRetrieve s).2.bus.tx = s.bus.tx ∧ (storeEnd i hasRetrieve s).2.bus.answer = s.bus.answer ∧
    (storeEnd i hasRetrieve s).2.ctl.straps = s.ctl.straps ∧
    (storeEnd i hasRetrieve s).2.ctl.station = s.ctl.station ∧
    (storeEnd i hasRetrieve s).2.ctl.setup = s.ctl.setup ∧
    (storeEnd i hasRetrieve s).2.ctl.roster = s.ctl.roster ∧
    (storeEnd i hasRetrieve s).2.ctl.record = s.ctl.record ∧
    (storeEnd i hasRetrieve s).2.ctl.warmStart = s.ctl.warmStart ∧
    (storeEnd i hasRetrieve s).2.ctl.joinWait = s.ctl.joinWait ∧
    (storeEnd i hasRetrieve s).2.crane = s.crane ∧ (storeEnd i hasRetrieve s).2.est = s.est ∧
    (storeEnd i hasRetrieve s).2.lanes = s.lanes ∧ (storeEnd i hasRetrieve s).2.port = s.port ∧
    (storeEnd i hasRetrieve s).2.auctions = s.auctions ∧ (storeEnd i hasRetrieve s).2.fire = s.fire := by
  refine ⟨?_, ?_, ?_, ?_, ?_, ?_, ?_, ?_, ?_, ?_, ?_, ?_, ?_, ?_, ?_, ?_, ?_, ?_, ?_, ?_⟩
  · unfold storeEnd; dsimp only; (repeat' split) <;> first | rfl | simp [apply_ite State.pending]
  · unfold storeEnd; dsimp only; (repeat' split) <;> first | rfl | simp [apply_ite State.pins]
  · unfold storeEnd; dsimp only; (repeat' split) <;> first | rfl | simp [apply_ite State.bus,
          apply_ite Bus.rx]
  · unfold storeEnd; dsimp only; (repeat' split) <;> first | rfl | simp [apply_ite State.bus,
          apply_ite Bus.offBus]
  · unfold storeEnd; dsimp only; (repeat' split) <;> first | rfl | simp [apply_ite State.bus,
          apply_ite Bus.failures]
  · unfold storeEnd; dsimp only; (repeat' split) <;> first | rfl | simp [apply_ite State.bus,
          apply_ite Bus.tx]
  · unfold storeEnd; dsimp only; (repeat' split) <;> first | rfl | simp [apply_ite State.bus,
          apply_ite Bus.answer]
  · unfold storeEnd; dsimp only; (repeat' split) <;> first | rfl | simp [apply_ite State.ctl,
          apply_ite Control.straps]
  · unfold storeEnd; dsimp only; (repeat' split) <;> first | rfl | simp [apply_ite State.ctl,
          apply_ite Control.station]
  · unfold storeEnd; dsimp only; (repeat' split) <;> first | rfl | simp [apply_ite State.ctl,
          apply_ite Control.setup]
  · unfold storeEnd; dsimp only; (repeat' split) <;> first | rfl | simp [apply_ite State.ctl,
          apply_ite Control.roster]
  · unfold storeEnd; dsimp only; (repeat' split) <;> first | rfl | simp [apply_ite State.ctl,
          apply_ite Control.record]
  · unfold storeEnd; dsimp only; (repeat' split) <;> first | rfl | simp [apply_ite State.ctl,
          apply_ite Control.warmStart]
  · unfold storeEnd; dsimp only; (repeat' split) <;> first | rfl | simp [apply_ite State.ctl,
          apply_ite Control.joinWait]
  · unfold storeEnd; dsimp only; (repeat' split) <;> first | rfl | simp [apply_ite State.crane]
  · unfold storeEnd; dsimp only; (repeat' split) <;> first | rfl | simp [apply_ite State.est]
  · unfold storeEnd; dsimp only; (repeat' split) <;> first | rfl | simp [apply_ite State.lanes]
  · unfold storeEnd; dsimp only; (repeat' split) <;> first | rfl | simp [apply_ite State.port]
  · unfold storeEnd; dsimp only; (repeat' split) <;> first | rfl | simp [apply_ite State.auctions]
  · unfold storeEnd; dsimp only; (repeat' split) <;> first | rfl | simp [apply_ite State.fire]

/-- `restoreEnd` changes nothing outside `bins`. -/
@[simp] theorem restoreEnd_keeps (i : Nat) (hasRetrieve : Bool) (s : State) :
    (restoreEnd i hasRetrieve s).2.pending = s.pending ∧ (restoreEnd i hasRetrieve s).2.pins = s.pins ∧
    (restoreEnd i hasRetrieve s).2.bus = s.bus ∧ (restoreEnd i hasRetrieve s).2.ctl = s.ctl ∧
    (restoreEnd i hasRetrieve s).2.crane = s.crane ∧ (restoreEnd i hasRetrieve s).2.est = s.est ∧
    (restoreEnd i hasRetrieve s).2.lanes = s.lanes ∧ (restoreEnd i hasRetrieve s).2.port = s.port ∧
    (restoreEnd i hasRetrieve s).2.auctions = s.auctions ∧ (restoreEnd i hasRetrieve s).2.fire = s.fire := by
  refine ⟨?_, ?_, ?_, ?_, ?_, ?_, ?_, ?_, ?_, ?_⟩
  · unfold restoreEnd; dsimp only; (repeat' split) <;> first | rfl | simp [apply_ite State.pending]
  · unfold restoreEnd; dsimp only; (repeat' split) <;> first | rfl | simp [apply_ite State.pins]
  · unfold restoreEnd; dsimp only; (repeat' split) <;> first | rfl | simp [apply_ite State.bus]
  · unfold restoreEnd; dsimp only; (repeat' split) <;> first | rfl | simp [apply_ite State.ctl]
  · unfold restoreEnd; dsimp only; (repeat' split) <;> first | rfl | simp [apply_ite State.crane]
  · unfold restoreEnd; dsimp only; (repeat' split) <;> first | rfl | simp [apply_ite State.est]
  · unfold restoreEnd; dsimp only; (repeat' split) <;> first | rfl | simp [apply_ite State.lanes]
  · unfold restoreEnd; dsimp only; (repeat' split) <;> first | rfl | simp [apply_ite State.port]
  · unfold restoreEnd; dsimp only; (repeat' split) <;> first | rfl | simp [apply_ite State.auctions]
  · unfold restoreEnd; dsimp only; (repeat' split) <;> first | rfl | simp [apply_ite State.fire]

/-- `callClear` changes nothing outside `bins`. -/
@[simp] theorem callClear_keeps (i tag : Nat) (s : State) :
    (callClear i tag s).2.pending = s.pending ∧ (callClear i tag s).2.pins = s.pins ∧
    (callClear i tag s).2.bus = s.bus ∧ (callClear i tag s).2.ctl = s.ctl ∧
    (callClear i tag s).2.crane = s.crane ∧ (callClear i tag s).2.est = s.est ∧
    (callClear i tag s).2.lanes = s.lanes ∧ (callClear i tag s).2.port = s.port ∧
    (callClear i tag s).2.auctions = s.auctions ∧ (callClear i tag s).2.fire = s.fire := by
  refine ⟨?_, ?_, ?_, ?_, ?_, ?_, ?_, ?_, ?_, ?_⟩
  · unfold callClear; dsimp only; (repeat' split) <;> first | rfl | simp [apply_ite State.pending]
  · unfold callClear; dsimp only; (repeat' split) <;> first | rfl | simp [apply_ite State.pins]
  · unfold callClear; dsimp only; (repeat' split) <;> first | rfl | simp [apply_ite State.bus]
  · unfold callClear; dsimp only; (repeat' split) <;> first | rfl | simp [apply_ite State.ctl]
  · unfold callClear; dsimp only; (repeat' split) <;> first | rfl | simp [apply_ite State.crane]
  · unfold callClear; dsimp only; (repeat' split) <;> first | rfl | simp [apply_ite State.est]
  · unfold callClear; dsimp only; (repeat' split) <;> first | rfl | simp [apply_ite State.lanes]
  · unfold callClear; dsimp only; (repeat' split) <;> first | rfl | simp [apply_ite State.port]
  · unfold callClear; dsimp only; (repeat' split) <;> first | rfl | simp [apply_ite State.auctions]
  · unfold callClear; dsimp only; (repeat' split) <;> first | rfl | simp [apply_ite State.fire]

/-- `visitSteps` changes nothing outside `bus`, `ctl`, `bins`. -/
@[simp] theorem visitSteps_keeps (i : Nat) (r : BinRec) (c : Carry) (s : State) :
    (visitSteps i r c s).2.pending = s.pending ∧ (visitSteps i r c s).2.pins = s.pins ∧
    (visitSteps i r c s).2.bus.rx = s.bus.rx ∧ (visitSteps i r c s).2.bus.offBus = s.bus.offBus ∧
    (visitSteps i r c s).2.bus.failures = s.bus.failures ∧ (visitSteps i r c s).2.bus.tx = s.bus.tx ∧
    (visitSteps i r c s).2.bus.answer = s.bus.answer ∧ (visitSteps i r c s).2.ctl.straps = s.ctl.straps ∧
    (visitSteps i r c s).2.ctl.station = s.ctl.station ∧ (visitSteps i r c s).2.ctl.setup = s.ctl.setup ∧
    (visitSteps i r c s).2.ctl.roster = s.ctl.roster ∧ (visitSteps i r c s).2.ctl.record = s.ctl.record ∧
    (visitSteps i r c s).2.ctl.warmStart = s.ctl.warmStart ∧
    (visitSteps i r c s).2.ctl.joinWait = s.ctl.joinWait ∧ (visitSteps i r c s).2.crane = s.crane ∧
    (visitSteps i r c s).2.est = s.est ∧ (visitSteps i r c s).2.lanes = s.lanes ∧
    (visitSteps i r c s).2.port = s.port ∧ (visitSteps i r c s).2.auctions = s.auctions ∧
    (visitSteps i r c s).2.fire = s.fire := by
  refine ⟨?_, ?_, ?_, ?_, ?_, ?_, ?_, ?_, ?_, ?_, ?_, ?_, ?_, ?_, ?_, ?_, ?_, ?_, ?_, ?_⟩
  · unfold visitSteps; dsimp only; (repeat' split) <;> first | rfl | simp [apply_ite State.pending]
  · unfold visitSteps; dsimp only; (repeat' split) <;> first | rfl | simp [apply_ite State.pins]
  · unfold visitSteps; dsimp only; (repeat' split) <;> first | rfl | simp [apply_ite State.bus,
          apply_ite Bus.rx]
  · unfold visitSteps; dsimp only; (repeat' split) <;> first | rfl | simp [apply_ite State.bus,
          apply_ite Bus.offBus]
  · unfold visitSteps; dsimp only; (repeat' split) <;> first | rfl | simp [apply_ite State.bus,
          apply_ite Bus.failures]
  · unfold visitSteps; dsimp only; (repeat' split) <;> first | rfl | simp [apply_ite State.bus,
          apply_ite Bus.tx]
  · unfold visitSteps; dsimp only; (repeat' split) <;> first | rfl | simp [apply_ite State.bus,
          apply_ite Bus.answer]
  · unfold visitSteps; dsimp only; (repeat' split) <;> first | rfl | simp [apply_ite State.ctl,
          apply_ite Control.straps]
  · unfold visitSteps; dsimp only; (repeat' split) <;> first | rfl | simp [apply_ite State.ctl,
          apply_ite Control.station]
  · unfold visitSteps; dsimp only; (repeat' split) <;> first | rfl | simp [apply_ite State.ctl,
          apply_ite Control.setup]
  · unfold visitSteps; dsimp only; (repeat' split) <;> first | rfl | simp [apply_ite State.ctl,
          apply_ite Control.roster]
  · unfold visitSteps; dsimp only; (repeat' split) <;> first | rfl | simp [apply_ite State.ctl,
          apply_ite Control.record]
  · unfold visitSteps; dsimp only; (repeat' split) <;> first | rfl | simp [apply_ite State.ctl,
          apply_ite Control.warmStart]
  · unfold visitSteps; dsimp only; (repeat' split) <;> first | rfl | simp [apply_ite State.ctl,
          apply_ite Control.joinWait]
  · unfold visitSteps; dsimp only; (repeat' split) <;> first | rfl | simp [apply_ite State.crane]
  · unfold visitSteps; dsimp only; (repeat' split) <;> first | rfl | simp [apply_ite State.est]
  · unfold visitSteps; dsimp only; (repeat' split) <;> first | rfl | simp [apply_ite State.lanes]
  · unfold visitSteps; dsimp only; (repeat' split) <;> first | rfl | simp [apply_ite State.port]
  · unfold visitSteps; dsimp only; (repeat' split) <;> first | rfl | simp [apply_ite State.auctions]
  · unfold visitSteps; dsimp only; (repeat' split) <;> first | rfl | simp [apply_ite State.fire]

/-- `homeVisit` changes nothing outside `bus`, `ctl`, `bins`. -/
@[simp] theorem homeVisit_keeps (c : Carry) (s : State) :
    (homeVisit c s).2.pending = s.pending ∧ (homeVisit c s).2.pins = s.pins ∧
    (homeVisit c s).2.bus.rx = s.bus.rx ∧ (homeVisit c s).2.bus.offBus = s.bus.offBus ∧
    (homeVisit c s).2.bus.failures = s.bus.failures ∧ (homeVisit c s).2.bus.tx = s.bus.tx ∧
    (homeVisit c s).2.bus.answer = s.bus.answer ∧ (homeVisit c s).2.ctl.straps = s.ctl.straps ∧
    (homeVisit c s).2.ctl.station = s.ctl.station ∧ (homeVisit c s).2.ctl.setup = s.ctl.setup ∧
    (homeVisit c s).2.ctl.roster = s.ctl.roster ∧ (homeVisit c s).2.ctl.record = s.ctl.record ∧
    (homeVisit c s).2.ctl.warmStart = s.ctl.warmStart ∧ (homeVisit c s).2.ctl.joinWait = s.ctl.joinWait ∧
    (homeVisit c s).2.crane = s.crane ∧ (homeVisit c s).2.est = s.est ∧ (homeVisit c s).2.lanes = s.lanes ∧
    (homeVisit c s).2.port = s.port ∧ (homeVisit c s).2.auctions = s.auctions ∧
    (homeVisit c s).2.fire = s.fire := by
  refine ⟨?_, ?_, ?_, ?_, ?_, ?_, ?_, ?_, ?_, ?_, ?_, ?_, ?_, ?_, ?_, ?_, ?_, ?_, ?_, ?_⟩
  · unfold homeVisit; dsimp only; (repeat' split) <;> first | rfl | simp [apply_ite State.pending]
  · unfold homeVisit; dsimp only; (repeat' split) <;> first | rfl | simp [apply_ite State.pins]
  · unfold homeVisit; dsimp only; (repeat' split) <;> first | rfl | simp [apply_ite State.bus,
          apply_ite Bus.rx]
  · unfold homeVisit; dsimp only; (repeat' split) <;> first | rfl | simp [apply_ite State.bus,
          apply_ite Bus.offBus]
  · unfold homeVisit; dsimp only; (repeat' split) <;> first | rfl | simp [apply_ite State.bus,
          apply_ite Bus.failures]
  · unfold homeVisit; dsimp only; (repeat' split) <;> first | rfl | simp [apply_ite State.bus,
          apply_ite Bus.tx]
  · unfold homeVisit; dsimp only; (repeat' split) <;> first | rfl | simp [apply_ite State.bus,
          apply_ite Bus.answer]
  · unfold homeVisit; dsimp only; (repeat' split) <;> first | rfl | simp [apply_ite State.ctl,
          apply_ite Control.straps]
  · unfold homeVisit; dsimp only; (repeat' split) <;> first | rfl | simp [apply_ite State.ctl,
          apply_ite Control.station]
  · unfold homeVisit; dsimp only; (repeat' split) <;> first | rfl | simp [apply_ite State.ctl,
          apply_ite Control.setup]
  · unfold homeVisit; dsimp only; (repeat' split) <;> first | rfl | simp [apply_ite State.ctl,
          apply_ite Control.roster]
  · unfold homeVisit; dsimp only; (repeat' split) <;> first | rfl | simp [apply_ite State.ctl,
          apply_ite Control.record]
  · unfold homeVisit; dsimp only; (repeat' split) <;> first | rfl | simp [apply_ite State.ctl,
          apply_ite Control.warmStart]
  · unfold homeVisit; dsimp only; (repeat' split) <;> first | rfl | simp [apply_ite State.ctl,
          apply_ite Control.joinWait]
  · unfold homeVisit; dsimp only; (repeat' split) <;> first | rfl | simp [apply_ite State.crane]
  · unfold homeVisit; dsimp only; (repeat' split) <;> first | rfl | simp [apply_ite State.est]
  · unfold homeVisit; dsimp only; (repeat' split) <;> first | rfl | simp [apply_ite State.lanes]
  · unfold homeVisit; dsimp only; (repeat' split) <;> first | rfl | simp [apply_ite State.port]
  · unfold homeVisit; dsimp only; (repeat' split) <;> first | rfl | simp [apply_ite State.auctions]
  · unfold homeVisit; dsimp only; (repeat' split) <;> first | rfl | simp [apply_ite State.fire]

/-- `markLostByJam` changes nothing outside `bus`, `ctl`, `bins`. -/
@[simp] theorem markLostByJam_keeps (bin : Nat) (s : State) :
    (markLostByJam bin s).pending = s.pending ∧ (markLostByJam bin s).pins = s.pins ∧
    (markLostByJam bin s).bus.rx = s.bus.rx ∧ (markLostByJam bin s).bus.offBus = s.bus.offBus ∧
    (markLostByJam bin s).bus.failures = s.bus.failures ∧ (markLostByJam bin s).bus.tx = s.bus.tx ∧
    (markLostByJam bin s).bus.answer = s.bus.answer ∧ (markLostByJam bin s).ctl.straps = s.ctl.straps ∧
    (markLostByJam bin s).ctl.station = s.ctl.station ∧ (markLostByJam bin s).ctl.setup = s.ctl.setup ∧
    (markLostByJam bin s).ctl.roster = s.ctl.roster ∧ (markLostByJam bin s).ctl.record = s.ctl.record ∧
    (markLostByJam bin s).ctl.warmStart = s.ctl.warmStart ∧
    (markLostByJam bin s).ctl.joinWait = s.ctl.joinWait ∧ (markLostByJam bin s).crane = s.crane ∧
    (markLostByJam bin s).est = s.est ∧ (markLostByJam bin s).lanes = s.lanes ∧
    (markLostByJam bin s).port = s.port ∧ (markLostByJam bin s).auctions = s.auctions ∧
    (markLostByJam bin s).fire = s.fire := by
  refine ⟨?_, ?_, ?_, ?_, ?_, ?_, ?_, ?_, ?_, ?_, ?_, ?_, ?_, ?_, ?_, ?_, ?_, ?_, ?_, ?_⟩
  · simp [markLostByJam, apply_ite State.pending]
  · simp [markLostByJam, apply_ite State.pins]
  · simp [markLostByJam, apply_ite State.bus, apply_ite Bus.rx]
  · simp [markLostByJam, apply_ite State.bus, apply_ite Bus.offBus]
  · simp [markLostByJam, apply_ite State.bus, apply_ite Bus.failures]
  · simp [markLostByJam, apply_ite State.bus, apply_ite Bus.tx]
  · simp [markLostByJam, apply_ite State.bus, apply_ite Bus.answer]
  · simp [markLostByJam, apply_ite State.ctl, apply_ite Control.straps]
  · simp [markLostByJam, apply_ite State.ctl, apply_ite Control.station]
  · simp [markLostByJam, apply_ite State.ctl, apply_ite Control.setup]
  · simp [markLostByJam, apply_ite State.ctl, apply_ite Control.roster]
  · simp [markLostByJam, apply_ite State.ctl, apply_ite Control.record]
  · simp [markLostByJam, apply_ite State.ctl, apply_ite Control.warmStart]
  · simp [markLostByJam, apply_ite State.ctl, apply_ite Control.joinWait]
  · simp [markLostByJam, apply_ite State.crane]
  · simp [markLostByJam, apply_ite State.est]
  · simp [markLostByJam, apply_ite State.lanes]
  · simp [markLostByJam, apply_ite State.port]
  · simp [markLostByJam, apply_ite State.auctions]
  · simp [markLostByJam, apply_ite State.fire]

/-- `markLostByAudit` changes nothing outside `bus`, `ctl`, `bins`. -/
@[simp] theorem markLostByAudit_keeps (i : Nat) (s : State) :
    (markLostByAudit i s).pending = s.pending ∧ (markLostByAudit i s).pins = s.pins ∧
    (markLostByAudit i s).bus.rx = s.bus.rx ∧ (markLostByAudit i s).bus.offBus = s.bus.offBus ∧
    (markLostByAudit i s).bus.failures = s.bus.failures ∧ (markLostByAudit i s).bus.tx = s.bus.tx ∧
    (markLostByAudit i s).bus.answer = s.bus.answer ∧ (markLostByAudit i s).ctl.straps = s.ctl.straps ∧
    (markLostByAudit i s).ctl.station = s.ctl.station ∧ (markLostByAudit i s).ctl.setup = s.ctl.setup ∧
    (markLostByAudit i s).ctl.roster = s.ctl.roster ∧ (markLostByAudit i s).ctl.record = s.ctl.record ∧
    (markLostByAudit i s).ctl.warmStart = s.ctl.warmStart ∧
    (markLostByAudit i s).ctl.joinWait = s.ctl.joinWait ∧ (markLostByAudit i s).crane = s.crane ∧
    (markLostByAudit i s).est = s.est ∧ (markLostByAudit i s).lanes = s.lanes ∧
    (markLostByAudit i s).port = s.port ∧ (markLostByAudit i s).auctions = s.auctions ∧
    (markLostByAudit i s).fire = s.fire := by
  refine ⟨?_, ?_, ?_, ?_, ?_, ?_, ?_, ?_, ?_, ?_, ?_, ?_, ?_, ?_, ?_, ?_, ?_, ?_, ?_, ?_⟩
  · simp [markLostByAudit, apply_ite State.pending]
  · simp [markLostByAudit, apply_ite State.pins]
  · simp [markLostByAudit, apply_ite State.bus, apply_ite Bus.rx]
  · simp [markLostByAudit, apply_ite State.bus, apply_ite Bus.offBus]
  · simp [markLostByAudit, apply_ite State.bus, apply_ite Bus.failures]
  · simp [markLostByAudit, apply_ite State.bus, apply_ite Bus.tx]
  · simp [markLostByAudit, apply_ite State.bus, apply_ite Bus.answer]
  · simp [markLostByAudit, apply_ite State.ctl, apply_ite Control.straps]
  · simp [markLostByAudit, apply_ite State.ctl, apply_ite Control.station]
  · simp [markLostByAudit, apply_ite State.ctl, apply_ite Control.setup]
  · simp [markLostByAudit, apply_ite State.ctl, apply_ite Control.roster]
  · simp [markLostByAudit, apply_ite State.ctl, apply_ite Control.record]
  · simp [markLostByAudit, apply_ite State.ctl, apply_ite Control.warmStart]
  · simp [markLostByAudit, apply_ite State.ctl, apply_ite Control.joinWait]
  · simp [markLostByAudit, apply_ite State.crane]
  · simp [markLostByAudit, apply_ite State.est]
  · simp [markLostByAudit, apply_ite State.lanes]
  · simp [markLostByAudit, apply_ite State.port]
  · simp [markLostByAudit, apply_ite State.auctions]
  · simp [markLostByAudit, apply_ite State.fire]

/-- `markFoundByAudit` changes nothing outside `bus`, `ctl`, `bins`. -/
@[simp] theorem markFoundByAudit_keeps (i : Nat) (s : State) :
    (markFoundByAudit i s).pending = s.pending ∧ (markFoundByAudit i s).pins = s.pins ∧
    (markFoundByAudit i s).bus.rx = s.bus.rx ∧ (markFoundByAudit i s).bus.offBus = s.bus.offBus ∧
    (markFoundByAudit i s).bus.failures = s.bus.failures ∧ (markFoundByAudit i s).bus.tx = s.bus.tx ∧
    (markFoundByAudit i s).bus.answer = s.bus.answer ∧ (markFoundByAudit i s).ctl.straps = s.ctl.straps ∧
    (markFoundByAudit i s).ctl.station = s.ctl.station ∧ (markFoundByAudit i s).ctl.setup = s.ctl.setup ∧
    (markFoundByAudit i s).ctl.roster = s.ctl.roster ∧ (markFoundByAudit i s).ctl.record = s.ctl.record ∧
    (markFoundByAudit i s).ctl.warmStart = s.ctl.warmStart ∧
    (markFoundByAudit i s).ctl.joinWait = s.ctl.joinWait ∧ (markFoundByAudit i s).crane = s.crane ∧
    (markFoundByAudit i s).est = s.est ∧ (markFoundByAudit i s).lanes = s.lanes ∧
    (markFoundByAudit i s).port = s.port ∧ (markFoundByAudit i s).auctions = s.auctions ∧
    (markFoundByAudit i s).fire = s.fire := by
  refine ⟨?_, ?_, ?_, ?_, ?_, ?_, ?_, ?_, ?_, ?_, ?_, ?_, ?_, ?_, ?_, ?_, ?_, ?_, ?_, ?_⟩
  · unfold markFoundByAudit; dsimp only; (repeat' split) <;> first
          | rfl | simp [apply_ite State.pending]
  · unfold markFoundByAudit; dsimp only; (repeat' split) <;> first
          | rfl | simp [apply_ite State.pins]
  · unfold markFoundByAudit; dsimp only; (repeat' split) <;> first
          | rfl | simp [apply_ite State.bus, apply_ite Bus.rx]
  · unfold markFoundByAudit; dsimp only; (repeat' split) <;> first
          | rfl | simp [apply_ite State.bus, apply_ite Bus.offBus]
  · unfold markFoundByAudit; dsimp only; (repeat' split) <;> first
          | rfl | simp [apply_ite State.bus, apply_ite Bus.failures]
  · unfold markFoundByAudit; dsimp only; (repeat' split) <;> first
          | rfl | simp [apply_ite State.bus, apply_ite Bus.tx]
  · unfold markFoundByAudit; dsimp only; (repeat' split) <;> first
          | rfl | simp [apply_ite State.bus, apply_ite Bus.answer]
  · unfold markFoundByAudit; dsimp only; (repeat' split) <;> first
          | rfl | simp [apply_ite State.ctl, apply_ite Control.straps]
  · unfold markFoundByAudit; dsimp only; (repeat' split) <;> first
          | rfl | simp [apply_ite State.ctl, apply_ite Control.station]
  · unfold markFoundByAudit; dsimp only; (repeat' split) <;> first
          | rfl | simp [apply_ite State.ctl, apply_ite Control.setup]
  · unfold markFoundByAudit; dsimp only; (repeat' split) <;> first
          | rfl | simp [apply_ite State.ctl, apply_ite Control.roster]
  · unfold markFoundByAudit; dsimp only; (repeat' split) <;> first
          | rfl | simp [apply_ite State.ctl, apply_ite Control.record]
  · unfold markFoundByAudit; dsimp only; (repeat' split) <;> first
          | rfl | simp [apply_ite State.ctl, apply_ite Control.warmStart]
  · unfold markFoundByAudit; dsimp only; (repeat' split) <;> first
          | rfl | simp [apply_ite State.ctl, apply_ite Control.joinWait]
  · unfold markFoundByAudit; dsimp only; (repeat' split) <;> first
          | rfl | simp [apply_ite State.crane]
  · unfold markFoundByAudit; dsimp only; (repeat' split) <;> first
          | rfl | simp [apply_ite State.est]
  · unfold markFoundByAudit; dsimp only; (repeat' split) <;> first
          | rfl | simp [apply_ite State.lanes]
  · unfold markFoundByAudit; dsimp only; (repeat' split) <;> first
          | rfl | simp [apply_ite State.port]
  · unfold markFoundByAudit; dsimp only; (repeat' split) <;> first
          | rfl | simp [apply_ite State.auctions]
  · unfold markFoundByAudit; dsimp only; (repeat' split) <;> first
          | rfl | simp [apply_ite State.fire]

/-- `markFoundByIdentify` changes nothing outside `bus`, `ctl`, `bins`. -/
@[simp] theorem markFoundByIdentify_keeps (i : Nat) (s : State) :
    (markFoundByIdentify i s).pending = s.pending ∧ (markFoundByIdentify i s).pins = s.pins ∧
    (markFoundByIdentify i s).bus.rx = s.bus.rx ∧ (markFoundByIdentify i s).bus.offBus = s.bus.offBus ∧
    (markFoundByIdentify i s).bus.failures = s.bus.failures ∧ (markFoundByIdentify i s).bus.tx = s.bus.tx ∧
    (markFoundByIdentify i s).bus.answer = s.bus.answer ∧
    (markFoundByIdentify i s).ctl.straps = s.ctl.straps ∧
    (markFoundByIdentify i s).ctl.station = s.ctl.station ∧
    (markFoundByIdentify i s).ctl.setup = s.ctl.setup ∧ (markFoundByIdentify i s).ctl.roster = s.ctl.roster ∧
    (markFoundByIdentify i s).ctl.record = s.ctl.record ∧
    (markFoundByIdentify i s).ctl.warmStart = s.ctl.warmStart ∧
    (markFoundByIdentify i s).ctl.joinWait = s.ctl.joinWait ∧ (markFoundByIdentify i s).crane = s.crane ∧
    (markFoundByIdentify i s).est = s.est ∧ (markFoundByIdentify i s).lanes = s.lanes ∧
    (markFoundByIdentify i s).port = s.port ∧ (markFoundByIdentify i s).auctions = s.auctions ∧
    (markFoundByIdentify i s).fire = s.fire := by
  refine ⟨?_, ?_, ?_, ?_, ?_, ?_, ?_, ?_, ?_, ?_, ?_, ?_, ?_, ?_, ?_, ?_, ?_, ?_, ?_, ?_⟩
  · simp [markFoundByIdentify, apply_ite State.pending]
  · simp [markFoundByIdentify, apply_ite State.pins]
  · simp [markFoundByIdentify, apply_ite State.bus, apply_ite Bus.rx]
  · simp [markFoundByIdentify, apply_ite State.bus, apply_ite Bus.offBus]
  · simp [markFoundByIdentify, apply_ite State.bus, apply_ite Bus.failures]
  · simp [markFoundByIdentify, apply_ite State.bus, apply_ite Bus.tx]
  · simp [markFoundByIdentify, apply_ite State.bus, apply_ite Bus.answer]
  · simp [markFoundByIdentify, apply_ite State.ctl, apply_ite Control.straps]
  · simp [markFoundByIdentify, apply_ite State.ctl, apply_ite Control.station]
  · simp [markFoundByIdentify, apply_ite State.ctl, apply_ite Control.setup]
  · simp [markFoundByIdentify, apply_ite State.ctl, apply_ite Control.roster]
  · simp [markFoundByIdentify, apply_ite State.ctl, apply_ite Control.record]
  · simp [markFoundByIdentify, apply_ite State.ctl, apply_ite Control.warmStart]
  · simp [markFoundByIdentify, apply_ite State.ctl, apply_ite Control.joinWait]
  · simp [markFoundByIdentify, apply_ite State.crane]
  · simp [markFoundByIdentify, apply_ite State.est]
  · simp [markFoundByIdentify, apply_ite State.lanes]
  · simp [markFoundByIdentify, apply_ite State.port]
  · simp [markFoundByIdentify, apply_ite State.auctions]
  · simp [markFoundByIdentify, apply_ite State.fire]

/-- `holdSet` changes nothing outside `bins`. -/
@[simp] theorem holdSet_keeps (i units : Nat) (s : State) :
    (holdSet i units s).2.pending = s.pending ∧ (holdSet i units s).2.pins = s.pins ∧
    (holdSet i units s).2.bus = s.bus ∧ (holdSet i units s).2.ctl = s.ctl ∧
    (holdSet i units s).2.crane = s.crane ∧ (holdSet i units s).2.est = s.est ∧
    (holdSet i units s).2.lanes = s.lanes ∧ (holdSet i units s).2.port = s.port ∧
    (holdSet i units s).2.auctions = s.auctions ∧ (holdSet i units s).2.fire = s.fire := by
  refine ⟨?_, ?_, ?_, ?_, ?_, ?_, ?_, ?_, ?_, ?_⟩
  · unfold holdSet; dsimp only; (repeat' split) <;> first | rfl | simp [apply_ite State.pending]
  · unfold holdSet; dsimp only; (repeat' split) <;> first | rfl | simp [apply_ite State.pins]
  · unfold holdSet; dsimp only; (repeat' split) <;> first | rfl | simp [apply_ite State.bus]
  · unfold holdSet; dsimp only; (repeat' split) <;> first | rfl | simp [apply_ite State.ctl]
  · unfold holdSet; dsimp only; (repeat' split) <;> first | rfl | simp [apply_ite State.crane]
  · unfold holdSet; dsimp only; (repeat' split) <;> first | rfl | simp [apply_ite State.est]
  · unfold holdSet; dsimp only; (repeat' split) <;> first | rfl | simp [apply_ite State.lanes]
  · unfold holdSet; dsimp only; (repeat' split) <;> first | rfl | simp [apply_ite State.port]
  · unfold holdSet; dsimp only; (repeat' split) <;> first | rfl | simp [apply_ite State.auctions]
  · unfold holdSet; dsimp only; (repeat' split) <;> first | rfl | simp [apply_ite State.fire]

/-- `holdClear` changes nothing outside `bins`. -/
@[simp] theorem holdClear_keeps (i : Nat) (s : State) :
    (holdClear i s).2.pending = s.pending ∧ (holdClear i s).2.pins = s.pins ∧ (holdClear i s).2.bus = s.bus ∧
    (holdClear i s).2.ctl = s.ctl ∧ (holdClear i s).2.crane = s.crane ∧ (holdClear i s).2.est = s.est ∧
    (holdClear i s).2.lanes = s.lanes ∧ (holdClear i s).2.port = s.port ∧ (holdClear i s).2.auctions = s.auctions ∧
    (holdClear i s).2.fire = s.fire := by
  refine ⟨?_, ?_, ?_, ?_, ?_, ?_, ?_, ?_, ?_, ?_⟩ <;>
    rfl

/-- `followOnAppend` changes nothing outside `bins`. -/
@[simp] theorem followOnAppend_keeps (i : Nat) (e : FollowOn) (jobPort : Option Nat) (s : State) :
    (followOnAppend i e jobPort s).2.pending = s.pending ∧ (followOnAppend i e jobPort s).2.pins = s.pins ∧
    (followOnAppend i e jobPort s).2.bus = s.bus ∧ (followOnAppend i e jobPort s).2.ctl = s.ctl ∧
    (followOnAppend i e jobPort s).2.crane = s.crane ∧ (followOnAppend i e jobPort s).2.est = s.est ∧
    (followOnAppend i e jobPort s).2.lanes = s.lanes ∧ (followOnAppend i e jobPort s).2.port = s.port ∧
    (followOnAppend i e jobPort s).2.auctions = s.auctions ∧
    (followOnAppend i e jobPort s).2.fire = s.fire := by
  refine ⟨?_, ?_, ?_, ?_, ?_, ?_, ?_, ?_, ?_, ?_⟩
  · unfold followOnAppend; dsimp only; (repeat' split) <;> first
          | rfl | simp [apply_ite State.pending]
  · unfold followOnAppend; dsimp only; (repeat' split) <;> first | rfl | simp [apply_ite State.pins]
  · unfold followOnAppend; dsimp only; (repeat' split) <;> first | rfl | simp [apply_ite State.bus]
  · unfold followOnAppend; dsimp only; (repeat' split) <;> first | rfl | simp [apply_ite State.ctl]
  · unfold followOnAppend; dsimp only; (repeat' split) <;> first
          | rfl | simp [apply_ite State.crane]
  · unfold followOnAppend; dsimp only; (repeat' split) <;> first | rfl | simp [apply_ite State.est]
  · unfold followOnAppend; dsimp only; (repeat' split) <;> first
          | rfl | simp [apply_ite State.lanes]
  · unfold followOnAppend; dsimp only; (repeat' split) <;> first | rfl | simp [apply_ite State.port]
  · unfold followOnAppend; dsimp only; (repeat' split) <;> first
          | rfl | simp [apply_ite State.auctions]
  · unfold followOnAppend; dsimp only; (repeat' split) <;> first | rfl | simp [apply_ite State.fire]

/-- All that `followOnRemove` can do: the first entry with the tag leaves the list that tag search names, or no entry
holds the tag and nothing changes (R66). -/
theorem followOnRemove_cases (tag : Nat) (s : State) :
    (∃ i p, tagSearch tag s = some (.followOn i p) ∧
      followOnRemove tag s =
        (.removed i, putBin i { binAt i s with followOns := removeTag tag (binAt i s).followOns } s)) ∨
    ((∀ i p, tagSearch tag s ≠ some (.followOn i p)) ∧ followOnRemove tag s = (.notHeld, s)) := by
  unfold followOnRemove
  cases h : tagSearch tag s with
  | none => exact .inr ⟨by simp, rfl⟩
  | some x => cases x with
    | followOn i p => exact .inl ⟨i, p, rfl, rfl⟩
    | current i => exact .inr ⟨by simp, rfl⟩

/-- `followOnRemove` changes nothing outside `bins`. -/
@[simp] theorem followOnRemove_keeps (tag : Nat) (s : State) :
    (followOnRemove tag s).2.pending = s.pending ∧ (followOnRemove tag s).2.pins = s.pins ∧
    (followOnRemove tag s).2.bus = s.bus ∧ (followOnRemove tag s).2.ctl = s.ctl ∧
    (followOnRemove tag s).2.crane = s.crane ∧ (followOnRemove tag s).2.est = s.est ∧
    (followOnRemove tag s).2.lanes = s.lanes ∧ (followOnRemove tag s).2.port = s.port ∧
    (followOnRemove tag s).2.auctions = s.auctions ∧ (followOnRemove tag s).2.fire = s.fire := by
  obtain ⟨i, p, -, h⟩ | ⟨-, h⟩ := followOnRemove_cases tag s <;> simp [h]

end Sys2Proof.Machine
end

