-- ==== Sys2Proof/Laws/CraneOps.lean ====
section
/-! SUPPORT. What the shared operations of the crane leave unchanged. -/

namespace Sys2Proof.Machine

open Sys2Proof

/-- `onCurrent` changes nothing outside `crane`. -/
@[simp] theorem onCurrent_keeps (f : Job → Job) (s : State) :
    (onCurrent f s).pending = s.pending ∧ (onCurrent f s).pins = s.pins ∧ (onCurrent f s).bus = s.bus ∧
    (onCurrent f s).ctl = s.ctl ∧ (onCurrent f s).bins = s.bins ∧
    (onCurrent f s).crane.state = s.crane.state ∧ (onCurrent f s).crane.pos = s.crane.pos ∧
    (onCurrent f s).crane.load = s.crane.load ∧ (onCurrent f s).crane.carriage = s.crane.carriage ∧
    (onCurrent f s).crane.inFlight = s.crane.inFlight ∧ (onCurrent f s).crane.limit = s.crane.limit ∧
    (onCurrent f s).crane.continuity = s.crane.continuity ∧
    (onCurrent f s).crane.restartRun = s.crane.restartRun ∧ (onCurrent f s).est = s.est ∧
    (onCurrent f s).lanes = s.lanes ∧ (onCurrent f s).port = s.port ∧ (onCurrent f s).auctions = s.auctions ∧
    (onCurrent f s).fire = s.fire := by
  refine ⟨?_, ?_, ?_, ?_, ?_, ?_, ?_, ?_, ?_, ?_, ?_, ?_, ?_, ?_, ?_, ?_, ?_, ?_⟩ <;>
    rfl

/-- `removeCurrent` changes nothing outside `crane`. -/
@[simp] theorem removeCurrent_keeps (s : State) :
    (removeCurrent s).pending = s.pending ∧ (removeCurrent s).pins = s.pins ∧ (removeCurrent s).bus = s.bus ∧
    (removeCurrent s).ctl = s.ctl ∧ (removeCurrent s).bins = s.bins ∧
    (removeCurrent s).crane.state = s.crane.state ∧ (removeCurrent s).crane.pos = s.crane.pos ∧
    (removeCurrent s).crane.load = s.crane.load ∧ (removeCurrent s).crane.carriage = s.crane.carriage ∧
    (removeCurrent s).crane.inFlight = s.crane.inFlight ∧ (removeCurrent s).crane.limit = s.crane.limit ∧
    (removeCurrent s).crane.continuity = s.crane.continuity ∧
    (removeCurrent s).crane.restartRun = s.crane.restartRun ∧ (removeCurrent s).est = s.est ∧
    (removeCurrent s).lanes = s.lanes ∧ (removeCurrent s).port = s.port ∧
    (removeCurrent s).auctions = s.auctions ∧ (removeCurrent s).fire = s.fire := by
  refine ⟨?_, ?_, ?_, ?_, ?_, ?_, ?_, ?_, ?_, ?_, ?_, ?_, ?_, ?_, ?_, ?_, ?_, ?_⟩ <;>
    rfl

/-- `enterJob` changes nothing outside `crane`. -/
@[simp] theorem enterJob_keeps (j : Job) (s : State) :
    (enterJob j s).pending = s.pending ∧ (enterJob j s).pins = s.pins ∧ (enterJob j s).bus = s.bus ∧
    (enterJob j s).ctl = s.ctl ∧ (enterJob j s).bins = s.bins ∧ (enterJob j s).crane.state = s.crane.state ∧
    (enterJob j s).crane.pos = s.crane.pos ∧ (enterJob j s).crane.load = s.crane.load ∧
    (enterJob j s).crane.carriage = s.crane.carriage ∧ (enterJob j s).crane.inFlight = s.crane.inFlight ∧
    (enterJob j s).crane.limit = s.crane.limit ∧ (enterJob j s).crane.continuity = s.crane.continuity ∧
    (enterJob j s).crane.restartRun = s.crane.restartRun ∧ (enterJob j s).est = s.est ∧
    (enterJob j s).lanes = s.lanes ∧ (enterJob j s).port = s.port ∧ (enterJob j s).auctions = s.auctions ∧
    (enterJob j s).fire = s.fire := by
  refine ⟨?_, ?_, ?_, ?_, ?_, ?_, ?_, ?_, ?_, ?_, ?_, ?_, ?_, ?_, ?_, ?_, ?_, ?_⟩ <;>
    (unfold enterJob; (repeat' split) <;> first | rfl | simp)

/-- `offerJob` changes nothing outside `bins`, `crane`. -/
@[simp] theorem offerJob_keeps (j : Job) (s : State) :
    (offerJob j s).2.pending = s.pending ∧ (offerJob j s).2.pins = s.pins ∧ (offerJob j s).2.bus = s.bus ∧
    (offerJob j s).2.ctl = s.ctl ∧ (offerJob j s).2.crane.state = s.crane.state ∧
    (offerJob j s).2.crane.pos = s.crane.pos ∧ (offerJob j s).2.crane.load = s.crane.load ∧
    (offerJob j s).2.crane.carriage = s.crane.carriage ∧ (offerJob j s).2.crane.inFlight = s.crane.inFlight ∧
    (offerJob j s).2.crane.limit = s.crane.limit ∧ (offerJob j s).2.crane.continuity = s.crane.continuity ∧
    (offerJob j s).2.crane.restartRun = s.crane.restartRun ∧ (offerJob j s).2.est = s.est ∧
    (offerJob j s).2.lanes = s.lanes ∧ (offerJob j s).2.port = s.port ∧
    (offerJob j s).2.auctions = s.auctions ∧ (offerJob j s).2.fire = s.fire := by
  refine ⟨?_, ?_, ?_, ?_, ?_, ?_, ?_, ?_, ?_, ?_, ?_, ?_, ?_, ?_, ?_, ?_, ?_⟩ <;>
    (unfold offerJob; (repeat' split) <;> first | rfl | simp)

/-- `askStore` changes nothing outside `bins`, `crane`. -/
@[simp] theorem askStore_keeps (bin : Nat) (s : State) :
    (askStore bin s).pending = s.pending ∧ (askStore bin s).pins = s.pins ∧ (askStore bin s).bus = s.bus ∧
    (askStore bin s).ctl = s.ctl ∧ (askStore bin s).crane.state = s.crane.state ∧
    (askStore bin s).crane.pos = s.crane.pos ∧ (askStore bin s).crane.load = s.crane.load ∧
    (askStore bin s).crane.carriage = s.crane.carriage ∧ (askStore bin s).crane.inFlight = s.crane.inFlight ∧
    (askStore bin s).crane.limit = s.crane.limit ∧ (askStore bin s).crane.continuity = s.crane.continuity ∧
    (askStore bin s).crane.restartRun = s.crane.restartRun ∧ (askStore bin s).est = s.est ∧
    (askStore bin s).lanes = s.lanes ∧ (askStore bin s).port = s.port ∧
    (askStore bin s).auctions = s.auctions ∧ (askStore bin s).fire = s.fire := by
  refine ⟨?_, ?_, ?_, ?_, ?_, ?_, ?_, ?_, ?_, ?_, ?_, ?_, ?_, ?_, ?_, ?_, ?_⟩
  · unfold askStore; dsimp only; (repeat' split) <;> first | rfl | simp [apply_ite State.pending]
  · unfold askStore; dsimp only; (repeat' split) <;> first | rfl | simp [apply_ite State.pins]
  · unfold askStore; dsimp only; (repeat' split) <;> first | rfl | simp [apply_ite State.bus]
  · unfold askStore; dsimp only; (repeat' split) <;> first | rfl | simp [apply_ite State.ctl]
  · unfold askStore; dsimp only; (repeat' split) <;> first | rfl | simp [apply_ite State.crane,
          apply_ite Crane.state]
  · unfold askStore; dsimp only; (repeat' split) <;> first | rfl | simp [apply_ite State.crane,
          apply_ite Crane.pos]
  · unfold askStore; dsimp only; (repeat' split) <;> first | rfl | simp [apply_ite State.crane,
          apply_ite Crane.load]
  · unfold askStore; dsimp only; (repeat' split) <;> first | rfl | simp [apply_ite State.crane,
          apply_ite Crane.carriage]
  · unfold askStore; dsimp only; (repeat' split) <;> first | rfl | simp [apply_ite State.crane,
          apply_ite Crane.inFlight]
  · unfold askStore; dsimp only; (repeat' split) <;> first | rfl | simp [apply_ite State.crane,
          apply_ite Crane.limit]
  · unfold askStore; dsimp only; (repeat' split) <;> first | rfl | simp [apply_ite State.crane,
          apply_ite Crane.continuity]
  · unfold askStore; dsimp only; (repeat' split) <;> first | rfl | simp [apply_ite State.crane,
          apply_ite Crane.restartRun]
  · unfold askStore; dsimp only; (repeat' split) <;> first | rfl | simp [apply_ite State.est]
  · unfold askStore; dsimp only; (repeat' split) <;> first | rfl | simp [apply_ite State.lanes]
  · unfold askStore; dsimp only; (repeat' split) <;> first | rfl | simp [apply_ite State.port]
  · unfold askStore; dsimp only; (repeat' split) <;> first | rfl | simp [apply_ite State.auctions]
  · unfold askStore; dsimp only; (repeat' split) <;> first | rfl | simp [apply_ite State.fire]

/-- `askRestore` changes nothing outside `bins`, `crane`. -/
@[simp] theorem askRestore_keeps (bin : Nat) (s : State) :
    (askRestore bin s).pending = s.pending ∧ (askRestore bin s).pins = s.pins ∧
    (askRestore bin s).bus = s.bus ∧ (askRestore bin s).ctl = s.ctl ∧
    (askRestore bin s).crane.state = s.crane.state ∧ (askRestore bin s).crane.pos = s.crane.pos ∧
    (askRestore bin s).crane.load = s.crane.load ∧ (askRestore bin s).crane.carriage = s.crane.carriage ∧
    (askRestore bin s).crane.inFlight = s.crane.inFlight ∧ (askRestore bin s).crane.limit = s.crane.limit ∧
    (askRestore bin s).crane.continuity = s.crane.continuity ∧
    (askRestore bin s).crane.restartRun = s.crane.restartRun ∧ (askRestore bin s).est = s.est ∧
    (askRestore bin s).lanes = s.lanes ∧ (askRestore bin s).port = s.port ∧
    (askRestore bin s).auctions = s.auctions ∧ (askRestore bin s).fire = s.fire := by
  refine ⟨?_, ?_, ?_, ?_, ?_, ?_, ?_, ?_, ?_, ?_, ?_, ?_, ?_, ?_, ?_, ?_, ?_⟩
  · unfold askRestore; dsimp only; (repeat' split) <;> first | rfl | simp [apply_ite State.pending]
  · unfold askRestore; dsimp only; (repeat' split) <;> first | rfl | simp [apply_ite State.pins]
  · unfold askRestore; dsimp only; (repeat' split) <;> first | rfl | simp [apply_ite State.bus]
  · unfold askRestore; dsimp only; (repeat' split) <;> first | rfl | simp [apply_ite State.ctl]
  · unfold askRestore; dsimp only; (repeat' split) <;> first | rfl | simp [apply_ite State.crane,
          apply_ite Crane.state]
  · unfold askRestore; dsimp only; (repeat' split) <;> first | rfl | simp [apply_ite State.crane,
          apply_ite Crane.pos]
  · unfold askRestore; dsimp only; (repeat' split) <;> first | rfl | simp [apply_ite State.crane,
          apply_ite Crane.load]
  · unfold askRestore; dsimp only; (repeat' split) <;> first | rfl | simp [apply_ite State.crane,
          apply_ite Crane.carriage]
  · unfold askRestore; dsimp only; (repeat' split) <;> first | rfl | simp [apply_ite State.crane,
          apply_ite Crane.inFlight]
  · unfold askRestore; dsimp only; (repeat' split) <;> first | rfl | simp [apply_ite State.crane,
          apply_ite Crane.limit]
  · unfold askRestore; dsimp only; (repeat' split) <;> first | rfl | simp [apply_ite State.crane,
          apply_ite Crane.continuity]
  · unfold askRestore; dsimp only; (repeat' split) <;> first | rfl | simp [apply_ite State.crane,
          apply_ite Crane.restartRun]
  · unfold askRestore; dsimp only; (repeat' split) <;> first | rfl | simp [apply_ite State.est]
  · unfold askRestore; dsimp only; (repeat' split) <;> first | rfl | simp [apply_ite State.lanes]
  · unfold askRestore; dsimp only; (repeat' split) <;> first | rfl | simp [apply_ite State.port]
  · unfold askRestore; dsimp only; (repeat' split) <;> first | rfl | simp [apply_ite State.auctions]
  · unfold askRestore; dsimp only; (repeat' split) <;> first | rfl | simp [apply_ite State.fire]

/-- `recordFreed` changes nothing outside `bins`, `crane`. -/
@[simp] theorem recordFreed_keeps (s : State) :
    (recordFreed s).pending = s.pending ∧ (recordFreed s).pins = s.pins ∧ (recordFreed s).bus = s.bus ∧
    (recordFreed s).ctl = s.ctl ∧ (recordFreed s).crane.state = s.crane.state ∧
    (recordFreed s).crane.pos = s.crane.pos ∧ (recordFreed s).crane.load = s.crane.load ∧
    (recordFreed s).crane.carriage = s.crane.carriage ∧ (recordFreed s).crane.inFlight = s.crane.inFlight ∧
    (recordFreed s).crane.limit = s.crane.limit ∧ (recordFreed s).crane.continuity = s.crane.continuity ∧
    (recordFreed s).crane.restartRun = s.crane.restartRun ∧ (recordFreed s).est = s.est ∧
    (recordFreed s).lanes = s.lanes ∧ (recordFreed s).port = s.port ∧ (recordFreed s).auctions = s.auctions ∧
    (recordFreed s).fire = s.fire := by
  refine ⟨?_, ?_, ?_, ?_, ?_, ?_, ?_, ?_, ?_, ?_, ?_, ?_, ?_, ?_, ?_, ?_, ?_⟩
  · unfold recordFreed; dsimp only; (repeat' split) <;> first | rfl | simp [apply_ite State.pending]
  · unfold recordFreed; dsimp only; (repeat' split) <;> first | rfl | simp [apply_ite State.pins]
  · unfold recordFreed; dsimp only; (repeat' split) <;> first | rfl | simp [apply_ite State.bus]
  · unfold recordFreed; dsimp only; (repeat' split) <;> first | rfl | simp [apply_ite State.ctl]
  · unfold recordFreed; dsimp only; (repeat' split) <;> first
          | rfl | simp [apply_ite State.crane, apply_ite Crane.state]
  · unfold recordFreed; dsimp only; (repeat' split) <;> first
          | rfl | simp [apply_ite State.crane, apply_ite Crane.pos]
  · unfold recordFreed; dsimp only; (repeat' split) <;> first
          | rfl | simp [apply_ite State.crane, apply_ite Crane.load]
  · unfold recordFreed; dsimp only; (repeat' split) <;> first
          | rfl | simp [apply_ite State.crane, apply_ite Crane.carriage]
  · unfold recordFreed; dsimp only; (repeat' split) <;> first
          | rfl | simp [apply_ite State.crane, apply_ite Crane.inFlight]
  · unfold recordFreed; dsimp only; (repeat' split) <;> first
          | rfl | simp [apply_ite State.crane, apply_ite Crane.limit]
  · unfold recordFreed; dsimp only; (repeat' split) <;> first
          | rfl | simp [apply_ite State.crane, apply_ite Crane.continuity]
  · unfold recordFreed; dsimp only; (repeat' split) <;> first
          | rfl | simp [apply_ite State.crane, apply_ite Crane.restartRun]
  · unfold recordFreed; dsimp only; (repeat' split) <;> first | rfl | simp [apply_ite State.est]
  · unfold recordFreed; dsimp only; (repeat' split) <;> first | rfl | simp [apply_ite State.lanes]
  · unfold recordFreed; dsimp only; (repeat' split) <;> first | rfl | simp [apply_ite State.port]
  · unfold recordFreed; dsimp only; (repeat' split) <;> first
          | rfl | simp [apply_ite State.auctions]
  · unfold recordFreed; dsimp only; (repeat' split) <;> first | rfl | simp [apply_ite State.fire]

/-- `releaseStand` changes nothing outside `lanes`. -/
@[simp] theorem releaseStand_keeps (s : State) :
    (releaseStand s).pending = s.pending ∧ (releaseStand s).pins = s.pins ∧ (releaseStand s).bus = s.bus ∧
    (releaseStand s).ctl = s.ctl ∧ (releaseStand s).bins = s.bins ∧ (releaseStand s).crane = s.crane ∧
    (releaseStand s).est = s.est ∧ (releaseStand s).lanes.outSeg = s.lanes.outSeg ∧
    (releaseStand s).lanes.backSeg = s.lanes.backSeg ∧ (releaseStand s).lanes.inStand = s.lanes.inStand ∧
    (releaseStand s).port = s.port ∧ (releaseStand s).auctions = s.auctions ∧
    (releaseStand s).fire = s.fire := by
  refine ⟨?_, ?_, ?_, ?_, ?_, ?_, ?_, ?_, ?_, ?_, ?_, ?_, ?_⟩
  · simp [releaseStand, apply_ite State.pending]
  · simp [releaseStand, apply_ite State.pins]
  · simp [releaseStand, apply_ite State.bus]
  · simp [releaseStand, apply_ite State.ctl]
  · simp [releaseStand, apply_ite State.bins]
  · simp [releaseStand, apply_ite State.crane]
  · simp [releaseStand, apply_ite State.est]
  · simp [releaseStand, apply_ite State.lanes, apply_ite Lanes.outSeg]
  · simp [releaseStand, apply_ite State.lanes, apply_ite Lanes.backSeg]
  · simp [releaseStand, apply_ite State.lanes, apply_ite Lanes.inStand]
  · simp [releaseStand, apply_ite State.port]
  · simp [releaseStand, apply_ite State.auctions]
  · simp [releaseStand, apply_ite State.fire]

/-- `failFill` changes nothing outside `bus`, `ctl`, `bins`. -/
@[simp] theorem failFill_keeps (tag index : Nat) (s : State) :
    (failFill tag index s).pending = s.pending ∧ (failFill tag index s).pins = s.pins ∧
    (failFill tag index s).bus.rx = s.bus.rx ∧ (failFill tag index s).bus.offBus = s.bus.offBus ∧
    (failFill tag index s).bus.failures = s.bus.failures ∧ (failFill tag index s).bus.tx = s.bus.tx ∧
    (failFill tag index s).bus.answer = s.bus.answer ∧ (failFill tag index s).ctl.straps = s.ctl.straps ∧
    (failFill tag index s).ctl.station = s.ctl.station ∧ (failFill tag index s).ctl.setup = s.ctl.setup ∧
    (failFill tag index s).ctl.roster = s.ctl.roster ∧ (failFill tag index s).ctl.record = s.ctl.record ∧
    (failFill tag index s).ctl.warmStart = s.ctl.warmStart ∧
    (failFill tag index s).ctl.joinWait = s.ctl.joinWait ∧ (failFill tag index s).crane = s.crane ∧
    (failFill tag index s).est = s.est ∧ (failFill tag index s).lanes = s.lanes ∧
    (failFill tag index s).port = s.port ∧ (failFill tag index s).auctions = s.auctions ∧
    (failFill tag index s).fire = s.fire := by
  refine ⟨?_, ?_, ?_, ?_, ?_, ?_, ?_, ?_, ?_, ?_, ?_, ?_, ?_, ?_, ?_, ?_, ?_, ?_, ?_, ?_⟩ <;>
    simp [failFill]

/-- `dropCall` changes nothing outside `bus`, `ctl`, `bins`. -/
@[simp] theorem dropCall_keeps (bin tag : Nat) (purpose : Purpose) (s : State) :
    (dropCall bin tag purpose s).pending = s.pending ∧ (dropCall bin tag purpose s).pins = s.pins ∧
    (dropCall bin tag purpose s).bus.rx = s.bus.rx ∧ (dropCall bin tag purpose s).bus.offBus = s.bus.offBus ∧
    (dropCall bin tag purpose s).bus.failures = s.bus.failures ∧
    (dropCall bin tag purpose s).bus.tx = s.bus.tx ∧ (dropCall bin tag purpose s).bus.answer = s.bus.answer ∧
    (dropCall bin tag purpose s).ctl.straps = s.ctl.straps ∧
    (dropCall bin tag purpose s).ctl.station = s.ctl.station ∧
    (dropCall bin tag purpose s).ctl.setup = s.ctl.setup ∧
    (dropCall bin tag purpose s).ctl.roster = s.ctl.roster ∧
    (dropCall bin tag purpose s).ctl.record = s.ctl.record ∧
    (dropCall bin tag purpose s).ctl.warmStart = s.ctl.warmStart ∧
    (dropCall bin tag purpose s).ctl.joinWait = s.ctl.joinWait ∧
    (dropCall bin tag purpose s).crane = s.crane ∧ (dropCall bin tag purpose s).est = s.est ∧
    (dropCall bin tag purpose s).lanes = s.lanes ∧ (dropCall bin tag purpose s).port = s.port ∧
    (dropCall bin tag purpose s).auctions = s.auctions ∧ (dropCall bin tag purpose s).fire = s.fire := by
  refine ⟨?_, ?_, ?_, ?_, ?_, ?_, ?_, ?_, ?_, ?_, ?_, ?_, ?_, ?_, ?_, ?_, ?_, ?_, ?_, ?_⟩
  · simp [dropCall, apply_ite State.pending]
  · simp [dropCall, apply_ite State.pins]
  · simp [dropCall, apply_ite State.bus, apply_ite Bus.rx]
  · simp [dropCall, apply_ite State.bus, apply_ite Bus.offBus]
  · simp [dropCall, apply_ite State.bus, apply_ite Bus.failures]
  · simp [dropCall, apply_ite State.bus, apply_ite Bus.tx]
  · simp [dropCall, apply_ite State.bus, apply_ite Bus.answer]
  · simp [dropCall, apply_ite State.ctl, apply_ite Control.straps]
  · simp [dropCall, apply_ite State.ctl, apply_ite Control.station]
  · simp [dropCall, apply_ite State.ctl, apply_ite Control.setup]
  · simp [dropCall, apply_ite State.ctl, apply_ite Control.roster]
  · simp [dropCall, apply_ite State.ctl, apply_ite Control.record]
  · simp [dropCall, apply_ite State.ctl, apply_ite Control.warmStart]
  · simp [dropCall, apply_ite State.ctl, apply_ite Control.joinWait]
  · simp [dropCall, apply_ite State.crane]
  · simp [dropCall, apply_ite State.est]
  · simp [dropCall, apply_ite State.lanes]
  · simp [dropCall, apply_ite State.port]
  · simp [dropCall, apply_ite State.auctions]
  · simp [dropCall, apply_ite State.fire]

/-- `sendDrive` changes nothing outside `crane`. -/
@[simp] theorem sendDrive_keeps (c : DriveCmd) (s : State) :
    (sendDrive c s).pending = s.pending ∧ (sendDrive c s).pins = s.pins ∧ (sendDrive c s).bus = s.bus ∧
    (sendDrive c s).ctl = s.ctl ∧ (sendDrive c s).bins = s.bins ∧
    (sendDrive c s).crane.state = s.crane.state ∧ (sendDrive c s).crane.pos = s.crane.pos ∧
    (sendDrive c s).crane.load = s.crane.load ∧ (sendDrive c s).crane.carriage = s.crane.carriage ∧
    (sendDrive c s).crane.pool = s.crane.pool ∧ (sendDrive c s).crane.continuity = s.crane.continuity ∧
    (sendDrive c s).crane.restartRun = s.crane.restartRun ∧ (sendDrive c s).est = s.est ∧
    (sendDrive c s).lanes = s.lanes ∧ (sendDrive c s).port = s.port ∧ (sendDrive c s).auctions = s.auctions ∧
    (sendDrive c s).fire = s.fire := by
  refine ⟨?_, ?_, ?_, ?_, ?_, ?_, ?_, ?_, ?_, ?_, ?_, ?_, ?_, ?_, ?_, ?_, ?_⟩ <;>
    rfl

/-- `abandonCommand` changes nothing outside `crane`. -/
@[simp] theorem abandonCommand_keeps (s : State) :
    (abandonCommand s).pending = s.pending ∧ (abandonCommand s).pins = s.pins ∧
    (abandonCommand s).bus = s.bus ∧ (abandonCommand s).ctl = s.ctl ∧ (abandonCommand s).bins = s.bins ∧
    (abandonCommand s).crane.state = s.crane.state ∧ (abandonCommand s).crane.pos = s.crane.pos ∧
    (abandonCommand s).crane.load = s.crane.load ∧ (abandonCommand s).crane.carriage = s.crane.carriage ∧
    (abandonCommand s).crane.pool = s.crane.pool ∧ (abandonCommand s).crane.continuity = s.crane.continuity ∧
    (abandonCommand s).crane.restartRun = s.crane.restartRun ∧ (abandonCommand s).est = s.est ∧
    (abandonCommand s).lanes = s.lanes ∧ (abandonCommand s).port = s.port ∧
    (abandonCommand s).auctions = s.auctions ∧ (abandonCommand s).fire = s.fire := by
  refine ⟨?_, ?_, ?_, ?_, ?_, ?_, ?_, ?_, ?_, ?_, ?_, ?_, ?_, ?_, ?_, ?_, ?_⟩ <;>
    (unfold abandonCommand; (repeat' split) <;> first | rfl | simp)

/-- `sendStop` changes nothing outside `crane`. -/
@[simp] theorem sendStop_keeps (s : State) :
    (sendStop s).pending = s.pending ∧ (sendStop s).pins = s.pins ∧ (sendStop s).bus = s.bus ∧
    (sendStop s).ctl = s.ctl ∧ (sendStop s).bins = s.bins ∧ (sendStop s).crane.state = s.crane.state ∧
    (sendStop s).crane.pos = s.crane.pos ∧ (sendStop s).crane.load = s.crane.load ∧
    (sendStop s).crane.carriage = s.crane.carriage ∧ (sendStop s).crane.pool = s.crane.pool ∧
    (sendStop s).crane.continuity = s.crane.continuity ∧ (sendStop s).crane.restartRun = s.crane.restartRun ∧
    (sendStop s).est = s.est ∧ (sendStop s).lanes = s.lanes ∧ (sendStop s).port = s.port ∧
    (sendStop s).auctions = s.auctions ∧ (sendStop s).fire = s.fire := by
  refine ⟨?_, ?_, ?_, ?_, ?_, ?_, ?_, ?_, ?_, ?_, ?_, ?_, ?_, ?_, ?_, ?_, ?_⟩
  · simp [sendStop, apply_ite State.pending]
  · simp [sendStop, apply_ite State.pins]
  · simp [sendStop, apply_ite State.bus]
  · simp [sendStop, apply_ite State.ctl]
  · simp [sendStop, apply_ite State.bins]
  · simp [sendStop, apply_ite State.crane, apply_ite Crane.state]
  · simp [sendStop, apply_ite State.crane, apply_ite Crane.pos]
  · simp [sendStop, apply_ite State.crane, apply_ite Crane.load]
  · simp [sendStop, apply_ite State.crane, apply_ite Crane.carriage]
  · simp [sendStop, apply_ite State.crane, apply_ite Crane.pool]
  · simp [sendStop, apply_ite State.crane, apply_ite Crane.continuity]
  · simp [sendStop, apply_ite State.crane, apply_ite Crane.restartRun]
  · simp [sendStop, apply_ite State.est]
  · simp [sendStop, apply_ite State.lanes]
  · simp [sendStop, apply_ite State.port]
  · simp [sendStop, apply_ite State.auctions]
  · simp [sendStop, apply_ite State.fire]

/-- `craneRests` changes nothing outside `crane`. -/
@[simp] theorem craneRests_keeps (s : State) :
    (craneRests s).pending = s.pending ∧ (craneRests s).pins = s.pins ∧ (craneRests s).bus = s.bus ∧
    (craneRests s).ctl = s.ctl ∧ (craneRests s).bins = s.bins ∧ (craneRests s).crane.pos = s.crane.pos ∧
    (craneRests s).crane.load = s.crane.load ∧ (craneRests s).crane.carriage = s.crane.carriage ∧
    (craneRests s).crane.inFlight = s.crane.inFlight ∧ (craneRests s).crane.limit = s.crane.limit ∧
    (craneRests s).crane.pool = s.crane.pool ∧ (craneRests s).crane.continuity = s.crane.continuity ∧
    (craneRests s).crane.restartRun = s.crane.restartRun ∧ (craneRests s).est = s.est ∧
    (craneRests s).lanes = s.lanes ∧ (craneRests s).port = s.port ∧ (craneRests s).auctions = s.auctions ∧
    (craneRests s).fire = s.fire := by
  refine ⟨?_, ?_, ?_, ?_, ?_, ?_, ?_, ?_, ?_, ?_, ?_, ?_, ?_, ?_, ?_, ?_, ?_, ?_⟩ <;>
    rfl

/-- `advanceStage` changes nothing outside `crane`. -/
@[simp] theorem advanceStage_keeps (s : State) :
    (advanceStage s).pending = s.pending ∧ (advanceStage s).pins = s.pins ∧ (advanceStage s).bus = s.bus ∧
    (advanceStage s).ctl = s.ctl ∧ (advanceStage s).bins = s.bins ∧
    (advanceStage s).crane.state = s.crane.state ∧ (advanceStage s).crane.pos = s.crane.pos ∧
    (advanceStage s).crane.load = s.crane.load ∧ (advanceStage s).crane.carriage = s.crane.carriage ∧
    (advanceStage s).crane.inFlight = s.crane.inFlight ∧ (advanceStage s).crane.limit = s.crane.limit ∧
    (advanceStage s).crane.continuity = s.crane.continuity ∧
    (advanceStage s).crane.restartRun = s.crane.restartRun ∧ (advanceStage s).est = s.est ∧
    (advanceStage s).lanes = s.lanes ∧ (advanceStage s).port = s.port ∧
    (advanceStage s).auctions = s.auctions ∧ (advanceStage s).fire = s.fire := by
  refine ⟨?_, ?_, ?_, ?_, ?_, ?_, ?_, ?_, ?_, ?_, ?_, ?_, ?_, ?_, ?_, ?_, ?_, ?_⟩ <;>
    rfl

/-- `sendFork` changes nothing outside `crane`. -/
@[simp] theorem sendFork_keeps (side : Nat) (op : ForkOp) (s : State) :
    (sendFork side op s).pending = s.pending ∧ (sendFork side op s).pins = s.pins ∧
    (sendFork side op s).bus = s.bus ∧ (sendFork side op s).ctl = s.ctl ∧ (sendFork side op s).bins = s.bins ∧
    (sendFork side op s).crane.state = s.crane.state ∧ (sendFork side op s).crane.pos = s.crane.pos ∧
    (sendFork side op s).crane.load = s.crane.load ∧ (sendFork side op s).crane.carriage = s.crane.carriage ∧
    (sendFork side op s).crane.continuity = s.crane.continuity ∧
    (sendFork side op s).crane.restartRun = s.crane.restartRun ∧ (sendFork side op s).est = s.est ∧
    (sendFork side op s).lanes = s.lanes ∧ (sendFork side op s).port = s.port ∧
    (sendFork side op s).auctions = s.auctions ∧ (sendFork side op s).fire = s.fire := by
  refine ⟨?_, ?_, ?_, ?_, ?_, ?_, ?_, ?_, ?_, ?_, ?_, ?_, ?_, ?_, ?_, ?_⟩ <;>
    rfl

/-- `liftConflict` changes nothing outside `bus`, `ctl`, `bins`, `crane`, `lanes`. -/
@[simp] theorem liftConflict_keeps (j : Job) (s : State) :
    (liftConflict j s).pending = s.pending ∧ (liftConflict j s).pins = s.pins ∧
    (liftConflict j s).bus.rx = s.bus.rx ∧ (liftConflict j s).bus.offBus = s.bus.offBus ∧
    (liftConflict j s).bus.failures = s.bus.failures ∧ (liftConflict j s).bus.tx = s.bus.tx ∧
    (liftConflict j s).bus.answer = s.bus.answer ∧ (liftConflict j s).ctl.straps = s.ctl.straps ∧
    (liftConflict j s).ctl.station = s.ctl.station ∧ (liftConflict j s).ctl.setup = s.ctl.setup ∧
    (liftConflict j s).ctl.roster = s.ctl.roster ∧ (liftConflict j s).ctl.record = s.ctl.record ∧
    (liftConflict j s).ctl.warmStart = s.ctl.warmStart ∧ (liftConflict j s).ctl.joinWait = s.ctl.joinWait ∧
    (liftConflict j s).crane.pos = s.crane.pos ∧ (liftConflict j s).crane.load = s.crane.load ∧
    (liftConflict j s).crane.carriage = s.crane.carriage ∧
    (liftConflict j s).crane.inFlight = s.crane.inFlight ∧ (liftConflict j s).crane.limit = s.crane.limit ∧
    (liftConflict j s).crane.continuity = s.crane.continuity ∧
    (liftConflict j s).crane.restartRun = s.crane.restartRun ∧ (liftConflict j s).est = s.est ∧
    (liftConflict j s).lanes.outSeg = s.lanes.outSeg ∧ (liftConflict j s).lanes.backSeg = s.lanes.backSeg ∧
    (liftConflict j s).lanes.inStand = s.lanes.inStand ∧ (liftConflict j s).port = s.port ∧
    (liftConflict j s).auctions = s.auctions ∧ (liftConflict j s).fire = s.fire := by
  refine ⟨?_, ?_, ?_, ?_, ?_, ?_, ?_, ?_, ?_, ?_, ?_, ?_, ?_, ?_, ?_, ?_, ?_, ?_, ?_, ?_, ?_, ?_,
    ?_, ?_, ?_, ?_, ?_, ?_⟩
  · unfold liftConflict; dsimp only; (repeat' split) <;> first
          | rfl | simp [apply_ite State.pending]
  · unfold liftConflict; dsimp only; (repeat' split) <;> first | rfl | simp [apply_ite State.pins]
  · unfold liftConflict; dsimp only; (repeat' split) <;> first | rfl | simp [apply_ite State.bus,
          apply_ite Bus.rx]
  · unfold liftConflict; dsimp only; (repeat' split) <;> first | rfl | simp [apply_ite State.bus,
          apply_ite Bus.offBus]
  · unfold liftConflict; dsimp only; (repeat' split) <;> first | rfl | simp [apply_ite State.bus,
          apply_ite Bus.failures]
  · unfold liftConflict; dsimp only; (repeat' split) <;> first | rfl | simp [apply_ite State.bus,
          apply_ite Bus.tx]
  · unfold liftConflict; dsimp only; (repeat' split) <;> first | rfl | simp [apply_ite State.bus,
          apply_ite Bus.answer]
  · unfold liftConflict; dsimp only; (repeat' split) <;> first | rfl | simp [apply_ite State.ctl,
          apply_ite Control.straps]
  · unfold liftConflict; dsimp only; (repeat' split) <;> first | rfl | simp [apply_ite State.ctl,
          apply_ite Control.station]
  · unfold liftConflict; dsimp only; (repeat' split) <;> first | rfl | simp [apply_ite State.ctl,
          apply_ite Control.setup]
  · unfold liftConflict; dsimp only; (repeat' split) <;> first | rfl | simp [apply_ite State.ctl,
          apply_ite Control.roster]
  · unfold liftConflict; dsimp only; (repeat' split) <;> first | rfl | simp [apply_ite State.ctl,
          apply_ite Control.record]
  · unfold liftConflict; dsimp only; (repeat' split) <;> first | rfl | simp [apply_ite State.ctl,
          apply_ite Control.warmStart]
  · unfold liftConflict; dsimp only; (repeat' split) <;> first | rfl | simp [apply_ite State.ctl,
          apply_ite Control.joinWait]
  · unfold liftConflict; dsimp only; (repeat' split) <;> first
          | rfl | simp [apply_ite State.crane, apply_ite Crane.pos]
  · unfold liftConflict; dsimp only; (repeat' split) <;> first
          | rfl | simp [apply_ite State.crane, apply_ite Crane.load]
  · unfold liftConflict; dsimp only; (repeat' split) <;> first
          | rfl | simp [apply_ite State.crane, apply_ite Crane.carriage]
  · unfold liftConflict; dsimp only; (repeat' split) <;> first
          | rfl | simp [apply_ite State.crane, apply_ite Crane.inFlight]
  · unfold liftConflict; dsimp only; (repeat' split) <;> first
          | rfl | simp [apply_ite State.crane, apply_ite Crane.limit]
  · unfold liftConflict; dsimp only; (repeat' split) <;> first
          | rfl | simp [apply_ite State.crane, apply_ite Crane.continuity]
  · unfold liftConflict; dsimp only; (repeat' split) <;> first
          | rfl | simp [apply_ite State.crane, apply_ite Crane.restartRun]
  · unfold liftConflict; dsimp only; (repeat' split) <;> first | rfl | simp [apply_ite State.est]
  · unfold liftConflict; dsimp only; (repeat' split) <;> first
          | rfl | simp [apply_ite State.lanes, apply_ite Lanes.outSeg]
  · unfold liftConflict; dsimp only; (repeat' split) <;> first
          | rfl | simp [apply_ite State.lanes, apply_ite Lanes.backSeg]
  · unfold liftConflict; dsimp only; (repeat' split) <;> first
          | rfl | simp [apply_ite State.lanes, apply_ite Lanes.inStand]
  · unfold liftConflict; dsimp only; (repeat' split) <;> first | rfl | simp [apply_ite State.port]
  · unfold liftConflict; dsimp only; (repeat' split) <;> first
          | rfl | simp [apply_ite State.auctions]
  · unfold liftConflict; dsimp only; (repeat' split) <;> first | rfl | simp [apply_ite State.fire]

/-- `storeConflict` changes nothing outside `bus`, `ctl`, `bins`, `crane`, `lanes`. -/
@[simp] theorem storeConflict_keeps (s : State) :
    (storeConflict s).pending = s.pending ∧ (storeConflict s).pins = s.pins ∧
    (storeConflict s).bus.rx = s.bus.rx ∧ (storeConflict s).bus.offBus = s.bus.offBus ∧
    (storeConflict s).bus.failures = s.bus.failures ∧ (storeConflict s).bus.tx = s.bus.tx ∧
    (storeConflict s).bus.answer = s.bus.answer ∧ (storeConflict s).ctl.straps = s.ctl.straps ∧
    (storeConflict s).ctl.station = s.ctl.station ∧ (storeConflict s).ctl.setup = s.ctl.setup ∧
    (storeConflict s).ctl.roster = s.ctl.roster ∧ (storeConflict s).ctl.record = s.ctl.record ∧
    (storeConflict s).ctl.warmStart = s.ctl.warmStart ∧ (storeConflict s).ctl.joinWait = s.ctl.joinWait ∧
    (storeConflict s).crane.pos = s.crane.pos ∧ (storeConflict s).crane.load = s.crane.load ∧
    (storeConflict s).crane.carriage = s.crane.carriage ∧
    (storeConflict s).crane.inFlight = s.crane.inFlight ∧ (storeConflict s).crane.limit = s.crane.limit ∧
    (storeConflict s).crane.continuity = s.crane.continuity ∧
    (storeConflict s).crane.restartRun = s.crane.restartRun ∧ (storeConflict s).est = s.est ∧
    (storeConflict s).lanes.outSeg = s.lanes.outSeg ∧ (storeConflict s).lanes.backSeg = s.lanes.backSeg ∧
    (storeConflict s).lanes.outStand = s.lanes.outStand ∧ (storeConflict s).port = s.port ∧
    (storeConflict s).auctions = s.auctions ∧ (storeConflict s).fire = s.fire := by
  refine ⟨?_, ?_, ?_, ?_, ?_, ?_, ?_, ?_, ?_, ?_, ?_, ?_, ?_, ?_, ?_, ?_, ?_, ?_, ?_, ?_, ?_, ?_,
    ?_, ?_, ?_, ?_, ?_, ?_⟩ <;>
    simp [storeConflict]

/-- `beginFork` changes nothing outside `bus`, `ctl`, `bins`, `crane`, `lanes`. -/
@[simp] theorem beginFork_keeps (s : State) :
    (beginFork s).pending = s.pending ∧ (beginFork s).pins = s.pins ∧ (beginFork s).bus.rx = s.bus.rx ∧
    (beginFork s).bus.offBus = s.bus.offBus ∧ (beginFork s).bus.failures = s.bus.failures ∧
    (beginFork s).bus.tx = s.bus.tx ∧ (beginFork s).bus.answer = s.bus.answer ∧
    (beginFork s).ctl.straps = s.ctl.straps ∧ (beginFork s).ctl.station = s.ctl.station ∧
    (beginFork s).ctl.setup = s.ctl.setup ∧ (beginFork s).ctl.roster = s.ctl.roster ∧
    (beginFork s).ctl.record = s.ctl.record ∧ (beginFork s).ctl.warmStart = s.ctl.warmStart ∧
    (beginFork s).ctl.joinWait = s.ctl.joinWait ∧ (beginFork s).crane.pos = s.crane.pos ∧
    (beginFork s).crane.load = s.crane.load ∧ (beginFork s).crane.carriage = s.crane.carriage ∧
    (beginFork s).crane.continuity = s.crane.continuity ∧
    (beginFork s).crane.restartRun = s.crane.restartRun ∧ (beginFork s).est = s.est ∧
    (beginFork s).lanes.outSeg = s.lanes.outSeg ∧ (beginFork s).lanes.backSeg = s.lanes.backSeg ∧
    (beginFork s).port = s.port ∧ (beginFork s).auctions = s.auctions ∧ (beginFork s).fire = s.fire := by
  refine ⟨?_, ?_, ?_, ?_, ?_, ?_, ?_, ?_, ?_, ?_, ?_, ?_, ?_, ?_, ?_, ?_, ?_, ?_, ?_, ?_, ?_, ?_,
    ?_, ?_, ?_⟩
  · unfold beginFork; (repeat' split) <;> first | rfl | simp [apply_ite State.pending]
  · unfold beginFork; (repeat' split) <;> first | rfl | simp [apply_ite State.pins]
  · unfold beginFork; (repeat' split) <;> first | rfl | simp [apply_ite State.bus, apply_ite Bus.rx]
  · unfold beginFork; (repeat' split) <;> first | rfl | simp [apply_ite State.bus,
          apply_ite Bus.offBus]
  · unfold beginFork; (repeat' split) <;> first | rfl | simp [apply_ite State.bus,
          apply_ite Bus.failures]
  · unfold beginFork; (repeat' split) <;> first | rfl | simp [apply_ite State.bus, apply_ite Bus.tx]
  · unfold beginFork; (repeat' split) <;> first | rfl | simp [apply_ite State.bus,
          apply_ite Bus.answer]
  · unfold beginFork; (repeat' split) <;> first | rfl | simp [apply_ite State.ctl,
          apply_ite Control.straps]
  · unfold beginFork; (repeat' split) <;> first | rfl | simp [apply_ite State.ctl,
          apply_ite Control.station]
  · unfold beginFork; (repeat' split) <;> first | rfl | simp [apply_ite State.ctl,
          apply_ite Control.setup]
  · unfold beginFork; (repeat' split) <;> first | rfl | simp [apply_ite State.ctl,
          apply_ite Control.roster]
  · unfold beginFork; (repeat' split) <;> first | rfl | simp [apply_ite State.ctl,
          apply_ite Control.record]
  · unfold beginFork; (repeat' split) <;> first | rfl | simp [apply_ite State.ctl,
          apply_ite Control.warmStart]
  · unfold beginFork; (repeat' split) <;> first | rfl | simp [apply_ite State.ctl,
          apply_ite Control.joinWait]
  · unfold beginFork; (repeat' split) <;> first | rfl | simp [apply_ite State.crane,
          apply_ite Crane.pos]
  · unfold beginFork; (repeat' split) <;> first | rfl | simp [apply_ite State.crane,
          apply_ite Crane.load]
  · unfold beginFork; (repeat' split) <;> first | rfl | simp [apply_ite State.crane,
          apply_ite Crane.carriage]
  · unfold beginFork; (repeat' split) <;> first | rfl | simp [apply_ite State.crane,
          apply_ite Crane.continuity]
  · unfold beginFork; (repeat' split) <;> first | rfl | simp [apply_ite State.crane,
          apply_ite Crane.restartRun]
  · unfold beginFork; (repeat' split) <;> first | rfl | simp [apply_ite State.est]
  · unfold beginFork; (repeat' split) <;> first | rfl | simp [apply_ite State.lanes,
          apply_ite Lanes.outSeg]
  · unfold beginFork; (repeat' split) <;> first | rfl | simp [apply_ite State.lanes,
          apply_ite Lanes.backSeg]
  · unfold beginFork; (repeat' split) <;> first | rfl | simp [apply_ite State.port]
  · unfold beginFork; (repeat' split) <;> first | rfl | simp [apply_ite State.auctions]
  · unfold beginFork; (repeat' split) <;> first | rfl | simp [apply_ite State.fire]

/-- `beginStage` changes nothing outside `bus`, `ctl`, `bins`, `crane`, `lanes`. -/
@[simp] theorem beginStage_keeps (s : State) :
    (beginStage s).pending = s.pending ∧ (beginStage s).pins = s.pins ∧ (beginStage s).bus.rx = s.bus.rx ∧
    (beginStage s).bus.offBus = s.bus.offBus ∧ (beginStage s).bus.failures = s.bus.failures ∧
    (beginStage s).bus.tx = s.bus.tx ∧ (beginStage s).bus.answer = s.bus.answer ∧
    (beginStage s).ctl.straps = s.ctl.straps ∧ (beginStage s).ctl.station = s.ctl.station ∧
    (beginStage s).ctl.setup = s.ctl.setup ∧ (beginStage s).ctl.roster = s.ctl.roster ∧
    (beginStage s).ctl.record = s.ctl.record ∧ (beginStage s).ctl.warmStart = s.ctl.warmStart ∧
    (beginStage s).ctl.joinWait = s.ctl.joinWait ∧ (beginStage s).crane.pos = s.crane.pos ∧
    (beginStage s).crane.load = s.crane.load ∧ (beginStage s).crane.carriage = s.crane.carriage ∧
    (beginStage s).crane.continuity = s.crane.continuity ∧
    (beginStage s).crane.restartRun = s.crane.restartRun ∧ (beginStage s).est = s.est ∧
    (beginStage s).lanes.outSeg = s.lanes.outSeg ∧ (beginStage s).lanes.backSeg = s.lanes.backSeg ∧
    (beginStage s).port = s.port ∧ (beginStage s).auctions = s.auctions ∧ (beginStage s).fire = s.fire := by
  refine ⟨?_, ?_, ?_, ?_, ?_, ?_, ?_, ?_, ?_, ?_, ?_, ?_, ?_, ?_, ?_, ?_, ?_, ?_, ?_, ?_, ?_, ?_,
    ?_, ?_, ?_⟩ <;>
    (unfold beginStage; (repeat' split) <;> first | rfl | simp)

/-- `startJob` changes nothing outside `bus`, `ctl`, `bins`, `crane`, `lanes`. -/
@[simp] theorem startJob_keeps (place : Nat) (s : State) :
    (startJob place s).pending = s.pending ∧ (startJob place s).pins = s.pins ∧
    (startJob place s).bus.rx = s.bus.rx ∧ (startJob place s).bus.offBus = s.bus.offBus ∧
    (startJob place s).bus.failures = s.bus.failures ∧ (startJob place s).bus.tx = s.bus.tx ∧
    (startJob place s).bus.answer = s.bus.answer ∧ (startJob place s).ctl.straps = s.ctl.straps ∧
    (startJob place s).ctl.station = s.ctl.station ∧ (startJob place s).ctl.setup = s.ctl.setup ∧
    (startJob place s).ctl.roster = s.ctl.roster ∧ (startJob place s).ctl.record = s.ctl.record ∧
    (startJob place s).ctl.warmStart = s.ctl.warmStart ∧ (startJob place s).ctl.joinWait = s.ctl.joinWait ∧
    (startJob place s).crane.pos = s.crane.pos ∧ (startJob place s).crane.load = s.crane.load ∧
    (startJob place s).crane.carriage = s.crane.carriage ∧
    (startJob place s).crane.restartRun = s.crane.restartRun ∧ (startJob place s).est = s.est ∧
    (startJob place s).lanes.outSeg = s.lanes.outSeg ∧ (startJob place s).lanes.backSeg = s.lanes.backSeg ∧
    (startJob place s).port = s.port ∧ (startJob place s).auctions = s.auctions ∧
    (startJob place s).fire = s.fire := by
  refine ⟨?_, ?_, ?_, ?_, ?_, ?_, ?_, ?_, ?_, ?_, ?_, ?_, ?_, ?_, ?_, ?_, ?_, ?_, ?_, ?_, ?_, ?_,
    ?_, ?_⟩ <;>
    (unfold startJob; (repeat' split) <;> first | rfl | simp)

/-- `handOver` changes nothing outside `bus`, `ctl`, `bins`, `crane`. -/
@[simp] theorem handOver_keeps (bin : Nat) (e : Option FollowOn) (s : State) :
    (handOver bin e s).pending = s.pending ∧ (handOver bin e s).pins = s.pins ∧
    (handOver bin e s).bus.rx = s.bus.rx ∧ (handOver bin e s).bus.offBus = s.bus.offBus ∧
    (handOver bin e s).bus.failures = s.bus.failures ∧ (handOver bin e s).bus.tx = s.bus.tx ∧
    (handOver bin e s).bus.answer = s.bus.answer ∧ (handOver bin e s).ctl.straps = s.ctl.straps ∧
    (handOver bin e s).ctl.station = s.ctl.station ∧ (handOver bin e s).ctl.setup = s.ctl.setup ∧
    (handOver bin e s).ctl.roster = s.ctl.roster ∧ (handOver bin e s).ctl.record = s.ctl.record ∧
    (handOver bin e s).ctl.warmStart = s.ctl.warmStart ∧ (handOver bin e s).ctl.joinWait = s.ctl.joinWait ∧
    (handOver bin e s).crane.state = s.crane.state ∧ (handOver bin e s).crane.pos = s.crane.pos ∧
    (handOver bin e s).crane.load = s.crane.load ∧ (handOver bin e s).crane.carriage = s.crane.carriage ∧
    (handOver bin e s).crane.inFlight = s.crane.inFlight ∧ (handOver bin e s).crane.limit = s.crane.limit ∧
    (handOver bin e s).crane.continuity = s.crane.continuity ∧
    (handOver bin e s).crane.restartRun = s.crane.restartRun ∧ (handOver bin e s).est = s.est ∧
    (handOver bin e s).lanes = s.lanes ∧ (handOver bin e s).port = s.port ∧
    (handOver bin e s).auctions = s.auctions ∧ (handOver bin e s).fire = s.fire := by
  refine ⟨?_, ?_, ?_, ?_, ?_, ?_, ?_, ?_, ?_, ?_, ?_, ?_, ?_, ?_, ?_, ?_, ?_, ?_, ?_, ?_, ?_, ?_,
    ?_, ?_, ?_, ?_, ?_⟩
  · unfold handOver; dsimp only; (repeat' split) <;> first | rfl | simp [apply_ite State.pending]
  · unfold handOver; dsimp only; (repeat' split) <;> first | rfl | simp [apply_ite State.pins]
  · unfold handOver; dsimp only; (repeat' split) <;> first | rfl | simp [apply_ite State.bus,
          apply_ite Bus.rx]
  · unfold handOver; dsimp only; (repeat' split) <;> first | rfl | simp [apply_ite State.bus,
          apply_ite Bus.offBus]
  · unfold handOver; dsimp only; (repeat' split) <;> first | rfl | simp [apply_ite State.bus,
          apply_ite Bus.failures]
  · unfold handOver; dsimp only; (repeat' split) <;> first | rfl | simp [apply_ite State.bus,
          apply_ite Bus.tx]
  · unfold handOver; dsimp only; (repeat' split) <;> first | rfl | simp [apply_ite State.bus,
          apply_ite Bus.answer]
  · unfold handOver; dsimp only; (repeat' split) <;> first | rfl | simp [apply_ite State.ctl,
          apply_ite Control.straps]
  · unfold handOver; dsimp only; (repeat' split) <;> first | rfl | simp [apply_ite State.ctl,
          apply_ite Control.station]
  · unfold handOver; dsimp only; (repeat' split) <;> first | rfl | simp [apply_ite State.ctl,
          apply_ite Control.setup]
  · unfold handOver; dsimp only; (repeat' split) <;> first | rfl | simp [apply_ite State.ctl,
          apply_ite Control.roster]
  · unfold handOver; dsimp only; (repeat' split) <;> first | rfl | simp [apply_ite State.ctl,
          apply_ite Control.record]
  · unfold handOver; dsimp only; (repeat' split) <;> first | rfl | simp [apply_ite State.ctl,
          apply_ite Control.warmStart]
  · unfold handOver; dsimp only; (repeat' split) <;> first | rfl | simp [apply_ite State.ctl,
          apply_ite Control.joinWait]
  · unfold handOver; dsimp only; (repeat' split) <;> first | rfl | simp [apply_ite State.crane,
          apply_ite Crane.state]
  · unfold handOver; dsimp only; (repeat' split) <;> first | rfl | simp [apply_ite State.crane,
          apply_ite Crane.pos]
  · unfold handOver; dsimp only; (repeat' split) <;> first | rfl | simp [apply_ite State.crane,
          apply_ite Crane.load]
  · unfold handOver; dsimp only; (repeat' split) <;> first | rfl | simp [apply_ite State.crane,
          apply_ite Crane.carriage]
  · unfold handOver; dsimp only; (repeat' split) <;> first | rfl | simp [apply_ite State.crane,
          apply_ite Crane.inFlight]
  · unfold handOver; dsimp only; (repeat' split) <;> first | rfl | simp [apply_ite State.crane,
          apply_ite Crane.limit]
  · unfold handOver; dsimp only; (repeat' split) <;> first | rfl | simp [apply_ite State.crane,
          apply_ite Crane.continuity]
  · unfold handOver; dsimp only; (repeat' split) <;> first | rfl | simp [apply_ite State.crane,
          apply_ite Crane.restartRun]
  · unfold handOver; dsimp only; (repeat' split) <;> first | rfl | simp [apply_ite State.est]
  · unfold handOver; dsimp only; (repeat' split) <;> first | rfl | simp [apply_ite State.lanes]
  · unfold handOver; dsimp only; (repeat' split) <;> first | rfl | simp [apply_ite State.port]
  · unfold handOver; dsimp only; (repeat' split) <;> first | rfl | simp [apply_ite State.auctions]
  · unfold handOver; dsimp only; (repeat' split) <;> first | rfl | simp [apply_ite State.fire]

/-- `finishStore` changes nothing outside `bus`, `ctl`, `bins`, `crane`. -/
@[simp] theorem finishStore_keeps (j : Job) (s : State) :
    (finishStore j s).pending = s.pending ∧ (finishStore j s).pins = s.pins ∧
    (finishStore j s).bus.rx = s.bus.rx ∧ (finishStore j s).bus.offBus = s.bus.offBus ∧
    (finishStore j s).bus.failures = s.bus.failures ∧ (finishStore j s).bus.tx = s.bus.tx ∧
    (finishStore j s).bus.answer = s.bus.answer ∧ (finishStore j s).ctl.straps = s.ctl.straps ∧
    (finishStore j s).ctl.station = s.ctl.station ∧ (finishStore j s).ctl.setup = s.ctl.setup ∧
    (finishStore j s).ctl.roster = s.ctl.roster ∧ (finishStore j s).ctl.record = s.ctl.record ∧
    (finishStore j s).ctl.warmStart = s.ctl.warmStart ∧ (finishStore j s).ctl.joinWait = s.ctl.joinWait ∧
    (finishStore j s).crane.state = s.crane.state ∧ (finishStore j s).crane.pos = s.crane.pos ∧
    (finishStore j s).crane.load = s.crane.load ∧ (finishStore j s).crane.inFlight = s.crane.inFlight ∧
    (finishStore j s).crane.limit = s.crane.limit ∧ (finishStore j s).crane.continuity = s.crane.continuity ∧
    (finishStore j s).crane.restartRun = s.crane.restartRun ∧ (finishStore j s).est = s.est ∧
    (finishStore j s).lanes = s.lanes ∧ (finishStore j s).port = s.port ∧
    (finishStore j s).auctions = s.auctions ∧ (finishStore j s).fire = s.fire := by
  refine ⟨?_, ?_, ?_, ?_, ?_, ?_, ?_, ?_, ?_, ?_, ?_, ?_, ?_, ?_, ?_, ?_, ?_, ?_, ?_, ?_, ?_, ?_,
    ?_, ?_, ?_, ?_⟩ <;>
    simp [finishStore]

/-- `finishRestore` changes nothing outside `bus`, `ctl`, `bins`, `crane`. -/
@[simp] theorem finishRestore_keeps (j : Job) (s : State) :
    (finishRestore j s).pending = s.pending ∧ (finishRestore j s).pins = s.pins ∧
    (finishRestore j s).bus.rx = s.bus.rx ∧ (finishRestore j s).bus.offBus = s.bus.offBus ∧
    (finishRestore j s).bus.failures = s.bus.failures ∧ (finishRestore j s).bus.tx = s.bus.tx ∧
    (finishRestore j s).bus.answer = s.bus.answer ∧ (finishRestore j s).ctl.straps = s.ctl.straps ∧
    (finishRestore j s).ctl.station = s.ctl.station ∧ (finishRestore j s).ctl.setup = s.ctl.setup ∧
    (finishRestore j s).ctl.roster = s.ctl.roster ∧ (finishRestore j s).ctl.record = s.ctl.record ∧
    (finishRestore j s).ctl.warmStart = s.ctl.warmStart ∧ (finishRestore j s).ctl.joinWait = s.ctl.joinWait ∧
    (finishRestore j s).crane.state = s.crane.state ∧ (finishRestore j s).crane.pos = s.crane.pos ∧
    (finishRestore j s).crane.load = s.crane.load ∧ (finishRestore j s).crane.carriage = s.crane.carriage ∧
    (finishRestore j s).crane.inFlight = s.crane.inFlight ∧ (finishRestore j s).crane.limit = s.crane.limit ∧
    (finishRestore j s).crane.continuity = s.crane.continuity ∧
    (finishRestore j s).crane.restartRun = s.crane.restartRun ∧ (finishRestore j s).est = s.est ∧
    (finishRestore j s).lanes = s.lanes ∧ (finishRestore j s).port = s.port ∧
    (finishRestore j s).auctions = s.auctions ∧ (finishRestore j s).fire = s.fire := by
  refine ⟨?_, ?_, ?_, ?_, ?_, ?_, ?_, ?_, ?_, ?_, ?_, ?_, ?_, ?_, ?_, ?_, ?_, ?_, ?_, ?_, ?_, ?_,
    ?_, ?_, ?_, ?_, ?_⟩ <;>
    simp [finishRestore]

/-- `convertCurrent` changes nothing outside `bins`, `crane`, `lanes`. -/
@[simp] theorem convertCurrent_keeps (j : Job) (s : State) :
    (convertCurrent j s).pending = s.pending ∧ (convertCurrent j s).pins = s.pins ∧
    (convertCurrent j s).bus = s.bus ∧ (convertCurrent j s).ctl = s.ctl ∧
    (convertCurrent j s).crane.state = s.crane.state ∧ (convertCurrent j s).crane.pos = s.crane.pos ∧
    (convertCurrent j s).crane.load = s.crane.load ∧ (convertCurrent j s).crane.carriage = s.crane.carriage ∧
    (convertCurrent j s).crane.inFlight = s.crane.inFlight ∧
    (convertCurrent j s).crane.limit = s.crane.limit ∧
    (convertCurrent j s).crane.continuity = s.crane.continuity ∧
    (convertCurrent j s).crane.restartRun = s.crane.restartRun ∧ (convertCurrent j s).est = s.est ∧
    (convertCurrent j s).lanes.outSeg = s.lanes.outSeg ∧
    (convertCurrent j s).lanes.backSeg = s.lanes.backSeg ∧
    (convertCurrent j s).lanes.inStand = s.lanes.inStand ∧ (convertCurrent j s).port = s.port ∧
    (convertCurrent j s).auctions = s.auctions ∧ (convertCurrent j s).fire = s.fire := by
  refine ⟨?_, ?_, ?_, ?_, ?_, ?_, ?_, ?_, ?_, ?_, ?_, ?_, ?_, ?_, ?_, ?_, ?_, ?_, ?_⟩ <;>
    simp [convertCurrent]

/-- `freezeCurrent` changes nothing outside `crane`. -/
@[simp] theorem freezeCurrent_keeps (s : State) :
    (freezeCurrent s).pending = s.pending ∧ (freezeCurrent s).pins = s.pins ∧ (freezeCurrent s).bus = s.bus ∧
    (freezeCurrent s).ctl = s.ctl ∧ (freezeCurrent s).bins = s.bins ∧
    (freezeCurrent s).crane.state = s.crane.state ∧ (freezeCurrent s).crane.pos = s.crane.pos ∧
    (freezeCurrent s).crane.load = s.crane.load ∧ (freezeCurrent s).crane.carriage = s.crane.carriage ∧
    (freezeCurrent s).crane.inFlight = s.crane.inFlight ∧ (freezeCurrent s).crane.limit = s.crane.limit ∧
    (freezeCurrent s).crane.continuity = s.crane.continuity ∧
    (freezeCurrent s).crane.restartRun = s.crane.restartRun ∧ (freezeCurrent s).est = s.est ∧
    (freezeCurrent s).lanes = s.lanes ∧ (freezeCurrent s).port = s.port ∧
    (freezeCurrent s).auctions = s.auctions ∧ (freezeCurrent s).fire = s.fire := by
  refine ⟨?_, ?_, ?_, ?_, ?_, ?_, ?_, ?_, ?_, ?_, ?_, ?_, ?_, ?_, ?_, ?_, ?_, ?_⟩ <;>
    rfl

/-- `reportTaken` changes nothing outside `crane`. -/
@[simp] theorem reportTaken_keeps (s : State) :
    (reportTaken s).pending = s.pending ∧ (reportTaken s).pins = s.pins ∧ (reportTaken s).bus = s.bus ∧
    (reportTaken s).ctl = s.ctl ∧ (reportTaken s).bins = s.bins ∧
    (reportTaken s).crane.state = s.crane.state ∧ (reportTaken s).crane.pos = s.crane.pos ∧
    (reportTaken s).crane.load = s.crane.load ∧ (reportTaken s).crane.carriage = s.crane.carriage ∧
    (reportTaken s).crane.pool = s.crane.pool ∧ (reportTaken s).crane.continuity = s.crane.continuity ∧
    (reportTaken s).crane.restartRun = s.crane.restartRun ∧ (reportTaken s).est = s.est ∧
    (reportTaken s).lanes = s.lanes ∧ (reportTaken s).port = s.port ∧ (reportTaken s).auctions = s.auctions ∧
    (reportTaken s).fire = s.fire := by
  refine ⟨?_, ?_, ?_, ?_, ?_, ?_, ?_, ?_, ?_, ?_, ?_, ?_, ?_, ?_, ?_, ?_, ?_⟩ <;>
    rfl

/-- `sendWake` changes nothing outside `crane`. -/
@[simp] theorem sendWake_keeps (s : State) :
    (sendWake s).pending = s.pending ∧ (sendWake s).pins = s.pins ∧ (sendWake s).bus = s.bus ∧
    (sendWake s).ctl = s.ctl ∧ (sendWake s).bins = s.bins ∧ (sendWake s).crane.pos = s.crane.pos ∧
    (sendWake s).crane.load = s.crane.load ∧ (sendWake s).crane.carriage = s.crane.carriage ∧
    (sendWake s).crane.pool = s.crane.pool ∧ (sendWake s).crane.continuity = s.crane.continuity ∧
    (sendWake s).crane.restartRun = s.crane.restartRun ∧ (sendWake s).est = s.est ∧
    (sendWake s).lanes = s.lanes ∧ (sendWake s).port = s.port ∧ (sendWake s).auctions = s.auctions ∧
    (sendWake s).fire = s.fire := by
  refine ⟨?_, ?_, ?_, ?_, ?_, ?_, ?_, ?_, ?_, ?_, ?_, ?_, ?_, ?_, ?_, ?_⟩ <;>
    rfl

/-- `sendHome` changes nothing outside `crane`. -/
@[simp] theorem sendHome_keeps (s : State) :
    (sendHome s).pending = s.pending ∧ (sendHome s).pins = s.pins ∧ (sendHome s).bus = s.bus ∧
    (sendHome s).ctl = s.ctl ∧ (sendHome s).bins = s.bins ∧ (sendHome s).crane.pos = s.crane.pos ∧
    (sendHome s).crane.load = s.crane.load ∧ (sendHome s).crane.carriage = s.crane.carriage ∧
    (sendHome s).crane.pool = s.crane.pool ∧ (sendHome s).crane.continuity = s.crane.continuity ∧
    (sendHome s).crane.restartRun = s.crane.restartRun ∧ (sendHome s).est = s.est ∧
    (sendHome s).lanes = s.lanes ∧ (sendHome s).port = s.port ∧ (sendHome s).auctions = s.auctions ∧
    (sendHome s).fire = s.fire := by
  refine ⟨?_, ?_, ?_, ?_, ?_, ?_, ?_, ?_, ?_, ?_, ?_, ?_, ?_, ?_, ?_, ?_⟩ <;>
    rfl

end Sys2Proof.Machine
end

