-- ==== Sys2Proof/Laws/LaneOps.lean ====
section
/-! SUPPORT. What the shared operations of the lanes leave unchanged. -/

namespace Sys2Proof.Machine

open Sys2Proof

/-- `setHead` changes nothing outside `lanes`. -/
@[simp] theorem setHead_keeps (l : Lane) (h : HeadState) (s : State) :
    (setHead l h s).pending = s.pending ∧ (setHead l h s).pins = s.pins ∧ (setHead l h s).bus = s.bus ∧
    (setHead l h s).ctl = s.ctl ∧ (setHead l h s).bins = s.bins ∧ (setHead l h s).crane = s.crane ∧
    (setHead l h s).est = s.est ∧ (setHead l h s).lanes.outStand = s.lanes.outStand ∧
    (setHead l h s).lanes.inStand = s.lanes.inStand ∧ (setHead l h s).port = s.port ∧
    (setHead l h s).auctions = s.auctions ∧ (setHead l h s).fire = s.fire := by
  refine ⟨?_, ?_, ?_, ?_, ?_, ?_, ?_, ?_, ?_, ?_, ?_, ?_⟩ <;>
    simp [setHead]

/-- `stopRetry` changes nothing outside `lanes`. -/
@[simp] theorem stopRetry_keeps (l : Lane) (s : State) :
    (stopRetry l s).pending = s.pending ∧ (stopRetry l s).pins = s.pins ∧ (stopRetry l s).bus = s.bus ∧
    (stopRetry l s).ctl = s.ctl ∧ (stopRetry l s).bins = s.bins ∧ (stopRetry l s).crane = s.crane ∧
    (stopRetry l s).est = s.est ∧ (stopRetry l s).lanes.outStand = s.lanes.outStand ∧
    (stopRetry l s).lanes.inStand = s.lanes.inStand ∧ (stopRetry l s).port = s.port ∧
    (stopRetry l s).auctions = s.auctions ∧ (stopRetry l s).fire = s.fire := by
  refine ⟨?_, ?_, ?_, ?_, ?_, ?_, ?_, ?_, ?_, ?_, ?_, ?_⟩ <;>
    simp [stopRetry]

/-- `removeHead` changes nothing outside `lanes`. -/
@[simp] theorem removeHead_keeps (l : Lane) (s : State) :
    (removeHead l s).pending = s.pending ∧ (removeHead l s).pins = s.pins ∧ (removeHead l s).bus = s.bus ∧
    (removeHead l s).ctl = s.ctl ∧ (removeHead l s).bins = s.bins ∧ (removeHead l s).crane = s.crane ∧
    (removeHead l s).est = s.est ∧ (removeHead l s).lanes.outStand = s.lanes.outStand ∧
    (removeHead l s).lanes.inStand = s.lanes.inStand ∧ (removeHead l s).port = s.port ∧
    (removeHead l s).auctions = s.auctions ∧ (removeHead l s).fire = s.fire := by
  refine ⟨?_, ?_, ?_, ?_, ?_, ?_, ?_, ?_, ?_, ?_, ?_, ?_⟩ <;>
    simp [removeHead]

/-- `settleMerge` changes nothing outside `lanes`. -/
@[simp] theorem settleMerge_keeps (l : Lane) (s : State) :
    (settleMerge l s).pending = s.pending ∧ (settleMerge l s).pins = s.pins ∧ (settleMerge l s).bus = s.bus ∧
    (settleMerge l s).ctl = s.ctl ∧ (settleMerge l s).bins = s.bins ∧ (settleMerge l s).crane = s.crane ∧
    (settleMerge l s).est = s.est ∧ (settleMerge l s).lanes.outStand = s.lanes.outStand ∧
    (settleMerge l s).lanes.inStand = s.lanes.inStand ∧ (settleMerge l s).port = s.port ∧
    (settleMerge l s).auctions = s.auctions ∧ (settleMerge l s).fire = s.fire := by
  refine ⟨?_, ?_, ?_, ?_, ?_, ?_, ?_, ?_, ?_, ?_, ?_, ?_⟩
  · simp [settleMerge, apply_ite State.pending]
  · simp [settleMerge, apply_ite State.pins]
  · simp [settleMerge, apply_ite State.bus]
  · simp [settleMerge, apply_ite State.ctl]
  · simp [settleMerge, apply_ite State.bins]
  · simp [settleMerge, apply_ite State.crane]
  · simp [settleMerge, apply_ite State.est]
  · simp [settleMerge, apply_ite State.lanes, apply_ite Lanes.outStand]
  · simp [settleMerge, apply_ite State.lanes, apply_ite Lanes.inStand]
  · simp [settleMerge, apply_ite State.port]
  · simp [settleMerge, apply_ite State.auctions]
  · simp [settleMerge, apply_ite State.fire]

/-- `raiseMerge` changes nothing outside `lanes`. -/
@[simp] theorem raiseMerge_keeps (l : Lane) (s : State) :
    (raiseMerge l s).pending = s.pending ∧ (raiseMerge l s).pins = s.pins ∧ (raiseMerge l s).bus = s.bus ∧
    (raiseMerge l s).ctl = s.ctl ∧ (raiseMerge l s).bins = s.bins ∧ (raiseMerge l s).crane = s.crane ∧
    (raiseMerge l s).est = s.est ∧ (raiseMerge l s).lanes.outStand = s.lanes.outStand ∧
    (raiseMerge l s).lanes.inStand = s.lanes.inStand ∧ (raiseMerge l s).port = s.port ∧
    (raiseMerge l s).auctions = s.auctions ∧ (raiseMerge l s).fire = s.fire := by
  refine ⟨?_, ?_, ?_, ?_, ?_, ?_, ?_, ?_, ?_, ?_, ?_, ?_⟩
  · simp [raiseMerge, apply_ite State.pending]
  · simp [raiseMerge, apply_ite State.pins]
  · simp [raiseMerge, apply_ite State.bus]
  · simp [raiseMerge, apply_ite State.ctl]
  · simp [raiseMerge, apply_ite State.bins]
  · simp [raiseMerge, apply_ite State.crane]
  · simp [raiseMerge, apply_ite State.est]
  · simp [raiseMerge, apply_ite State.lanes, apply_ite Lanes.outStand]
  · simp [raiseMerge, apply_ite State.lanes, apply_ite Lanes.inStand]
  · simp [raiseMerge, apply_ite State.port]
  · simp [raiseMerge, apply_ite State.auctions]
  · simp [raiseMerge, apply_ite State.fire]

/-- `grantLocal` changes nothing outside `lanes`, `port`. -/
@[simp] theorem grantLocal_keeps (l : Lane) (src : EntryFrom) (s : State) :
    (grantLocal l src s).pending = s.pending ∧ (grantLocal l src s).pins = s.pins ∧
    (grantLocal l src s).bus = s.bus ∧ (grantLocal l src s).ctl = s.ctl ∧ (grantLocal l src s).bins = s.bins ∧
    (grantLocal l src s).crane = s.crane ∧ (grantLocal l src s).est = s.est ∧
    (grantLocal l src s).lanes.inStand = s.lanes.inStand ∧
    (grantLocal l src s).port.approach = s.port.approach ∧
    (grantLocal l src s).port.advanceLimit = s.port.advanceLimit ∧
    (grantLocal l src s).auctions = s.auctions ∧ (grantLocal l src s).fire = s.fire := by
  refine ⟨?_, ?_, ?_, ?_, ?_, ?_, ?_, ?_, ?_, ?_, ?_, ?_⟩
  · unfold grantLocal; dsimp only; (repeat' split) <;> first | rfl | simp [apply_ite State.pending]
  · unfold grantLocal; dsimp only; (repeat' split) <;> first | rfl | simp [apply_ite State.pins]
  · unfold grantLocal; dsimp only; (repeat' split) <;> first | rfl | simp [apply_ite State.bus]
  · unfold grantLocal; dsimp only; (repeat' split) <;> first | rfl | simp [apply_ite State.ctl]
  · unfold grantLocal; dsimp only; (repeat' split) <;> first | rfl | simp [apply_ite State.bins]
  · unfold grantLocal; dsimp only; (repeat' split) <;> first | rfl | simp [apply_ite State.crane]
  · unfold grantLocal; dsimp only; (repeat' split) <;> first | rfl | simp [apply_ite State.est]
  · unfold grantLocal; dsimp only; (repeat' split) <;> first | rfl | simp [apply_ite State.lanes,
          apply_ite Lanes.inStand]
  · unfold grantLocal; dsimp only; (repeat' split) <;> first | rfl | simp [apply_ite State.port,
          apply_ite Port.approach]
  · unfold grantLocal; dsimp only; (repeat' split) <;> first | rfl | simp [apply_ite State.port,
          apply_ite Port.advanceLimit]
  · unfold grantLocal; dsimp only; (repeat' split) <;> first | rfl | simp [apply_ite State.auctions]
  · unfold grantLocal; dsimp only; (repeat' split) <;> first | rfl | simp [apply_ite State.fire]

/-- `tryLocals` changes nothing outside `lanes`, `port`. -/
@[simp] theorem tryLocals_keeps (l : Lane) (s : State) :
    (tryLocals l s).pending = s.pending ∧ (tryLocals l s).pins = s.pins ∧ (tryLocals l s).bus = s.bus ∧
    (tryLocals l s).ctl = s.ctl ∧ (tryLocals l s).bins = s.bins ∧ (tryLocals l s).crane = s.crane ∧
    (tryLocals l s).est = s.est ∧ (tryLocals l s).lanes.inStand = s.lanes.inStand ∧
    (tryLocals l s).port.approach = s.port.approach ∧
    (tryLocals l s).port.advanceLimit = s.port.advanceLimit ∧ (tryLocals l s).auctions = s.auctions ∧
    (tryLocals l s).fire = s.fire := by
  refine ⟨?_, ?_, ?_, ?_, ?_, ?_, ?_, ?_, ?_, ?_, ?_, ?_⟩ <;>
    (unfold tryLocals; (repeat' split) <;> first | rfl | simp)

/-- `holdOutStand` changes nothing outside `lanes`, `port`. -/
@[simp] theorem holdOutStand_keeps (c : Carry) (s : State) :
    (holdOutStand c s).pending = s.pending ∧ (holdOutStand c s).pins = s.pins ∧
    (holdOutStand c s).bus = s.bus ∧ (holdOutStand c s).ctl = s.ctl ∧ (holdOutStand c s).bins = s.bins ∧
    (holdOutStand c s).crane = s.crane ∧ (holdOutStand c s).est = s.est ∧
    (holdOutStand c s).lanes.inStand = s.lanes.inStand ∧ (holdOutStand c s).port.approach = s.port.approach ∧
    (holdOutStand c s).port.advanceLimit = s.port.advanceLimit ∧ (holdOutStand c s).auctions = s.auctions ∧
    (holdOutStand c s).fire = s.fire := by
  refine ⟨?_, ?_, ?_, ?_, ?_, ?_, ?_, ?_, ?_, ?_, ?_, ?_⟩
  · simp [holdOutStand, apply_ite State.pending]
  · simp [holdOutStand, apply_ite State.pins]
  · simp [holdOutStand, apply_ite State.bus]
  · simp [holdOutStand, apply_ite State.ctl]
  · simp [holdOutStand, apply_ite State.bins]
  · simp [holdOutStand, apply_ite State.crane]
  · simp [holdOutStand, apply_ite State.est]
  · simp [holdOutStand, apply_ite State.lanes, apply_ite Lanes.inStand]
  · simp [holdOutStand, apply_ite State.port, apply_ite Port.approach]
  · simp [holdOutStand, apply_ite State.port, apply_ite Port.advanceLimit]
  · simp [holdOutStand, apply_ite State.auctions]
  · simp [holdOutStand, apply_ite State.fire]

/-- `releaseService` changes nothing outside `lanes`, `port`. -/
@[simp] theorem releaseService_keeps (c : Carry) (s : State) :
    (releaseService c s).pending = s.pending ∧ (releaseService c s).pins = s.pins ∧
    (releaseService c s).bus = s.bus ∧ (releaseService c s).ctl = s.ctl ∧ (releaseService c s).bins = s.bins ∧
    (releaseService c s).crane = s.crane ∧ (releaseService c s).est = s.est ∧
    (releaseService c s).lanes.inStand = s.lanes.inStand ∧
    (releaseService c s).port.approach = s.port.approach ∧
    (releaseService c s).port.advanceLimit = s.port.advanceLimit ∧
    (releaseService c s).auctions = s.auctions ∧ (releaseService c s).fire = s.fire := by
  refine ⟨?_, ?_, ?_, ?_, ?_, ?_, ?_, ?_, ?_, ?_, ?_, ?_⟩
  · simp [releaseService, apply_ite State.pending]
  · simp [releaseService, apply_ite State.pins]
  · simp [releaseService, apply_ite State.bus]
  · simp [releaseService, apply_ite State.ctl]
  · simp [releaseService, apply_ite State.bins]
  · simp [releaseService, apply_ite State.crane]
  · simp [releaseService, apply_ite State.est]
  · simp [releaseService, apply_ite State.lanes, apply_ite Lanes.inStand]
  · simp [releaseService, apply_ite State.port, apply_ite Port.approach]
  · simp [releaseService, apply_ite State.port, apply_ite Port.advanceLimit]
  · simp [releaseService, apply_ite State.auctions]
  · simp [releaseService, apply_ite State.fire]

/-- `tryAdvance` changes nothing outside `port`. -/
@[simp] theorem tryAdvance_keeps (s : State) :
    (tryAdvance s).pending = s.pending ∧ (tryAdvance s).pins = s.pins ∧ (tryAdvance s).bus = s.bus ∧
    (tryAdvance s).ctl = s.ctl ∧ (tryAdvance s).bins = s.bins ∧ (tryAdvance s).crane = s.crane ∧
    (tryAdvance s).est = s.est ∧ (tryAdvance s).lanes = s.lanes ∧
    (tryAdvance s).port.approach = s.port.approach ∧ (tryAdvance s).auctions = s.auctions ∧
    (tryAdvance s).fire = s.fire := by
  refine ⟨?_, ?_, ?_, ?_, ?_, ?_, ?_, ?_, ?_, ?_, ?_⟩ <;>
    (unfold tryAdvance; (repeat' split) <;> first | rfl | simp)

/-- `acceptedHead` changes nothing outside `bus`, `ctl`, `lanes`. -/
@[simp] theorem acceptedHead_keeps (l : Lane) (offered : Carry) (s : State) :
    (acceptedHead l offered s).pending = s.pending ∧ (acceptedHead l offered s).pins = s.pins ∧
    (acceptedHead l offered s).bus.rx = s.bus.rx ∧ (acceptedHead l offered s).bus.offBus = s.bus.offBus ∧
    (acceptedHead l offered s).bus.failures = s.bus.failures ∧ (acceptedHead l offered s).bus.tx = s.bus.tx ∧
    (acceptedHead l offered s).bus.answer = s.bus.answer ∧
    (acceptedHead l offered s).ctl.straps = s.ctl.straps ∧
    (acceptedHead l offered s).ctl.station = s.ctl.station ∧
    (acceptedHead l offered s).ctl.setup = s.ctl.setup ∧
    (acceptedHead l offered s).ctl.roster = s.ctl.roster ∧
    (acceptedHead l offered s).ctl.warmStart = s.ctl.warmStart ∧
    (acceptedHead l offered s).ctl.joinWait = s.ctl.joinWait ∧ (acceptedHead l offered s).bins = s.bins ∧
    (acceptedHead l offered s).crane = s.crane ∧ (acceptedHead l offered s).est = s.est ∧
    (acceptedHead l offered s).lanes.outStand = s.lanes.outStand ∧
    (acceptedHead l offered s).lanes.inStand = s.lanes.inStand ∧ (acceptedHead l offered s).port = s.port ∧
    (acceptedHead l offered s).auctions = s.auctions ∧ (acceptedHead l offered s).fire = s.fire := by
  refine ⟨?_, ?_, ?_, ?_, ?_, ?_, ?_, ?_, ?_, ?_, ?_, ?_, ?_, ?_, ?_, ?_, ?_, ?_, ?_, ?_, ?_⟩
  · unfold acceptedHead; dsimp only; (repeat' split) <;> first
          | rfl | simp [apply_ite State.pending]
  · unfold acceptedHead; dsimp only; (repeat' split) <;> first | rfl | simp [apply_ite State.pins]
  · unfold acceptedHead; dsimp only; (repeat' split) <;> first | rfl | simp [apply_ite State.bus,
          apply_ite Bus.rx]
  · unfold acceptedHead; dsimp only; (repeat' split) <;> first | rfl | simp [apply_ite State.bus,
          apply_ite Bus.offBus]
  · unfold acceptedHead; dsimp only; (repeat' split) <;> first | rfl | simp [apply_ite State.bus,
          apply_ite Bus.failures]
  · unfold acceptedHead; dsimp only; (repeat' split) <;> first | rfl | simp [apply_ite State.bus,
          apply_ite Bus.tx]
  · unfold acceptedHead; dsimp only; (repeat' split) <;> first | rfl | simp [apply_ite State.bus,
          apply_ite Bus.answer]
  · unfold acceptedHead; dsimp only; (repeat' split) <;> first | rfl | simp [apply_ite State.ctl,
          apply_ite Control.straps]
  · unfold acceptedHead; dsimp only; (repeat' split) <;> first | rfl | simp [apply_ite State.ctl,
          apply_ite Control.station]
  · unfold acceptedHead; dsimp only; (repeat' split) <;> first | rfl | simp [apply_ite State.ctl,
          apply_ite Control.setup]
  · unfold acceptedHead; dsimp only; (repeat' split) <;> first | rfl | simp [apply_ite State.ctl,
          apply_ite Control.roster]
  · unfold acceptedHead; dsimp only; (repeat' split) <;> first | rfl | simp [apply_ite State.ctl,
          apply_ite Control.warmStart]
  · unfold acceptedHead; dsimp only; (repeat' split) <;> first | rfl | simp [apply_ite State.ctl,
          apply_ite Control.joinWait]
  · unfold acceptedHead; dsimp only; (repeat' split) <;> first | rfl | simp [apply_ite State.bins]
  · unfold acceptedHead; dsimp only; (repeat' split) <;> first | rfl | simp [apply_ite State.crane]
  · unfold acceptedHead; dsimp only; (repeat' split) <;> first | rfl | simp [apply_ite State.est]
  · unfold acceptedHead; dsimp only; (repeat' split) <;> first
          | rfl | simp [apply_ite State.lanes, apply_ite Lanes.outStand]
  · unfold acceptedHead; dsimp only; (repeat' split) <;> first
          | rfl | simp [apply_ite State.lanes, apply_ite Lanes.inStand]
  · unfold acceptedHead; dsimp only; (repeat' split) <;> first | rfl | simp [apply_ite State.port]
  · unfold acceptedHead; dsimp only; (repeat' split) <;> first
          | rfl | simp [apply_ite State.auctions]
  · unfold acceptedHead; dsimp only; (repeat' split) <;> first | rfl | simp [apply_ite State.fire]

/-- `claimTurn` changes nothing outside `bus`, `ctl`, `lanes`. -/
@[simp] theorem claimTurn_keeps (l : Lane) (c : Carry) (s : State) :
    (claimTurn l c s).pending = s.pending ∧ (claimTurn l c s).pins = s.pins ∧
    (claimTurn l c s).bus.rx = s.bus.rx ∧ (claimTurn l c s).bus.offBus = s.bus.offBus ∧
    (claimTurn l c s).bus.failures = s.bus.failures ∧ (claimTurn l c s).bus.tx = s.bus.tx ∧
    (claimTurn l c s).bus.answer = s.bus.answer ∧ (claimTurn l c s).ctl.straps = s.ctl.straps ∧
    (claimTurn l c s).ctl.station = s.ctl.station ∧ (claimTurn l c s).ctl.setup = s.ctl.setup ∧
    (claimTurn l c s).ctl.roster = s.ctl.roster ∧ (claimTurn l c s).ctl.warmStart = s.ctl.warmStart ∧
    (claimTurn l c s).ctl.joinWait = s.ctl.joinWait ∧ (claimTurn l c s).bins = s.bins ∧
    (claimTurn l c s).crane = s.crane ∧ (claimTurn l c s).est = s.est ∧
    (claimTurn l c s).lanes.outStand = s.lanes.outStand ∧ (claimTurn l c s).lanes.inStand = s.lanes.inStand ∧
    (claimTurn l c s).port = s.port ∧ (claimTurn l c s).auctions = s.auctions ∧
    (claimTurn l c s).fire = s.fire := by
  refine ⟨?_, ?_, ?_, ?_, ?_, ?_, ?_, ?_, ?_, ?_, ?_, ?_, ?_, ?_, ?_, ?_, ?_, ?_, ?_, ?_, ?_⟩
  · simp [claimTurn, apply_ite State.pending]
  · simp [claimTurn, apply_ite State.pins]
  · simp [claimTurn, apply_ite State.bus, apply_ite Bus.rx]
  · simp [claimTurn, apply_ite State.bus, apply_ite Bus.offBus]
  · simp [claimTurn, apply_ite State.bus, apply_ite Bus.failures]
  · simp [claimTurn, apply_ite State.bus, apply_ite Bus.tx]
  · simp [claimTurn, apply_ite State.bus, apply_ite Bus.answer]
  · simp [claimTurn, apply_ite State.ctl, apply_ite Control.straps]
  · simp [claimTurn, apply_ite State.ctl, apply_ite Control.station]
  · simp [claimTurn, apply_ite State.ctl, apply_ite Control.setup]
  · simp [claimTurn, apply_ite State.ctl, apply_ite Control.roster]
  · simp [claimTurn, apply_ite State.ctl, apply_ite Control.warmStart]
  · simp [claimTurn, apply_ite State.ctl, apply_ite Control.joinWait]
  · simp [claimTurn, apply_ite State.bins]
  · simp [claimTurn, apply_ite State.crane]
  · simp [claimTurn, apply_ite State.est]
  · simp [claimTurn, apply_ite State.lanes, apply_ite Lanes.outStand]
  · simp [claimTurn, apply_ite State.lanes, apply_ite Lanes.inStand]
  · simp [claimTurn, apply_ite State.port]
  · simp [claimTurn, apply_ite State.auctions]
  · simp [claimTurn, apply_ite State.fire]

/-- `passOn` changes nothing outside `bus`, `ctl`, `lanes`. -/
@[simp] theorem passOn_keeps (l : Lane) (c : Carry) (s : State) :
    (passOn l c s).pending = s.pending ∧ (passOn l c s).pins = s.pins ∧ (passOn l c s).bus.rx = s.bus.rx ∧
    (passOn l c s).bus.offBus = s.bus.offBus ∧ (passOn l c s).bus.failures = s.bus.failures ∧
    (passOn l c s).bus.tx = s.bus.tx ∧ (passOn l c s).bus.answer = s.bus.answer ∧
    (passOn l c s).ctl.straps = s.ctl.straps ∧ (passOn l c s).ctl.station = s.ctl.station ∧
    (passOn l c s).ctl.setup = s.ctl.setup ∧ (passOn l c s).ctl.roster = s.ctl.roster ∧
    (passOn l c s).ctl.warmStart = s.ctl.warmStart ∧ (passOn l c s).ctl.joinWait = s.ctl.joinWait ∧
    (passOn l c s).bins = s.bins ∧ (passOn l c s).crane = s.crane ∧ (passOn l c s).est = s.est ∧
    (passOn l c s).lanes.outStand = s.lanes.outStand ∧ (passOn l c s).lanes.inStand = s.lanes.inStand ∧
    (passOn l c s).port = s.port ∧ (passOn l c s).auctions = s.auctions ∧ (passOn l c s).fire = s.fire := by
  refine ⟨?_, ?_, ?_, ?_, ?_, ?_, ?_, ?_, ?_, ?_, ?_, ?_, ?_, ?_, ?_, ?_, ?_, ?_, ?_, ?_, ?_⟩ <;>
    (unfold passOn; (repeat' split) <;> first | rfl | simp)

/-- `beginDivert` changes nothing outside `lanes`, `port`. -/
@[simp] theorem beginDivert_keeps (l : Lane) (t : DivertTarget) (s : State) :
    (beginDivert l t s).pending = s.pending ∧ (beginDivert l t s).pins = s.pins ∧
    (beginDivert l t s).bus = s.bus ∧ (beginDivert l t s).ctl = s.ctl ∧ (beginDivert l t s).bins = s.bins ∧
    (beginDivert l t s).crane = s.crane ∧ (beginDivert l t s).est = s.est ∧
    (beginDivert l t s).lanes.outStand = s.lanes.outStand ∧
    (beginDivert l t s).port.service = s.port.service ∧
    (beginDivert l t s).port.advanceLimit = s.port.advanceLimit ∧ (beginDivert l t s).auctions = s.auctions ∧
    (beginDivert l t s).fire = s.fire := by
  refine ⟨?_, ?_, ?_, ?_, ?_, ?_, ?_, ?_, ?_, ?_, ?_, ?_⟩ <;>
    (unfold beginDivert; (repeat' split) <;> first | rfl | simp)

/-- `decideHead` changes nothing outside `bus`, `ctl`, `lanes`, `port`. -/
@[simp] theorem decideHead_keeps (l : Lane) (s : State) :
    (decideHead l s).pending = s.pending ∧ (decideHead l s).pins = s.pins ∧
    (decideHead l s).bus.rx = s.bus.rx ∧ (decideHead l s).bus.offBus = s.bus.offBus ∧
    (decideHead l s).bus.failures = s.bus.failures ∧ (decideHead l s).bus.tx = s.bus.tx ∧
    (decideHead l s).bus.answer = s.bus.answer ∧ (decideHead l s).ctl.straps = s.ctl.straps ∧
    (decideHead l s).ctl.station = s.ctl.station ∧ (decideHead l s).ctl.setup = s.ctl.setup ∧
    (decideHead l s).ctl.roster = s.ctl.roster ∧ (decideHead l s).ctl.warmStart = s.ctl.warmStart ∧
    (decideHead l s).ctl.joinWait = s.ctl.joinWait ∧ (decideHead l s).bins = s.bins ∧
    (decideHead l s).crane = s.crane ∧ (decideHead l s).est = s.est ∧
    (decideHead l s).lanes.outStand = s.lanes.outStand ∧ (decideHead l s).port.service = s.port.service ∧
    (decideHead l s).port.advanceLimit = s.port.advanceLimit ∧ (decideHead l s).auctions = s.auctions ∧
    (decideHead l s).fire = s.fire := by
  refine ⟨?_, ?_, ?_, ?_, ?_, ?_, ?_, ?_, ?_, ?_, ?_, ?_, ?_, ?_, ?_, ?_, ?_, ?_, ?_, ?_, ?_⟩ <;>
    (unfold decideHead; (repeat' split) <;> first | rfl | simp)

/-- `actHead` changes nothing outside `bus`, `ctl`, `lanes`, `port`. -/
@[simp] theorem actHead_keeps (l : Lane) (s : State) :
    (actHead l s).pending = s.pending ∧ (actHead l s).pins = s.pins ∧ (actHead l s).bus.rx = s.bus.rx ∧
    (actHead l s).bus.offBus = s.bus.offBus ∧ (actHead l s).bus.failures = s.bus.failures ∧
    (actHead l s).bus.tx = s.bus.tx ∧ (actHead l s).bus.answer = s.bus.answer ∧
    (actHead l s).ctl.straps = s.ctl.straps ∧ (actHead l s).ctl.station = s.ctl.station ∧
    (actHead l s).ctl.setup = s.ctl.setup ∧ (actHead l s).ctl.roster = s.ctl.roster ∧
    (actHead l s).ctl.warmStart = s.ctl.warmStart ∧ (actHead l s).ctl.joinWait = s.ctl.joinWait ∧
    (actHead l s).bins = s.bins ∧ (actHead l s).crane = s.crane ∧ (actHead l s).est = s.est ∧
    (actHead l s).lanes.outStand = s.lanes.outStand ∧ (actHead l s).port.service = s.port.service ∧
    (actHead l s).port.advanceLimit = s.port.advanceLimit ∧ (actHead l s).auctions = s.auctions ∧
    (actHead l s).fire = s.fire := by
  refine ⟨?_, ?_, ?_, ?_, ?_, ?_, ?_, ?_, ?_, ?_, ?_, ?_, ?_, ?_, ?_, ?_, ?_, ?_, ?_, ?_, ?_⟩
  · simp [actHead, apply_ite State.pending]
  · simp [actHead, apply_ite State.pins]
  · simp [actHead, apply_ite State.bus, apply_ite Bus.rx]
  · simp [actHead, apply_ite State.bus, apply_ite Bus.offBus]
  · simp [actHead, apply_ite State.bus, apply_ite Bus.failures]
  · simp [actHead, apply_ite State.bus, apply_ite Bus.tx]
  · simp [actHead, apply_ite State.bus, apply_ite Bus.answer]
  · simp [actHead, apply_ite State.ctl, apply_ite Control.straps]
  · simp [actHead, apply_ite State.ctl, apply_ite Control.station]
  · simp [actHead, apply_ite State.ctl, apply_ite Control.setup]
  · simp [actHead, apply_ite State.ctl, apply_ite Control.roster]
  · simp [actHead, apply_ite State.ctl, apply_ite Control.warmStart]
  · simp [actHead, apply_ite State.ctl, apply_ite Control.joinWait]
  · simp [actHead, apply_ite State.bins]
  · simp [actHead, apply_ite State.crane]
  · simp [actHead, apply_ite State.est]
  · simp [actHead, apply_ite State.lanes, apply_ite Lanes.outStand]
  · simp [actHead, apply_ite State.port, apply_ite Port.service]
  · simp [actHead, apply_ite State.port, apply_ite Port.advanceLimit]
  · simp [actHead, apply_ite State.auctions]
  · simp [actHead, apply_ite State.fire]

/-- `actIdleHead` changes nothing outside `bus`, `ctl`, `lanes`, `port`. -/
@[simp] theorem actIdleHead_keeps (l : Lane) (s : State) :
    (actIdleHead l s).pending = s.pending ∧ (actIdleHead l s).pins = s.pins ∧
    (actIdleHead l s).bus.rx = s.bus.rx ∧ (actIdleHead l s).bus.offBus = s.bus.offBus ∧
    (actIdleHead l s).bus.failures = s.bus.failures ∧ (actIdleHead l s).bus.tx = s.bus.tx ∧
    (actIdleHead l s).bus.answer = s.bus.answer ∧ (actIdleHead l s).ctl.straps = s.ctl.straps ∧
    (actIdleHead l s).ctl.station = s.ctl.station ∧ (actIdleHead l s).ctl.setup = s.ctl.setup ∧
    (actIdleHead l s).ctl.roster = s.ctl.roster ∧ (actIdleHead l s).ctl.warmStart = s.ctl.warmStart ∧
    (actIdleHead l s).ctl.joinWait = s.ctl.joinWait ∧ (actIdleHead l s).bins = s.bins ∧
    (actIdleHead l s).crane = s.crane ∧ (actIdleHead l s).est = s.est ∧
    (actIdleHead l s).lanes.outStand = s.lanes.outStand ∧ (actIdleHead l s).port.service = s.port.service ∧
    (actIdleHead l s).port.advanceLimit = s.port.advanceLimit ∧ (actIdleHead l s).auctions = s.auctions ∧
    (actIdleHead l s).fire = s.fire := by
  refine ⟨?_, ?_, ?_, ?_, ?_, ?_, ?_, ?_, ?_, ?_, ?_, ?_, ?_, ?_, ?_, ?_, ?_, ?_, ?_, ?_, ?_⟩
  · simp [actIdleHead, apply_ite State.pending]
  · simp [actIdleHead, apply_ite State.pins]
  · simp [actIdleHead, apply_ite State.bus, apply_ite Bus.rx]
  · simp [actIdleHead, apply_ite State.bus, apply_ite Bus.offBus]
  · simp [actIdleHead, apply_ite State.bus, apply_ite Bus.failures]
  · simp [actIdleHead, apply_ite State.bus, apply_ite Bus.tx]
  · simp [actIdleHead, apply_ite State.bus, apply_ite Bus.answer]
  · simp [actIdleHead, apply_ite State.ctl, apply_ite Control.straps]
  · simp [actIdleHead, apply_ite State.ctl, apply_ite Control.station]
  · simp [actIdleHead, apply_ite State.ctl, apply_ite Control.setup]
  · simp [actIdleHead, apply_ite State.ctl, apply_ite Control.roster]
  · simp [actIdleHead, apply_ite State.ctl, apply_ite Control.warmStart]
  · simp [actIdleHead, apply_ite State.ctl, apply_ite Control.joinWait]
  · simp [actIdleHead, apply_ite State.bins]
  · simp [actIdleHead, apply_ite State.crane]
  · simp [actIdleHead, apply_ite State.est]
  · simp [actIdleHead, apply_ite State.lanes, apply_ite Lanes.outStand]
  · simp [actIdleHead, apply_ite State.port, apply_ite Port.service]
  · simp [actIdleHead, apply_ite State.port, apply_ite Port.advanceLimit]
  · simp [actIdleHead, apply_ite State.auctions]
  · simp [actIdleHead, apply_ite State.fire]

/-- `retryTurn` changes nothing outside `bus`, `ctl`, `lanes`, `port`. -/
@[simp] theorem retryTurn_keeps (l : Lane) (s : State) :
    (retryTurn l s).pending = s.pending ∧ (retryTurn l s).pins = s.pins ∧ (retryTurn l s).bus.rx = s.bus.rx ∧
    (retryTurn l s).bus.offBus = s.bus.offBus ∧ (retryTurn l s).bus.failures = s.bus.failures ∧
    (retryTurn l s).bus.tx = s.bus.tx ∧ (retryTurn l s).bus.answer = s.bus.answer ∧
    (retryTurn l s).ctl.straps = s.ctl.straps ∧ (retryTurn l s).ctl.station = s.ctl.station ∧
    (retryTurn l s).ctl.setup = s.ctl.setup ∧ (retryTurn l s).ctl.roster = s.ctl.roster ∧
    (retryTurn l s).ctl.warmStart = s.ctl.warmStart ∧ (retryTurn l s).ctl.joinWait = s.ctl.joinWait ∧
    (retryTurn l s).bins = s.bins ∧ (retryTurn l s).crane = s.crane ∧ (retryTurn l s).est = s.est ∧
    (retryTurn l s).lanes.outStand = s.lanes.outStand ∧ (retryTurn l s).port.service = s.port.service ∧
    (retryTurn l s).port.advanceLimit = s.port.advanceLimit ∧ (retryTurn l s).auctions = s.auctions ∧
    (retryTurn l s).fire = s.fire := by
  refine ⟨?_, ?_, ?_, ?_, ?_, ?_, ?_, ?_, ?_, ?_, ?_, ?_, ?_, ?_, ?_, ?_, ?_, ?_, ?_, ?_, ?_⟩
  · simp [retryTurn, apply_ite State.pending]
  · simp [retryTurn, apply_ite State.pins]
  · simp [retryTurn, apply_ite State.bus, apply_ite Bus.rx]
  · simp [retryTurn, apply_ite State.bus, apply_ite Bus.offBus]
  · simp [retryTurn, apply_ite State.bus, apply_ite Bus.failures]
  · simp [retryTurn, apply_ite State.bus, apply_ite Bus.tx]
  · simp [retryTurn, apply_ite State.bus, apply_ite Bus.answer]
  · simp [retryTurn, apply_ite State.ctl, apply_ite Control.straps]
  · simp [retryTurn, apply_ite State.ctl, apply_ite Control.station]
  · simp [retryTurn, apply_ite State.ctl, apply_ite Control.setup]
  · simp [retryTurn, apply_ite State.ctl, apply_ite Control.roster]
  · simp [retryTurn, apply_ite State.ctl, apply_ite Control.warmStart]
  · simp [retryTurn, apply_ite State.ctl, apply_ite Control.joinWait]
  · simp [retryTurn, apply_ite State.bins]
  · simp [retryTurn, apply_ite State.crane]
  · simp [retryTurn, apply_ite State.est]
  · simp [retryTurn, apply_ite State.lanes, apply_ite Lanes.outStand]
  · simp [retryTurn, apply_ite State.port, apply_ite Port.service]
  · simp [retryTurn, apply_ite State.port, apply_ite Port.advanceLimit]
  · simp [retryTurn, apply_ite State.auctions]
  · simp [retryTurn, apply_ite State.fire]

/-- `sendSpace` changes nothing outside `bus`, `lanes`. -/
@[simp] theorem sendSpace_keeps (l : Lane) (s : State) :
    (sendSpace l s).pending = s.pending ∧ (sendSpace l s).pins = s.pins ∧ (sendSpace l s).bus.rx = s.bus.rx ∧
    (sendSpace l s).bus.offBus = s.bus.offBus ∧ (sendSpace l s).bus.failures = s.bus.failures ∧
    (sendSpace l s).bus.tx = s.bus.tx ∧ (sendSpace l s).bus.answer = s.bus.answer ∧
    (sendSpace l s).ctl = s.ctl ∧ (sendSpace l s).bins = s.bins ∧ (sendSpace l s).crane = s.crane ∧
    (sendSpace l s).est = s.est ∧ (sendSpace l s).lanes.outStand = s.lanes.outStand ∧
    (sendSpace l s).lanes.inStand = s.lanes.inStand ∧ (sendSpace l s).port = s.port ∧
    (sendSpace l s).auctions = s.auctions ∧ (sendSpace l s).fire = s.fire := by
  refine ⟨?_, ?_, ?_, ?_, ?_, ?_, ?_, ?_, ?_, ?_, ?_, ?_, ?_, ?_, ?_, ?_⟩
  · unfold sendSpace; dsimp only; (repeat' split) <;> first | rfl | simp [apply_ite State.pending]
  · unfold sendSpace; dsimp only; (repeat' split) <;> first | rfl | simp [apply_ite State.pins]
  · unfold sendSpace; dsimp only; (repeat' split) <;> first | rfl | simp [apply_ite State.bus,
          apply_ite Bus.rx]
  · unfold sendSpace; dsimp only; (repeat' split) <;> first | rfl | simp [apply_ite State.bus,
          apply_ite Bus.offBus]
  · unfold sendSpace; dsimp only; (repeat' split) <;> first | rfl | simp [apply_ite State.bus,
          apply_ite Bus.failures]
  · unfold sendSpace; dsimp only; (repeat' split) <;> first | rfl | simp [apply_ite State.bus,
          apply_ite Bus.tx]
  · unfold sendSpace; dsimp only; (repeat' split) <;> first | rfl | simp [apply_ite State.bus,
          apply_ite Bus.answer]
  · unfold sendSpace; dsimp only; (repeat' split) <;> first | rfl | simp [apply_ite State.ctl]
  · unfold sendSpace; dsimp only; (repeat' split) <;> first | rfl | simp [apply_ite State.bins]
  · unfold sendSpace; dsimp only; (repeat' split) <;> first | rfl | simp [apply_ite State.crane]
  · unfold sendSpace; dsimp only; (repeat' split) <;> first | rfl | simp [apply_ite State.est]
  · unfold sendSpace; dsimp only; (repeat' split) <;> first | rfl | simp [apply_ite State.lanes,
          apply_ite Lanes.outStand]
  · unfold sendSpace; dsimp only; (repeat' split) <;> first | rfl | simp [apply_ite State.lanes,
          apply_ite Lanes.inStand]
  · unfold sendSpace; dsimp only; (repeat' split) <;> first | rfl | simp [apply_ite State.port]
  · unfold sendSpace; dsimp only; (repeat' split) <;> first | rfl | simp [apply_ite State.auctions]
  · unfold sendSpace; dsimp only; (repeat' split) <;> first | rfl | simp [apply_ite State.fire]

/-- `openTail` changes nothing outside `bus`, `ctl`, `lanes`, `port`. -/
@[simp] theorem openTail_keeps (l : Lane) (s : State) :
    (openTail l s).pending = s.pending ∧ (openTail l s).pins = s.pins ∧ (openTail l s).bus.rx = s.bus.rx ∧
    (openTail l s).bus.offBus = s.bus.offBus ∧ (openTail l s).bus.failures = s.bus.failures ∧
    (openTail l s).bus.tx = s.bus.tx ∧ (openTail l s).bus.answer = s.bus.answer ∧
    (openTail l s).ctl.straps = s.ctl.straps ∧ (openTail l s).ctl.station = s.ctl.station ∧
    (openTail l s).ctl.setup = s.ctl.setup ∧ (openTail l s).ctl.roster = s.ctl.roster ∧
    (openTail l s).ctl.warmStart = s.ctl.warmStart ∧ (openTail l s).ctl.joinWait = s.ctl.joinWait ∧
    (openTail l s).bins = s.bins ∧ (openTail l s).crane = s.crane ∧ (openTail l s).est = s.est ∧
    (openTail l s).port.advanceLimit = s.port.advanceLimit ∧ (openTail l s).auctions = s.auctions ∧
    (openTail l s).fire = s.fire := by
  refine ⟨?_, ?_, ?_, ?_, ?_, ?_, ?_, ?_, ?_, ?_, ?_, ?_, ?_, ?_, ?_, ?_, ?_, ?_, ?_⟩
  · simp [openTail, apply_ite State.pending]
  · simp [openTail, apply_ite State.pins]
  · simp [openTail, apply_ite State.bus, apply_ite Bus.rx]
  · simp [openTail, apply_ite State.bus, apply_ite Bus.offBus]
  · simp [openTail, apply_ite State.bus, apply_ite Bus.failures]
  · simp [openTail, apply_ite State.bus, apply_ite Bus.tx]
  · simp [openTail, apply_ite State.bus, apply_ite Bus.answer]
  · simp [openTail, apply_ite State.ctl, apply_ite Control.straps]
  · simp [openTail, apply_ite State.ctl, apply_ite Control.station]
  · simp [openTail, apply_ite State.ctl, apply_ite Control.setup]
  · simp [openTail, apply_ite State.ctl, apply_ite Control.roster]
  · simp [openTail, apply_ite State.ctl, apply_ite Control.warmStart]
  · simp [openTail, apply_ite State.ctl, apply_ite Control.joinWait]
  · simp [openTail, apply_ite State.bins]
  · simp [openTail, apply_ite State.crane]
  · simp [openTail, apply_ite State.est]
  · simp [openTail, apply_ite State.port, apply_ite Port.advanceLimit]
  · simp [openTail, apply_ite State.auctions]
  · simp [openTail, apply_ite State.fire]

/-- `abortOffer` changes nothing outside `bus`, `ctl`, `lanes`. -/
@[simp] theorem abortOffer_keeps (l : Lane) (s : State) :
    (abortOffer l s).pending = s.pending ∧ (abortOffer l s).pins = s.pins ∧
    (abortOffer l s).bus.rx = s.bus.rx ∧ (abortOffer l s).bus.offBus = s.bus.offBus ∧
    (abortOffer l s).bus.failures = s.bus.failures ∧ (abortOffer l s).bus.tx = s.bus.tx ∧
    (abortOffer l s).bus.answer = s.bus.answer ∧ (abortOffer l s).ctl.straps = s.ctl.straps ∧
    (abortOffer l s).ctl.station = s.ctl.station ∧ (abortOffer l s).ctl.setup = s.ctl.setup ∧
    (abortOffer l s).ctl.roster = s.ctl.roster ∧ (abortOffer l s).ctl.record = s.ctl.record ∧
    (abortOffer l s).ctl.warmStart = s.ctl.warmStart ∧ (abortOffer l s).ctl.joinWait = s.ctl.joinWait ∧
    (abortOffer l s).bins = s.bins ∧ (abortOffer l s).crane = s.crane ∧ (abortOffer l s).est = s.est ∧
    (abortOffer l s).lanes.outStand = s.lanes.outStand ∧ (abortOffer l s).lanes.inStand = s.lanes.inStand ∧
    (abortOffer l s).port = s.port ∧ (abortOffer l s).auctions = s.auctions ∧
    (abortOffer l s).fire = s.fire := by
  refine ⟨?_, ?_, ?_, ?_, ?_, ?_, ?_, ?_, ?_, ?_, ?_, ?_, ?_, ?_, ?_, ?_, ?_, ?_, ?_, ?_, ?_, ?_⟩
  · unfold abortOffer; dsimp only; (repeat' split) <;> first | rfl | simp [apply_ite State.pending]
  · unfold abortOffer; dsimp only; (repeat' split) <;> first | rfl | simp [apply_ite State.pins]
  · unfold abortOffer; dsimp only; (repeat' split) <;> first | rfl | simp [apply_ite State.bus,
          apply_ite Bus.rx]
  · unfold abortOffer; dsimp only; (repeat' split) <;> first | rfl | simp [apply_ite State.bus,
          apply_ite Bus.offBus]
  · unfold abortOffer; dsimp only; (repeat' split) <;> first | rfl | simp [apply_ite State.bus,
          apply_ite Bus.failures]
  · unfold abortOffer; dsimp only; (repeat' split) <;> first | rfl | simp [apply_ite State.bus,
          apply_ite Bus.tx]
  · unfold abortOffer; dsimp only; (repeat' split) <;> first | rfl | simp [apply_ite State.bus,
          apply_ite Bus.answer]
  · unfold abortOffer; dsimp only; (repeat' split) <;> first | rfl | simp [apply_ite State.ctl,
          apply_ite Control.straps]
  · unfold abortOffer; dsimp only; (repeat' split) <;> first | rfl | simp [apply_ite State.ctl,
          apply_ite Control.station]
  · unfold abortOffer; dsimp only; (repeat' split) <;> first | rfl | simp [apply_ite State.ctl,
          apply_ite Control.setup]
  · unfold abortOffer; dsimp only; (repeat' split) <;> first | rfl | simp [apply_ite State.ctl,
          apply_ite Control.roster]
  · unfold abortOffer; dsimp only; (repeat' split) <;> first | rfl | simp [apply_ite State.ctl,
          apply_ite Control.record]
  · unfold abortOffer; dsimp only; (repeat' split) <;> first | rfl | simp [apply_ite State.ctl,
          apply_ite Control.warmStart]
  · unfold abortOffer; dsimp only; (repeat' split) <;> first | rfl | simp [apply_ite State.ctl,
          apply_ite Control.joinWait]
  · unfold abortOffer; dsimp only; (repeat' split) <;> first | rfl | simp [apply_ite State.bins]
  · unfold abortOffer; dsimp only; (repeat' split) <;> first | rfl | simp [apply_ite State.crane]
  · unfold abortOffer; dsimp only; (repeat' split) <;> first | rfl | simp [apply_ite State.est]
  · unfold abortOffer; dsimp only; (repeat' split) <;> first | rfl | simp [apply_ite State.lanes,
          apply_ite Lanes.outStand]
  · unfold abortOffer; dsimp only; (repeat' split) <;> first | rfl | simp [apply_ite State.lanes,
          apply_ite Lanes.inStand]
  · unfold abortOffer; dsimp only; (repeat' split) <;> first | rfl | simp [apply_ite State.port]
  · unfold abortOffer; dsimp only; (repeat' split) <;> first | rfl | simp [apply_ite State.auctions]
  · unfold abortOffer; dsimp only; (repeat' split) <;> first | rfl | simp [apply_ite State.fire]

/-- `headTakesUp` changes nothing outside `bus`, `ctl`, `lanes`, `port`. -/
@[simp] theorem headTakesUp_keeps (l : Lane) (t : DivertTarget) (s : State) :
    (headTakesUp l t s).pending = s.pending ∧ (headTakesUp l t s).pins = s.pins ∧
    (headTakesUp l t s).bus.rx = s.bus.rx ∧ (headTakesUp l t s).bus.offBus = s.bus.offBus ∧
    (headTakesUp l t s).bus.failures = s.bus.failures ∧ (headTakesUp l t s).bus.tx = s.bus.tx ∧
    (headTakesUp l t s).bus.answer = s.bus.answer ∧ (headTakesUp l t s).ctl.straps = s.ctl.straps ∧
    (headTakesUp l t s).ctl.station = s.ctl.station ∧ (headTakesUp l t s).ctl.setup = s.ctl.setup ∧
    (headTakesUp l t s).ctl.roster = s.ctl.roster ∧ (headTakesUp l t s).ctl.warmStart = s.ctl.warmStart ∧
    (headTakesUp l t s).ctl.joinWait = s.ctl.joinWait ∧ (headTakesUp l t s).bins = s.bins ∧
    (headTakesUp l t s).crane = s.crane ∧ (headTakesUp l t s).est = s.est ∧
    (headTakesUp l t s).lanes.outStand = s.lanes.outStand ∧
    (headTakesUp l t s).port.service = s.port.service ∧
    (headTakesUp l t s).port.advanceLimit = s.port.advanceLimit ∧ (headTakesUp l t s).auctions = s.auctions ∧
    (headTakesUp l t s).fire = s.fire := by
  refine ⟨?_, ?_, ?_, ?_, ?_, ?_, ?_, ?_, ?_, ?_, ?_, ?_, ?_, ?_, ?_, ?_, ?_, ?_, ?_, ?_, ?_⟩
  · simp [headTakesUp, apply_ite State.pending]
  · simp [headTakesUp, apply_ite State.pins]
  · simp [headTakesUp, apply_ite State.bus, apply_ite Bus.rx]
  · simp [headTakesUp, apply_ite State.bus, apply_ite Bus.offBus]
  · simp [headTakesUp, apply_ite State.bus, apply_ite Bus.failures]
  · simp [headTakesUp, apply_ite State.bus, apply_ite Bus.tx]
  · simp [headTakesUp, apply_ite State.bus, apply_ite Bus.answer]
  · simp [headTakesUp, apply_ite State.ctl, apply_ite Control.straps]
  · simp [headTakesUp, apply_ite State.ctl, apply_ite Control.station]
  · simp [headTakesUp, apply_ite State.ctl, apply_ite Control.setup]
  · simp [headTakesUp, apply_ite State.ctl, apply_ite Control.roster]
  · simp [headTakesUp, apply_ite State.ctl, apply_ite Control.warmStart]
  · simp [headTakesUp, apply_ite State.ctl, apply_ite Control.joinWait]
  · simp [headTakesUp, apply_ite State.bins]
  · simp [headTakesUp, apply_ite State.crane]
  · simp [headTakesUp, apply_ite State.est]
  · simp [headTakesUp, apply_ite State.lanes, apply_ite Lanes.outStand]
  · simp [headTakesUp, apply_ite State.port, apply_ite Port.service]
  · simp [headTakesUp, apply_ite State.port, apply_ite Port.advanceLimit]
  · simp [headTakesUp, apply_ite State.auctions]
  · simp [headTakesUp, apply_ite State.fire]

/-- `targetFreed` changes nothing outside `bus`, `ctl`, `lanes`, `port`. -/
@[simp] theorem targetFreed_keeps (t : DivertTarget) (s : State) :
    (targetFreed t s).pending = s.pending ∧ (targetFreed t s).pins = s.pins ∧
    (targetFreed t s).bus.rx = s.bus.rx ∧ (targetFreed t s).bus.offBus = s.bus.offBus ∧
    (targetFreed t s).bus.failures = s.bus.failures ∧ (targetFreed t s).bus.tx = s.bus.tx ∧
    (targetFreed t s).bus.answer = s.bus.answer ∧ (targetFreed t s).ctl.straps = s.ctl.straps ∧
    (targetFreed t s).ctl.station = s.ctl.station ∧ (targetFreed t s).ctl.setup = s.ctl.setup ∧
    (targetFreed t s).ctl.roster = s.ctl.roster ∧ (targetFreed t s).ctl.warmStart = s.ctl.warmStart ∧
    (targetFreed t s).ctl.joinWait = s.ctl.joinWait ∧ (targetFreed t s).bins = s.bins ∧
    (targetFreed t s).crane = s.crane ∧ (targetFreed t s).est = s.est ∧
    (targetFreed t s).lanes.outStand = s.lanes.outStand ∧ (targetFreed t s).port.service = s.port.service ∧
    (targetFreed t s).port.advanceLimit = s.port.advanceLimit ∧ (targetFreed t s).auctions = s.auctions ∧
    (targetFreed t s).fire = s.fire := by
  refine ⟨?_, ?_, ?_, ?_, ?_, ?_, ?_, ?_, ?_, ?_, ?_, ?_, ?_, ?_, ?_, ?_, ?_, ?_, ?_, ?_, ?_⟩ <;>
    simp [targetFreed]

/-- `emptyApproach` changes nothing outside `bus`, `ctl`, `lanes`, `port`. -/
@[simp] theorem emptyApproach_keeps (s : State) :
    (emptyApproach s).pending = s.pending ∧ (emptyApproach s).pins = s.pins ∧
    (emptyApproach s).bus.rx = s.bus.rx ∧ (emptyApproach s).bus.offBus = s.bus.offBus ∧
    (emptyApproach s).bus.failures = s.bus.failures ∧ (emptyApproach s).bus.tx = s.bus.tx ∧
    (emptyApproach s).bus.answer = s.bus.answer ∧ (emptyApproach s).ctl.straps = s.ctl.straps ∧
    (emptyApproach s).ctl.station = s.ctl.station ∧ (emptyApproach s).ctl.setup = s.ctl.setup ∧
    (emptyApproach s).ctl.roster = s.ctl.roster ∧ (emptyApproach s).ctl.warmStart = s.ctl.warmStart ∧
    (emptyApproach s).ctl.joinWait = s.ctl.joinWait ∧ (emptyApproach s).bins = s.bins ∧
    (emptyApproach s).crane = s.crane ∧ (emptyApproach s).est = s.est ∧
    (emptyApproach s).lanes.outStand = s.lanes.outStand ∧ (emptyApproach s).port.service = s.port.service ∧
    (emptyApproach s).port.advanceLimit = s.port.advanceLimit ∧ (emptyApproach s).auctions = s.auctions ∧
    (emptyApproach s).fire = s.fire := by
  refine ⟨?_, ?_, ?_, ?_, ?_, ?_, ?_, ?_, ?_, ?_, ?_, ?_, ?_, ?_, ?_, ?_, ?_, ?_, ?_, ?_, ?_⟩ <;>
    simp [emptyApproach]

/-- `emptyInStand` changes nothing outside `bus`, `ctl`, `crane`, `lanes`, `port`. -/
@[simp] theorem emptyInStand_keeps (s : State) :
    (emptyInStand s).pending = s.pending ∧ (emptyInStand s).pins = s.pins ∧
    (emptyInStand s).bus.rx = s.bus.rx ∧ (emptyInStand s).bus.offBus = s.bus.offBus ∧
    (emptyInStand s).bus.failures = s.bus.failures ∧ (emptyInStand s).bus.tx = s.bus.tx ∧
    (emptyInStand s).bus.answer = s.bus.answer ∧ (emptyInStand s).ctl.straps = s.ctl.straps ∧
    (emptyInStand s).ctl.station = s.ctl.station ∧ (emptyInStand s).ctl.setup = s.ctl.setup ∧
    (emptyInStand s).ctl.roster = s.ctl.roster ∧ (emptyInStand s).ctl.warmStart = s.ctl.warmStart ∧
    (emptyInStand s).ctl.joinWait = s.ctl.joinWait ∧ (emptyInStand s).bins = s.bins ∧
    (emptyInStand s).crane.state = s.crane.state ∧ (emptyInStand s).crane.pos = s.crane.pos ∧
    (emptyInStand s).crane.load = s.crane.load ∧ (emptyInStand s).crane.carriage = s.crane.carriage ∧
    (emptyInStand s).crane.inFlight = s.crane.inFlight ∧ (emptyInStand s).crane.limit = s.crane.limit ∧
    (emptyInStand s).crane.pool = s.crane.pool ∧ (emptyInStand s).crane.restartRun = s.crane.restartRun ∧
    (emptyInStand s).est = s.est ∧ (emptyInStand s).lanes.outStand = s.lanes.outStand ∧
    (emptyInStand s).port.service = s.port.service ∧
    (emptyInStand s).port.advanceLimit = s.port.advanceLimit ∧ (emptyInStand s).auctions = s.auctions ∧
    (emptyInStand s).fire = s.fire := by
  refine ⟨?_, ?_, ?_, ?_, ?_, ?_, ?_, ?_, ?_, ?_, ?_, ?_, ?_, ?_, ?_, ?_, ?_, ?_, ?_, ?_, ?_, ?_,
    ?_, ?_, ?_, ?_, ?_, ?_⟩ <;>
    simp [emptyInStand]

/-- `setCond` changes nothing outside `lanes`. -/
@[simp] theorem setCond_keeps (l : Lane) (c : Condition) (s : State) :
    (setCond l c s).pending = s.pending ∧ (setCond l c s).pins = s.pins ∧ (setCond l c s).bus = s.bus ∧
    (setCond l c s).ctl = s.ctl ∧ (setCond l c s).bins = s.bins ∧ (setCond l c s).crane = s.crane ∧
    (setCond l c s).est = s.est ∧ (setCond l c s).lanes.outStand = s.lanes.outStand ∧
    (setCond l c s).lanes.inStand = s.lanes.inStand ∧ (setCond l c s).port = s.port ∧
    (setCond l c s).auctions = s.auctions ∧ (setCond l c s).fire = s.fire := by
  refine ⟨?_, ?_, ?_, ?_, ?_, ?_, ?_, ?_, ?_, ?_, ?_, ?_⟩ <;>
    simp [setCond]

/-- `onHeld` changes nothing outside `bus`, `ctl`, `lanes`. -/
@[simp] theorem onHeld_keeps (l : Lane) (was : Condition) (s : State) :
    (onHeld l was s).pending = s.pending ∧ (onHeld l was s).pins = s.pins ∧
    (onHeld l was s).bus.rx = s.bus.rx ∧ (onHeld l was s).bus.offBus = s.bus.offBus ∧
    (onHeld l was s).bus.failures = s.bus.failures ∧ (onHeld l was s).bus.tx = s.bus.tx ∧
    (onHeld l was s).bus.answer = s.bus.answer ∧ (onHeld l was s).ctl.straps = s.ctl.straps ∧
    (onHeld l was s).ctl.station = s.ctl.station ∧ (onHeld l was s).ctl.setup = s.ctl.setup ∧
    (onHeld l was s).ctl.roster = s.ctl.roster ∧ (onHeld l was s).ctl.record = s.ctl.record ∧
    (onHeld l was s).ctl.warmStart = s.ctl.warmStart ∧ (onHeld l was s).ctl.joinWait = s.ctl.joinWait ∧
    (onHeld l was s).bins = s.bins ∧ (onHeld l was s).crane = s.crane ∧ (onHeld l was s).est = s.est ∧
    (onHeld l was s).lanes.outStand = s.lanes.outStand ∧ (onHeld l was s).lanes.inStand = s.lanes.inStand ∧
    (onHeld l was s).port = s.port ∧ (onHeld l was s).auctions = s.auctions ∧
    (onHeld l was s).fire = s.fire := by
  refine ⟨?_, ?_, ?_, ?_, ?_, ?_, ?_, ?_, ?_, ?_, ?_, ?_, ?_, ?_, ?_, ?_, ?_, ?_, ?_, ?_, ?_, ?_⟩
  · simp [onHeld, apply_ite State.pending]
  · simp [onHeld, apply_ite State.pins]
  · simp [onHeld, apply_ite State.bus, apply_ite Bus.rx]
  · simp [onHeld, apply_ite State.bus, apply_ite Bus.offBus]
  · simp [onHeld, apply_ite State.bus, apply_ite Bus.failures]
  · simp [onHeld, apply_ite State.bus, apply_ite Bus.tx]
  · simp [onHeld, apply_ite State.bus, apply_ite Bus.answer]
  · simp [onHeld, apply_ite State.ctl, apply_ite Control.straps]
  · simp [onHeld, apply_ite State.ctl, apply_ite Control.station]
  · simp [onHeld, apply_ite State.ctl, apply_ite Control.setup]
  · simp [onHeld, apply_ite State.ctl, apply_ite Control.roster]
  · simp [onHeld, apply_ite State.ctl, apply_ite Control.record]
  · simp [onHeld, apply_ite State.ctl, apply_ite Control.warmStart]
  · simp [onHeld, apply_ite State.ctl, apply_ite Control.joinWait]
  · simp [onHeld, apply_ite State.bins]
  · simp [onHeld, apply_ite State.crane]
  · simp [onHeld, apply_ite State.est]
  · simp [onHeld, apply_ite State.lanes, apply_ite Lanes.outStand]
  · simp [onHeld, apply_ite State.lanes, apply_ite Lanes.inStand]
  · simp [onHeld, apply_ite State.port]
  · simp [onHeld, apply_ite State.auctions]
  · simp [onHeld, apply_ite State.fire]

/-- `onRunning` changes nothing outside `bus`, `ctl`, `lanes`, `port`. -/
@[simp] theorem onRunning_keeps (l : Lane) (was : Condition) (s : State) :
    (onRunning l was s).pending = s.pending ∧ (onRunning l was s).pins = s.pins ∧
    (onRunning l was s).bus.rx = s.bus.rx ∧ (onRunning l was s).bus.offBus = s.bus.offBus ∧
    (onRunning l was s).bus.failures = s.bus.failures ∧ (onRunning l was s).bus.tx = s.bus.tx ∧
    (onRunning l was s).bus.answer = s.bus.answer ∧ (onRunning l was s).ctl.straps = s.ctl.straps ∧
    (onRunning l was s).ctl.station = s.ctl.station ∧ (onRunning l was s).ctl.setup = s.ctl.setup ∧
    (onRunning l was s).ctl.roster = s.ctl.roster ∧ (onRunning l was s).ctl.warmStart = s.ctl.warmStart ∧
    (onRunning l was s).ctl.joinWait = s.ctl.joinWait ∧ (onRunning l was s).bins = s.bins ∧
    (onRunning l was s).crane = s.crane ∧ (onRunning l was s).est = s.est ∧
    (onRunning l was s).port.advanceLimit = s.port.advanceLimit ∧ (onRunning l was s).auctions = s.auctions ∧
    (onRunning l was s).fire = s.fire := by
  refine ⟨?_, ?_, ?_, ?_, ?_, ?_, ?_, ?_, ?_, ?_, ?_, ?_, ?_, ?_, ?_, ?_, ?_, ?_, ?_⟩
  · simp [onRunning, apply_ite State.pending]
  · simp [onRunning, apply_ite State.pins]
  · simp [onRunning, apply_ite State.bus, apply_ite Bus.rx]
  · simp [onRunning, apply_ite State.bus, apply_ite Bus.offBus]
  · simp [onRunning, apply_ite State.bus, apply_ite Bus.failures]
  · simp [onRunning, apply_ite State.bus, apply_ite Bus.tx]
  · simp [onRunning, apply_ite State.bus, apply_ite Bus.answer]
  · simp [onRunning, apply_ite State.ctl, apply_ite Control.straps]
  · simp [onRunning, apply_ite State.ctl, apply_ite Control.station]
  · simp [onRunning, apply_ite State.ctl, apply_ite Control.setup]
  · simp [onRunning, apply_ite State.ctl, apply_ite Control.roster]
  · simp [onRunning, apply_ite State.ctl, apply_ite Control.warmStart]
  · simp [onRunning, apply_ite State.ctl, apply_ite Control.joinWait]
  · simp [onRunning, apply_ite State.bins]
  · simp [onRunning, apply_ite State.crane]
  · simp [onRunning, apply_ite State.est]
  · simp [onRunning, apply_ite State.port, apply_ite Port.advanceLimit]
  · simp [onRunning, apply_ite State.auctions]
  · simp [onRunning, apply_ite State.fire]

/-- `onRunningHead` changes nothing outside `bus`, `ctl`, `lanes`, `port`. -/
@[simp] theorem onRunningHead_keeps (l : Lane) (was : Condition) (s : State) :
    (onRunningHead l was s).pending = s.pending ∧ (onRunningHead l was s).pins = s.pins ∧
    (onRunningHead l was s).bus.rx = s.bus.rx ∧ (onRunningHead l was s).bus.offBus = s.bus.offBus ∧
    (onRunningHead l was s).bus.failures = s.bus.failures ∧ (onRunningHead l was s).bus.tx = s.bus.tx ∧
    (onRunningHead l was s).bus.answer = s.bus.answer ∧ (onRunningHead l was s).ctl.straps = s.ctl.straps ∧
    (onRunningHead l was s).ctl.station = s.ctl.station ∧ (onRunningHead l was s).ctl.setup = s.ctl.setup ∧
    (onRunningHead l was s).ctl.roster = s.ctl.roster ∧
    (onRunningHead l was s).ctl.warmStart = s.ctl.warmStart ∧
    (onRunningHead l was s).ctl.joinWait = s.ctl.joinWait ∧ (onRunningHead l was s).bins = s.bins ∧
    (onRunningHead l was s).crane = s.crane ∧ (onRunningHead l was s).est = s.est ∧
    (onRunningHead l was s).lanes.outStand = s.lanes.outStand ∧
    (onRunningHead l was s).port.service = s.port.service ∧
    (onRunningHead l was s).port.advanceLimit = s.port.advanceLimit ∧
    (onRunningHead l was s).auctions = s.auctions ∧ (onRunningHead l was s).fire = s.fire := by
  refine ⟨?_, ?_, ?_, ?_, ?_, ?_, ?_, ?_, ?_, ?_, ?_, ?_, ?_, ?_, ?_, ?_, ?_, ?_, ?_, ?_, ?_⟩
  · simp [onRunningHead, apply_ite State.pending]
  · simp [onRunningHead, apply_ite State.pins]
  · simp [onRunningHead, apply_ite State.bus, apply_ite Bus.rx]
  · simp [onRunningHead, apply_ite State.bus, apply_ite Bus.offBus]
  · simp [onRunningHead, apply_ite State.bus, apply_ite Bus.failures]
  · simp [onRunningHead, apply_ite State.bus, apply_ite Bus.tx]
  · simp [onRunningHead, apply_ite State.bus, apply_ite Bus.answer]
  · simp [onRunningHead, apply_ite State.ctl, apply_ite Control.straps]
  · simp [onRunningHead, apply_ite State.ctl, apply_ite Control.station]
  · simp [onRunningHead, apply_ite State.ctl, apply_ite Control.setup]
  · simp [onRunningHead, apply_ite State.ctl, apply_ite Control.roster]
  · simp [onRunningHead, apply_ite State.ctl, apply_ite Control.warmStart]
  · simp [onRunningHead, apply_ite State.ctl, apply_ite Control.joinWait]
  · simp [onRunningHead, apply_ite State.bins]
  · simp [onRunningHead, apply_ite State.crane]
  · simp [onRunningHead, apply_ite State.est]
  · simp [onRunningHead, apply_ite State.lanes, apply_ite Lanes.outStand]
  · simp [onRunningHead, apply_ite State.port, apply_ite Port.service]
  · simp [onRunningHead, apply_ite State.port, apply_ite Port.advanceLimit]
  · simp [onRunningHead, apply_ite State.auctions]
  · simp [onRunningHead, apply_ite State.fire]

/-- `settleConditions` changes nothing outside `bus`, `ctl`, `lanes`, `port`. -/
@[simp] theorem settleConditions_keeps (s : State) :
    (settleConditions s).pending = s.pending ∧ (settleConditions s).pins = s.pins ∧
    (settleConditions s).bus.rx = s.bus.rx ∧ (settleConditions s).bus.offBus = s.bus.offBus ∧
    (settleConditions s).bus.failures = s.bus.failures ∧ (settleConditions s).bus.tx = s.bus.tx ∧
    (settleConditions s).bus.answer = s.bus.answer ∧ (settleConditions s).ctl.straps = s.ctl.straps ∧
    (settleConditions s).ctl.station = s.ctl.station ∧ (settleConditions s).ctl.setup = s.ctl.setup ∧
    (settleConditions s).ctl.roster = s.ctl.roster ∧ (settleConditions s).ctl.warmStart = s.ctl.warmStart ∧
    (settleConditions s).ctl.joinWait = s.ctl.joinWait ∧ (settleConditions s).bins = s.bins ∧
    (settleConditions s).crane = s.crane ∧ (settleConditions s).est = s.est ∧
    (settleConditions s).port.advanceLimit = s.port.advanceLimit ∧
    (settleConditions s).auctions = s.auctions ∧ (settleConditions s).fire = s.fire := by
  refine ⟨?_, ?_, ?_, ?_, ?_, ?_, ?_, ?_, ?_, ?_, ?_, ?_, ?_, ?_, ?_, ?_, ?_, ?_, ?_⟩ <;>
    simp [settleConditions]

/-- `wakeCause` changes nothing outside `bus`, `ctl`, `crane`, `lanes`, `port`. -/
@[simp] theorem wakeCause_keeps (s : State) :
    (wakeCause s).pending = s.pending ∧ (wakeCause s).pins = s.pins ∧ (wakeCause s).bus.rx = s.bus.rx ∧
    (wakeCause s).bus.offBus = s.bus.offBus ∧ (wakeCause s).bus.failures = s.bus.failures ∧
    (wakeCause s).bus.tx = s.bus.tx ∧ (wakeCause s).bus.answer = s.bus.answer ∧
    (wakeCause s).ctl.straps = s.ctl.straps ∧ (wakeCause s).ctl.station = s.ctl.station ∧
    (wakeCause s).ctl.setup = s.ctl.setup ∧ (wakeCause s).ctl.roster = s.ctl.roster ∧
    (wakeCause s).ctl.warmStart = s.ctl.warmStart ∧ (wakeCause s).ctl.joinWait = s.ctl.joinWait ∧
    (wakeCause s).bins = s.bins ∧ (wakeCause s).crane.pos = s.crane.pos ∧
    (wakeCause s).crane.load = s.crane.load ∧ (wakeCause s).crane.carriage = s.crane.carriage ∧
    (wakeCause s).crane.pool = s.crane.pool ∧ (wakeCause s).crane.continuity = s.crane.continuity ∧
    (wakeCause s).crane.restartRun = s.crane.restartRun ∧ (wakeCause s).est = s.est ∧
    (wakeCause s).port.advanceLimit = s.port.advanceLimit ∧ (wakeCause s).auctions = s.auctions ∧
    (wakeCause s).fire = s.fire := by
  refine ⟨?_, ?_, ?_, ?_, ?_, ?_, ?_, ?_, ?_, ?_, ?_, ?_, ?_, ?_, ?_, ?_, ?_, ?_, ?_, ?_, ?_, ?_,
    ?_, ?_⟩ <;>
    (unfold wakeCause; (repeat' split) <;> first | rfl | simp)

/-- `strayAt` changes nothing outside `bus`, `ctl`, `crane`, `lanes`, `port`. -/
@[simp] theorem strayAt_keeps (l : Lane) (pos : Nat) (s : State) :
    (strayAt l pos s).pending = s.pending ∧ (strayAt l pos s).pins = s.pins ∧
    (strayAt l pos s).bus.rx = s.bus.rx ∧ (strayAt l pos s).bus.offBus = s.bus.offBus ∧
    (strayAt l pos s).bus.failures = s.bus.failures ∧ (strayAt l pos s).bus.tx = s.bus.tx ∧
    (strayAt l pos s).bus.answer = s.bus.answer ∧ (strayAt l pos s).ctl.straps = s.ctl.straps ∧
    (strayAt l pos s).ctl.station = s.ctl.station ∧ (strayAt l pos s).ctl.setup = s.ctl.setup ∧
    (strayAt l pos s).ctl.roster = s.ctl.roster ∧ (strayAt l pos s).ctl.warmStart = s.ctl.warmStart ∧
    (strayAt l pos s).ctl.joinWait = s.ctl.joinWait ∧ (strayAt l pos s).bins = s.bins ∧
    (strayAt l pos s).crane.pos = s.crane.pos ∧ (strayAt l pos s).crane.load = s.crane.load ∧
    (strayAt l pos s).crane.carriage = s.crane.carriage ∧ (strayAt l pos s).crane.pool = s.crane.pool ∧
    (strayAt l pos s).crane.continuity = s.crane.continuity ∧
    (strayAt l pos s).crane.restartRun = s.crane.restartRun ∧ (strayAt l pos s).est = s.est ∧
    (strayAt l pos s).port.advanceLimit = s.port.advanceLimit ∧ (strayAt l pos s).auctions = s.auctions ∧
    (strayAt l pos s).fire = s.fire := by
  refine ⟨?_, ?_, ?_, ?_, ?_, ?_, ?_, ?_, ?_, ?_, ?_, ?_, ?_, ?_, ?_, ?_, ?_, ?_, ?_, ?_, ?_, ?_,
    ?_, ?_⟩
  · simp [strayAt, apply_ite State.pending]
  · simp [strayAt, apply_ite State.pins]
  · simp [strayAt, apply_ite State.bus, apply_ite Bus.rx]
  · simp [strayAt, apply_ite State.bus, apply_ite Bus.offBus]
  · simp [strayAt, apply_ite State.bus, apply_ite Bus.failures]
  · simp [strayAt, apply_ite State.bus, apply_ite Bus.tx]
  · simp [strayAt, apply_ite State.bus, apply_ite Bus.answer]
  · simp [strayAt, apply_ite State.ctl, apply_ite Control.straps]
  · simp [strayAt, apply_ite State.ctl, apply_ite Control.station]
  · simp [strayAt, apply_ite State.ctl, apply_ite Control.setup]
  · simp [strayAt, apply_ite State.ctl, apply_ite Control.roster]
  · simp [strayAt, apply_ite State.ctl, apply_ite Control.warmStart]
  · simp [strayAt, apply_ite State.ctl, apply_ite Control.joinWait]
  · simp [strayAt, apply_ite State.bins]
  · simp [strayAt, apply_ite State.crane, apply_ite Crane.pos]
  · simp [strayAt, apply_ite State.crane, apply_ite Crane.load]
  · simp [strayAt, apply_ite State.crane, apply_ite Crane.carriage]
  · simp [strayAt, apply_ite State.crane, apply_ite Crane.pool]
  · simp [strayAt, apply_ite State.crane, apply_ite Crane.continuity]
  · simp [strayAt, apply_ite State.crane, apply_ite Crane.restartRun]
  · simp [strayAt, apply_ite State.est]
  · simp [strayAt, apply_ite State.port, apply_ite Port.advanceLimit]
  · simp [strayAt, apply_ite State.auctions]
  · simp [strayAt, apply_ite State.fire]

/-- `broadcastJam` changes nothing outside `bus`, `ctl`, `bins`. -/
@[simp] theorem broadcastJam_keeps (l : Lane) (bin : Nat) (s : State) :
    (broadcastJam l bin s).pending = s.pending ∧ (broadcastJam l bin s).pins = s.pins ∧
    (broadcastJam l bin s).bus.rx = s.bus.rx ∧ (broadcastJam l bin s).bus.offBus = s.bus.offBus ∧
    (broadcastJam l bin s).bus.failures = s.bus.failures ∧ (broadcastJam l bin s).bus.tx = s.bus.tx ∧
    (broadcastJam l bin s).bus.answer = s.bus.answer ∧ (broadcastJam l bin s).ctl.straps = s.ctl.straps ∧
    (broadcastJam l bin s).ctl.station = s.ctl.station ∧ (broadcastJam l bin s).ctl.setup = s.ctl.setup ∧
    (broadcastJam l bin s).ctl.roster = s.ctl.roster ∧ (broadcastJam l bin s).ctl.record = s.ctl.record ∧
    (broadcastJam l bin s).ctl.warmStart = s.ctl.warmStart ∧
    (broadcastJam l bin s).ctl.joinWait = s.ctl.joinWait ∧ (broadcastJam l bin s).crane = s.crane ∧
    (broadcastJam l bin s).est = s.est ∧ (broadcastJam l bin s).lanes = s.lanes ∧
    (broadcastJam l bin s).port = s.port ∧ (broadcastJam l bin s).auctions = s.auctions ∧
    (broadcastJam l bin s).fire = s.fire := by
  refine ⟨?_, ?_, ?_, ?_, ?_, ?_, ?_, ?_, ?_, ?_, ?_, ?_, ?_, ?_, ?_, ?_, ?_, ?_, ?_, ?_⟩ <;>
    simp [broadcastJam]

/-- `headTimeout` changes nothing outside `bus`, `ctl`, `bins`, `lanes`, `port`. -/
@[simp] theorem headTimeout_keeps (l : Lane) (s : State) :
    (headTimeout l s).pending = s.pending ∧ (headTimeout l s).pins = s.pins ∧
    (headTimeout l s).bus.rx = s.bus.rx ∧ (headTimeout l s).bus.offBus = s.bus.offBus ∧
    (headTimeout l s).bus.failures = s.bus.failures ∧ (headTimeout l s).bus.tx = s.bus.tx ∧
    (headTimeout l s).bus.answer = s.bus.answer ∧ (headTimeout l s).ctl.straps = s.ctl.straps ∧
    (headTimeout l s).ctl.station = s.ctl.station ∧ (headTimeout l s).ctl.setup = s.ctl.setup ∧
    (headTimeout l s).ctl.roster = s.ctl.roster ∧ (headTimeout l s).ctl.warmStart = s.ctl.warmStart ∧
    (headTimeout l s).ctl.joinWait = s.ctl.joinWait ∧ (headTimeout l s).crane = s.crane ∧
    (headTimeout l s).est = s.est ∧ (headTimeout l s).port.advanceLimit = s.port.advanceLimit ∧
    (headTimeout l s).auctions = s.auctions ∧ (headTimeout l s).fire = s.fire := by
  refine ⟨?_, ?_, ?_, ?_, ?_, ?_, ?_, ?_, ?_, ?_, ?_, ?_, ?_, ?_, ?_, ?_, ?_, ?_⟩ <;>
    (unfold headTimeout; (repeat' split) <;> first | rfl | simp)

/-- `placeReported` changes nothing outside `bus`, `ctl`, `crane`, `lanes`, `port`. -/
@[simp] theorem placeReported_keeps (l : Lane) (pos : Nat) (same : Bool) (s : State) :
    (placeReported l pos same s).pending = s.pending ∧ (placeReported l pos same s).pins = s.pins ∧
    (placeReported l pos same s).bus.rx = s.bus.rx ∧ (placeReported l pos same s).bus.offBus = s.bus.offBus ∧
    (placeReported l pos same s).bus.failures = s.bus.failures ∧ (placeReported l pos same s).bus.tx = s.bus.tx ∧
    (placeReported l pos same s).bus.answer = s.bus.answer ∧ (placeReported l pos same s).ctl.straps = s.ctl.straps ∧
    (placeReported l pos same s).ctl.station = s.ctl.station ∧ (placeReported l pos same s).ctl.setup = s.ctl.setup ∧
    (placeReported l pos same s).ctl.roster = s.ctl.roster ∧
    (placeReported l pos same s).ctl.warmStart = s.ctl.warmStart ∧
    (placeReported l pos same s).ctl.joinWait = s.ctl.joinWait ∧ (placeReported l pos same s).bins = s.bins ∧
    (placeReported l pos same s).crane.pos = s.crane.pos ∧ (placeReported l pos same s).crane.load = s.crane.load ∧
    (placeReported l pos same s).crane.carriage = s.crane.carriage ∧
    (placeReported l pos same s).crane.pool = s.crane.pool ∧
    (placeReported l pos same s).crane.continuity = s.crane.continuity ∧
    (placeReported l pos same s).crane.restartRun = s.crane.restartRun ∧ (placeReported l pos same s).est = s.est ∧
    (placeReported l pos same s).port.advanceLimit = s.port.advanceLimit ∧
    (placeReported l pos same s).auctions = s.auctions ∧ (placeReported l pos same s).fire = s.fire := by
  refine ⟨?_, ?_, ?_, ?_, ?_, ?_, ?_, ?_, ?_, ?_, ?_, ?_, ?_, ?_, ?_, ?_, ?_, ?_, ?_, ?_, ?_, ?_,
    ?_, ?_⟩
  · simp [placeReported, apply_ite State.pending]
  · simp [placeReported, apply_ite State.pins]
  · simp [placeReported, apply_ite State.bus, apply_ite Bus.rx]
  · simp [placeReported, apply_ite State.bus, apply_ite Bus.offBus]
  · simp [placeReported, apply_ite State.bus, apply_ite Bus.failures]
  · simp [placeReported, apply_ite State.bus, apply_ite Bus.tx]
  · simp [placeReported, apply_ite State.bus, apply_ite Bus.answer]
  · simp [placeReported, apply_ite State.ctl, apply_ite Control.straps]
  · simp [placeReported, apply_ite State.ctl, apply_ite Control.station]
  · simp [placeReported, apply_ite State.ctl, apply_ite Control.setup]
  · simp [placeReported, apply_ite State.ctl, apply_ite Control.roster]
  · simp [placeReported, apply_ite State.ctl, apply_ite Control.warmStart]
  · simp [placeReported, apply_ite State.ctl, apply_ite Control.joinWait]
  · simp [placeReported, apply_ite State.bins]
  · simp [placeReported, apply_ite State.crane, apply_ite Crane.pos]
  · simp [placeReported, apply_ite State.crane, apply_ite Crane.load]
  · simp [placeReported, apply_ite State.crane, apply_ite Crane.carriage]
  · simp [placeReported, apply_ite State.crane, apply_ite Crane.pool]
  · simp [placeReported, apply_ite State.crane, apply_ite Crane.continuity]
  · simp [placeReported, apply_ite State.crane, apply_ite Crane.restartRun]
  · simp [placeReported, apply_ite State.est]
  · simp [placeReported, apply_ite State.port, apply_ite Port.advanceLimit]
  · simp [placeReported, apply_ite State.auctions]
  · simp [placeReported, apply_ite State.fire]

/-- `followToHead` changes nothing outside `lanes`. -/
@[simp] theorem followToHead_keeps (l : Lane) (s : State) :
    (followToHead l s).pending = s.pending ∧ (followToHead l s).pins = s.pins ∧ (followToHead l s).bus = s.bus ∧
    (followToHead l s).ctl = s.ctl ∧ (followToHead l s).bins = s.bins ∧ (followToHead l s).crane = s.crane ∧
    (followToHead l s).est = s.est ∧ (followToHead l s).port = s.port ∧
    (followToHead l s).auctions = s.auctions ∧ (followToHead l s).fire = s.fire := by
  simp [followToHead]

/-- `headReported` changes nothing outside `bus`, `ctl`, `crane`, `lanes`, `port`. -/
@[simp] theorem headReported_keeps (l : Lane) (was : Bool) (s : State) :
    (headReported l was s).pending = s.pending ∧ (headReported l was s).pins = s.pins ∧
    (headReported l was s).bus.rx = s.bus.rx ∧ (headReported l was s).bus.offBus = s.bus.offBus ∧
    (headReported l was s).bus.failures = s.bus.failures ∧ (headReported l was s).bus.tx = s.bus.tx ∧
    (headReported l was s).bus.answer = s.bus.answer ∧ (headReported l was s).ctl.straps = s.ctl.straps ∧
    (headReported l was s).ctl.station = s.ctl.station ∧ (headReported l was s).ctl.setup = s.ctl.setup ∧
    (headReported l was s).ctl.roster = s.ctl.roster ∧
    (headReported l was s).ctl.warmStart = s.ctl.warmStart ∧
    (headReported l was s).ctl.joinWait = s.ctl.joinWait ∧ (headReported l was s).bins = s.bins ∧
    (headReported l was s).crane.pos = s.crane.pos ∧ (headReported l was s).crane.load = s.crane.load ∧
    (headReported l was s).crane.carriage = s.crane.carriage ∧
    (headReported l was s).crane.pool = s.crane.pool ∧
    (headReported l was s).crane.continuity = s.crane.continuity ∧
    (headReported l was s).crane.restartRun = s.crane.restartRun ∧ (headReported l was s).est = s.est ∧
    (headReported l was s).port.advanceLimit = s.port.advanceLimit ∧
    (headReported l was s).auctions = s.auctions ∧ (headReported l was s).fire = s.fire := by
  unfold headReported; split <;> [split; skip] <;> simp

/-- `addAtTail` changes nothing outside `lanes`. -/
@[simp] theorem addAtTail_keeps (l : Lane) (x : Content) (s : State) :
    (addAtTail l x s).pending = s.pending ∧ (addAtTail l x s).pins = s.pins ∧ (addAtTail l x s).bus = s.bus ∧
    (addAtTail l x s).ctl = s.ctl ∧ (addAtTail l x s).bins = s.bins ∧ (addAtTail l x s).crane = s.crane ∧
    (addAtTail l x s).est = s.est ∧ (addAtTail l x s).lanes.outStand = s.lanes.outStand ∧
    (addAtTail l x s).lanes.inStand = s.lanes.inStand ∧ (addAtTail l x s).port = s.port ∧
    (addAtTail l x s).auctions = s.auctions ∧ (addAtTail l x s).fire = s.fire := by
  refine ⟨?_, ?_, ?_, ?_, ?_, ?_, ?_, ?_, ?_, ?_, ?_, ?_⟩ <;>
    simp [addAtTail]

/-- `strayAtTail` changes nothing outside `bus`, `ctl`, `lanes`. -/
@[simp] theorem strayAtTail_keeps (l : Lane) (s : State) :
    (strayAtTail l s).pending = s.pending ∧ (strayAtTail l s).pins = s.pins ∧
    (strayAtTail l s).bus.rx = s.bus.rx ∧ (strayAtTail l s).bus.offBus = s.bus.offBus ∧
    (strayAtTail l s).bus.failures = s.bus.failures ∧ (strayAtTail l s).bus.tx = s.bus.tx ∧
    (strayAtTail l s).bus.answer = s.bus.answer ∧ (strayAtTail l s).ctl.straps = s.ctl.straps ∧
    (strayAtTail l s).ctl.station = s.ctl.station ∧ (strayAtTail l s).ctl.setup = s.ctl.setup ∧
    (strayAtTail l s).ctl.roster = s.ctl.roster ∧ (strayAtTail l s).ctl.record = s.ctl.record ∧
    (strayAtTail l s).ctl.warmStart = s.ctl.warmStart ∧ (strayAtTail l s).ctl.joinWait = s.ctl.joinWait ∧
    (strayAtTail l s).bins = s.bins ∧ (strayAtTail l s).crane = s.crane ∧ (strayAtTail l s).est = s.est ∧
    (strayAtTail l s).lanes.outStand = s.lanes.outStand ∧ (strayAtTail l s).lanes.inStand = s.lanes.inStand ∧
    (strayAtTail l s).port = s.port ∧ (strayAtTail l s).auctions = s.auctions ∧
    (strayAtTail l s).fire = s.fire := by
  refine ⟨?_, ?_, ?_, ?_, ?_, ?_, ?_, ?_, ?_, ?_, ?_, ?_, ?_, ?_, ?_, ?_, ?_, ?_, ?_, ?_, ?_,
          ?_⟩ <;>
    simp [strayAtTail]

/-- `placeLanded` changes nothing outside `bus`, `ctl`, `bins`, `lanes`. -/
@[simp] theorem placeLanded_keeps (l : Lane) (c : Carry) (visits : Bool) (s : State) :
    (placeLanded l c visits s).pending = s.pending ∧ (placeLanded l c visits s).pins = s.pins ∧
    (placeLanded l c visits s).bus.rx = s.bus.rx ∧ (placeLanded l c visits s).bus.offBus = s.bus.offBus ∧
    (placeLanded l c visits s).bus.failures = s.bus.failures ∧ (placeLanded l c visits s).bus.tx = s.bus.tx ∧
    (placeLanded l c visits s).bus.answer = s.bus.answer ∧
    (placeLanded l c visits s).ctl.straps = s.ctl.straps ∧
    (placeLanded l c visits s).ctl.station = s.ctl.station ∧
    (placeLanded l c visits s).ctl.setup = s.ctl.setup ∧
    (placeLanded l c visits s).ctl.roster = s.ctl.roster ∧
    (placeLanded l c visits s).ctl.record = s.ctl.record ∧
    (placeLanded l c visits s).ctl.warmStart = s.ctl.warmStart ∧
    (placeLanded l c visits s).ctl.joinWait = s.ctl.joinWait ∧ (placeLanded l c visits s).crane = s.crane ∧
    (placeLanded l c visits s).est = s.est ∧ (placeLanded l c visits s).lanes.outStand = s.lanes.outStand ∧
    (placeLanded l c visits s).lanes.inStand = s.lanes.inStand ∧ (placeLanded l c visits s).port = s.port ∧
    (placeLanded l c visits s).auctions = s.auctions ∧ (placeLanded l c visits s).fire = s.fire := by
  refine ⟨?_, ?_, ?_, ?_, ?_, ?_, ?_, ?_, ?_, ?_, ?_, ?_, ?_, ?_, ?_, ?_, ?_, ?_, ?_, ?_, ?_⟩
  · unfold placeLanded; dsimp only; (repeat' split) <;> first | rfl | simp [apply_ite State.pending]
  · unfold placeLanded; dsimp only; (repeat' split) <;> first | rfl | simp [apply_ite State.pins]
  · unfold placeLanded; dsimp only; (repeat' split) <;> first | rfl | simp [apply_ite State.bus,
          apply_ite Bus.rx]
  · unfold placeLanded; dsimp only; (repeat' split) <;> first | rfl | simp [apply_ite State.bus,
          apply_ite Bus.offBus]
  · unfold placeLanded; dsimp only; (repeat' split) <;> first | rfl | simp [apply_ite State.bus,
          apply_ite Bus.failures]
  · unfold placeLanded; dsimp only; (repeat' split) <;> first | rfl | simp [apply_ite State.bus,
          apply_ite Bus.tx]
  · unfold placeLanded; dsimp only; (repeat' split) <;> first | rfl | simp [apply_ite State.bus,
          apply_ite Bus.answer]
  · unfold placeLanded; dsimp only; (repeat' split) <;> first | rfl | simp [apply_ite State.ctl,
          apply_ite Control.straps]
  · unfold placeLanded; dsimp only; (repeat' split) <;> first | rfl | simp [apply_ite State.ctl,
          apply_ite Control.station]
  · unfold placeLanded; dsimp only; (repeat' split) <;> first | rfl | simp [apply_ite State.ctl,
          apply_ite Control.setup]
  · unfold placeLanded; dsimp only; (repeat' split) <;> first | rfl | simp [apply_ite State.ctl,
          apply_ite Control.roster]
  · unfold placeLanded; dsimp only; (repeat' split) <;> first | rfl | simp [apply_ite State.ctl,
          apply_ite Control.record]
  · unfold placeLanded; dsimp only; (repeat' split) <;> first | rfl | simp [apply_ite State.ctl,
          apply_ite Control.warmStart]
  · unfold placeLanded; dsimp only; (repeat' split) <;> first | rfl | simp [apply_ite State.ctl,
          apply_ite Control.joinWait]
  · unfold placeLanded; dsimp only; (repeat' split) <;> first | rfl | simp [apply_ite State.crane]
  · unfold placeLanded; dsimp only; (repeat' split) <;> first | rfl | simp [apply_ite State.est]
  · unfold placeLanded; dsimp only; (repeat' split) <;> first
          | rfl | simp [apply_ite State.lanes, apply_ite Lanes.outStand]
  · unfold placeLanded; dsimp only; (repeat' split) <;> first
          | rfl | simp [apply_ite State.lanes, apply_ite Lanes.inStand]
  · unfold placeLanded; dsimp only; (repeat' split) <;> first | rfl | simp [apply_ite State.port]
  · unfold placeLanded; dsimp only; (repeat' split) <;> first
          | rfl | simp [apply_ite State.auctions]
  · unfold placeLanded; dsimp only; (repeat' split) <;> first | rfl | simp [apply_ite State.fire]

/-- `clearReservation` changes nothing outside `lanes`. -/
@[simp] theorem clearReservation_keeps (l : Lane) (s : State) :
    (clearReservation l s).pending = s.pending ∧ (clearReservation l s).pins = s.pins ∧
    (clearReservation l s).bus = s.bus ∧ (clearReservation l s).ctl = s.ctl ∧
    (clearReservation l s).bins = s.bins ∧ (clearReservation l s).crane = s.crane ∧
    (clearReservation l s).est = s.est ∧ (clearReservation l s).lanes.outStand = s.lanes.outStand ∧
    (clearReservation l s).lanes.inStand = s.lanes.inStand ∧ (clearReservation l s).port = s.port ∧
    (clearReservation l s).auctions = s.auctions ∧ (clearReservation l s).fire = s.fire := by
  refine ⟨?_, ?_, ?_, ?_, ?_, ?_, ?_, ?_, ?_, ?_, ?_, ?_⟩ <;>
    simp [clearReservation]

/-- `sendLanded` changes nothing outside `bus`. -/
@[simp] theorem sendLanded_keeps (l : Lane) (bin : Nat) (s : State) :
    (sendLanded l bin s).pending = s.pending ∧ (sendLanded l bin s).pins = s.pins ∧
    (sendLanded l bin s).bus.rx = s.bus.rx ∧ (sendLanded l bin s).bus.offBus = s.bus.offBus ∧
    (sendLanded l bin s).bus.failures = s.bus.failures ∧ (sendLanded l bin s).bus.tx = s.bus.tx ∧
    (sendLanded l bin s).bus.answer = s.bus.answer ∧ (sendLanded l bin s).ctl = s.ctl ∧
    (sendLanded l bin s).bins = s.bins ∧ (sendLanded l bin s).crane = s.crane ∧
    (sendLanded l bin s).est = s.est ∧ (sendLanded l bin s).lanes = s.lanes ∧
    (sendLanded l bin s).port = s.port ∧ (sendLanded l bin s).auctions = s.auctions ∧
    (sendLanded l bin s).fire = s.fire := by
  refine ⟨?_, ?_, ?_, ?_, ?_, ?_, ?_, ?_, ?_, ?_, ?_, ?_, ?_, ?_, ?_⟩ <;>
    (unfold sendLanded; (repeat' split) <;> first | rfl | simp)

/-- `leaveTurn` changes nothing outside `lanes`. -/
@[simp] theorem leaveTurn_keeps (h : Lane) (bin : Nat) (s : State) :
    (leaveTurn h bin s).pending = s.pending ∧ (leaveTurn h bin s).pins = s.pins ∧
    (leaveTurn h bin s).bus = s.bus ∧ (leaveTurn h bin s).ctl = s.ctl ∧ (leaveTurn h bin s).bins = s.bins ∧
    (leaveTurn h bin s).crane = s.crane ∧ (leaveTurn h bin s).est = s.est ∧
    (leaveTurn h bin s).lanes.outStand = s.lanes.outStand ∧
    (leaveTurn h bin s).lanes.inStand = s.lanes.inStand ∧ (leaveTurn h bin s).port = s.port ∧
    (leaveTurn h bin s).auctions = s.auctions ∧ (leaveTurn h bin s).fire = s.fire := by
  refine ⟨?_, ?_, ?_, ?_, ?_, ?_, ?_, ?_, ?_, ?_, ?_, ?_⟩
  · simp [leaveTurn, apply_ite State.pending]
  · simp [leaveTurn, apply_ite State.pins]
  · simp [leaveTurn, apply_ite State.bus]
  · simp [leaveTurn, apply_ite State.ctl]
  · simp [leaveTurn, apply_ite State.bins]
  · simp [leaveTurn, apply_ite State.crane]
  · simp [leaveTurn, apply_ite State.est]
  · simp [leaveTurn, apply_ite State.lanes, apply_ite Lanes.outStand]
  · simp [leaveTurn, apply_ite State.lanes, apply_ite Lanes.inStand]
  · simp [leaveTurn, apply_ite State.port]
  · simp [leaveTurn, apply_ite State.auctions]
  · simp [leaveTurn, apply_ite State.fire]

/-- `landReserved` changes nothing outside `bus`, `ctl`, `bins`, `lanes`, `port`. -/
@[simp] theorem landReserved_keeps (l : Lane) (r : Reservation) (s : State) :
    (landReserved l r s).pending = s.pending ∧ (landReserved l r s).pins = s.pins ∧
    (landReserved l r s).bus.rx = s.bus.rx ∧ (landReserved l r s).bus.offBus = s.bus.offBus ∧
    (landReserved l r s).bus.failures = s.bus.failures ∧ (landReserved l r s).bus.tx = s.bus.tx ∧
    (landReserved l r s).bus.answer = s.bus.answer ∧ (landReserved l r s).ctl.straps = s.ctl.straps ∧
    (landReserved l r s).ctl.station = s.ctl.station ∧ (landReserved l r s).ctl.setup = s.ctl.setup ∧
    (landReserved l r s).ctl.roster = s.ctl.roster ∧ (landReserved l r s).ctl.warmStart = s.ctl.warmStart ∧
    (landReserved l r s).ctl.joinWait = s.ctl.joinWait ∧ (landReserved l r s).crane = s.crane ∧
    (landReserved l r s).est = s.est ∧ (landReserved l r s).auctions = s.auctions ∧
    (landReserved l r s).fire = s.fire := by
  refine ⟨?_, ?_, ?_, ?_, ?_, ?_, ?_, ?_, ?_, ?_, ?_, ?_, ?_, ?_, ?_, ?_, ?_⟩
  · unfold landReserved; dsimp only; (repeat' split) <;> first
          | rfl | simp [apply_ite State.pending]
  · unfold landReserved; dsimp only; (repeat' split) <;> first | rfl | simp [apply_ite State.pins]
  · unfold landReserved; dsimp only; (repeat' split) <;> first | rfl | simp [apply_ite State.bus,
          apply_ite Bus.rx]
  · unfold landReserved; dsimp only; (repeat' split) <;> first | rfl | simp [apply_ite State.bus,
          apply_ite Bus.offBus]
  · unfold landReserved; dsimp only; (repeat' split) <;> first | rfl | simp [apply_ite State.bus,
          apply_ite Bus.failures]
  · unfold landReserved; dsimp only; (repeat' split) <;> first | rfl | simp [apply_ite State.bus,
          apply_ite Bus.tx]
  · unfold landReserved; dsimp only; (repeat' split) <;> first | rfl | simp [apply_ite State.bus,
          apply_ite Bus.answer]
  · unfold landReserved; dsimp only; (repeat' split) <;> first | rfl | simp [apply_ite State.ctl,
          apply_ite Control.straps]
  · unfold landReserved; dsimp only; (repeat' split) <;> first | rfl | simp [apply_ite State.ctl,
          apply_ite Control.station]
  · unfold landReserved; dsimp only; (repeat' split) <;> first | rfl | simp [apply_ite State.ctl,
          apply_ite Control.setup]
  · unfold landReserved; dsimp only; (repeat' split) <;> first | rfl | simp [apply_ite State.ctl,
          apply_ite Control.roster]
  · unfold landReserved; dsimp only; (repeat' split) <;> first | rfl | simp [apply_ite State.ctl,
          apply_ite Control.warmStart]
  · unfold landReserved; dsimp only; (repeat' split) <;> first | rfl | simp [apply_ite State.ctl,
          apply_ite Control.joinWait]
  · unfold landReserved; dsimp only; (repeat' split) <;> first | rfl | simp [apply_ite State.crane]
  · unfold landReserved; dsimp only; (repeat' split) <;> first | rfl | simp [apply_ite State.est]
  · unfold landReserved; dsimp only; (repeat' split) <;> first
          | rfl | simp [apply_ite State.auctions]
  · unfold landReserved; dsimp only; (repeat' split) <;> first | rfl | simp [apply_ite State.fire]

end Sys2Proof.Machine
end

