-- ==== Sys2Proof/Laws/StationOps.lean ====
section
/-! SUPPORT. What the shared operations of the station leave unchanged. -/

namespace Sys2Proof.Machine

open Sys2Proof

/-- `announce` changes nothing outside `bus`. -/
@[simp] theorem announce_keeps (s : State) :
    (announce s).pending = s.pending ∧ (announce s).pins = s.pins ∧ (announce s).bus.rx = s.bus.rx ∧
    (announce s).bus.offBus = s.bus.offBus ∧ (announce s).bus.failures = s.bus.failures ∧
    (announce s).bus.tx = s.bus.tx ∧ (announce s).bus.answer = s.bus.answer ∧ (announce s).ctl = s.ctl ∧
    (announce s).bins = s.bins ∧ (announce s).crane = s.crane ∧ (announce s).est = s.est ∧
    (announce s).lanes = s.lanes ∧ (announce s).port = s.port ∧ (announce s).auctions = s.auctions ∧
    (announce s).fire = s.fire := by
  refine ⟨?_, ?_, ?_, ?_, ?_, ?_, ?_, ?_, ?_, ?_, ?_, ?_, ?_, ?_, ?_⟩ <;>
    (unfold announce; (repeat' split) <;> first | rfl | simp)

/-- `putStation` changes nothing outside `ctl`. -/
@[simp] theorem putStation_keeps (t : StationState) (s : State) :
    (putStation t s).pending = s.pending ∧ (putStation t s).pins = s.pins ∧ (putStation t s).bus = s.bus ∧
    (putStation t s).ctl.straps = s.ctl.straps ∧ (putStation t s).ctl.setup = s.ctl.setup ∧
    (putStation t s).ctl.record = s.ctl.record ∧ (putStation t s).ctl.warmStart = s.ctl.warmStart ∧
    (putStation t s).ctl.joinWait = s.ctl.joinWait ∧ (putStation t s).bins = s.bins ∧
    (putStation t s).crane = s.crane ∧ (putStation t s).est = s.est ∧ (putStation t s).lanes = s.lanes ∧
    (putStation t s).port = s.port ∧ (putStation t s).auctions = s.auctions ∧
    (putStation t s).fire = s.fire := by
  refine ⟨?_, ?_, ?_, ?_, ?_, ?_, ?_, ?_, ?_, ?_, ?_, ?_, ?_, ?_, ?_⟩ <;>
    rfl

/-- `setStation` changes nothing outside `bus`, `ctl`. -/
@[simp] theorem setStation_keeps (t : StationState) (s : State) :
    (setStation t s).pending = s.pending ∧ (setStation t s).pins = s.pins ∧
    (setStation t s).bus.rx = s.bus.rx ∧ (setStation t s).bus.offBus = s.bus.offBus ∧
    (setStation t s).bus.failures = s.bus.failures ∧ (setStation t s).bus.tx = s.bus.tx ∧
    (setStation t s).bus.answer = s.bus.answer ∧ (setStation t s).ctl.straps = s.ctl.straps ∧
    (setStation t s).ctl.setup = s.ctl.setup ∧ (setStation t s).ctl.record = s.ctl.record ∧
    (setStation t s).ctl.warmStart = s.ctl.warmStart ∧ (setStation t s).ctl.joinWait = s.ctl.joinWait ∧
    (setStation t s).bins = s.bins ∧ (setStation t s).crane = s.crane ∧ (setStation t s).est = s.est ∧
    (setStation t s).lanes = s.lanes ∧ (setStation t s).port = s.port ∧
    (setStation t s).auctions = s.auctions ∧ (setStation t s).fire = s.fire := by
  refine ⟨?_, ?_, ?_, ?_, ?_, ?_, ?_, ?_, ?_, ?_, ?_, ?_, ?_, ?_, ?_, ?_, ?_, ?_, ?_⟩ <;>
    simp [setStation]

/-- `beginClosing` changes nothing outside `fire`. -/
@[simp] theorem beginClosing_keeps (s : State) :
    (beginClosing s).pending = s.pending ∧ (beginClosing s).pins = s.pins ∧ (beginClosing s).bus = s.bus ∧
    (beginClosing s).ctl = s.ctl ∧ (beginClosing s).bins = s.bins ∧ (beginClosing s).crane = s.crane ∧
    (beginClosing s).est = s.est ∧ (beginClosing s).lanes = s.lanes ∧ (beginClosing s).port = s.port ∧
    (beginClosing s).auctions = s.auctions ∧ (beginClosing s).fire.view = s.fire.view ∧
    (beginClosing s).fire.latch = s.fire.latch ∧ (beginClosing s).fire.listen = s.fire.listen ∧
    (beginClosing s).fire.repeatTimer = s.fire.repeatTimer ∧ (beginClosing s).fire.below = s.fire.below := by
  refine ⟨?_, ?_, ?_, ?_, ?_, ?_, ?_, ?_, ?_, ?_, ?_, ?_, ?_, ?_, ?_⟩ <;>
    rfl

/-- `beginOpening` changes nothing outside `fire`. -/
@[simp] theorem beginOpening_keeps (s : State) :
    (beginOpening s).pending = s.pending ∧ (beginOpening s).pins = s.pins ∧ (beginOpening s).bus = s.bus ∧
    (beginOpening s).ctl = s.ctl ∧ (beginOpening s).bins = s.bins ∧ (beginOpening s).crane = s.crane ∧
    (beginOpening s).est = s.est ∧ (beginOpening s).lanes = s.lanes ∧ (beginOpening s).port = s.port ∧
    (beginOpening s).auctions = s.auctions ∧ (beginOpening s).fire.view = s.fire.view ∧
    (beginOpening s).fire.latch = s.fire.latch ∧ (beginOpening s).fire.listen = s.fire.listen ∧
    (beginOpening s).fire.repeatTimer = s.fire.repeatTimer ∧ (beginOpening s).fire.below = s.fire.below := by
  refine ⟨?_, ?_, ?_, ?_, ?_, ?_, ?_, ?_, ?_, ?_, ?_, ?_, ?_, ?_, ?_⟩ <;>
    rfl

/-- `beginClearing` changes nothing outside `fire`. -/
@[simp] theorem beginClearing_keeps (s : State) :
    (beginClearing s).pending = s.pending ∧ (beginClearing s).pins = s.pins ∧ (beginClearing s).bus = s.bus ∧
    (beginClearing s).ctl = s.ctl ∧ (beginClearing s).bins = s.bins ∧ (beginClearing s).crane = s.crane ∧
    (beginClearing s).est = s.est ∧ (beginClearing s).lanes = s.lanes ∧ (beginClearing s).port = s.port ∧
    (beginClearing s).auctions = s.auctions ∧ (beginClearing s).fire.view = s.fire.view ∧
    (beginClearing s).fire.latch = s.fire.latch ∧ (beginClearing s).fire.listen = s.fire.listen ∧
    (beginClearing s).fire.repeatTimer = s.fire.repeatTimer ∧
    (beginClearing s).fire.below = s.fire.below := by
  refine ⟨?_, ?_, ?_, ?_, ?_, ?_, ?_, ?_, ?_, ?_, ?_, ?_, ?_, ?_, ?_⟩
  · simp [beginClearing, apply_ite State.pending]
  · simp [beginClearing, apply_ite State.pins]
  · simp [beginClearing, apply_ite State.bus]
  · simp [beginClearing, apply_ite State.ctl]
  · simp [beginClearing, apply_ite State.bins]
  · simp [beginClearing, apply_ite State.crane]
  · simp [beginClearing, apply_ite State.est]
  · simp [beginClearing, apply_ite State.lanes]
  · simp [beginClearing, apply_ite State.port]
  · simp [beginClearing, apply_ite State.auctions]
  · simp [beginClearing, apply_ite State.fire, apply_ite FireUnit.view]
  · simp [beginClearing, apply_ite State.fire, apply_ite FireUnit.latch]
  · simp [beginClearing, apply_ite State.fire, apply_ite FireUnit.listen]
  · simp [beginClearing, apply_ite State.fire, apply_ite FireUnit.repeatTimer]
  · simp [beginClearing, apply_ite State.fire, apply_ite FireUnit.below]

/-- `shutterTakeUp` changes nothing outside `bus`, `ctl`, `lanes`, `port`, `fire`. -/
@[simp] theorem shutterTakeUp_keeps (s : State) :
    (shutterTakeUp s).pending = s.pending ∧ (shutterTakeUp s).pins = s.pins ∧
    (shutterTakeUp s).bus.rx = s.bus.rx ∧ (shutterTakeUp s).bus.offBus = s.bus.offBus ∧
    (shutterTakeUp s).bus.failures = s.bus.failures ∧ (shutterTakeUp s).bus.tx = s.bus.tx ∧
    (shutterTakeUp s).bus.answer = s.bus.answer ∧ (shutterTakeUp s).ctl.straps = s.ctl.straps ∧
    (shutterTakeUp s).ctl.station = s.ctl.station ∧ (shutterTakeUp s).ctl.setup = s.ctl.setup ∧
    (shutterTakeUp s).ctl.roster = s.ctl.roster ∧ (shutterTakeUp s).ctl.warmStart = s.ctl.warmStart ∧
    (shutterTakeUp s).ctl.joinWait = s.ctl.joinWait ∧ (shutterTakeUp s).bins = s.bins ∧
    (shutterTakeUp s).crane = s.crane ∧ (shutterTakeUp s).est = s.est ∧
    (shutterTakeUp s).port.advanceLimit = s.port.advanceLimit ∧ (shutterTakeUp s).auctions = s.auctions ∧
    (shutterTakeUp s).fire.view = s.fire.view ∧ (shutterTakeUp s).fire.latch = s.fire.latch ∧
    (shutterTakeUp s).fire.listen = s.fire.listen ∧ (shutterTakeUp s).fire.repeatTimer = s.fire.repeatTimer ∧
    (shutterTakeUp s).fire.below = s.fire.below := by
  refine ⟨?_, ?_, ?_, ?_, ?_, ?_, ?_, ?_, ?_, ?_, ?_, ?_, ?_, ?_, ?_, ?_, ?_, ?_, ?_, ?_, ?_, ?_,
    ?_⟩ <;>
    (unfold shutterTakeUp; (repeat' split) <;> first | rfl | simp)

/-- `stopForFire` changes nothing outside `crane`. -/
@[simp] theorem stopForFire_keeps (s : State) :
    (stopForFire s).pending = s.pending ∧ (stopForFire s).pins = s.pins ∧ (stopForFire s).bus = s.bus ∧
    (stopForFire s).ctl = s.ctl ∧ (stopForFire s).bins = s.bins ∧ (stopForFire s).crane.pos = s.crane.pos ∧
    (stopForFire s).crane.load = s.crane.load ∧ (stopForFire s).crane.carriage = s.crane.carriage ∧
    (stopForFire s).crane.pool = s.crane.pool ∧ (stopForFire s).crane.continuity = s.crane.continuity ∧
    (stopForFire s).crane.restartRun = s.crane.restartRun ∧ (stopForFire s).est = s.est ∧
    (stopForFire s).lanes = s.lanes ∧ (stopForFire s).port = s.port ∧ (stopForFire s).auctions = s.auctions ∧
    (stopForFire s).fire = s.fire := by
  refine ⟨?_, ?_, ?_, ?_, ?_, ?_, ?_, ?_, ?_, ?_, ?_, ?_, ?_, ?_, ?_, ?_⟩ <;>
    (unfold stopForFire; (repeat' split) <;> first | rfl | simp)

/-- `enterRecovery` changes nothing outside `bus`, `ctl`. -/
@[simp] theorem enterRecovery_keeps (s : State) :
    (enterRecovery s).pending = s.pending ∧ (enterRecovery s).pins = s.pins ∧
    (enterRecovery s).bus.rx = s.bus.rx ∧ (enterRecovery s).bus.offBus = s.bus.offBus ∧
    (enterRecovery s).bus.failures = s.bus.failures ∧ (enterRecovery s).bus.tx = s.bus.tx ∧
    (enterRecovery s).bus.answer = s.bus.answer ∧ (enterRecovery s).ctl.straps = s.ctl.straps ∧
    (enterRecovery s).ctl.setup = s.ctl.setup ∧ (enterRecovery s).ctl.record = s.ctl.record ∧
    (enterRecovery s).ctl.warmStart = s.ctl.warmStart ∧ (enterRecovery s).ctl.joinWait = s.ctl.joinWait ∧
    (enterRecovery s).bins = s.bins ∧ (enterRecovery s).crane = s.crane ∧ (enterRecovery s).est = s.est ∧
    (enterRecovery s).lanes = s.lanes ∧ (enterRecovery s).port = s.port ∧
    (enterRecovery s).auctions = s.auctions ∧ (enterRecovery s).fire = s.fire := by
  refine ⟨?_, ?_, ?_, ?_, ?_, ?_, ?_, ?_, ?_, ?_, ?_, ?_, ?_, ?_, ?_, ?_, ?_, ?_, ?_⟩ <;>
    simp [enterRecovery]

end Sys2Proof.Machine
end

