-- ==== Sys2Proof/Laws/AuctionOps.lean ====
section
/-! SUPPORT. What the shared operations of the auctions leave unchanged. -/

namespace Sys2Proof.Machine

open Sys2Proof

/-- `onAuction` changes nothing outside `auctions`. -/
@[simp] theorem onAuction_keeps (tag : Nat) (f : Auction → Auction) (s : State) :
    (onAuction tag f s).pending = s.pending ∧ (onAuction tag f s).pins = s.pins ∧
    (onAuction tag f s).bus = s.bus ∧ (onAuction tag f s).ctl = s.ctl ∧ (onAuction tag f s).bins = s.bins ∧
    (onAuction tag f s).crane = s.crane ∧ (onAuction tag f s).est = s.est ∧
    (onAuction tag f s).lanes = s.lanes ∧ (onAuction tag f s).port = s.port ∧
    (onAuction tag f s).fire = s.fire := by
  refine ⟨?_, ?_, ?_, ?_, ?_, ?_, ?_, ?_, ?_, ?_⟩ <;>
    rfl

/-- `bidAborted` changes nothing outside `bins`, `auctions`. -/
@[simp] theorem bidAborted_keeps (tag : Nat) (s : State) :
    (bidAborted tag s).pending = s.pending ∧ (bidAborted tag s).pins = s.pins ∧
    (bidAborted tag s).bus = s.bus ∧ (bidAborted tag s).ctl = s.ctl ∧ (bidAborted tag s).crane = s.crane ∧
    (bidAborted tag s).est = s.est ∧ (bidAborted tag s).lanes = s.lanes ∧ (bidAborted tag s).port = s.port ∧
    (bidAborted tag s).fire = s.fire := by
  refine ⟨?_, ?_, ?_, ?_, ?_, ?_, ?_, ?_, ?_⟩ <;>
    (unfold bidAborted; (repeat' split) <;> first | rfl | simp)

/-- `bidSent` changes nothing outside `auctions`. -/
@[simp] theorem bidSent_keeps (tag : Nat) (s : State) :
    (bidSent tag s).pending = s.pending ∧ (bidSent tag s).pins = s.pins ∧ (bidSent tag s).bus = s.bus ∧
    (bidSent tag s).ctl = s.ctl ∧ (bidSent tag s).bins = s.bins ∧ (bidSent tag s).crane = s.crane ∧
    (bidSent tag s).est = s.est ∧ (bidSent tag s).lanes = s.lanes ∧ (bidSent tag s).port = s.port ∧
    (bidSent tag s).fire = s.fire := by
  refine ⟨?_, ?_, ?_, ?_, ?_, ?_, ?_, ?_, ?_, ?_⟩ <;>
    (unfold bidSent; (repeat' split) <;> first | rfl | simp)

/-- `abortBid` changes nothing outside `bus`, `ctl`, `bins`, `auctions`. -/
@[simp] theorem abortBid_keeps (tag : Nat) (s : State) :
    (abortBid tag s).pending = s.pending ∧ (abortBid tag s).pins = s.pins ∧
    (abortBid tag s).bus.rx = s.bus.rx ∧ (abortBid tag s).bus.offBus = s.bus.offBus ∧
    (abortBid tag s).bus.failures = s.bus.failures ∧ (abortBid tag s).bus.tx = s.bus.tx ∧
    (abortBid tag s).bus.answer = s.bus.answer ∧ (abortBid tag s).ctl.straps = s.ctl.straps ∧
    (abortBid tag s).ctl.station = s.ctl.station ∧ (abortBid tag s).ctl.setup = s.ctl.setup ∧
    (abortBid tag s).ctl.roster = s.ctl.roster ∧ (abortBid tag s).ctl.record = s.ctl.record ∧
    (abortBid tag s).ctl.warmStart = s.ctl.warmStart ∧ (abortBid tag s).ctl.joinWait = s.ctl.joinWait ∧
    (abortBid tag s).crane = s.crane ∧ (abortBid tag s).est = s.est ∧ (abortBid tag s).lanes = s.lanes ∧
    (abortBid tag s).port = s.port ∧ (abortBid tag s).fire = s.fire := by
  refine ⟨?_, ?_, ?_, ?_, ?_, ?_, ?_, ?_, ?_, ?_, ?_, ?_, ?_, ?_, ?_, ?_, ?_, ?_, ?_⟩
  · unfold abortBid; dsimp only; (repeat' split) <;> first | rfl | simp [apply_ite State.pending]
  · unfold abortBid; dsimp only; (repeat' split) <;> first | rfl | simp [apply_ite State.pins]
  · unfold abortBid; dsimp only; (repeat' split) <;> first | rfl | simp [apply_ite State.bus,
          apply_ite Bus.rx]
  · unfold abortBid; dsimp only; (repeat' split) <;> first | rfl | simp [apply_ite State.bus,
          apply_ite Bus.offBus]
  · unfold abortBid; dsimp only; (repeat' split) <;> first | rfl | simp [apply_ite State.bus,
          apply_ite Bus.failures]
  · unfold abortBid; dsimp only; (repeat' split) <;> first | rfl | simp [apply_ite State.bus,
          apply_ite Bus.tx]
  · unfold abortBid; dsimp only; (repeat' split) <;> first | rfl | simp [apply_ite State.bus,
          apply_ite Bus.answer]
  · unfold abortBid; dsimp only; (repeat' split) <;> first | rfl | simp [apply_ite State.ctl,
          apply_ite Control.straps]
  · unfold abortBid; dsimp only; (repeat' split) <;> first | rfl | simp [apply_ite State.ctl,
          apply_ite Control.station]
  · unfold abortBid; dsimp only; (repeat' split) <;> first | rfl | simp [apply_ite State.ctl,
          apply_ite Control.setup]
  · unfold abortBid; dsimp only; (repeat' split) <;> first | rfl | simp [apply_ite State.ctl,
          apply_ite Control.roster]
  · unfold abortBid; dsimp only; (repeat' split) <;> first | rfl | simp [apply_ite State.ctl,
          apply_ite Control.record]
  · unfold abortBid; dsimp only; (repeat' split) <;> first | rfl | simp [apply_ite State.ctl,
          apply_ite Control.warmStart]
  · unfold abortBid; dsimp only; (repeat' split) <;> first | rfl | simp [apply_ite State.ctl,
          apply_ite Control.joinWait]
  · unfold abortBid; dsimp only; (repeat' split) <;> first | rfl | simp [apply_ite State.crane]
  · unfold abortBid; dsimp only; (repeat' split) <;> first | rfl | simp [apply_ite State.est]
  · unfold abortBid; dsimp only; (repeat' split) <;> first | rfl | simp [apply_ite State.lanes]
  · unfold abortBid; dsimp only; (repeat' split) <;> first | rfl | simp [apply_ite State.port]
  · unfold abortBid; dsimp only; (repeat' split) <;> first | rfl | simp [apply_ite State.fire]

/-- `voidAuction` changes nothing outside `bus`, `ctl`, `bins`, `auctions`. -/
@[simp] theorem voidAuction_keeps (s : State) (tag : Nat) :
    (voidAuction s tag).pending = s.pending ∧ (voidAuction s tag).pins = s.pins ∧
    (voidAuction s tag).bus.rx = s.bus.rx ∧ (voidAuction s tag).bus.offBus = s.bus.offBus ∧
    (voidAuction s tag).bus.failures = s.bus.failures ∧ (voidAuction s tag).bus.tx = s.bus.tx ∧
    (voidAuction s tag).bus.answer = s.bus.answer ∧ (voidAuction s tag).ctl.straps = s.ctl.straps ∧
    (voidAuction s tag).ctl.station = s.ctl.station ∧ (voidAuction s tag).ctl.setup = s.ctl.setup ∧
    (voidAuction s tag).ctl.roster = s.ctl.roster ∧ (voidAuction s tag).ctl.record = s.ctl.record ∧
    (voidAuction s tag).ctl.warmStart = s.ctl.warmStart ∧ (voidAuction s tag).ctl.joinWait = s.ctl.joinWait ∧
    (voidAuction s tag).crane = s.crane ∧ (voidAuction s tag).est = s.est ∧
    (voidAuction s tag).lanes = s.lanes ∧ (voidAuction s tag).port = s.port ∧
    (voidAuction s tag).fire = s.fire := by
  refine ⟨?_, ?_, ?_, ?_, ?_, ?_, ?_, ?_, ?_, ?_, ?_, ?_, ?_, ?_, ?_, ?_, ?_, ?_, ?_⟩
  · unfold voidAuction; dsimp only; (repeat' split) <;> first | rfl | simp [apply_ite State.pending]
  · unfold voidAuction; dsimp only; (repeat' split) <;> first | rfl | simp [apply_ite State.pins]
  · unfold voidAuction; dsimp only; (repeat' split) <;> first | rfl | simp [apply_ite State.bus,
          apply_ite Bus.rx]
  · unfold voidAuction; dsimp only; (repeat' split) <;> first | rfl | simp [apply_ite State.bus,
          apply_ite Bus.offBus]
  · unfold voidAuction; dsimp only; (repeat' split) <;> first | rfl | simp [apply_ite State.bus,
          apply_ite Bus.failures]
  · unfold voidAuction; dsimp only; (repeat' split) <;> first | rfl | simp [apply_ite State.bus,
          apply_ite Bus.tx]
  · unfold voidAuction; dsimp only; (repeat' split) <;> first | rfl | simp [apply_ite State.bus,
          apply_ite Bus.answer]
  · unfold voidAuction; dsimp only; (repeat' split) <;> first | rfl | simp [apply_ite State.ctl,
          apply_ite Control.straps]
  · unfold voidAuction; dsimp only; (repeat' split) <;> first | rfl | simp [apply_ite State.ctl,
          apply_ite Control.station]
  · unfold voidAuction; dsimp only; (repeat' split) <;> first | rfl | simp [apply_ite State.ctl,
          apply_ite Control.setup]
  · unfold voidAuction; dsimp only; (repeat' split) <;> first | rfl | simp [apply_ite State.ctl,
          apply_ite Control.roster]
  · unfold voidAuction; dsimp only; (repeat' split) <;> first | rfl | simp [apply_ite State.ctl,
          apply_ite Control.record]
  · unfold voidAuction; dsimp only; (repeat' split) <;> first | rfl | simp [apply_ite State.ctl,
          apply_ite Control.warmStart]
  · unfold voidAuction; dsimp only; (repeat' split) <;> first | rfl | simp [apply_ite State.ctl,
          apply_ite Control.joinWait]
  · unfold voidAuction; dsimp only; (repeat' split) <;> first | rfl | simp [apply_ite State.crane]
  · unfold voidAuction; dsimp only; (repeat' split) <;> first | rfl | simp [apply_ite State.est]
  · unfold voidAuction; dsimp only; (repeat' split) <;> first | rfl | simp [apply_ite State.lanes]
  · unfold voidAuction; dsimp only; (repeat' split) <;> first | rfl | simp [apply_ite State.port]
  · unfold voidAuction; dsimp only; (repeat' split) <;> first | rfl | simp [apply_ite State.fire]

/-- `voidAuctions` changes nothing outside `bus`, `ctl`, `bins`, `auctions`. -/
@[simp] theorem voidAuctions_keeps (s : State) :
    (voidAuctions s).pending = s.pending ∧ (voidAuctions s).pins = s.pins ∧
    (voidAuctions s).bus.rx = s.bus.rx ∧ (voidAuctions s).bus.offBus = s.bus.offBus ∧
    (voidAuctions s).bus.failures = s.bus.failures ∧ (voidAuctions s).bus.tx = s.bus.tx ∧
    (voidAuctions s).bus.answer = s.bus.answer ∧ (voidAuctions s).ctl.straps = s.ctl.straps ∧
    (voidAuctions s).ctl.station = s.ctl.station ∧ (voidAuctions s).ctl.setup = s.ctl.setup ∧
    (voidAuctions s).ctl.roster = s.ctl.roster ∧ (voidAuctions s).ctl.record = s.ctl.record ∧
    (voidAuctions s).ctl.warmStart = s.ctl.warmStart ∧ (voidAuctions s).ctl.joinWait = s.ctl.joinWait ∧
    (voidAuctions s).crane = s.crane ∧ (voidAuctions s).est = s.est ∧ (voidAuctions s).lanes = s.lanes ∧
    (voidAuctions s).port = s.port ∧ (voidAuctions s).fire = s.fire := by
  refine ⟨?_, ?_, ?_, ?_, ?_, ?_, ?_, ?_, ?_, ?_, ?_, ?_, ?_, ?_, ?_, ?_, ?_, ?_, ?_⟩
  · unfold voidAuctions
    (repeat' split) <;> first
      | rfl
      | simp [apply_ite State.pending]
      | (refine Eq.trans (foldl_keeps (fun s => s.pending) _ (by intros; simp) _ _) ?_; simp [apply_ite State.pending])
  · unfold voidAuctions
    (repeat' split) <;> first
      | rfl
      | simp [apply_ite State.pins]
      | (refine Eq.trans (foldl_keeps (fun s => s.pins) _ (by intros; simp) _ _) ?_; simp [apply_ite State.pins])
  · unfold voidAuctions
    (repeat' split) <;> first
      | rfl
      | simp [apply_ite State.bus, apply_ite Bus.rx]
      | (refine Eq.trans (foldl_keeps (fun s => s.bus.rx) _ (by intros; simp) _ _) ?_; simp [apply_ite State.bus, apply_ite Bus.rx])
  · unfold voidAuctions
    (repeat' split) <;> first
      | rfl
      | simp [apply_ite State.bus, apply_ite Bus.offBus]
      | (refine Eq.trans (foldl_keeps (fun s => s.bus.offBus) _ (by intros; simp) _ _) ?_; simp [apply_ite State.bus, apply_ite Bus.offBus])
  · unfold voidAuctions
    (repeat' split) <;> first
      | rfl
      | simp [apply_ite State.bus, apply_ite Bus.failures]
      | (refine Eq.trans (foldl_keeps (fun s => s.bus.failures) _ (by intros; simp) _ _) ?_; simp [apply_ite State.bus, apply_ite Bus.failures])
  · unfold voidAuctions
    (repeat' split) <;> first
      | rfl
      | simp [apply_ite State.bus, apply_ite Bus.tx]
      | (refine Eq.trans (foldl_keeps (fun s => s.bus.tx) _ (by intros; simp) _ _) ?_; simp [apply_ite State.bus, apply_ite Bus.tx])
  · unfold voidAuctions
    (repeat' split) <;> first
      | rfl
      | simp [apply_ite State.bus, apply_ite Bus.answer]
      | (refine Eq.trans (foldl_keeps (fun s => s.bus.answer) _ (by intros; simp) _ _) ?_; simp [apply_ite State.bus, apply_ite Bus.answer])
  · unfold voidAuctions
    (repeat' split) <;> first
      | rfl
      | simp [apply_ite State.ctl, apply_ite Control.straps]
      | (refine Eq.trans (foldl_keeps (fun s => s.ctl.straps) _ (by intros; simp) _ _) ?_; simp [apply_ite State.ctl, apply_ite Control.straps])
  · unfold voidAuctions
    (repeat' split) <;> first
      | rfl
      | simp [apply_ite State.ctl, apply_ite Control.station]
      | (refine Eq.trans (foldl_keeps (fun s => s.ctl.station) _ (by intros; simp) _ _) ?_; simp [apply_ite State.ctl, apply_ite Control.station])
  · unfold voidAuctions
    (repeat' split) <;> first
      | rfl
      | simp [apply_ite State.ctl, apply_ite Control.setup]
      | (refine Eq.trans (foldl_keeps (fun s => s.ctl.setup) _ (by intros; simp) _ _) ?_; simp [apply_ite State.ctl, apply_ite Control.setup])
  · unfold voidAuctions
    (repeat' split) <;> first
      | rfl
      | simp [apply_ite State.ctl, apply_ite Control.roster]
      | (refine Eq.trans (foldl_keeps (fun s => s.ctl.roster) _ (by intros; simp) _ _) ?_; simp [apply_ite State.ctl, apply_ite Control.roster])
  · unfold voidAuctions
    (repeat' split) <;> first
      | rfl
      | simp [apply_ite State.ctl, apply_ite Control.record]
      | (refine Eq.trans (foldl_keeps (fun s => s.ctl.record) _ (by intros; simp) _ _) ?_; simp [apply_ite State.ctl, apply_ite Control.record])
  · unfold voidAuctions
    (repeat' split) <;> first
      | rfl
      | simp [apply_ite State.ctl, apply_ite Control.warmStart]
      | (refine Eq.trans (foldl_keeps (fun s => s.ctl.warmStart) _ (by intros; simp) _ _) ?_; simp [apply_ite State.ctl, apply_ite Control.warmStart])
  · unfold voidAuctions
    (repeat' split) <;> first
      | rfl
      | simp [apply_ite State.ctl, apply_ite Control.joinWait]
      | (refine Eq.trans (foldl_keeps (fun s => s.ctl.joinWait) _ (by intros; simp) _ _) ?_; simp [apply_ite State.ctl, apply_ite Control.joinWait])
  · unfold voidAuctions
    (repeat' split) <;> first
      | rfl
      | simp [apply_ite State.crane]
      | (refine Eq.trans (foldl_keeps (fun s => s.crane) _ (by intros; simp) _ _) ?_; simp [apply_ite State.crane])
  · unfold voidAuctions
    (repeat' split) <;> first
      | rfl
      | simp [apply_ite State.est]
      | (refine Eq.trans (foldl_keeps (fun s => s.est) _ (by intros; simp) _ _) ?_; simp [apply_ite State.est])
  · unfold voidAuctions
    (repeat' split) <;> first
      | rfl
      | simp [apply_ite State.lanes]
      | (refine Eq.trans (foldl_keeps (fun s => s.lanes) _ (by intros; simp) _ _) ?_; simp [apply_ite State.lanes])
  · unfold voidAuctions
    (repeat' split) <;> first
      | rfl
      | simp [apply_ite State.port]
      | (refine Eq.trans (foldl_keeps (fun s => s.port) _ (by intros; simp) _ _) ?_; simp [apply_ite State.port])
  · unfold voidAuctions
    (repeat' split) <;> first
      | rfl
      | simp [apply_ite State.fire]
      | (refine Eq.trans (foldl_keeps (fun s => s.fire) _ (by intros; simp) _ _) ?_; simp [apply_ite State.fire])

/-- `recheck` changes nothing outside `bins`. -/
@[simp] theorem recheck_keeps (r : Auction) (v : Valued) (s : State) :
    (recheck r v s).2.pending = s.pending ∧ (recheck r v s).2.pins = s.pins ∧ (recheck r v s).2.bus = s.bus ∧
    (recheck r v s).2.ctl = s.ctl ∧ (recheck r v s).2.crane = s.crane ∧ (recheck r v s).2.est = s.est ∧
    (recheck r v s).2.lanes = s.lanes ∧ (recheck r v s).2.port = s.port ∧
    (recheck r v s).2.auctions = s.auctions ∧ (recheck r v s).2.fire = s.fire := by
  refine ⟨?_, ?_, ?_, ?_, ?_, ?_, ?_, ?_, ?_, ?_⟩ <;>
    (unfold recheck; (repeat' split) <;> first | rfl | simp)

/-- `standBid` changes nothing outside `bus`, `bins`, `auctions`. -/
@[simp] theorem standBid_keeps (tag : Nat) (v : Valued) (s : State) :
    (standBid tag v s).pending = s.pending ∧ (standBid tag v s).pins = s.pins ∧
    (standBid tag v s).bus.rx = s.bus.rx ∧ (standBid tag v s).bus.offBus = s.bus.offBus ∧
    (standBid tag v s).bus.failures = s.bus.failures ∧ (standBid tag v s).bus.tx = s.bus.tx ∧
    (standBid tag v s).bus.answer = s.bus.answer ∧ (standBid tag v s).ctl = s.ctl ∧
    (standBid tag v s).crane = s.crane ∧ (standBid tag v s).est = s.est ∧ (standBid tag v s).lanes = s.lanes ∧
    (standBid tag v s).port = s.port ∧ (standBid tag v s).fire = s.fire := by
  refine ⟨?_, ?_, ?_, ?_, ?_, ?_, ?_, ?_, ?_, ?_, ?_, ?_, ?_⟩
  · simp [standBid, apply_ite State.pending]
  · simp [standBid, apply_ite State.pins]
  · simp [standBid, apply_ite State.bus, apply_ite Bus.rx]
  · simp [standBid, apply_ite State.bus, apply_ite Bus.offBus]
  · simp [standBid, apply_ite State.bus, apply_ite Bus.failures]
  · simp [standBid, apply_ite State.bus, apply_ite Bus.tx]
  · simp [standBid, apply_ite State.bus, apply_ite Bus.answer]
  · simp [standBid, apply_ite State.ctl]
  · simp [standBid, apply_ite State.crane]
  · simp [standBid, apply_ite State.est]
  · simp [standBid, apply_ite State.lanes]
  · simp [standBid, apply_ite State.port]
  · simp [standBid, apply_ite State.fire]

/-- `goQuiet` changes nothing outside `auctions`. -/
@[simp] theorem goQuiet_keeps (tag : Nat) (s : State) :
    (goQuiet tag s).pending = s.pending ∧ (goQuiet tag s).pins = s.pins ∧ (goQuiet tag s).bus = s.bus ∧
    (goQuiet tag s).ctl = s.ctl ∧ (goQuiet tag s).bins = s.bins ∧ (goQuiet tag s).crane = s.crane ∧
    (goQuiet tag s).est = s.est ∧ (goQuiet tag s).lanes = s.lanes ∧ (goQuiet tag s).port = s.port ∧
    (goQuiet tag s).fire = s.fire := by
  refine ⟨?_, ?_, ?_, ?_, ?_, ?_, ?_, ?_, ?_, ?_⟩ <;>
    rfl

/-- `chooseBid` changes nothing outside `bus`, `bins`, `auctions`. -/
@[simp] theorem chooseBid_keeps (r : Auction) (ranked : List Valued) (s : State) :
    (chooseBid r ranked s).pending = s.pending ∧ (chooseBid r ranked s).pins = s.pins ∧
    (chooseBid r ranked s).bus.rx = s.bus.rx ∧ (chooseBid r ranked s).bus.offBus = s.bus.offBus ∧
    (chooseBid r ranked s).bus.failures = s.bus.failures ∧ (chooseBid r ranked s).bus.tx = s.bus.tx ∧
    (chooseBid r ranked s).bus.answer = s.bus.answer ∧ (chooseBid r ranked s).ctl = s.ctl ∧
    (chooseBid r ranked s).crane = s.crane ∧ (chooseBid r ranked s).est = s.est ∧
    (chooseBid r ranked s).lanes = s.lanes ∧ (chooseBid r ranked s).port = s.port ∧
    (chooseBid r ranked s).fire = s.fire := by
  refine ⟨?_, ?_, ?_, ?_, ?_, ?_, ?_, ?_, ?_, ?_, ?_, ?_, ?_⟩
  · unfold chooseBid; (repeat' split) <;> first | rfl | simp [apply_ite State.pending]
  · unfold chooseBid; (repeat' split) <;> first | rfl | simp [apply_ite State.pins]
  · unfold chooseBid; (repeat' split) <;> first | rfl | simp [apply_ite State.bus, apply_ite Bus.rx]
  · unfold chooseBid; (repeat' split) <;> first | rfl | simp [apply_ite State.bus,
          apply_ite Bus.offBus]
  · unfold chooseBid; (repeat' split) <;> first | rfl | simp [apply_ite State.bus,
          apply_ite Bus.failures]
  · unfold chooseBid; (repeat' split) <;> first | rfl | simp [apply_ite State.bus, apply_ite Bus.tx]
  · unfold chooseBid; (repeat' split) <;> first | rfl | simp [apply_ite State.bus,
          apply_ite Bus.answer]
  · unfold chooseBid; (repeat' split) <;> first | rfl | simp [apply_ite State.ctl]
  · unfold chooseBid; (repeat' split) <;> first | rfl | simp [apply_ite State.crane]
  · unfold chooseBid; (repeat' split) <;> first | rfl | simp [apply_ite State.est]
  · unfold chooseBid; (repeat' split) <;> first | rfl | simp [apply_ite State.lanes]
  · unfold chooseBid; (repeat' split) <;> first | rfl | simp [apply_ite State.port]
  · unfold chooseBid; (repeat' split) <;> first | rfl | simp [apply_ite State.fire]

end Sys2Proof.Machine
end

