-- ==== Sys2Proof/Laws/Canonical.lean ====
section
/-! SUPPORT. Every operation over the Bin Table, and over the roster, keeps its table in canonical form; and what a
record reads as after one write. -/

namespace Sys2Proof.Machine

open Sys2Proof

/-- The Bin Table of `s` is in canonical form. -/
abbrev BinsWf (s : State) : Prop := tableWf BinRec.blank s.bins = true

/-- The record just written reads as written. -/
theorem binAt_putBin {s : State} (h : BinsWf s) (i : Nat) (r : BinRec) : binAt i (putBin i r s) = r :=
  tableGet_tablePut _ h i r

/-- Writing one record leaves every other one alone. -/
theorem binAt_putBin_other {s : State} (h : BinsWf s) {i j : Nat} (hj : j ≠ i) (r : BinRec) :
    binAt j (putBin i r s) = binAt j s :=
  tableGet_tablePut_other _ h hj r

theorem putBin_wf {s : State} (h : BinsWf s) (i : Nat) (r : BinRec) : BinsWf (putBin i r s) :=
  tableWf_tablePut _ h i r

theorem raise_wf {s : State} (h : BinsWf s) (n : Notice) : BinsWf (raise n s) := by
  have := (raise_keeps n s); simp_all [BinsWf]

theorem liftBegin_wf {s : State} (h : BinsWf s) (i : Nat) (k : Call) : BinsWf (liftBegin i k s).2 := by
  unfold liftBegin; dsimp only; split <;> first | exact h | exact putBin_wf h _ _

theorem liftEnd_wf {s : State} (h : BinsWf s) (i : Nat) : BinsWf (liftEnd i s).2 := by
  unfold liftEnd; dsimp only; split <;> first | exact h | exact putBin_wf h _ _

theorem storeBegin_wf {s : State} (h : BinsWf s) (i : Nat) : BinsWf (storeBegin i s).2 := by
  unfold storeBegin; dsimp only; split <;> first | exact h | exact putBin_wf h _ _

theorem storeEnd_wf {s : State} (h : BinsWf s) (i : Nat) (b : Bool) : BinsWf (storeEnd i b s).2 := by
  unfold storeEnd; dsimp only; split <;> first | exact h | exact raise_wf (putBin_wf h _ _) _

theorem restoreEnd_wf {s : State} (h : BinsWf s) (i : Nat) (b : Bool) : BinsWf (restoreEnd i b s).2 := by
  unfold restoreEnd; dsimp only; split <;> first | exact h | exact putBin_wf h _ _

theorem callClear_wf {s : State} (h : BinsWf s) (i tag : Nat) : BinsWf (callClear i tag s).2 := by
  unfold callClear; dsimp only; (repeat' split) <;> first | exact h | exact putBin_wf h _ _

theorem visitSteps_wf {s : State} (h : BinsWf s) (i : Nat) (r : BinRec) (c : Carry) : BinsWf (visitSteps i r c s).2 := by
  unfold visitSteps
  refine putBin_wf ?_ _ _
  have h1 : BinsWf (if (visitFill r c : Int) ≠ (r.fill : Int) + c.delta
      then raise (.fillClamped c.bin (visitFill r c)) s else s) := by
    split
    · exact raise_wf h _
    · exact h
  generalize unservedFill r c = u, r.call = k
  cases u
  · exact h1
  · cases k
    · exact h1
    · exact raise_wf h1 _

theorem homeVisit_wf {s : State} (h : BinsWf s) (c : Carry) : BinsWf (homeVisit c s).2 := by
  unfold homeVisit
  extract_lets i r
  split
  · exact h
  · generalize r.state = b
    cases b with
    | absent => exact visitSteps_wf (raise_wf h _) _ _ _
    | stored => exact visitSteps_wf (raise_wf h _) _ _ _
    | lifting => exact raise_wf h _
    | storing => exact raise_wf h _
    | lost => exact visitSteps_wf (raise_wf h _) _ _ _
    | out => exact visitSteps_wf h _ _ _

theorem markLostByJam_wf {s : State} (h : BinsWf s) (bin : Nat) : BinsWf (markLostByJam bin s) := by
  unfold markLostByJam; dsimp only; split <;> first | exact h | exact raise_wf (putBin_wf h _ _) _

theorem markLostByAudit_wf {s : State} (h : BinsWf s) (i : Nat) : BinsWf (markLostByAudit i s) := by
  unfold markLostByAudit; dsimp only; split <;> first | exact h | exact raise_wf (putBin_wf h _ _) _

theorem markFoundByAudit_wf {s : State} (h : BinsWf s) (i : Nat) : BinsWf (markFoundByAudit i s) := by
  unfold markFoundByAudit
  extract_lets r
  split
  · have ht := raise_wf (putBin_wf h i { r with state := .stored, hold := 0, call := none, followOns := [] })
      (.found (ownBin i s) 1)
    split
    · split
      · exact raise_wf ht _
      · exact ht
    · exact ht
  · exact h

theorem markFoundByIdentify_wf {s : State} (h : BinsWf s) (i : Nat) : BinsWf (markFoundByIdentify i s) := by
  unfold markFoundByIdentify; dsimp only; split <;> first | exact h | exact raise_wf (putBin_wf h _ _) _

theorem holdSet_wf {s : State} (h : BinsWf s) (i units : Nat) : BinsWf (holdSet i units s).2 := by
  unfold holdSet; dsimp only; split <;> first | exact h | exact putBin_wf h _ _

theorem holdClear_wf {s : State} (h : BinsWf s) (i : Nat) : BinsWf (holdClear i s).2 := putBin_wf h _ _

theorem followOnAppend_wf {s : State} (h : BinsWf s) (i : Nat) (e : FollowOn) (p : Option Nat) :
    BinsWf (followOnAppend i e p s).2 := by
  unfold followOnAppend; dsimp only; (repeat' split) <;> first | exact h | exact putBin_wf h _ _

theorem followOnRemove_wf {s : State} (h : BinsWf s) (tag : Nat) : BinsWf (followOnRemove tag s).2 := by
  obtain ⟨i, p, -, e⟩ | ⟨-, e⟩ := followOnRemove_cases tag s <;> rw [e]
  · exact putBin_wf h _ _
  · exact h

/-- A record that differs from an ABSENT one still does after a warm reset (R67). -/
theorem warmRecord_ne_blank {r : BinRec} (h : r ≠ BinRec.blank) : warmRecord r ≠ BinRec.blank := by
  intro hw; apply h; revert hw
  obtain ⟨st, fi, ho, ca, fo⟩ := r
  cases st <;> simp only [warmRecord, BinRec.blank] <;> (repeat' split) <;> simp_all

theorem tableAbove_warmBins {n : Nat} {t : List (Nat × BinRec)} (h : tableAbove n t = true) :
    tableAbove n (warmBins t) = true := by
  induction t with
  | nil => rfl
  | cons e t ih =>
    obtain ⟨k, r⟩ := e
    simp only [tableAbove, Bool.and_eq_true] at h
    simp only [warmBins, List.map_cons, tableAbove, Bool.and_eq_true]
    exact ⟨h.1, ih h.2⟩

theorem warmBins_wf {t : List (Nat × BinRec)} (h : tableWf BinRec.blank t = true) :
    tableWf BinRec.blank (warmBins t) = true := by
  induction t with
  | nil => rfl
  | cons e t ih =>
    obtain ⟨k, r⟩ := e
    simp only [tableWf, Bool.and_eq_true, decide_eq_true_eq] at h
    simp only [warmBins, List.map_cons, tableWf, Bool.and_eq_true, decide_eq_true_eq]
    exact ⟨⟨warmRecord_ne_blank h.1.1, tableAbove_warmBins h.1.2⟩, ih h.2⟩

/-! ### The roster -/

theorem setRoster_wf {s : State} (h : tableWf RosterEntry.cleared s.ctl.roster = true) (n : Nat) (e : RosterEntry) :
    tableWf RosterEntry.cleared (setRoster n e s).ctl.roster = true :=
  tableWf_tablePut _ h n e

theorem stationSilent_wf {s : State} (h : tableWf RosterEntry.cleared s.ctl.roster = true) (n : Nat) :
    tableWf RosterEntry.cleared (stationSilent n s).ctl.roster = true := by
  unfold stationSilent; dsimp only
  (repeat' split) <;> first | exact h | exact setRoster_wf h _ _ | (simp [raise_keeps]; exact setRoster_wf h _ _)

end Sys2Proof.Machine
end

