-- ==== Sys2Proof/Laws/OrderOps.lean ====
section
/-! SUPPORT. What a lost attempt and the take of an order leave unchanged, and the slots they write. -/

namespace Sys2Proof.Machine

open Sys2Proof

/-- `mergeJoins` changes the Bus Interface and what of a granted slot is Station Control's, the notice list and the
pending set. -/
@[simp] theorem mergeJoins_keeps (id : SlotId) (q : Queued) (s : State) :
    (mergeJoins id q s).pending = s.pending ∧ (mergeJoins id q s).pins = s.pins ∧
    (mergeJoins id q s).bus.rx = s.bus.rx ∧ (mergeJoins id q s).bus.offBus = s.bus.offBus ∧
    (mergeJoins id q s).bus.failures = s.bus.failures ∧ (mergeJoins id q s).bus.tx = s.bus.tx ∧
    (mergeJoins id q s).bus.answer = s.bus.answer ∧ (mergeJoins id q s).ctl.straps = s.ctl.straps ∧
    (mergeJoins id q s).ctl.station = s.ctl.station ∧ (mergeJoins id q s).ctl.setup = s.ctl.setup ∧
    (mergeJoins id q s).ctl.roster = s.ctl.roster ∧ (mergeJoins id q s).ctl.record = s.ctl.record ∧
    (mergeJoins id q s).ctl.warmStart = s.ctl.warmStart ∧ (mergeJoins id q s).ctl.joinWait = s.ctl.joinWait ∧
    (mergeJoins id q s).bins = s.bins ∧ (mergeJoins id q s).crane = s.crane ∧ (mergeJoins id q s).est = s.est ∧
    (mergeJoins id q s).lanes = s.lanes ∧ (mergeJoins id q s).port = s.port ∧
    (mergeJoins id q s).auctions = s.auctions ∧ (mergeJoins id q s).fire = s.fire := by
  unfold mergeJoins
  dsimp only
  split
  · simp
  · split <;> simp

/-- A frame that is no JOIN, or a JOIN with no other one unstarted, stays in its slot as it is, unstarted (R7, R8). -/
theorem unstart_eq (id : SlotId) (q : Queued) (s : State)
    (h : isJoin q.frame = true → (∀ c ∈ s.bus.claims, isJoin c.frame = false) ∧
      freshJoinSlot id (setSlot id (.holds { q with started := false, errored := false }) s) = none) :
    unstart id q s = setSlot id (.holds { q with started := false, errored := false }) s := by
  unfold unstart
  dsimp only
  split
  · obtain ⟨hc, hf⟩ := h ‹_›
    unfold mergeJoins
    rw [hf]
    split
    · rename_i ha
      obtain ⟨c, hm, hj⟩ := List.any_eq_true.1 ha
      simp [hc c (by simpa [setSlot] using hm)] at hj
    · rfl
  · rfl

/-- `unstart` changes what `mergeJoins` does. -/
@[simp] theorem unstart_keeps (id : SlotId) (q : Queued) (s : State) :
    (unstart id q s).pending = s.pending ∧ (unstart id q s).pins = s.pins ∧
    (unstart id q s).bus.rx = s.bus.rx ∧ (unstart id q s).bus.offBus = s.bus.offBus ∧
    (unstart id q s).bus.failures = s.bus.failures ∧ (unstart id q s).bus.tx = s.bus.tx ∧
    (unstart id q s).bus.answer = s.bus.answer ∧ (unstart id q s).ctl.straps = s.ctl.straps ∧
    (unstart id q s).ctl.station = s.ctl.station ∧ (unstart id q s).ctl.setup = s.ctl.setup ∧
    (unstart id q s).ctl.roster = s.ctl.roster ∧ (unstart id q s).ctl.record = s.ctl.record ∧
    (unstart id q s).ctl.warmStart = s.ctl.warmStart ∧ (unstart id q s).ctl.joinWait = s.ctl.joinWait ∧
    (unstart id q s).bins = s.bins ∧ (unstart id q s).crane = s.crane ∧ (unstart id q s).est = s.est ∧
    (unstart id q s).lanes = s.lanes ∧ (unstart id q s).port = s.port ∧
    (unstart id q s).auctions = s.auctions ∧ (unstart id q s).fire = s.fire := by
  unfold unstart
  dsimp only
  split <;> simp

/-- `putReply` writes its slot alone. -/
@[simp] theorem putReply_eq (id : SlotId) (r : RxRecord) (a : Answer) (n : Nat) (s : State) :
    putReply id r a n s =
      { s with bus := { s.bus with slots := s.bus.slots.set id (.holds (newQueued (.reply (a.toReply r)) n)) } } := rfl

/-- What the take does before the order has its effect: the record leaves the queue, the REPLY holds the granted slot,
and the wish of the next record counts from now (R6, R16). -/
theorem beginTake_eq (id : SlotId) (r : RxRecord) (rest : List RxRecord) (s : State) :
    beginTake id r rest s =
      { s with bus := { s.bus with
        rx := rest
        rxSince := s.bus.order
        order := s.bus.order + 1
        slots := s.bus.slots.set id (.holds (newQueued (.reply ((Answer.plain .done 0).toReply r)) s.bus.order)) } } := rfl

end Sys2Proof.Machine
end

