-- ==== Sys2Proof/Tests/Slice0.lean ====
section
/-! SUPPORT. The model's own tests: commands that are not well formed, worked values of the manual, and for every
obligation with hypotheses a witness, a concrete state and operands that meet the hypotheses of each of its clauses. -/

namespace Sys2Proof.Tests

open Sys2Proof Sys2Proof.Machine Sys2Proof.Safety

/-! ### Small states -/

/-- A received frame. -/
def frame (sender dest : Nat) (payload : List Byte) : RxFrame :=
  { sender := BitVec.ofNat 5 sender, dest := BitVec.ofNat 5 dest, param := 0#8, payload := payload }

def running : Segment := { Segment.cleared with cond := .running }

/-- Station S9 of `State.reset`, ACTIVE, with an IDLE crane at the mouth, empty running lanes and no frame queued. -/
def calm : State :=
  { State.reset with
    bus := Bus.cleared
    ctl := { State.reset.ctl with
      station := .active
      joinWait := none
      roster := [(8, ⟨true, 3, false, .active⟩), (9, ⟨true, 3, true, .active⟩), (10, ⟨true, 3, true, .active⟩)] }
    crane := { Crane.cleared with state := .idle, pos := some Position.mouth, load := .empty }
    lanes := { Lanes.cleared with outSeg := running, backSeg := running } }

def station (x : StationState) (s : State) : State := s.onCtl fun c => { c with station := x }
def crane (x : CraneState) (s : State) : State := s.onCrane fun c => { c with state := x }
def flying (d : DriveCmd) (s : State) : State := s.onCrane fun c => { c with inFlight := some d, limit := some 5000 }
def jobs (l : List Job) (s : State) : State := s.onCrane fun c => { c with pool := l }
def slot (id : SlotId) (q : Queued) (s : State) : State := setSlot id (.holds q) s
def started (f : Frame) : Queued := { newQueued f 0 with started := true }
def alarm (v : BitVec 8) (s : State) : State := s.onFire fun f => { f with view := v }
def shutterIs (x : ShutterState) (s : State) : State := s.onFire fun f => { f with shutter := some x }
def noShutter (s : State) : State := s.onFire fun f => { f with shutter := none }
def headSeen (l : Lane) (s : State) : State := s.onPins (Pins.onSeg l fun g => { g with head := true })

/-- The commonest crane state of the witnesses: at work on something else. -/
def busy : State := crane .running calm

/-- Bin 18,692: S9's location index 260, column 17, level 4, side A. -/
def bin : Nat := 18692
def recd (st : BinState) : BinRec := { BinRec.blank with state := st, fill := 3 }
def withBin (r : BinRec) (s : State) : State := s.onBins fun _ => [(260, r)]
def toPort (dest : Nat) : Carry := ⟨bin, dest, .port, 40, .lend, 0, 0, false⟩
def homeward : Carry := ⟨bin, 9, .home, 0, .noPurpose, 0, 0, false⟩

/-- A bin of S5. -/
def foreign : Carry := ⟨5 * 2048 + 7, 3, .port, 40, .lend, 0, 0, false⟩

/-- The RETRIEVE of bin 18,692 for tag 40, at a stage. -/
def fetch (st : JobState) (g : Stage) : Job := { retrieveJob bin 40 10 .lend 1 with state := st, stage := g }
def fillJob (st : JobState) : Job := { retrieveJob bin 40 10 .fill 1 with state := st }

/-- An order waiting in the receive queue with its reply slot granted. -/
def record (k : OrderKind) (p : List Byte) : RxRecord :=
  { sender := 30#5, addressed := true, kind := k, param := 0#8, payload := p }
def order (k : OrderKind) (p : List Byte) (s : State) : State :=
  s.onBus fun b => { b with rx := [record k p], slots := { b.slots with s1 := .granted } }

/-- Every order state of the witnesses meets `Takes`, the first hypothesis of the statements on orders. -/
theorem takes_order (k : OrderKind) (p : List Byte) (s : State) (h : s.ctl.station ≠ .strapFault) :
    Takes (order k p s) .s1 (record k p) [] := by
  exact ⟨rfl, by simp [order, State.onBus, Slots.grantedSlot], rfl, h⟩

/-- The order is waiting with slot 1 granted: the hypotheses that `Takes` stands for. -/
abbrev Waiting (k : OrderKind) (p : List Byte) (s : State) : Prop := Takes (order k p s) .s1 (record k p) []

/-! ### The Wing Bus -/

def twoFrames : State := slot .s1 (newQueued (.jam .outLane 7) 0) (slot .s2 (newQueued (.bid 40 60) 1) calm)

theorem witness_StartPointSendsLowestWord :
    twoFrames.ctl.station ≠ .strapFault ∧ twoFrames.bus.offBus = false ∧ twoFrames.bus.slots.started = none ∧
      twoFrames.bus.slots.get .s1 = .holds (newQueued (.jam .outLane 7) 0) := by decide

def auction : Auction :=
  { roomTag := 40, units := 3, port := 10, start := 0, phase := .bidding, candidate := some 260, own := some 60,
    lowest := some ⟨60, 9⟩, voidMark := false, nextRead := 2048, noted := [], bidReturned := false,
    closeLimit := some 90, windowLimit := 100 }
def withAuction (r : Auction) (s : State) : State := s.onAuctions fun u => { u with records := [r] }
def sending (f : Frame) : State := slot .s1 (started f) calm
def bidding : State := withAuction auction (withBin { recd .stored with hold := 3 } calm)
def failing (n : Nat) (s : State) : State := s.onBus fun b => { b with failures := n }

theorem witness_TransmitFailures_lost :
    (sending (.jam .outLane 7)).bus.slots.started = some .s1 ∧
      (sending (.jam .outLane 7)).bus.slots.get .s1 = .holds (started (.jam .outLane 7)) ∧
      (started (.jam .outLane 7)).errored = false ∧ (started (.jam .outLane 7)).abortAsked = false := by decide

def freshJoin : Frame := .join (joinBody calm)

/-- A JOIN alone, beside a frame that is none, and with a fresh JOIN queued behind it. -/
theorem witness_TransmitFailures_joins :
    let alone := sending freshJoin
    let two := slot .s2 (newQueued freshJoin 1) alone
    (∀ s ∈ [alone, two], s.bus.slots.started = some .s1 ∧ s.bus.slots.get .s1 = .holds (started freshJoin) ∧
      isJoin (started freshJoin).frame = true ∧ s.bus.claims = [] ∧ s.ctl.notices = [] ∧ s.bus.rx = []) ∧
      (NoOtherJoin .s1 alone ∧ (started freshJoin).errored = false ∧ (started freshJoin).abortAsked = false) ∧
      two.bus.slots.get .s2 = .holds (newQueued freshJoin 1) ∧ (newQueued freshJoin 1).started = false ∧
      two.bus.slots.s0 = .free ∧ two.bus.slots.s3 = .free := by
  refine ⟨by decide, ⟨⟨by decide, ?_⟩, by decide⟩, by decide⟩
  intro k q hk hq _
  cases k <;> simp_all [sending, slot, setSlot, State.onBus, Slots.set, Slots.get] <;> cases hq

theorem witness_TransmitFailures_abort :
    let q := { started (.bid 40 60) with abortAsked := true }
    let s := slot .s1 q bidding
    s.bus.slots.started = some .s1 ∧ s.bus.slots.get .s1 = .holds q ∧ q.errored = false ∧ q.abortAsked = true ∧
      q.frame = .bid 40 60 ∧ auctionOf 40 s = some auction ∧ auction.phase = .bidding ∧ auction.bidReturned = false ∧
      auction.candidate = some 260 := by decide

/-- The counts on both sides of the clauses' edge: 14 and 15. -/
theorem witness_TransmitFailures_error :
    let s := failing 14 (sending (.jam .outLane 7))
    let u := failing 15 (sending (.jam .outLane 7))
    (s.bus.slots.started = some .s1 ∧ s.bus.slots.get .s1 = .holds (started (.jam .outLane 7)) ∧ s.bus.failures < 15) ∧
      u.bus.slots.started = some .s1 ∧ u.bus.slots.get .s1 = .holds (started (.jam .outLane 7)) ∧
      u.bus.slots.s0 = .free ∧ u.bus.slots.s2 = .free ∧ u.bus.slots.s3 = .free ∧
      (started (.jam .outLane 7)).errored = false ∧ u.bus.failures = 15 ∧ u.bus.offBus = false ∧
      (u.auctions.records.map Auction.roomTag).Nodup := by decide

def aReply : Reply := plainReply .query .done 0

theorem witness_FrameOutcomeEndsTheFrame :
    let jam := failing 14 (sending (.jam .outLane 7))
    let note := sending (.notice (.stray 3))
    let answer := sending (.reply aReply)
    (jam.bus.slots.started = some .s1 ∧ jam.bus.slots.get .s1 = .holds (started (.jam .outLane 7)) ∧
      (started (.jam .outLane 7)).abortAsked = false ∧ jam.bus.offBus = false ∧ jam.bus.failures < 15 ∧
      jam.bus.claims = [] ∧ jam.ctl.notices = [] ∧ jam.bus.rx = [] ∧ isJoin (.jam .outLane 7) = false) ∧
      (note.bus.slots.started = some .s1 ∧ note.bus.slots.get .s1 = .holds (started (.notice (.stray 3))) ∧
        (started (.notice (.stray 3))).errored = false) ∧
      answer.bus.slots.started = some .s1 ∧ answer.bus.slots.get .s1 = .holds (started (.reply aReply)) ∧
      aReply.dest = Config.gateway := by decide

/-- A FIRE with none and with one waiting behind it, beside an auction record; a BID of the station, and one of no record. -/
theorem witness_FrameOutcomeEndsTheFrame_broadcasts :
    let fire := slot .s0 (started (.fire 8#8)) calm
    let waits := (slot .s0 (started (.fire 8#8)) bidding).onBus fun b => { b with firePending := some 16#8 }
    let bid := slot .s1 (started (.bid 40 60)) bidding
    (∀ s ∈ [fire, waits], s.bus.slots.started = some .s0 ∧ s.bus.slots.get .s0 = .holds (started (.fire 8#8))) ∧
      (started (.fire 8#8)).errored = false ∧ fire.bus.firePending = none ∧ fire.auctions.records = [] ∧
      waits.bus.firePending = some 16#8 ∧
      (∀ s ∈ [bid, sending (.bid 40 60)], s.bus.slots.started = some .s1 ∧
        s.bus.slots.get .s1 = .holds (started (.bid 40 60)) ∧ s.bus.claims = [] ∧ s.ctl.notices = [] ∧ s.bus.rx = []) ∧
      auctionOf 40 bid = some auction ∧ auction.phase = .bidding ∧ auction.bidReturned = false ∧ auction.own = some 60 ∧
      auctionOf 40 (sending (.bid 40 60)) = none := by decide

/-- Class 4, the last one that is voided, from station 8. -/
theorem witness_VoidMarkOnAFaultyFrame :
    let f : RawFrame := { arb := 0x8008#16, ctrl := 0x4180#16, payload := [], check := none }
    calm.ctl.station ≠ .strapFault ∧ f.arb.toNat / 8192 ≤ 4 ∧ deafSender (f.arb.toNat % 32) = false := by decide

def full (n : Nat) : State := calm.onBus fun b => { b with rx := List.replicate n (record .halt []) }

/-- An addressed and a broadcast order, at a queue of 7 and of 8. -/
theorem witness_OrderFrameIsStoredHeldOrDropped :
    (∀ n ∈ [7, 8], ∀ d ∈ [9, 0],
      let f := frame 30 d []
      (full n).ctl.station ≠ .strapFault ∧ (full n).bus.offBus = false ∧ deafSender f.sender.toNat = false ∧
        f.sender.toNat ≠ (full n).num ∧ f.payload.length = OrderKind.halt.length ∧
        (f.dest.toNat = (full n).num ∧ isStation (full n).num = true
          ∨ f.dest.toNat = 0 ∧ (orderRow .halt).addressing = .either)) ∧
      (full 7).bus.rx.length < 8 ∧ 8 ≤ (full 8).bus.rx.length ∧ (full 8).ctl.record.dropped ≤ 255 := by decide

def joining : State := { calm with ctl := State.reset.ctl, crane := Crane.cleared }

/-- An order from S3, and one from the gateway node for each kind that a station state refuses. -/
theorem witness_OrderFrame_refused_at_its_take :
    (∀ x ∈ [(OrderKind.call, joining), (.identify, joining), (.call, station .shutdown calm),
      (.enrol, station .shutdown calm), (.audit, station .shutdown calm), (.restart, station .shutdown calm),
      (.halt, station .shutdown calm), (.wake, station .recovery calm), (.setupA, calm), (.setupB, station .doze calm)],
      let s := order x.1 [] x.2
      s.bus.rx = [record x.1 []] ∧ s.bus.slots.grantedSlot = some .s1 ∧ s.ctl.station ≠ .strapFault ∧
        (record x.1 []).sender.toNat = Config.gateway) ∧
      ({ record .halt [] with sender := 3#5 }).sender.toNat ≠ Config.gateway ∧ joining.ctl.station = .joining ∧
      calm.ctl.station = .active := by decide

def fullSlots : State :=
  slot .s1 (newQueued (.jam .outLane 7) 0) (slot .s2 (newQueued (.jam .outLane 8) 1)
    (slot .s3 (newQueued (.jam .outLane 9) 2) calm))
def waitingNotices (n : Nat) (s : State) : State :=
  s.onCtl fun c => { c with notices := List.replicate n ⟨.stray 3, 0⟩ }

/-- The four cases of a notice: masked, a slot free, the list at 7 and at 8. -/
theorem witness_NoticeIsQueuedListedOrPending :
    let masked := calm.onCtl fun c => { c with setup := { c.setup with noticeMask := 128#16 } }
    (masked.ctl.setup.noticeMask.getLsbD (Notice.stray 3).code || masked.bus.offBus) = true ∧
      ((calm.ctl.setup.noticeMask.getLsbD (Notice.stray 3).code || calm.bus.offBus) = false ∧
        calm.bus.slots.freeSlot = some .s1) ∧
      fullSlots.bus.slots.freeSlot = none ∧ (waitingNotices 7 fullSlots).ctl.notices.length < 8 ∧
      8 ≤ (waitingNotices 8 fullSlots).ctl.notices.length := by decide

/-- Bin 0 out with another call, and bin 1. -/
def twoBins (r : BinRec) (s : State) : State :=
  s.onBins fun _ => [(0, { recd .out with call := some ⟨41, 3, .lend⟩, followOns := [⟨42, 3, .lend, 0⟩] }), (1, r)]

/-- STATUS; then REQUEST with the tags 0, 4,096, and 40 held by a job, a follow-on entry, a call, and nowhere. -/
theorem witness_QueryReports_status_and_request :
    let ask : List Byte := [1, 0, 40]
    let inPool := jobs [fetch .waiting .travelEmpty] calm
    let inList := twoBins { recd .out with followOns := [⟨41, 4, .lend, 1⟩, ⟨40, 3, .lend, 1⟩] } calm
    let inCall := twoBins { recd .out with call := some ⟨40, 3, .lend⟩ } calm
    (Waiting .query [0, 0, 0] calm ∧ byteAt [0, 0, 0] 0 = 0) ∧
      (Waiting .query [1, 0, 0] calm ∧ wordAt [1, 0, 0] 1 = 0) ∧
      (Waiting .query [1, 16, 0] calm ∧ 4095 < wordAt [1, 16, 0] 1) ∧
      (Waiting .query ask inPool ∧ wordAt ask 1 = 40 ∧
        inPool.crane.pool.find? (fun j => j.tag == 40) = some (fetch .waiting .travelEmpty)) ∧
      (Waiting .query ask inList ∧ (∀ j ∈ inList.crane.pool, j.tag ≠ 40) ∧ tableWf BinRec.blank inList.bins = true ∧
        (binAt 1 inList).followOns[1]?.map FollowOn.tag = some 40 ∧
        (∀ f ∈ (binAt 1 inList).followOns.take 1, f.tag ≠ 40) ∧ (∀ f ∈ (binAt 0 inList).followOns, f.tag ≠ 40)) ∧
      (Waiting .query ask inCall ∧ (∀ j ∈ inCall.crane.pool, j.tag ≠ 40) ∧ tableWf BinRec.blank inCall.bins = true ∧
        (∀ e ∈ inCall.bins, ∀ f ∈ e.2.followOns, f.tag ≠ 40) ∧ (binAt 1 inCall).call.map Call.tag = some 40 ∧
        (binAt 0 inCall).call.map Call.tag ≠ some 40) ∧
      Waiting .query ask calm ∧ calm.crane.pool = [] ∧ calm.bins = [] := by
  unfold Waiting Takes; decide

/-- QUERY BIN of indices 2,048 and 1,024 (side B of a one-sided aisle), of an ABSENT record and of an OUT one. -/
theorem witness_QueryReports_bin :
    let s := withBin (recd .out) calm
    (Waiting .query [2, 8, 0] s ∧ 2047 < wordAt [2, 8, 0] 1) ∧
      (Waiting .query [2, 4, 0] s ∧ wordAt [2, 4, 0] 1 / 1024 = 1 ∧ s.ctl.straps.twoSided = false) ∧
      (Waiting .query [2, 1, 5] s ∧ wordAt [2, 1, 5] 1 % 1024 / 16 + 1 ≤ 16 * (s.ctl.straps.lengthClass.toNat + 1) ∧
        (binAt (wordAt [2, 1, 5] 1) s).state = .absent) ∧
      Waiting .query [2, 1, 4] s ∧ wordAt [2, 1, 4] 1 = 260 ∧ (binAt 260 s).state = .out := by
  unfold Waiting Takes; decide

/-- Every field of the carry record at the end of its range. -/
theorem witness_PassDecodesToItsCarryRecord :
    let c : Carry := ⟨65535, 255, .home, 65535, .inspect, 15, -15, true⟩
    c.bin < 65536 ∧ c.dest < 256 ∧ c.tag < 65536 ∧ c.recirc ≤ 15 ∧ -15 ≤ c.delta ∧ c.delta ≤ 15 := by decide

/-! ### Station States and the Roster -/

/-- The strap table's edge: T = 24, the largest. -/
def edgeInputs : Inputs := { resetInputs with straps := { resetInputs.straps with top := 24#5 } }
def badInputs : Inputs := { resetInputs with straps := { resetInputs.straps with top := 25#5 } }

theorem witness_PowerOnResetLeaves : edgeInputs.straps.valid = true ∧ badInputs.straps.valid = false := by decide

/-- The fire line asserted at the reset: no shutter fitted, a shutter that reads closed, and one that does not. -/
theorem witness_resets_fire_line :
    let lit := fun (fitted closed : Bool) => { resetInputs with
      straps := { resetInputs.straps with shutter := fitted }
      pins := { resetInputs.pins with fireLine := true, shutterClosed := closed } }
    ∀ i ∈ [lit false false, lit true true, lit true false], i.straps.valid = true ∧ i.pins.fireLine = true ∧
      i.straps.number.toNat ≠ 1 ∧ i.straps.number = calm.ctl.straps.number ∧ i.straps.top = calm.ctl.straps.top ∧
      i.straps.twoSided = calm.ctl.straps.twoSided ∧ i.straps.lengthClass = calm.ctl.straps.lengthClass := by decide

/-- The rows of R190: no shutter fitted, closed, open, neither with OPEN held and with no output held. -/
theorem witness_resets_shutter_rows :
    let bare := { resetInputs with straps := { resetInputs.straps with shutter := false } }
    let shows := fun (c o : Bool) => { resetInputs with pins := { resetInputs.pins with shutterClosed := c, shutterOpen := o } }
    bare.straps.shutter = false ∧ bare.straps.valid = true ∧ bare.pins.fireLine = false ∧
      (∀ i ∈ [shows true false, shows true true, shows false true, shows false false], i.straps.shutter = true ∧
        i.straps.number.toNat ≠ 1 ∧ i.straps.valid = true ∧ i.pins.fireLine = false) ∧
      (calm.onFire fun f => { f with openOut := true }).fire.openOut = true ∧ calm.fire.openOut = false := by decide

theorem witness_WarmResetKeeps :
    (resetInputs.straps.valid = true ∧ resetInputs.straps.number = calm.ctl.straps.number ∧
      resetInputs.straps.top = calm.ctl.straps.top ∧ resetInputs.straps.twoSided = calm.ctl.straps.twoSided ∧
      resetInputs.straps.lengthClass = calm.ctl.straps.lengthClass) ∧
      edgeInputs.straps.top ≠ calm.ctl.straps.top := by decide

/-- A bin record in every state, with a call of purpose FILL, a follow-on entry of it, and neither. -/
theorem witness_WarmResetKeeps_records :
    (∀ st ∈ [BinState.absent, .stored, .lifting, .storing, .out, .lost],
      (binAt 260 (withBin { recd st with hold := 2 } calm)).state = st) ∧
      ({ recd .out with call := some ⟨40, 3, .fill⟩ }.call = some ⟨40, 3, .fill⟩) ∧
      (∃ e ∈ { recd .lost with followOns := [⟨1, 4, .fill, 0⟩] }.followOns, e.purpose = .fill) ∧
      (recd .out).call = none ∧ (recd .out).followOns = [] := by decide

/-- What a reset with invalid straps leaves. -/
def quiet : State :=
  { State.reset with
    bus := Bus.cleared
    ctl := { State.reset.ctl with station := .strapFault, joinWait := none, roster := [] }
    crane := { Crane.cleared with lastSent := some .stop }
    fire := { State.reset.fire with listen := none } }

theorem witness_StrapFaultTakesPartInNothing :
    badInputs.straps.valid = false ∧ StrapQuiet quiet ∧ quiet.ctl.station = .strapFault ∧
      isReset .startPoint = false := by
  unfold StrapQuiet; decide

theorem witness_StrapQuietIsKept :
    StrapQuiet { quiet with pending := [.done] } ∧ step { quiet with pending := [.done] } = .next quiet :=
  ⟨by unfold StrapQuiet; decide, rfl⟩

/-- The three ends of JOINING, and SETUP-A and SETUP-B in and out of it. -/
theorem witness_JoiningTakesSetupAndEnds :
    let a : List Byte := [60, 80, 120, 60, 150, 20, 120]
    let b : List Byte := [6, 10, 0x26, 0x43, 8, 4, 0, 0]
    (joining.ctl.station = .joining ∧ joining.ctl.joinWait.isSome = true ∧ joining.crane.state = .unreferenced ∧
      joining.crane.inFlight = none ∧ joining.crane.pool = []) ∧
      (alarm 8#8 joining).ownAlarmed = true ∧ joining.ownAlarmed = false ∧ joining.fire.latch = false ∧
      (joining.onFire fun f => { f with latch := true }).fire.latch = true ∧
      Waiting .setupA a joining ∧ Waiting .setupB b joining ∧ Waiting .setupB b (alarm 8#8 joining) ∧
      Waiting .setupB b (joining.onFire fun f => { f with latch := true }) ∧ Waiting .setupA a calm ∧ Waiting .setupB b calm ∧
      calm.ctl.station ≠ .joining ∧ setupAClamped a = false ∧ setupBClamped b = false := by
  unfold Waiting Takes; decide +kernel

/-- A crane made FAULTED while JOINING. -/
theorem witness_JoiningTakesSetupAndEnds_faulted :
    let s := crane .faulted joining
    s.ctl.station = .joining ∧ s.ctl.joinWait.isSome = true ∧ s.crane.state = .faulted ∧ s.crane.inFlight = none ∧
      s.ownAlarmed = false ∧ s.fire.latch = false ∧ Waiting .setupB [] s := by
  unfold Waiting Takes; decide

/-- Every parameter's byte at the two ends of its range, and one step outside it (R34). -/
theorem test_setup_clamps :
    setupAClamped [10, 0, 20, 0, 25, 0, 10] = false ∧ setupAClamped [9, 0, 20, 0, 25, 0, 10] = true ∧
      setupBClamped [25, 50, 0x01, 0x88, 30, 16, 0, 0] = false ∧ setupBClamped [26, 50, 0x01, 0x88, 30, 16, 0, 0] = true ∧
      (setupBValues [0, 51, 0xF0, 0x90, 31, 255, 1, 2] Setup.powerOn) =
        { Setup.powerOn with
          handoffLimit := 1000, bidWindow := 500, packWeight := 15, recircLimit := 1, mergeContinuity := 8,
          storageContinuity := 1, clearTime := 30000, wakeLimit := 8000, takesReturns := true, noticeMask := 0x0102#16 } := by
  decide

theorem witness_QueryCountsReports :
    (Waiting .query [3, 0, 0] calm ∧ byteAt [3, 0, 0] 0 = 3) ∧ Waiting .query [4, 0, 0] calm ∧ 4 ≤ byteAt [4, 0, 0] 0 := by
  unfold Waiting Takes; decide

/-- The masks 63 and 64, on the two sides of the clauses' edge. -/
theorem witness_ClearFaultsClears :
    (Waiting .clearFaults [63] calm ∧ (63#8).toNat / 64 = 0) ∧ Waiting .clearFaults [64] calm ∧ (64#8).toNat / 64 ≠ 0 := by
  unfold Waiting Takes; decide

/-- DOZE of an empty station without a shutter, behind an open one and behind a closed one, and of one with a bin. -/
theorem witness_DozeOrderParksTheCrane :
    let occupied := calm.onSeg .outLane fun g => { g with places := [⟨.carrying foreign, 2⟩] }
    (∀ s ∈ [noShutter calm, shutterIs .opened calm, shutterIs .closed calm], Waiting .doze [] s ∧ s.ctl.station = .active ∧
      (s.crane.pool = [] ∧ s.crane.state = .idle ∧ s.crane.carriage = .nothing) ∧
      (∀ l ∈ [Lane.outLane, .backLane], (s.seg l).places = [] ∧ (s.seg l).reservation = none ∧ (s.seg l).head = .idle ∧
        (s.pins.seg l).head = false ∧ (s.pins.seg l).middle = false ∧ (s.pins.seg l).tail = false) ∧
      (s.lanes.outStand = .empty ∧ s.pins.outStand = false) ∧ (s.lanes.inStand = .empty ∧ s.pins.inStand = false) ∧
      s.port.approach = .empty ∧ s.port.service = .empty ∧ s.pins.approach = false ∧ s.pins.service = false ∧
      s.fire.view = 0#8 ∧ s.fire.shutter ≠ some .clearing) ∧
      Waiting .doze [] occupied ∧ occupied.lanes.outSeg.places ≠ [] ∧ occupied.ctl.station = .active := by
  unfold Waiting Takes; decide

/-- DOZE with the crane asleep. -/
def dozing : State :=
  { noShutter calm with
    ctl := { calm.ctl with station := .doze }
    crane := { calm.crane with state := .asleep }
    lanes := { calm.lanes with outSeg := { running with cond := .asleep }, backSeg := { running with cond := .asleep } } }
def waking : State := flying .wake (crane .waking dozing)

theorem witness_WakeRuns_orders :
    let walled := shutterIs .closed { dozing with
      lanes := { calm.lanes with outSeg := { running with cond := .held }, backSeg := { running with cond := .held } } }
    let opened := shutterIs .opened dozing
    (∀ s ∈ [dozing, opened, walled], Waiting .wake [] s ∧ s.ctl.station = .doze ∧ s.crane.state = .asleep) ∧
      (∀ s ∈ [dozing, opened], (s.fire.shutter = none ∨ s.fire.shutter = some .opened) ∧
        s.lanes.outSeg.cond = .asleep ∧ s.lanes.backSeg.cond = .asleep) ∧
      (walled.fire.shutter = some .closed ∧ walled.lanes.outSeg.cond = .held ∧ walled.lanes.backSeg.cond = .held) ∧
      (Waiting .wake [] (crane .running dozing) ∧ (crane .running dozing).crane.state = .running) ∧
      (Waiting .wake [] waking ∧ waking.crane.state = .waking) ∧ Waiting .wake [] calm ∧ calm.ctl.station = .active := by
  unfold Waiting Takes; decide

/-- WOKEN and the wake limit with an empty pool, with one behind an open shutter, and with a RETRIEVE that can start. -/
theorem witness_WakeRuns_ends :
    let job := fetch .waiting .travelEmpty
    let called := jobs [job] (withBin (recd .stored) waking)
    (∀ s ∈ [waking, shutterIs .opened waking, called], s.ctl.station = .doze ∧ s.crane.state = .waking ∧
      s.crane.inFlight = some .wake ∧ s.crane.limit.isSome = true ∧ s.crane.restartRun = false) ∧
      (∀ j ∈ waking.crane.pool, j.state ≠ .waiting) ∧ called.crane.pool = [job] ∧ job.kind = .retrieve ∧
      job.state = .waiting ∧ called.crane.pos = some Position.mouth ∧ Position.mouth ≠ positionOf (job.bin % 2048) ∧
      job.stage = .travelEmpty ∧ called.fire.view = 0#8 ∧ (binAt (job.bin % 2048) called).state = .stored ∧
      called.lanes.outStand = .empty ∧ called.crane.load = .empty ∧ called.crane.carriage = .nothing ∧
      called.crane.continuity ≠ called.ctl.setup.storageContinuity := by decide

/-- A JOIN of S8 with the own T, with another T, and with compartment 8. -/
theorem witness_JoinUpdatesTheRoster :
    (∀ p ∈ ([[8, 12, 7, 0, 4], [8, 11, 7, 0, 4], [8, 12, 8, 0, 4]] : List (List Byte)),
      calm.ctl.station ≠ .strapFault ∧ isStation (frame 8 0 p).sender.toNat = true ∧ (frame 8 0 p).sender.toNat ≠ calm.num ∧
        (frame 8 0 p).dest = 0#5 ∧ p.length = 5 ∧ tableWf RosterEntry.cleared calm.ctl.roster = true ∧
        byteAt p 0 = (frame 8 0 p).sender.toNat ∧ byteAt p 4 ≤ 4) ∧ calm.top = 12 := by decide

/-- A JOIN of a JOINING station with slot 0 free, and with a FIRE in it that waits and one that is on the wire. -/
theorem witness_JoinUpdatesTheRoster_answers :
    let p : List Byte := [8, 12, 7, 0, 0]
    let empty := alarm 4#8 calm
    let waits := slot .s0 (newQueued (.fire 16#8) 0) empty
    let goes := slot .s0 (started (.fire 16#8)) empty
    (∀ s ∈ [empty, waits, goes], s.ctl.station = .active ∧ s.bus.offBus = false ∧ s.fire.view = 4#8 ∧
      isStation (frame 8 0 p).sender.toNat = true ∧ (frame 8 0 p).sender.toNat ≠ s.num ∧ (frame 8 0 p).dest = 0#5 ∧
      p.length = 5 ∧ tableWf RosterEntry.cleared s.ctl.roster = true ∧ byteAt p 0 = (frame 8 0 p).sender.toNat ∧
      byteAt p 2 ≤ 7 ∧ byteAt p 4 = 0) ∧
      empty.bus.slots.s0 = .free ∧ waits.bus.slots.s0 = .holds (newQueued (.fire 16#8) 0) ∧
      goes.bus.slots.s0 = .holds (started (.fire 16#8)) := by decide

/-! ### The Bin Table -/

theorem witness_BinLawIsKept :
    let s := withBin { recd .out with fill := 12, hold := 3, followOns := [⟨1, 3, .lend, 0⟩, ⟨2, 4, .lend, 0⟩, ⟨3, 5, .fill, 0⟩] }
      { calm with pending := [.startPoint] }
    BinLaw s ∧ step s = .next { s with pending := [] } :=
  ⟨by unfold BinLaw; decide, rfl⟩

/-- ENROL ADD of fills 15 and 16 at an ABSENT record and at a STORED one; ENROL REMOVE of a STORED record and of one with
a room hold. -/
theorem witness_EnrolAddsAndRemoves :
    let add : List Byte := [1, 73, 4, 15]
    let above : List Byte := [1, 73, 4, 16]
    let remove : List Byte := [2, 73, 4, 0]
    let stored := withBin (recd .stored) busy
    let held := withBin { recd .stored with hold := 1 } busy
    (Waiting .enrol add busy ∧ Waiting .enrol above busy ∧ busy.ctl.station = .active ∧
      tableWf BinRec.blank busy.bins = true ∧ idIsOwn busy (wordAt add 1) ∧ byteAt add 0 = 1 ∧ wordAt add 1 = bin ∧
      (binAt 260 busy).state = .absent ∧ busy.crane.state ≠ .idle) ∧
      (Waiting .enrol add stored ∧ (binAt 260 stored).state ≠ .absent ∧ tableWf BinRec.blank stored.bins = true) ∧
      (Waiting .enrol remove stored ∧ byteAt remove 0 = 2 ∧ (binAt 260 stored).state = .stored ∧
        (binAt 260 stored).hold = 0 ∧ (binAt 260 stored).followOns = [] ∧
        ∀ j ∈ stored.crane.pool, j.kind = .audit ∨ j.bin ≠ bin) ∧
      Waiting .enrol remove held ∧ (binAt 260 held).hold ≠ 0 := by
  unfold Waiting Takes idIsOwn; decide

/-- A bin bound for a port, and one bound home with and without a follow-on call, with a call for FILL not served, and
filled; at the fill that the delta just passes. -/
theorem witness_HomeVisitRewritesTheCarry_out :
    let served := { recd .out with fill := 12, hold := 3, call := some ⟨40, 3, .lend⟩, followOns := [⟨41, 4, .lend, 1⟩] }
    let unserved := { recd .out with hold := 3, call := some ⟨40, 3, .fill⟩ }
    (idIsOwn (withBin served calm) bin ∧ tableWf BinRec.blank (withBin served calm).bins = true ∧
      (binAt 260 (withBin served calm)).state = .out ∧ (toPort 3).kind = .port ∧
      homeward.kind = .home ∧ homeward.filled = false ∧ { homeward with filled := true, delta := 4 }.filled = true) ∧
      tableWf BinRec.blank (withBin unserved calm).bins = true ∧ (binAt 260 (withBin unserved calm)).state = .out ∧
      unserved.call = some ⟨40, 3, .fill⟩ ∧ unserved.followOns = [] := by
  unfold idIsOwn; decide

theorem witness_HomeVisitRewritesTheCarry_others :
    (∀ st ∈ [BinState.lifting, .storing, .stored, .lost],
      idIsOwn (withBin (recd st) calm) bin ∧ tableWf BinRec.blank (withBin (recd st) calm).bins = true ∧
        (binAt 260 (withBin (recd st) calm)).state = st ∧ (recd st).fill + (recd st).hold ≤ 15) ∧
      idIsOwn calm bin ∧ (binAt 260 calm).state = .absent ∧ (toPort 3).kind = .port ∧ (toPort 3).delta = 0 ∧
      (toPort 3).filled = false := by
  unfold idIsOwn; decide

/-- Hold set of 12 and of 13 units over a fill of 3; appends to a LOST record, of a pending port, to a list of three and
of two; follow-on remove of the oldest, the middle and the youngest of three, and of a tag that none holds. -/
theorem witness_HoldSetAndFollowOnAppend :
    let two := { recd .out with followOns := [⟨1, 4, .lend, 0⟩, ⟨2, 5, .lend, 0⟩] }
    let three := { two with followOns := two.followOns ++ [⟨3, 6, .lend, 0⟩] }
    (1 ≤ 12 ∧ tableWf BinRec.blank (withBin (recd .stored) calm).bins = true ∧
      (binAt 260 (withBin (recd .stored) calm)).state = .stored ∧ (recd .stored).hold = 0 ∧
      (recd .stored).fill + 12 ≤ 15 ∧ ¬ (recd .stored).fill + 13 ≤ 15) ∧
      ((recd .stored).hold = 0 ∧ tableWf BinRec.blank (withBin { recd .out with hold := 4 } calm).bins = true ∧
        0 < (binAt 260 (withBin { recd .out with hold := 4 } calm)).hold) ∧
      (recd .lost).state = .lost ∧ (∃ f ∈ two.followOns, f.port = 5) ∧ (∀ f ∈ three.followOns, f.port ≠ 3) ∧
      3 ≤ three.followOns.length ∧ two.followOns.length < 3 ∧ two.call = none ∧
      tableWf BinRec.blank (withBin three calm).bins = true ∧
      (∀ p ∈ [0, 1, 2], ∃ e ∈ three.followOns[p]?, e.tag = p + 1 ∧
        (binAt 1 (twoBins three calm)).followOns = three.followOns.take p ++ e :: three.followOns.drop (p + 1) ∧
        ∀ f ∈ three.followOns.take p, f.tag ≠ e.tag) ∧
      tableWf BinRec.blank (twoBins three calm).bins = true ∧
      (∀ k < 1, ∀ t ∈ [1, 2, 3], ∀ f ∈ (binAt k (twoBins three calm)).followOns, f.tag ≠ t) ∧
      ∀ e ∈ (twoBins three calm).bins, ∀ f ∈ e.2.followOns, f.tag ≠ 9 := by decide

/-- R66: of two entries with one tag in one list the older goes, and the later entries move up. -/
theorem test_follow_on_remove_takes_the_older :
    let l : List FollowOn := [⟨1, 4, .lend, 0⟩, ⟨7, 5, .lend, 0⟩, ⟨7, 6, .lend, 0⟩]
    let v := followOnRemove 7 (withBin { recd .out with followOns := l } calm)
    v.1 = .removed 260 ∧ (binAt 260 v.2).followOns = [⟨1, 4, .lend, 0⟩, ⟨7, 6, .lend, 0⟩] ∧
      (followOnRemove 8 v.2).1 = .notHeld := by decide

theorem witness_JamMarksAnOutBinLost :
    (∀ st ∈ [BinState.out, .stored],
      let s := withBin (recd st) calm
      let f := frame 8 0 [73, 4, 0]
      s.ctl.station ≠ .strapFault ∧ s.bus.offBus = false ∧ isStation f.sender.toNat = true ∧ f.sender.toNat ≠ s.num ∧
        f.dest = 0#5 ∧ f.payload.length = 3 ∧ tableWf BinRec.blank s.bins = true ∧ wordAt f.payload 0 = bin ∧
        idIsOwn s bin ∧ (binAt 260 s).state = st) := by
  unfold idIsOwn; decide

/-! ### Crane Jobs -/

/-- A CALL of bin 18,692 at port 10 for tag 40, and one with tag 4,096. -/
def callBytes : List Byte := [73, 4, 0, 40, 10, 1]

theorem witness_CallIsDecidedByTheRecord_refused :
    let wrong : List Byte := [73, 4, 16, 0, 10, 1]
    let lost := withBin (recd .lost) calm
    (Waiting .call wrong calm ∧ calm.ctl.station = .active ∧ tableWf BinRec.blank calm.bins = true ∧
      4095 < wordAt wrong 2) ∧
      (Waiting .call callBytes calm ∧ 1 ≤ wordAt callBytes 2 ∧ wordAt callBytes 2 ≤ 4095 ∧ byteAt callBytes 5 = 1 ∧
        isStation (byteAt callBytes 4) = true ∧ wordAt callBytes 0 = bin ∧ idIsOwn calm bin ∧
        (rosterOf 10 calm).port = true ∧ (binAt 260 calm).state = .absent) ∧
      Waiting .call callBytes lost ∧ (binAt 260 lost).state = .lost ∧ tableWf BinRec.blank lost.bins = true := by
  unfold Waiting Takes idIsOwn; decide

/-- The CALLs that R84 refuses: an invalid ID, an ID invalid here, another station's bin, a port station without a port. -/
theorem witness_CallIsDecidedByTheRecord_classes :
    let call := fun (hi lo port : Nat) => [byteOf hi, byteOf lo, 0, 40, byteOf port, 1]
    (∀ p ∈ [call 203 32 10, call 79 255 10, call 25 100 10, call 73 4 8], Waiting .call p calm ∧ wordAt p 2 = 40 ∧
      byteAt p 5 = 1 ∧ isStation (byteAt p 4) = true) ∧
      25 ≤ wordAt (call 203 32 10) 0 / 2048 ∧
      (wordAt (call 79 255 10) 0 / 2048 = calm.num ∧ ¬ idIsOwn calm (wordAt (call 79 255 10) 0)) ∧
      (wordAt (call 25 100 10) 0 / 2048 = 3 ∧ 3 ≠ calm.num) ∧
      idIsOwn calm (wordAt (call 73 4 8) 0) ∧ (rosterOf 8 calm).port = false := by
  unfold Waiting Takes idIsOwn; decide

/-- The follow-on rows of R85: the port of the call, of the RETRIEVE and of an entry; a list of three; a pool of 31. -/
theorem witness_CallIsDecidedByTheRecord_listed :
    let e := fun (port : Nat) => ({ tag := 1, port := port, purpose := .lend, urgency := 0 } : FollowOn)
    let byCall := withBin { recd .out with call := some ⟨7, 10, .lend⟩ } calm
    let byJob := jobs [fetch .waiting .travelEmpty] (withBin (recd .stored) busy)
    let byEntry := withBin { recd .lifting with followOns := [e 10] } calm
    let longList := withBin { recd .out with followOns := [e 1, e 2, e 3] } calm
    let crowded := jobs (List.replicate 31 { fetch .waiting .travelEmpty with bin := 18433 }) (withBin (recd .stored) busy)
    (∀ s ∈ [byCall, byJob, byEntry, longList, crowded], Waiting .call callBytes s ∧ s.ctl.station = .active ∧
      tableWf BinRec.blank s.bins = true ∧ (rosterOf 10 s).port = true) ∧
      ((binAt 260 byCall).state = .out ∧ (binAt 260 byCall).call.map Call.port = some 10) ∧
      ((binAt 260 byJob).state = .stored ∧ (retrieveFor bin byJob).map Job.port = some 10) ∧
      ((binAt 260 byEntry).state = .lifting ∧ e 10 ∈ (binAt 260 byEntry).followOns) ∧
      ((binAt 260 longList).state = .out ∧ 3 ≤ (binAt 260 longList).followOns.length ∧ (binAt 260 longList).call = none ∧
        retrieveFor bin longList = none ∧ ∀ f ∈ (binAt 260 longList).followOns, f.port ≠ 10) ∧
      (binAt 260 crowded).state = .stored ∧ retrieveFor bin crowded = none ∧ 31 ≤ nonStoreCount crowded.crane.pool := by
  unfold Waiting Takes; decide

/-- A CALL in DOZE with the crane ASLEEP and with the park under way. -/
theorem witness_CallIsDecidedByTheRecord_dozing :
    ∀ x ∈ [CraneState.asleep, .running], let s := withBin (recd .stored) (crane x dozing)
      Waiting .call callBytes s ∧ s.ctl.station = .doze ∧ s.crane.state = x ∧ (binAt 260 s).state = .stored ∧
        retrieveFor bin s = none ∧ s.crane.pool = [] ∧ s.fire.shutter = none ∧ (rosterOf 10 s).port = true ∧
        RingHoldLaw s := by
  unfold Waiting Takes RingHoldLaw; decide

/-- A CALL at an IDLE crane: withheld by an alarm and in RECOVERY, beside a job that is eligible, and starting beside a
STORE that is not. -/
theorem witness_CallIsDecidedByTheRecord_idle :
    let other := { fetch .waiting .travelEmpty with bin := 18433, tag := 7 }
    let two := fun (j : Job) => jobs [j] ((withBin (recd .stored) calm).onBins fun _ => [(1, recd .stored), (260, recd .stored)])
    let withheld := alarm 1#8 (two other)
    let recovering := station .recovery (two other)
    let beside := two (storeJob 18433)
    (∀ s ∈ [withheld, recovering, two other, beside], Waiting .call callBytes s ∧ (binAt 260 s).state = .stored ∧
      retrieveFor bin s = none ∧ nonStoreCount s.crane.pool < 31 ∧ s.crane.pool.length < 32 ∧ s.crane.state = .idle ∧
      (rosterOf 10 s).port = true ∧ tableWf BinRec.blank s.bins = true) ∧
      (∀ j ∈ withheld.crane.pool ++ [retrieveJob bin 40 10 .lend 0], eligible withheld j = false) ∧
      recovering.ctl.station = .recovery ∧ eligible (two other) other = true ∧
      (∀ j ∈ beside.crane.pool, j.state = .waiting ∧ eligible beside j = false) ∧ beside.ctl.station = .active ∧
      beside.fire.view = 0#8 ∧ beside.lanes.outStand = .empty ∧ beside.crane.load = .empty ∧
      beside.crane.carriage = .nothing ∧ beside.crane.continuity ≠ beside.ctl.setup.storageContinuity ∧
      beside.crane.pos = some Position.mouth ∧ Position.mouth ≠ positionOf 260 := by
  unfold Waiting Takes; decide

/-- A CALL that waits behind 30 other jobs, one that starts at once, and one that joins a list of two. -/
theorem witness_CallIsDecidedByTheRecord_taken :
    let pool := List.replicate 30 { fetch .waiting .travelEmpty with bin := 18433, tag := 7 }
    let waits := jobs pool (withBin (recd .storing) busy)
    let starts := withBin (recd .stored) calm
    let joins := withBin { recd .out with followOns := [⟨1, 4, .lend, 0⟩, ⟨2, 5, .lend, 0⟩] } calm
    (Waiting .call callBytes waits ∧ (binAt 260 waits).state = .storing ∧ retrieveFor bin waits = none ∧
      nonStoreCount waits.crane.pool < 31 ∧ waits.crane.pool.length < 32 ∧ waits.crane.state ≠ .idle) ∧
      (Waiting .call callBytes starts ∧ (binAt 260 starts).state = .stored ∧ starts.crane.pool = [] ∧
        retrieveFor bin starts = none ∧ starts.ctl.station = .active ∧ starts.crane.state = .idle ∧ starts.fire.view = 0#8 ∧ starts.lanes.outStand = .empty ∧ starts.crane.load = .empty ∧
        starts.crane.carriage = .nothing ∧ starts.crane.continuity ≠ starts.ctl.setup.storageContinuity ∧
        starts.crane.pos = some Position.mouth ∧ Position.mouth ≠ positionOf 260) ∧
      Waiting .call callBytes joins ∧ (binAt 260 joins).state = .out ∧ retrieveFor bin joins = none ∧
      (recd .out).call = none ∧ (∀ f ∈ (binAt 260 joins).followOns, f.port ≠ 10) ∧
      (binAt 260 joins).followOns.length < 3 := by
  unfold Waiting Takes; decide

/-- The CANCEL of tag 4,096, of a tag held nowhere, and of a WAITING job. -/
theorem witness_CancelActsByWhatItFinds_waiting :
    let wrong : List Byte := [16, 0]
    let tag : List Byte := [0, 40]
    let waits := jobs [fetch .waiting .travelEmpty] (withBin (recd .stored) busy)
    (Waiting .cancel wrong calm ∧ 4095 < wordAt wrong 0) ∧
      (Waiting .cancel tag calm ∧ calm.ctl.station = .active ∧ tableWf BinRec.blank calm.bins = true ∧ wordAt tag 0 = 40 ∧
        calm.crane.pool = [] ∧ calm.bins = []) ∧
      Waiting .cancel tag waits ∧ tableWf BinRec.blank waits.bins = true ∧
      waits.crane.pool.find? (fun k => k.tag == 40) = some (fetch .waiting .travelEmpty) ∧
      waits.crane.restoreWanted = false ∧ waits.crane.storeWanted = false ∧ waits.crane.state ≠ .idle := by
  unfold Waiting Takes; decide

def fetching (g : Stage) (d : DriveCmd) (st : BinState) : State :=
  flying d (jobs [fetch .active g] ((withBin { recd st with call := some ⟨40, 10, .lend⟩ } busy).setOutStand .reserved))

/-- The CANCEL of a job on its way to the bin, on its way with it, and at the stand. -/
theorem witness_CancelActsByWhatItFinds_current :
    let tag : List Byte := [0, 40]
    let empty := fetching .travelEmpty (.move ⟨17, 4⟩) .stored
    let loaded := fetching .travelLoaded (.move Position.mouth) .lifting
    let placing := jobs [{ fetch .active .forkPlace with sent := true }] (fetching .forkPlace (.fork 0 .place) .lifting)
    (∀ s ∈ [empty, loaded], Waiting .cancel tag s ∧ tableWf BinRec.blank s.bins = true ∧ s.crane.restoreWanted = false ∧
      s.crane.storeWanted = false ∧ s.crane.state ≠ .idle ∧ s.lanes.outStand = .reserved) ∧
      (empty.crane.pool.find? (fun k => k.tag == 40) = some (fetch .active .travelEmpty) ∧
        empty.crane.inFlight = some (.move ⟨17, 4⟩)) ∧
      (loaded.crane.pool.find? (fun k => k.tag == 40) = some (fetch .active .travelLoaded) ∧
        loaded.crane.inFlight = some (.move Position.mouth) ∧ (fetch .active .travelLoaded).purpose ≠ .fill ∧
        (∀ k ∈ loaded.crane.pool, k.state ≠ .waiting → k = fetch .active .travelLoaded) ∧
        (binAt 260 loaded).state = .lifting ∧ (binAt 260 loaded).call.map Call.tag = some 40) ∧
      Waiting .cancel tag placing ∧
      placing.crane.pool.find? (fun k => k.tag == 40) = some { fetch .active .forkPlace with sent := true } := by
  unfold Waiting Takes; decide

/-- The CANCEL of a pick under way, of a HALTED and a FROZEN job before and after the lift. -/
theorem witness_CancelActsByWhatItFinds_stages :
    let tag : List Byte := [0, 40]
    let picking := jobs [{ fetch .active .forkPick with sent := true }] (fetching .forkPick (.fork 0 .pick) .lifting)
    let rests := fun (c : CraneState) (st : JobState) (g : Stage) =>
      crane c (jobs [fetch st g] ((withBin { recd .lifting with call := some ⟨40, 10, .lend⟩ } calm).setOutStand .reserved))
    (∀ s ∈ [picking, rests .halted .halted .travelEmpty, rests .faulted .frozen .travelEmpty,
      rests .halted .halted .travelLoaded, rests .faulted .frozen .travelLoaded],
      Waiting .cancel tag s ∧ s.ctl.station ≠ .joining ∧ tableWf BinRec.blank s.bins = true ∧
        s.crane.restoreWanted = false ∧ s.crane.storeWanted = false ∧ s.crane.state ≠ .idle ∧
        (binAt 260 s).state = .lifting ∧ (binAt 260 s).call.map Call.tag = some 40 ∧
        (∀ j ∈ s.crane.pool, j.kind = .retrieve ∧ j.state ≠ .waiting ∧ j.tag = 40) ∧ s.crane.pool.length = 1) ∧
      picking.crane.inFlight = some (.fork 0 .pick) ∧ (rests .halted .halted .travelEmpty).crane.inFlight = none := by
  unfold Waiting Takes; decide

/-- The CANCEL of the second follow-on entry of bin 1, and of a current call of an OUT, a STORING and a LOST bin. -/
theorem witness_CancelActsByWhatItFinds_records :
    let tag : List Byte := [0, 40]
    let inList := twoBins { recd .out with followOns := [⟨41, 4, .lend, 1⟩, ⟨40, 3, .fill, 1⟩] } calm
    (Waiting .cancel tag inList ∧ tableWf BinRec.blank inList.bins = true ∧ inList.crane.pool = [] ∧
      (binAt 1 inList).followOns[1]? = some ⟨40, 3, .fill, 1⟩ ∧
      (∀ g ∈ (binAt 1 inList).followOns.take 1, g.tag ≠ 40) ∧ ∀ g ∈ (binAt 0 inList).followOns, g.tag ≠ 40) ∧
      ∀ st ∈ [BinState.out, .storing, .lost], let s := twoBins { recd st with call := some ⟨40, 3, .lend⟩ } calm
        Waiting .cancel tag s ∧ tableWf BinRec.blank s.bins = true ∧ s.crane.pool = [] ∧
          (∀ e ∈ s.bins, ∀ f ∈ e.2.followOns, f.tag ≠ 40) ∧ (binAt 1 s).call.map Call.tag = some 40 ∧
          (binAt 1 s).state = st ∧ (binAt 0 s).call.map Call.tag ≠ some 40 := by
  unfold Waiting Takes; decide

/-- HALT in every case it names; RESUME of a halted job, of a crane halted without one, of a halt not ended and of an
IDLE crane. -/
theorem witness_HaltStopsAndResumeGoesOn_orders :
    let moving := fetching .travelEmpty (.move ⟨17, 4⟩) .stored
    let picking := flying (.fork 0 .pick) busy
    let halted := jobs [fetch .halted .travelEmpty] (crane .halted calm)
    (∀ s ∈ [calm, moving, picking, crane .halting calm, crane .halted calm, crane .faulted calm, flying .sleep busy],
      Waiting .halt [] s ∧ s.ctl.station = .active) ∧
      (currentJob moving = some (fetch .active .travelEmpty) ∧ moving.crane.inFlight = some (.move ⟨17, 4⟩)) ∧
      (Waiting .resume [] halted ∧ halted.crane.state = .halted ∧ currentJob halted = some (fetch .halted .travelEmpty) ∧
        travelTarget (fetch .halted .travelEmpty) = some ⟨17, 4⟩ ∧ halted.crane.pos = some Position.mouth) ∧
      Waiting .resume [] (crane .halted calm) ∧ (crane .halted calm).crane.pool = [] ∧
      Waiting .resume [] (crane .halting calm) ∧ Waiting .resume [] calm := by
  unfold Waiting Takes; decide

theorem witness_HaltStopsAndResumeGoesOn_stopped :
    (∀ x ∈ [CraneState.halting, .running, .stopped], let s := flying .stop (crane x calm)
      s.ctl.station ≠ .strapFault ∧ s.crane.inFlight = some .stop ∧ s.crane.state = x ∧ s.crane.pool = []) ∧
      let s := jobs [fetch .active .travelEmpty] (flying .stop (crane .halting calm))
      s.crane.pool = [fetch .active .travelEmpty] ∧ (fetch .active .travelEmpty).state = .active := by decide

/-- A FORK that ends under a HALT: a pick, a place, and the probe of index 260 with one of two locations left; HALT with a
cancel's STOP in flight and in the doze park; the pick of a job converted, and the STOPPED of one. -/
theorem witness_HaltStopsAndResumeGoesOn_forks :
    let audit := { auditJob 260 2 with state := .active, stage := .forkProbe }
    let rack := { fetch .active .travelLoaded with tag := 0, kind := .restore .rack }
    let halting := fun (j : Job) (op : ForkOp) => crane .halting (flying (.fork 0 op) (jobs [j] (withBin (recd .stored) calm)))
    let turned := (flying (.fork 0 .pick) (jobs [rack] busy)).onCrane fun k => { k with pos := some (positionOf 260) }
    (∀ s ∈ [halting (fetch .active .forkPick) .pick, halting (fetch .active .forkPlace) .place, halting audit .probe],
      s.ctl.station ≠ .strapFault ∧ s.crane.state = .halting ∧ s.crane.restoreWanted = false ∧ s.crane.storeWanted = false) ∧
      (audit.kind = .audit ∧ 1 < audit.remaining ∧ audit.nextIndex = 260 ∧
        (binAt 260 (halting audit .probe)).state = .stored ∧ validIndex calm.ctl.straps 261 = true) ∧
      (Waiting .halt [] (flying .stop busy) ∧ Waiting .halt [] (flying (.move Position.mouth) busy) ∧
        busy.crane.state = .running ∧ currentJob (flying (.move Position.mouth) busy) = none) ∧
      (turned.crane.state = .running ∧ turned.crane.pool = [rack] ∧ rack.state = .active ∧
        turned.crane.pos = some (positionOf (rack.bin % 2048)) ∧ turned.crane.inFlight = some (.fork 0 .pick)) ∧
      travelTarget rack = some ⟨17, 4⟩ ∧ (⟨17, 4⟩ : Position) ≠ ⟨0, 0⟩ := by
  unfold Waiting Takes; decide

/-- HALT and RESUME in DOZE: with the doze park's MOVE and SLEEP in flight, ASLEEP, WAKING, and halted during the park. -/
theorem witness_HaltStopsAndResumeGoesOn_dozing :
    let parks := flying (.move Position.mouth) (crane .running dozing)
    (∀ s ∈ [parks, flying .sleep (crane .running dozing), dozing, waking], Waiting .halt [] s ∧ s.ctl.station = .doze) ∧
      (parks.crane.state = .running ∧ currentJob parks = none ∧ parks.crane.inFlight = some (.move Position.mouth)) ∧
      (flying .sleep (crane .running dozing)).crane.inFlight = some .sleep ∧ dozing.crane.state = .asleep ∧
      waking.crane.state = .waking ∧ Waiting .resume [] (crane .halted dozing) ∧ (crane .halted dozing).crane.pool = [] := by
  unfold Waiting Takes; decide

/-- The four turns of a RETRIEVE, the last with its call. -/
theorem witness_DoneCarriesAJobThrough_retrieve :
    let toBin := fetching .travelEmpty (.move ⟨17, 4⟩) .stored
    let picks := (fetching .forkPick (.fork 0 .pick) .lifting).onCrane fun c => { c with pos := some ⟨17, 4⟩ }
    let toMouth := fetching .travelLoaded (.move Position.mouth) .lifting
    let places := fetching .forkPlace (.fork 0 .place) .lifting
    (∀ x ∈ [(toBin, Stage.travelEmpty), (picks, .forkPick), (toMouth, .travelLoaded), (places, .forkPlace)],
      x.1.ctl.station = .active ∧ x.1.crane.state = .running ∧ currentJob x.1 = some (fetch .active x.2) ∧
        tableWf BinRec.blank x.1.bins = true) ∧
      (toBin.crane.inFlight = some (.move ⟨17, 4⟩) ∧ (binAt 260 toBin).state = .stored) ∧
      (picks.crane.inFlight = some (.fork 0 .pick) ∧ picks.crane.pos = some ⟨17, 4⟩ ∧
        (⟨17, 4⟩ : Position) ≠ Position.mouth) ∧
      toMouth.crane.inFlight = some (.move Position.mouth) ∧
      places.crane.inFlight = some (.fork 0 .place) ∧ places.crane.pool = [fetch .active .forkPlace] ∧
      places.crane.restoreWanted = false ∧ places.crane.storeWanted = false ∧ (binAt 260 places).state = .lifting ∧
      (binAt 260 places).call = some ⟨40, 10, .lend⟩ := by decide

def storing : Job := { storeJob bin with state := .active, stage := .forkPlace, sent := true }

theorem witness_DoneCarriesAJobThrough_store :
    let s := flying (.fork 0 .place) (jobs [storing] (withBin (recd .storing) busy))
    s.ctl.station = .active ∧ s.crane.state = .running ∧ s.crane.pool = [storing] ∧ storing.state = .active ∧
      storing.stage = .forkPlace ∧ s.crane.inFlight = some (.fork 0 .place) ∧ s.crane.restoreWanted = false ∧
      s.crane.storeWanted = false ∧ tableWf BinRec.blank s.bins = true ∧ storing.kind = .store ∧
      storing.bin / 2048 = s.num ∧ (binAt 260 s).state = .storing ∧ (binAt 260 s).followOns = [] := by decide

theorem witness_DriveFaultFreezesTheCrane :
    let moving := fetching .travelEmpty (.move ⟨17, 4⟩) .stored
    (crane .faulted calm).ctl.station = .active ∧ (crane .faulted calm).crane.state = .faulted ∧
      moving.ctl.station = .active ∧ moving.crane.state ≠ .faulted ∧ (∀ j ∈ moving.crane.pool, j.purpose ≠ .fill) ∧
      moving.crane.limit.isSome = true ∧ moving.crane.inFlight = some (.move ⟨17, 4⟩) ∧
      ReportKind.woken ∉ moving.crane.stale := by decide

/-- A fault with a FILL job waiting, and one on its way to its bin with the outbound stand reserved. -/
theorem witness_DriveFaultFreezesTheCrane_fill :
    let waits := jobs [fetch .active .travelLoaded, { fillJob .waiting with bin := 18693 }]
      (withBin { recd .lifting with hold := 9 } (flying (.move Position.mouth) busy))
    let goes := flying (.move ⟨17, 4⟩) (jobs [fillJob .active] ((withBin { recd .stored with hold := 9 } busy).setOutStand
      .reserved))
    (∀ s ∈ [waits, goes], s.ctl.station = .active ∧ s.crane.state ≠ .faulted ∧ s.crane.restoreWanted = false ∧
      s.crane.storeWanted = false ∧ tableWf BinRec.blank s.bins = true ∧ s.crane.limit.isSome = true ∧
      s.crane.inFlight ≠ none ∧ s.crane.inFlight ≠ some .wake) ∧
      (fillJob .active).kind = .retrieve ∧ (fillJob .active).purpose = .fill ∧ (fillJob .active).stage = .travelEmpty ∧
      goes.lanes.outStand = .reserved := by decide

/-- A fault in DOZE, at the wake-up and in the doze park, without an alarm and with one. -/
theorem witness_DriveFaultFreezesTheCrane_dozing :
    let parks := flying (.move Position.mouth) (crane .running dozing)
    (∀ s ∈ [waking, parks, alarm 4#8 waking], s.ctl.station = .doze ∧ s.crane.state ≠ .faulted ∧
      (∀ j ∈ s.crane.pool, j.purpose ≠ .fill) ∧ s.crane.limit.isSome = true ∧ s.crane.inFlight ≠ none ∧
      s.fire.listen = none ∧ s.fire.shutter = none) ∧
      waking.crane.inFlight = some .wake ∧ waking.fire.view = 0#8 ∧ (alarm 4#8 waking).fire.view ≠ 0#8 ∧
      parks.crane.inFlight = some (.move Position.mouth) ∧
      (let s := jobs [fillJob .waiting] (withBin { recd .stored with hold := 9 } waking);
        s.ctl.station = .doze ∧ s.crane.restoreWanted = false ∧ s.crane.storeWanted = false ∧ s.crane.state ≠ .faulted ∧
          tableWf BinRec.blank s.bins = true ∧ (fillJob .waiting).purpose = .fill) := by decide

/-- Every count at its limit, and a FIRE in slot 0. -/
theorem witness_CapacitiesAreKept :
    let seg := { running with merge := 8 }
    let s := { failing 16 (waitingNotices 8 (full 8)) with
      lanes := { calm.lanes with outSeg := seg, backSeg := seg }
      crane := { calm.crane with continuity := 8 }
      est := { time := 4294967295 } }
    WithinCapacity { s with pending := [.startPoint] } ∧ step { s with pending := [.startPoint] } = .next s :=
  ⟨by unfold WithinCapacity; decide, rfl⟩

theorem witness_CapacitiesAreKept_slot :
    let s := slot .s0 (newQueued (.fire 16#8) 0) calm
    SlotLaw { s with pending := [.fireLineReleased] } ∧ step { s with pending := [.fireLineReleased] } = .next s := by
  refine ⟨⟨by decide, ?_⟩, rfl⟩
  intro q h
  cases h
  exact ⟨_, rfl⟩

/-! ### Estimates, Routes and Dispatch -/

/-- The parameters of R34 at their upper ends, positions at the far corner; a fill that just fits and one that does not. -/
theorem witness_EstimatesOfTimeAndBid :
    let u : Setup := { Setup.powerOn with hPitch := 255, hRamp := 2550, vPitch := 255, vRamp := 2550, settle := 2550 }
    let far : Position := ⟨64, 15⟩
    (u.hPitch ≤ 255 ∧ u.vPitch ≤ 255 ∧ u.hRamp ≤ 2550 ∧ u.vRamp ≤ 2550 ∧ u.settle ≤ 2550 ∧ far.column ≤ 64 ∧
      far.level ≤ 15 ∧ Position.mouth ≠ far) ∧ 12 + 3 ≤ 15 ∧ 15 < 12 + 4 := by decide

theorem witness_EstimatorRangeLaw : bidValue Setup.powerOn [] 12 9 260 12 3 10 ≠ none := by decide

/-- Destinations 0, 1, T and T + 1 at station T. -/
theorem witness_EntryLaneIsTheShorterWay :
    2 ≤ 12 ∧ 1 ≤ 12 ∧ 12 ≤ 12 ∧ 0 = 0 ∧ 12 < 13 ∧ ∀ d ∈ [1, 12], 1 ≤ d ∧ d ≤ 12 := by decide

theorem witness_DispatchStartsTheBestJob :
    let s := jobs [fetch .waiting .travelEmpty, storeJob bin, restoreJob bin,
      { restoreJob bin with kind := .restore .rack }, auditJob 0 1] (withBin (recd .stored) calm)
    s.crane.state = .idle ∧ dispatches s = true ∧ (∃ j ∈ s.crane.pool, eligible s j = true) ∧
      (∀ j ∈ calm.crane.pool, eligible calm j = false) ∧ (startJob 0 s).crane.state ≠ .idle ∧
      s.crane.pool.map Job.kind = [.retrieve, .store, .restore .outStand, .restore .rack, .audit] ∧
      ∀ j ∈ s.crane.pool, j.state = .waiting := by decide

/-- A RETRIEVE with a STORE WAITING and one without, at counts 7 and 8; an inbound stand that can be emptied. -/
theorem witness_DispatchStartsTheBestJob_continuity :
    let both := jobs [fetch .waiting .travelEmpty, storeJob bin] calm
    let alone := jobs [fetch .waiting .travelEmpty, auditJob 0 1] calm
    (∃ k ∈ both.crane.pool, k.kind = .store ∧ k.state = .waiting) ∧
      (∀ k ∈ alone.crane.pool, k.kind = .store → k.state ≠ .waiting) ∧
      both.crane.pool[0]? = some (fetch .waiting .travelEmpty) ∧ both.crane.pool[1]? = some (storeJob bin) ∧
      alone.crane.pool[1]? = some (auditJob 0 1) ∧ (emptyInStand (calm.setInStand (.holding homeward))).lanes.inStand = .empty := by
  decide

/-! ### The Ring -/

def places (l : Lane) (ps : List PlaceRec) (s : State) : State := s.onSeg l fun g => { g with places := ps }
def head (l : Lane) (h : HeadState) (s : State) : State := s.onSeg l fun g => { g with head := h, headLimit := some 6000 }
def reserved (l : Lane) (r : Reservation) (s : State) : State :=
  s.onSeg l fun g => { g with reservation := some r, tailLimit := some 6000 }

/-- A bin of S5 at the head of the out-lane segment. -/
def atHead (c : Carry) : State := places .outLane [⟨.carrying c, 1⟩] busy
def passing : List Byte := passBytes .outLane foreign

/-- A PASS from S10 with the merge counter at 3 and at 4, one from S8 and one to a sleeping station. -/
theorem witness_PassIsTakenOrHeld :
    (∀ x ∈ [(10, 3, calm), (10, 4, calm), (8, 0, calm), (10, 0, dozing)],
      let s := x.2.2.onSeg .outLane fun g => { g with merge := x.2.1 }
      let f := frame x.1 9 passing
      s.ctl.station ≠ .strapFault ∧ s.bus.offBus = false ∧ isStation f.sender.toNat = true ∧ f.sender.toNat ≠ s.num ∧
        isStation s.num = true ∧ f.dest.toNat = s.num ∧ f.payload.length = 8) ∧
      laneOf (byteAt passing 5) = .outLane ∧ calm.upstream .outLane = some 10 ∧ calm.ctl.station = .active ∧
      running.cond = .running ∧ running.head ≠ .jammed ∧ running.reservation = none ∧ running.places.length < 3 ∧
      3 < calm.ctl.setup.mergeContinuity ∧ ¬ 4 < calm.ctl.setup.mergeContinuity ∧ dozing.ctl.station = .doze ∧
      dozing.crane.state = .asleep := by decide

def deferred : State := headSeen .outLane ((atHead foreign).onSeg .outLane fun g => { g with head := .deferred, retry := some 500 })

theorem witness_DeferredHeadOffersAgain :
    ((deferred.seg .outLane).head = .deferred ∧ (deferred.seg .outLane).cond = .running ∧
      (deferred.seg .outLane).places.head? = some ⟨.carrying foreign, 1⟩ ∧ (deferred.pins.seg .outLane).head = true ∧
      deferred.downstream .outLane = some 8 ∧ mayOffer 8 deferred = true ∧ 1 ≤ foreign.dest ∧ foreign.dest ≤ deferred.top ∧
      foreign.dest ≠ deferred.num ∧ deferred.bus.slots.freeSlot = some .s1 ∧ (deferred.seg .outLane).retry.isSome = true) ∧
      AddressedHere deferred (frame 8 9 [0]) 1 ∧ (frame 8 9 [0]).sender.toNat = 8 ∧
      laneOf (byteAt [0] 0) = .outLane ∧
      AddressedHere deferred (frame 10 9 [0]) 1 ∧ deferred.downstream .outLane ≠ some 10 ∧
      AddressedHere calm (frame 8 9 [0]) 1 ∧ (calm.seg .outLane).head ≠ .deferred := by
  unfold AddressedHere; decide

/-- The outcome of a PASS, and LANDED frames for a MOVING head, from its neighbour and from another station. -/
theorem witness_HandoffAtTheSender :
    let f : Frame := .pass .outLane 8 foreign
    let s := slot .s1 (started f) (head .outLane .offering (atHead foreign))
    let landed : List Byte := [40, 7, 0]
    let m := head .outLane .moving (atHead foreign)
    (s.bus.slots.started = some .s1 ∧ s.bus.slots.get .s1 = .holds (started f) ∧ (started f).errored = false ∧
      (s.seg .outLane).head = .offering ∧ (s.seg .outLane).places = [⟨.carrying foreign, 1⟩] ∧
      s.downstream .outLane = some 8 ∧ tableWf RosterEntry.cleared s.ctl.roster = true) ∧
      (AddressedHere m (frame 8 9 landed) 3 ∧ laneOf (byteAt landed 2) = .outLane ∧ m.downstream .outLane = some 8 ∧
        (m.seg .outLane).head = .moving ∧ (m.seg .outLane).places = [⟨.carrying foreign, 1⟩] ∧
        foreign.bin = wordAt landed 0) ∧
      AddressedHere m (frame 10 9 landed) 3 ∧ m.downstream .outLane ≠ some 10 := by
  unfold AddressedHere; decide

/-- A PASS that ends NONE: with the divert target still taken, with APPROACH free and with the inbound stand free. -/
theorem witness_HandoffAtTheSender_none :
    let sent := fun (c : Carry) => let f : Frame := .pass .outLane 8 c
      headSeen .outLane (slot .s1 (started f) (head .outLane .offering (atHead c)))
    (∀ c ∈ [toPort 9, homeward], let s := sent c
      s.downstream .outLane = some 8 ∧ (s.seg .outLane).retry = none ∧ 1 ≤ c.dest ∧ c.dest ≤ s.top ∧ c.dest = s.num ∧
        (s.pins.seg .outLane).head = true ∧ (s.seg .outLane).cond = .running ∧ (s.seg .outLane).head = .offering) ∧
      ((toPort 9).kind = .port ∧ calm.ctl.straps.port = true ∧ (sent (toPort 9)).port.approach = .empty) ∧
      (homeward.kind = .home ∧ (sent homeward).lanes.inStand = .empty) ∧
      ((sent homeward).setInStand .incoming).lanes.inStand ≠ .empty := by decide

/-- A bin that wanted a divert here, its call kept and its call abandoned by the offer. -/
theorem witness_HandoffAtTheSender_recirculates :
    ∀ c ∈ [{ toPort 9 with recirc := 1 }, { toPort 9 with dest := 9, kind := .home, tag := 0, purpose := .noPurpose, recirc := 7 }],
      let f : Frame := .pass .outLane 8 c
      let s := slot .s1 (started f) (head .outLane .offering (atHead (toPort 9)))
      s.bus.slots.started = some .s1 ∧ s.bus.slots.get .s1 = .holds (started f) ∧
        (s.seg .outLane).places = [⟨.carrying (toPort 9), 1⟩] ∧ (toPort 9).dest = s.num ∧ (toPort 9).kind = .port ∧
        s.bus.claims = [] ∧ s.ctl.notices = [] ∧ s.bus.rx = [] ∧ SlotId.s1 ≠ .s0 ∧
        s.downstream .outLane = some 8 := by decide

/-- The first offer of a ready head: a bin for elsewhere; a HOME bin with the stand taken; PORT bins at the recirculation
limit and past it; an absent neighbour. A bin that follows a MOVING head. -/
theorem witness_ReadyHeadActs_offers :
    let at_ := fun (c : Carry) => (atHead c).setInStand .incoming |>.setApproach .claimed
    let gone := (atHead foreign).onCtl fun c => { c with roster := [] }
    let follow := head .outLane .moving (places .outLane [⟨.carrying foreign, 1⟩, ⟨.stray, 2⟩] busy)
    (∀ s ∈ [at_ foreign, at_ homeward, at_ { toPort 9 with recirc := 5 }, at_ { toPort 9 with recirc := 6 }, gone],
      s.ctl.station ≠ .strapFault ∧ (s.seg .outLane).cond = .running ∧ (s.seg .outLane).head = .idle ∧
        (s.seg .outLane).retry = none ∧ s.downstream .outLane = some 8 ∧ s.bus.slots.freeSlot = some .s1) ∧
      (∀ c ∈ [foreign, homeward, toPort 9], 1 ≤ c.dest ∧ c.dest ≤ calm.top) ∧
      mayOffer 8 gone = false ∧ mayOffer 8 (at_ foreign) = true ∧ foreign.dest ≠ calm.num ∧ homeward.dest = calm.num ∧
      (at_ homeward).lanes.inStand ≠ .empty ∧ (at_ (toPort 9)).port.approach ≠ .empty ∧ (toPort 9).dest = calm.num ∧
      5 + 1 ≤ calm.ctl.setup.recircLimit ∧ calm.ctl.setup.recircLimit < 6 + 1 ∧
      (follow.seg .outLane).places = [⟨.carrying foreign, 1⟩, ⟨.stray, 2⟩] ∧ (follow.seg .outLane).head = .moving ∧
      (follow.seg .outLane).cond = .running ∧ (follow.pins.seg .outLane).head = false := by decide

/-- Bins for this station, home and port; destinations 0 and T + 1; a stray. -/
theorem witness_ReadyHeadActs_here :
    (∀ c ∈ [homeward, toPort 9, toPort 0, toPort 13],
      (atHead c).ctl.station ≠ .strapFault ∧ ((atHead c).seg .outLane).cond = .running ∧
        ((atHead c).seg .outLane).head = .idle ∧ ((atHead c).seg .outLane).retry = none ∧
        ((atHead c).seg .outLane).places = [⟨.carrying c, 1⟩]) ∧
      homeward.dest = busy.num ∧ homeward.kind = .home ∧ (toPort 9).dest = busy.num ∧ (toPort 9).kind = .port ∧
      busy.top < 13 ∧ 1 ≤ busy.num ∧ busy.num ≤ busy.top ∧ busy.lanes.inStand = .empty ∧ busy.ctl.straps.port = true ∧
      busy.port.approach = .empty ∧
      ((places .outLane [⟨.stray, 1⟩] busy).seg .outLane).places = [⟨.stray, 1⟩] := by decide

/-- The back-lane head of S12 turns into its own out-lane, with the merge counter at 3 and at 4. -/
theorem witness_ReadyHeadActs_turn :
    ∀ m ∈ [3, 4],
      let s := (places .backLane [⟨.carrying foreign, 1⟩] (calm.onCtl fun c =>
        { c with straps := { c.straps with number := 12#5 } })).onSeg .outLane fun g => { g with merge := m }
      s.ctl.station ≠ .strapFault ∧ s.bus.offBus = false ∧ (s.seg .backLane).cond = .running ∧
        (s.seg .backLane).head = .idle ∧ (s.seg .backLane).retry = none ∧
        (s.seg .backLane).places = [⟨.carrying foreign, 1⟩] ∧ s.downstream .backLane = none ∧ 1 ≤ foreign.dest ∧
        foreign.dest ≤ s.top ∧ foreign.dest ≠ s.num ∧ takesThrough (Lane.other .backLane) s = decide (m < 4) := by decide

/-- The middle sensor: a record already there, one upstream, one upstream of a bin still listed there, none, and none at a
sleeping station. -/
theorem witness_SegmentSensorsAreTaken_middle :
    placeTaken 2 ((places .outLane [⟨.stray, 2⟩] calm).seg .outLane).places = true ∧
      (let s := places .outLane [⟨.stray, 3⟩] calm;
        (s.seg .outLane).places = [⟨.stray, 3⟩] ∧ (s.seg .outLane).cond = .running ∧ (s.seg .outLane).head ≠ .jammed) ∧
      (let s := places .outLane [⟨.stray, 2⟩, ⟨.carrying foreign, 3⟩] calm;
        (s.seg .outLane).places = [⟨.stray, 2⟩] ++ ⟨.carrying foreign, 3⟩ :: [] ∧ (s.pins.seg .outLane).middle = false ∧
          (s.seg .outLane).cond = .running ∧ (s.seg .outLane).head ≠ .jammed ∧ s.ctl.station ≠ .strapFault) ∧
      ((calm.seg .outLane).places = [] ∧ calm.ctl.station ≠ .doze ∧ calm.ctl.station ≠ .strapFault) ∧
      (dozing.seg .outLane).places = [] ∧ dozing.ctl.station = .doze ∧ dozing.crane.state = .asleep := by decide

/-- The tail sensor: a through reservation, an entry from the outbound stand, and no reservation. -/
theorem witness_SegmentSensorsAreTaken_tail :
    let b := noShutter busy
    let through := reserved .outLane (.through .neighbour foreign) b
    let entry := reserved .outLane (.entry .outStand) (b.setOutStand (.entering (toPort 3) .outLane))
    (∀ s ∈ [b, through, entry], s.ctl.station = .active ∧ s.crane.state ≠ .idle ∧ s.fire.shutter = none ∧
      s.bus.offBus = false ∧ (s.pins.seg .outLane).head = false ∧ TailQuiet .outLane s) ∧
      ((through.seg .outLane).reservation = some (.through .neighbour foreign) ∧ through.upstream .outLane = some 10 ∧
        foreign.bin / 2048 ≠ through.num ∧
        foreign.bin ∉ heldBins { through with
          lanes := (through.onSeg .outLane fun g => { g with reservation := none }).lanes } ∧
        through.bus.slots.freeSlot = some .s1) ∧
      ((entry.seg .outLane).reservation = some (.entry .outStand) ∧
        entry.lanes.outStand = .entering (toPort 3) .outLane ∧ (toPort 3).bin ∉ heldBins (entry.setOutStand .empty)) ∧
      (b.seg .outLane).reservation = none ∧ (b.seg .outLane).places = [] := by
  unfold TailQuiet; decide

/-- A landing of an own bin, of a bin that another record holds, from SERVICE with APPROACH empty and holding, and of a
turn with the head's record still in the list. -/
theorem witness_SegmentSensorsAreTaken_landings :
    let b := noShutter busy
    let own := reserved .outLane (.through .neighbour (toPort 3)) (withBin (recd .out) b)
    let twice := reserved .outLane (.through .neighbour foreign) (b.setInStand (.holding foreign))
    let leaves := reserved .backLane (.entry .service) (b.setService (.entering foreign .backLane))
    let turns := reserved .outLane (.through .turn foreign)
      (head .backLane .moving (places .backLane [⟨.carrying foreign, 1⟩] b))
    (∀ s ∈ [own, twice, leaves, turns], s.ctl.station = .active ∧ s.crane.state ≠ .idle ∧ s.fire.shutter = none ∧
      s.bus.offBus = false ∧ (s.pins.seg .outLane).head = false ∧ (s.pins.seg .backLane).head = false ∧
      s.bus.slots.freeSlot = some .s1) ∧
      (TailQuiet .outLane own ∧ TailQuiet .outLane twice ∧ TailQuiet .backLane leaves ∧ TailQuiet .outLane turns ∧
        TailQuiet .backLane turns) ∧
      ((own.seg .outLane).reservation = some (.through .neighbour (toPort 3)) ∧ own.upstream .outLane = some 10 ∧
        (toPort 3).bin / 2048 = own.num ∧
        (toPort 3).bin ∉ heldBins { own with lanes := (own.onSeg .outLane fun g => { g with reservation := none }).lanes }) ∧
      ((twice.seg .outLane).reservation = some (.through .neighbour foreign) ∧
        foreign.bin ∈ heldBins { twice with lanes := (twice.onSeg .outLane fun g => { g with reservation := none }).lanes }) ∧
      ((leaves.seg .backLane).reservation = some (.entry .service) ∧ leaves.port.service = .entering foreign .backLane ∧
        foreign.bin ∉ heldBins (leaves.setService .empty) ∧ leaves.port.approach = .empty ∧
        (leaves.setApproach (.holding (toPort 9))).port.approach = .holding (toPort 9) ∧
        foreign.bin ∉ heldBins ((leaves.setApproach (.holding (toPort 9))).setService .empty)) ∧
      (turns.seg .outLane).reservation = some (.through .turn foreign) ∧ (turns.seg .backLane).head = .moving ∧
      (turns.seg .backLane).places = [⟨.carrying foreign, 1⟩] ∧ foreign.bin / 2048 ≠ turns.num ∧
      foreign.bin ∉ heldBins { turns with lanes := ((turns.onSeg .outLane fun g => { g with reservation := none }).onSeg
        .backLane fun g => { g with places := [] }).lanes } := by
  unfold TailQuiet; decide

/-- A MOVING head's limit with the bin still there, gone, and gone with an own OUT bin; a through reservation's limit. -/
theorem witness_RingLimitsExpire_handoff :
    let moving := fun (c : Carry) => head .outLane .moving (places .outLane [⟨.carrying c, 1⟩] (noShutter calm))
    let own := withBin (recd .out) (moving (toPort 3))
    let through := reserved .outLane (.through .neighbour foreign) (noShutter calm)
    (∀ s ∈ [moving foreign, headSeen .outLane (moving foreign), own, through], s.ctl.station = .active ∧
      s.fire.shutter = none ∧ s.bus.offBus = false ∧ TailQuiet .outLane s) ∧
      (∀ s ∈ [moving foreign, headSeen .outLane (moving foreign), own], (s.seg .outLane).head = .moving ∧
        (s.seg .outLane).headLimit.isSome = true) ∧
      ((moving foreign).seg .outLane).places = [⟨.carrying foreign, 1⟩] ∧
      ((headSeen .outLane (moving foreign)).pins.seg .outLane).head = true ∧
      ((moving foreign).pins.seg .outLane).head = false ∧ (moving foreign).bus.slots.freeSlot = some .s1 ∧
      ¬ idIsOwn (moving foreign) foreign.bin ∧
      ((own.seg .outLane).places = [⟨.carrying (toPort 3), 1⟩] ∧ tableWf BinRec.blank own.bins = true ∧
        idIsOwn own (toPort 3).bin ∧ (binAt 260 own).state = .out) ∧
      (through.seg .outLane).reservation = some (.through .neighbour foreign) ∧
      (through.seg .outLane).tailLimit.isSome = true := by
  unfold TailQuiet idIsOwn; decide

/-- A divert, an entry from the stand, an exit from SERVICE and an advance out of time, each with the bin still seen. -/
theorem witness_RingLimitsExpire_others :
    let divert := headSeen .outLane (head .outLane (.diverting .inStand) ((atHead homeward).setInStand .incoming))
    let entry := (reserved .outLane (.entry .outStand) (busy.setOutStand (.entering (toPort 3) .outLane))).onPins
      fun p => { p with outStand := true }
    let leave := (reserved .outLane (.entry .service) (busy.setService (.entering (toPort 3) .outLane))).onPins
      fun p => { p with service := true }
    let advance := (busy.onPort fun _ => { approach := .holding (toPort 9), service := .incoming, advanceLimit := some 6000 }).onPins
      fun p => { p with approach := true }
    (∀ s ∈ [divert, entry, leave, advance], s.ctl.station = .active ∧ s.crane.state ≠ .idle) ∧
      ((divert.seg .outLane).head = .diverting .inStand ∧ (divert.seg .outLane).headLimit.isSome = true ∧
        (divert.seg .outLane).places = [⟨.carrying homeward, 1⟩] ∧ divert.lanes.inStand = .incoming ∧
        (divert.pins.seg .outLane).head = true ∧ headCarry .backLane divert = none) ∧
      ((entry.seg .outLane).reservation = some (.entry .outStand) ∧ (entry.seg .outLane).tailLimit.isSome = true ∧
        entry.lanes.outStand = .entering (toPort 3) .outLane ∧ entry.pins.outStand = true ∧ TailQuiet .outLane entry) ∧
      ((leave.seg .outLane).reservation = some (.entry .service) ∧ (leave.seg .outLane).tailLimit.isSome = true ∧
        leave.port.service = .entering (toPort 3) .outLane ∧ leave.pins.service = true ∧ TailQuiet .outLane leave) ∧
      advance.port.service = .incoming ∧ advance.port.advanceLimit.isSome = true ∧
      advance.port.approach = .holding (toPort 9) ∧ advance.pins.approach = true := by
  unfold TailQuiet; decide

/-- The stands' sensors: EMPTY stands, a bin lifted off, and a divert that ends with 31 jobs in the pool. -/
theorem witness_StandAndPortSensorsAreTaken_stands :
    let lifted := busy.setOutStand (.holding foreign none)
    let pool := List.replicate 31 (fetch .waiting .travelEmpty)
    let comes := jobs pool (head .outLane (.diverting .inStand) ((atHead homeward).setInStand .incoming))
    (∀ s ∈ [busy, lifted, comes], s.ctl.station = .active ∧ s.crane.state ≠ .idle ∧ s.bus.offBus = false) ∧
      busy.lanes.outStand = .empty ∧ busy.lanes.inStand = .empty ∧
      (lifted.lanes.outStand = .holding foreign none ∧ ¬ idIsOwn lifted foreign.bin ∧
        lifted.bus.slots.freeSlot = some .s1) ∧
      comes.lanes.inStand = .incoming ∧ comes.lanes.outSeg.head = .diverting .inStand ∧
      comes.lanes.outSeg.places = [⟨.carrying homeward, 1⟩] ∧ comes.crane.pool.length < 32 ∧ TailQuiet .outLane comes := by
  unfold TailQuiet idIsOwn; decide

/-- The port's sensors: a divert that ends at APPROACH, an advance that ends at SERVICE, bins no record accounts for, and
bins taken away. -/
theorem witness_StandAndPortSensorsAreTaken_port :
    let comes := head .outLane (.diverting .approach) ((atHead (toPort 9)).setApproach .claimed)
    let advances := (calm.setApproach (.holding (toPort 9))).setService .incoming
    let strayed := calm.setApproach .stray
    let presented := calm.setService (.presented foreign)
    (∀ s ∈ [comes, advances, strayed, presented, calm], s.ctl.station = .active ∧ s.ctl.straps.port = true ∧
      s.bus.offBus = false) ∧
      (comes.port.approach = .claimed ∧ comes.lanes.outSeg.head = .diverting .approach ∧
        comes.lanes.outSeg.places = [⟨.carrying (toPort 9), 1⟩] ∧ comes.port.service = .empty ∧ TailQuiet .outLane comes) ∧
      (calm.port.approach = .empty ∧ calm.port.service = .empty) ∧
      (strayed.port.approach = .stray ∧ headCarry .outLane strayed = none ∧ headCarry .backLane strayed = none) ∧
      (advances.port.service = .incoming ∧ advances.port.approach = .holding (toPort 9) ∧ (toPort 9).kind = .port ∧
        headCarry .outLane advances = none ∧ headCarry .backLane advances = none) ∧
      presented.port.service = .presented foreign ∧ ¬ idIsOwn presented foreign.bin ∧ presented.port.approach = .empty ∧
      presented.bus.slots.freeSlot = some .s1 := by
  unfold TailQuiet idIsOwn; decide

theorem witness_RingHoldLawIsKept :
    RingHoldLaw { calm with pending := [.startPoint] } ∧ calm.lanes.outSeg.cond = .running ∧
      step { calm with pending := [.startPoint] } = .next calm :=
  ⟨by unfold RingHoldLaw; decide, rfl, rfl⟩

/-! ### Ports, Calls and Lending -/

/-- RELEASE with deltas 15 and 16, of another bin, with SERVICE EMPTY, at a station without a port; presses and the
button's release. -/
theorem witness_ReleaseTurnsTheBinRound :
    let s := calm.setService (.presented (toPort 9))
    let bare := calm.onCtl fun c => { c with straps := { c.straps with port := false } }
    let held := calm.onPins fun p => { p with button := true }
    (∀ p ∈ ([[73, 4, 15], [73, 4, 16], [73, 5, 0]] : List (List Byte)), Waiting .release p s) ∧ s.ctl.station = .active ∧
      s.bus.offBus = false ∧ s.ctl.straps.port = true ∧ s.port.service = .presented (toPort 9) ∧
      (toPort 9).bin = wordAt [73, 4, 15] 0 ∧ (toPort 9).bin ≠ wordAt [73, 5, 0] 0 ∧
      signedAt [73, 4, 15] 2 = 15 ∧ signedAt [73, 4, 16] 2 = 16 ∧ s.pins.button = false ∧
      (Waiting .release [73, 4, 0] bare ∧ bare.ctl.straps.port = false) ∧
      (Waiting .release [73, 4, 16] calm ∧ calm.port.service = .empty ∧ calm.pins.button = false ∧
        calm.ctl.station ≠ .joining) ∧ held.pins.button = true := by
  unfold Waiting Takes; decide

/-! ### Returns and the Room Auction -/

/-- A ROOM at the edges of tag and units, with three records and with four in use, and one with tag 4,096. -/
theorem witness_RoomIsJoinedOrIgnored :
    let with_ := fun (n : Nat) => calm.onAuctions fun u =>
      { u with records := (List.range n).map fun k => { auction with roomTag := k + 1 } }
    (∀ p ∈ ([[15, 255, 15, 10], [16, 0, 15, 10]] : List (List Byte)), (frame 30 0 p).sender.toNat = 30 ∧
      (frame 30 0 p).dest = 0#5 ∧ p.length = 4) ∧
      calm.ctl.station ≠ .strapFault ∧ calm.bus.offBus = false ∧ calm.num ≤ 24 ∧ wordAt [15, 255, 15, 10] 0 = 4095 ∧
      wordAt [16, 0, 15, 10] 0 = 4096 ∧ (rosterOf 10 (with_ 3)).port = true ∧ (with_ 3).ctl.station = .active ∧
      (with_ 3).ctl.setup.takesReturns = true ∧ (with_ 3).fire.view = 0#8 ∧
      (∀ r ∈ (with_ 3).auctions.records, r.roomTag ≠ 4095) ∧ (with_ 3).auctions.records.length < 4 ∧
      ¬ (with_ 4).auctions.records.length < 4 := by decide

/-- A BID of S8 equal in value to the own one of S9, against an own BID queued and against one started; a tag that no
record holds; bid close for a record that has returned its BID, for one that has not, and past the close. -/
theorem witness_BidsAreComparedUntilTheClose :
    let f := { frame 8 0 [0, 40] with param := 60#8 }
    let waits := slot .s1 (newQueued (.bid 40 60) 0) bidding
    let sent := slot .s1 (started (.bid 40 60)) bidding
    (∀ s ∈ [waits, sent], s.ctl.station ≠ .strapFault ∧ isStation f.sender.toNat = true ∧ f.sender.toNat ≠ s.num ∧
      f.dest = 0#5 ∧ f.payload.length = 2 ∧ wordAt f.payload 0 = 40 ∧ auctionOf 40 s = some auction ∧
      auction.phase = .bidding ∧ auction.bidReturned = false ∧ auction.own = some 60 ∧ auction.candidate = some 260 ∧
      f.param.toNat = 60 ∧ f.sender.toNat < s.num ∧ (∀ c ∈ s.bus.claims, isBidOf 40 c.frame = false) ∧
      s.bus.slots.find (fun q => isBidOf 40 q.frame) = some .s1) ∧
      waits.bus.slots.get .s1 = .holds (newQueued (.bid 40 60) 0) ∧
      sent.bus.slots.get .s1 = .holds (started (.bid 40 60)) ∧ auctionOf 40 calm = none ∧
      auctionOf 40 (withAuction { auction with bidReturned := true } calm) = some { auction with bidReturned := true } ∧
      auction.closed = false ∧ { auction with closeLimit := none }.closed = true := by
  decide

def scanning : Auction :=
  { auction with phase := .scanning, candidate := none, own := none, lowest := none, nextRead := 0 }

/-- A best bin that takes the hold, one beaten by the lowest seen, one gone since it was read with a second behind it and
with none, and a void record. -/
theorem witness_ScanEndBidsOrGoesQuiet :
    let v := (bidValue Setup.powerOn [] 12 9 260 3 3 10).getD 0
    let good := withAuction scanning (withBin (recd .stored) calm)
    let gone := { scanning with nextRead := 2048, noted := [⟨260, 3⟩] }
    let two := { scanning with nextRead := 261, noted := [⟨260, 3⟩] }
    let next := withAuction two (calm.onBins fun _ => [(260, recd .out), (300, recd .stored)])
    (∀ s ∈ [good, withAuction { scanning with lowest := some ⟨0, 1⟩ } good, withAuction { scanning with voidMark := true } good,
      withAuction gone calm, next], s.bus.offBus = false ∧ s.bus.slots.freeSlot = some .s1 ∧
        (auctionOf 40 s).map Auction.phase = some .scanning) ∧
      (scanRanking { scanning with noted := scanRange 3 0 2048 good } good = [⟨260, v⟩] ∧ v ≠ 0 ∧
        hasRetrieve 260 good = false ∧ (binAt 260 good).state = .stored ∧ (binAt 260 good).hold = 0 ∧
        (binAt 260 good).fill + 3 ≤ 15) ∧
      (scanRanking gone calm = [⟨260, v⟩] ∧ (binAt 260 calm).state ≠ .stored) ∧
      (scanRanking { two with noted := two.noted ++ scanRange 3 261 2048 next } next).map Valued.index = [260, 300] ∧
      (binAt 260 next).state ≠ .stored ∧ (binAt 300 next).state = .stored ∧ hasRetrieve 300 next = false := by
  decide +kernel

/-- A QUIET record, a beaten one, a winner whose FILL job is the 31st of its kind, and a winner whose bin is LOST. -/
theorem witness_WindowEndDecidesTheAuction :
    let quietRecord := withAuction { auction with phase := .quiet } calm
    let beaten := withAuction { auction with lowest := some ⟨60, 8⟩ } bidding
    let pool := List.replicate 30 { fetch .waiting .travelEmpty with bin := 18433 }
    let wins := jobs pool (crane .running bidding)
    let loses := withBin { recd .lost with hold := 3 } bidding
    auctionOf 40 quietRecord = some { auction with phase := .quiet } ∧
      (auctionOf 40 beaten = some { auction with lowest := some ⟨60, 8⟩ } ∧ auction.own ≠ some 59) ∧
      (auctionOf 40 wins = some auction ∧ auction.phase = .bidding ∧ auction.candidate = some 260 ∧
        auction.voidMark = false ∧ auction.own = some 60 ∧ auction.lowest = some ⟨60, wins.num⟩ ∧
        wins.ctl.station = .active ∧ wins.crane.state = .running ∧ (binAt 260 wins).state = .stored ∧
        (binAt 260 wins).hold ≠ 0 ∧ hasRetrieve 260 wins = false ∧ nonStoreCount wins.crane.pool < 31 ∧
        wins.crane.pool.length < 32 ∧ auction.roomTag = 40) ∧
      auctionOf 40 loses = some auction ∧ (binAt 260 loses).state = .lost := by decide

/-- Three bids in two orders, two of one value. -/
theorem witness_SameBidsHaveOneWinner :
    let p : List BidPair := [⟨60, 9⟩, ⟨60, 8⟩, ⟨61, 3⟩]
    p.Perm [⟨61, 3⟩, ⟨60, 9⟩, ⟨60, 8⟩] ∧ (p.map BidPair.station).Nodup ∧ scanning.lowest = none := by decide

/-! ### Fire Shutdown -/

/-- FIRE of the own compartment in ACTIVE and in JOINING, FIRE already in the view, CLEAR from the panel with the fire
line asserted, in SHUTDOWN and as the last alarm ends, and CLEAR from another node. -/
theorem witness_FireAndClearMoveTheView :
    let f := frame 31 0 [8]
    let lit := alarm 8#8 (calm.onPins fun p => { p with fireLine := true })
    let down := alarm 8#8 (station .shutdown calm)
    let last := noShutter (alarm 8#8 calm)
    (∀ s ∈ [calm, joining, lit, down, last], BroadcastHere s f 1) ∧ f.payload = [8#8] ∧
      (calm.ctl.station = .active ∧ calm.ownAlarmed = false ∧ (calm.fire.view ||| 8#8).getLsbD calm.compartment = true) ∧
      joining.ctl.station = .joining ∧ down.fire.view ||| 8#8 = down.fire.view ∧ f.sender.toNat = 31 ∧
      (lit.pins.fireLine = true ∧ (8#8).getLsbD lit.compartment = true) ∧
      (down.ctl.station = .shutdown ∧ down.ownAlarmed = true ∧ down.pins.fireLine = false) ∧
      (let away := noShutter (alarm 16#8 calm);
        BroadcastHere away (frame 31 0 [16]) 1 ∧ away.ctl.station = .active ∧ away.ownAlarmed = false ∧
          away.fire.view ≠ 0#8 ∧ away.fire.view &&& ~~~16#8 = 0#8 ∧ away.fire.shutter = none ∧
          away.fire.listen = none) ∧
      BroadcastHere calm (frame 30 0 [8]) 1 ∧ (frame 30 0 [8]).sender.toNat ≠ 31 := by
  unfold BroadcastHere; decide

/-- Entry to SHUTDOWN with the crane in each group of states. -/
theorem witness_ShutdownStopsTheCrane :
    ∀ x ∈ [CraneState.unreferenced, .stopped, .faulted, .asleep, .homing, .idle, .running, .halting, .halted, .waking],
      let s := crane x calm
      BroadcastHere s (frame 8 0 [8]) 1 ∧ (frame 8 0 [8]).payload = [8#8] ∧ s.ctl.station = .active ∧
        s.ownAlarmed = false ∧ (8#8).getLsbD s.compartment = true ∧ s.crane.state = x ∧ s.crane.inFlight ≠ some .stop ∧
        ∀ j ∈ s.crane.pool, j.purpose ≠ .fill := by
  unfold BroadcastHere; decide

theorem witness_FireLineRaisesTheAlarm :
    let lit := calm.onPins fun p => { p with fireLine := true }
    let repeats := lit.onFire fun f => { f with repeatTimer := some 2000 }
    let merges := slot .s0 (newQueued (.fire 16#8) 0) calm
    (calm.ctl.station ≠ .strapFault ∧ calm.pins.fireLine = false ∧ calm.bus.offBus = false ∧ calm.bus.slots.s0 = .free) ∧
      (merges.bus.slots.s0 = .holds (newQueued (.fire 16#8) 0) ∧ (newQueued (.fire 16#8) 0).started = false ∧
        merges.pins.fireLine = false) ∧
      (repeats.pins.fireLine = true ∧ repeats.fire.repeatTimer.isSome = true) ∧
      (calm.onBus fun b => { b with offBus := true }).bus.offBus = true ∧ lit.pins.fireLine = true ∧
      lit.fire.repeatTimer = none ∧ (alarm 8#8 calm).ownAlarmed = true := by decide

theorem witness_FireLineRaisesTheAlarm_slot : SlotLaw calm ∧ SlotLaw (slot .s0 (newQueued (.fire 16#8) 0) calm) := by
  refine ⟨⟨by decide, fun q h => ?_⟩, ⟨by decide, fun q h => ?_⟩⟩ <;> cases h
  exact ⟨_, rfl⟩

/-- RESTART where it is taken, with an ASLEEP crane, busy and not ready. -/
theorem witness_RestartReferencesTheCrane_orders :
    let recovery := station .recovery calm
    let stops := flying .stop (crane .stopped recovery)
    (∀ s ∈ [crane .unreferenced recovery, crane .stopped recovery, crane .faulted recovery, crane .faulted calm,
      crane .asleep recovery, stops, crane .homing recovery, calm, dozing, joining, station .shutdown calm],
      Waiting .restart [] s) ∧
      (crane .stopped recovery).crane.inFlight ≠ some .stop ∧ recovery.ctl.station = .recovery ∧
      (stops.crane.state = .stopped ∧ stops.crane.inFlight = some .stop) ∧ ¬ AtRest (crane .homing recovery).crane.state ∧
      calm.ctl.station = .active ∧ calm.crane.state ≠ .faulted := by
  unfold Waiting Takes AtRest; decide

def restarting (x : CraneState) (d : DriveCmd) : State :=
  (flying d (crane x (station .recovery calm))).onCrane fun c => { c with restartRun := true }

theorem witness_RestartReferencesTheCrane_reports :
    let first := flying .home (crane .homing calm)
    ((restarting .waking .wake).ctl.station ≠ .strapFault ∧ (restarting .waking .wake).crane.restartRun = true ∧
      (restarting .waking .wake).crane.state = .waking ∧ (restarting .waking .wake).crane.inFlight = some .wake) ∧
      ((restarting .homing .home).ctl.station = .recovery ∧ (restarting .homing .home).crane.restartRun = true ∧
        (restarting .homing .home).crane.state = .homing ∧ (restarting .homing .home).crane.inFlight = some .home ∧
        (restarting .homing .home).crane.pool = [] ∧ (restarting .homing .home).crane.carriage = .nothing) ∧
      (let laden := (restarting .homing .home).onCrane fun c => { c with carriage := .carrying homeward, restoreWanted := true };
        laden.ctl.station = .recovery ∧ laden.crane.state = .homing ∧ laden.crane.inFlight = some .home ∧
          laden.crane.pool = [] ∧ laden.crane.carriage = .carrying homeward) ∧
      first.ctl.station ≠ .strapFault ∧ first.crane.state = .homing ∧ first.crane.inFlight = some .home ∧
      first.crane.restartRun = false ∧ first.crane.pool = [] ∧ first.crane.carriage = .nothing := by decide

def settling (j : Job) (r : BinRec) : State := alarm 16#8 (jobs [j] (withBin r (restarting .homing .home)))

/-- Every kind and stage of frozen job that the statement names. -/
theorem witness_FrozenJobIsSettled :
    let called := { recd .lifting with call := some ⟨40, 10, .lend⟩ }
    let store := { storeJob bin with state := .frozen }
    let rack := { restoreJob bin with kind := .restore .rack, state := .frozen }
    let audit := { auditJob 260 1 with state := .frozen }
    let stand := { restoreJob bin with state := .frozen }
    let carried := (settling stand (recd .out)).onCrane fun c => { c with carriage := .carrying (toPort 10) }
    let holding := (settling { store with stage := .forkPick, sent := true } (recd .storing)).setInStand (.holding homeward)
    (∀ x ∈ [(fetch .frozen .travelEmpty, recd .stored), ({ fetch .frozen .forkPick with sent := true }, called),
      (fetch .frozen .forkPick, recd .stored), (fetch .frozen .travelLoaded, called),
      ({ fetch .frozen .forkPlace with sent := true }, called), (store, recd .out), ({ store with stage := .forkPick }, recd .out),
      ({ store with stage := .forkPick, sent := true }, recd .storing), ({ store with stage := .travelLoaded }, recd .storing),
      ({ store with stage := .forkPlace, sent := true }, recd .storing), (rack, recd .lifting), (stand, recd .out),
      (audit, recd .stored)],
      let s := settling x.1 x.2
      s.ctl.station = .recovery ∧ s.crane.restartRun = true ∧ s.crane.state = .homing ∧ s.crane.inFlight = some .home ∧
        s.crane.pool = [x.1] ∧ x.1.state = .frozen ∧ s.fire.view ≠ 0#8 ∧ s.crane.restoreWanted = false ∧
        s.crane.storeWanted = false ∧ tableWf BinRec.blank s.bins = true ∧
        (x.1.kind = .audit ∨ x.1.kind = .restore .outStand ∨ idIsOwn s x.1.bin) ∧ binAt 260 s = x.2 ∧
        s.crane.carriage = .nothing ∧ (s.setOutStand .reserved).lanes.outStand = .reserved) ∧
      called.call = some ⟨40, 10, .lend⟩ ∧ called.call.map Call.tag = some (fetch .frozen .travelLoaded).tag ∧
      rack.stage = .travelLoaded ∧ stand.kind = .restore .outStand ∧ stand.stage = .travelLoaded ∧
      carried.crane.carriage = .carrying (toPort 10) ∧ carried.crane.pool = [stand] ∧ (recd .storing).followOns = [] ∧
      holding.lanes.inStand = .holding homeward ∧ holding.lanes.outSeg.head = .idle ∧
      holding.lanes.backSeg.head = .idle := by
  unfold idIsOwn; decide

/-- The shutter in each of its states; the listen period running and not. -/
theorem witness_ShutterSequence :
    let clearing := (shutterIs .clearing calm).onFire fun f => { f with clearTimer := some 8000 }
    let closing := (shutterIs .closing (station .recovery calm)).onFire fun f => { f with closeLimit := some 15000 }
    let listens := fun (s : State) => s.onFire fun f => { f with listen := some 3000 }
    (clearing.ctl.station ≠ .strapFault ∧ clearing.fire.shutter = some .clearing ∧ clearing.fire.clearTimer.isSome = true) ∧
      (closing.fire.shutter = some .closing ∧ closing.fire.closeLimit.isSome = true ∧ closing.ctl.station ≠ .active) ∧
      (∀ x ∈ [ShutterState.closing, .failed, .opening], (shutterIs x calm).fire.shutter = some x ∧
        (shutterIs x calm).fire.view = 0#8 ∧ (shutterIs x calm).ctl.station = .active ∧
        (shutterIs x calm).fire.listen = none) ∧
      (∀ s ∈ [noShutter calm, shutterIs .opening calm, shutterIs .closed calm],
        (listens s).fire.listen.isSome = true ∧ (listens s).fire.view = 0#8 ∧ (listens s).ctl.station = .active) ∧
      (noShutter calm).fire.shutter = none ∧ calm.fire.listen = none := by decide

/-- Below compartment 2 at a station of compartment 3: a FIRE of 2 with a handoff crossing, with none, and during OPENING;
a CLEAR of 2. -/
theorem witness_ShutterSequence_view :
    let s := calm.onFire fun f => { f with below := some 2 }
    let crosses := head .outLane .moving (atHead foreign)
    (BroadcastHere s (frame 31 0 [4]) 1 ∧ (frame 31 0 [4]).payload = [4#8] ∧ (frame 31 0 [4]).sender.toNat = 31 ∧
      s.fire.view ||| 4#8 ≠ s.fire.view ∧ s.fire.below = some 2 ∧ 2 ≠ s.compartment ∧
      (s.fire.view ||| 4#8).getLsbD 2 = true) ∧
      (∀ x ∈ [ShutterState.opened, .opening, .closed, .failed, .closing, .clearing], (shutterIs x s).fire.shutter = some x) ∧
      (s.lanes.outSeg.head ≠ .moving ∧ s.lanes.backSeg.reservation = none ∧ crosses.lanes.outSeg.head = .moving) ∧
      let lit := alarm 4#8 s
      lit.fire.view &&& ~~~(4#8) ≠ lit.fire.view ∧ lit.pins.fireLine = false ∧ lit.ctl.station = .active ∧
        lit.fire.listen = none ∧ (lit.fire.view &&& ~~~(4#8)).getLsbD 3 = false ∧
        (lit.fire.view &&& ~~~(4#8)).getLsbD 2 = false := by
  unfold BroadcastHere; decide

/-- The clear wait with a bin MOVING at the out-lane's head, with one coming to the back-lane's tail, and with both; a
CLOSING shutter that may open at its end and one that may not. -/
theorem witness_ShutterSequence_clearing :
    let c := { foreign with bin := 5 * 2048 + 7 }
    let waits := fun (s : State) => ((shutterIs .clearing s).onSeg .outLane fun g => { g with cond := .held }).onSeg .backLane
      fun g => { g with cond := .held }
    let moving := waits ((head .outLane .moving (atHead c)).onSeg .outLane fun g => { g with headLimit := some 6000 })
    let comes := fun (s : State) => s.onSeg .backLane fun g =>
      { g with reservation := some (.through .neighbour c), tailLimit := some 6000 }
    (∀ s ∈ [moving, comes moving], AddressedHere s (frame 8 9 [40, 7, 0]) 3 ∧ laneOf (byteAt [40, 7, 0] 2) = .outLane ∧
      wordAt [40, 7, 0] 0 = c.bin ∧ s.downstream .outLane = some 8 ∧ s.lanes.outSeg.places = [⟨.carrying c, 1⟩] ∧
      s.lanes.outSeg.head = .moving ∧ s.lanes.outSeg.headLimit.isSome = true) ∧
      (∀ s ∈ [moving, comes moving, comes (waits calm)], s.fire.shutter = some .clearing ∧ s.lanes.outSeg.cond = .held ∧
        s.lanes.backSeg.cond = .held ∧ s.ctl.station ≠ .strapFault) ∧
      (comes (waits calm)).lanes.backSeg.reservation = some (.through .neighbour c) ∧
      (comes (waits calm)).lanes.backSeg.tailLimit.isSome = true ∧ (waits calm).lanes.outSeg.head ≠ .moving ∧
      (shutterIs .closing calm).fire.view = 0#8 ∧ (alarm 4#8 (shutterIs .closing calm)).fire.view ≠ 0#8 ∧
      calm.fire.below = none := by
  unfold AddressedHere; decide

def opening : State := shutterIs .opening (calm.onFire fun f => { f with openOut := true })

theorem witness_ShutterLawIsKept :
    ShutterLaw { opening with pending := [.startPoint] } ∧ opening.fire.openOut = true ∧
      step { opening with pending := [.startPoint] } = .next opening := by
  refine ⟨?_, rfl, rfl⟩
  unfold ShutterLaw
  refine ⟨by decide, fun _ => ⟨by decide, by decide, fun _ => by decide, ?_⟩⟩
  intro b hb; cases hb

def shut : State :=
  alarm 8#8 (station .shutdown ((crane .stopped calm).onFire fun f => { f with latch := true }))

theorem witness_AlarmLawIsKept :
    AlarmLaw { shut with pending := [.startPoint] } ∧ step { shut with pending := [.startPoint] } = .next shut :=
  ⟨by unfold AlarmLaw; decide, rfl⟩

theorem witness_StoppedCraneLawIsKept :
    let s := jobs [fetch .frozen .travelLoaded] (flying .stop shut)
    StoppedCraneLaw { s with pending := [.startPoint] } ∧ s.ctl.station = .shutdown ∧
      step { s with pending := [.startPoint] } = .next s :=
  ⟨by unfold StoppedCraneLaw AtRest; decide, rfl, rfl⟩

/-! ### Audits, Strays and Lost Bins -/

/-- AUDITs of first index 2,048, of index 2,047's column with count 65, of a full pool; a PROBE at an ABSENT, a STORED
and a LOST record. -/
theorem witness_AuditAndProbe :
    let job := { auditJob 260 1 with state := .active, stage := .forkProbe, nextIndex := 260, remaining := 1 }
    let crowded := jobs (List.replicate 31 (fetch .waiting .travelEmpty)) busy
    (∀ s ∈ [busy, crowded], s.ctl.station = .active ∧ s.crane.state ≠ .idle) ∧
      (Waiting .audit [8, 0, 1] busy ∧ 2047 < wordAt [8, 0, 1] 0) ∧
      (Waiting .audit [3, 255, 65] busy ∧ wordAt [3, 255, 65] 0 ≤ 2047 ∧ byteAt [3, 255, 65] 2 = 65 ∧
        nonStoreCount busy.crane.pool < 31 ∧ busy.crane.pool.length < 32 ∧ validIndex busy.ctl.straps 1023 = true) ∧
      (Waiting .audit [3, 255, 65] crowded ∧ ¬ nonStoreCount crowded.crane.pool < 31) ∧
      ∀ st ∈ [BinState.out, .stored, .lost],
        let s := flying (.fork 0 .probe) (jobs [job] (withBin (recd st) busy))
        s.ctl.station = .active ∧ s.crane.state = .running ∧ s.crane.inFlight = some (.fork 0 .probe) ∧
          s.crane.pool = [job] ∧ job.state = .active ∧ job.kind = .audit ∧ job.remaining = 1 ∧
          s.crane.restoreWanted = false ∧ s.crane.storeWanted = false ∧ tableWf BinRec.blank s.bins = true ∧
          (binAt job.nextIndex s).state = st := by
  unfold Waiting Takes; decide

def held (l : Lane) (s : State) : State := s.onSeg l fun g => { g with cond := .held }

/-- The first hypotheses of the statement on IDENTIFY. -/
abbrev Asked (p : List Byte) (s : State) : Prop :=
  Waiting .identify p s ∧ s.ctl.station ≠ .joining ∧ tableWf BinRec.blank s.bins = true

/-- Every place of a stray with a stray on it, in a station in SHUTDOWN. -/
def strays : State :=
  ((shut.setOutStand .stray).setInStand .stray).onPort fun p => { p with approach := .stray, service := .stray }

/-- The places 11, 9 and 10 without a port, places with no stray, and the bins that a stray place refuses. -/
theorem witness_IdentifyNamesOrClears_refused :
    let bare := shut.onCtl fun c => { c with straps := { c.straps with port := false } }
    let twice := places .backLane [⟨.carrying foreign, 2⟩] strays
    let lifted := withBin (recd .lifting) strays
    (∀ x ∈ ([(shut, [11, 0, 0]), (bare, [9, 0, 0]), (bare, [10, 0, 0]), (shut, [0, 0, 0]), (calm, [7, 0, 0]),
      (shut, [10, 0, 0]), (strays, [7, 0, 7]), (strays, [7, 200, 7]), (strays, [7, 76, 0]), (twice, [9, 40, 7]),
      (strays, [8, 40, 7]), (lifted, [10, 73, 4])] : List (State × List Byte)), Asked x.2 x.1) ∧
      shut.crane.carriage ≠ .stray ∧ calm.lanes.outStand ≠ .stray ∧ shut.port.service ≠ .stray ∧
      (shut.lanes.outSeg.head ≠ .jammed ∧ shut.lanes.backSeg.head ≠ .jammed) ∧
      bare.ctl.straps.port = false ∧ (strays.port.approach = .stray ∧ strays.port.service = .stray) ∧
      strays.ctl.straps.port = true ∧ wordAt [7, 0, 7] 1 / 2048 = 0 ∧ 25 ≤ wordAt [7, 200, 7] 1 / 2048 ∧
      (wordAt [7, 76, 0] 1 / 2048 = strays.num ∧ ¬ idIsOwn strays (wordAt [7, 76, 0] 1)) ∧
      (wordAt [9, 40, 7] 1 = foreign.bin ∧ foreign.bin / 2048 = 5 ∧ foreign.bin ∈ heldBins twice) ∧
      wordAt [10, 73, 4] 1 = bin ∧ idIsOwn lifted bin ∧ (binAt 260 lifted).state = .lifting := by
  unfold Asked Waiting Takes idIsOwn; decide

/-- A segment's stray named on a held segment, behind another record, at the head that then offers it, and cleared. -/
theorem witness_IdentifyNamesOrClears_segments :
    let middle := held .outLane (places .outLane [⟨.stray, 2⟩] shut)
    let third := places .backLane [⟨.carrying (toPort 3), 1⟩, ⟨.stray, 3⟩] calm
    let first := headSeen .outLane (places .outLane [⟨.stray, 1⟩] calm)
    let gone := places .outLane [⟨.stray, 1⟩] calm
    (∀ x ∈ ([(middle, [2, 40, 7]), (third, [6, 40, 7]), (first, [1, 40, 7]), (first, [1, 0, 0]), (gone, [1, 0, 0])] :
      List (State × List Byte)), Asked x.2 x.1) ∧
      ((middle.seg .outLane).places = [] ++ ⟨.stray, 2⟩ :: [] ∧ (middle.seg .outLane).cond ≠ .running ∧
        foreign.bin ∉ heldBins middle) ∧
      ((third.seg .backLane).places = [⟨.carrying (toPort 3), 1⟩] ++ ⟨.stray, 3⟩ :: [] ∧
        (third.pins.seg .backLane).head = false ∧ foreign.bin ∉ heldBins third) ∧
      (let s := order .identify [1, 40, 7] first;
        (s.seg .outLane).places = [] ++ ⟨.stray, 1⟩ :: [] ∧ (s.seg .outLane).cond = .running ∧
          (s.seg .outLane).head = .idle ∧ (s.pins.seg .outLane).head = true ∧ foreign.bin / 2048 ≤ s.top ∧
          s.downstream .outLane = some 8 ∧ mayOffer 8 s = true ∧ s.bus.slots.freeSlot = some .s2 ∧
          foreign.bin ∉ heldBins s) ∧
      (gone.pins.seg .outLane).head = false ∧ TailQuiet .outLane gone := by
  unfold Asked Waiting Takes TailQuiet; decide

/-- The carriage's stray named with the crane STOPPED, with a full pool, IDLE at the mouth and in DOZE. -/
theorem witness_IdentifyNamesOrClears_carriage :
    let stray := fun (s : State) => withBin (recd .lost) (s.onCrane fun c => { c with carriage := .stray })
    let crowded := jobs (List.replicate 31 { fetch .waiting .travelEmpty with bin := 18433 }) shut
    (∀ s ∈ [stray shut, stray crowded, stray calm, stray dozing], Asked [0, 73, 4] s ∧ Asked [0, 0, 0] s ∧
      s.crane.carriage = .stray ∧ idIsOwn s bin ∧ bin ∉ heldBins s ∧ wordAt [0, 73, 4] 1 = bin ∧
      (binAt 260 s).state = .lost) ∧
      (shut.crane.state ≠ .idle ∧ shut.ctl.station ≠ .doze ∧ nonStoreCount shut.crane.pool < 31 ∧
        shut.crane.pool.length < 32 ∧ 31 ≤ nonStoreCount crowded.crane.pool) ∧
      (calm.ctl.station = .active ∧ calm.crane.state = .idle ∧ calm.crane.pool = [] ∧ calm.lanes.outStand = .empty ∧
        calm.crane.pos = some Position.mouth) ∧
      dozing.ctl.station = .doze ∧ dozing.crane.state = .asleep ∧ dozing.crane.pool = [] := by
  unfold Asked Waiting Takes idIsOwn; decide

theorem witness_IdentifyNamesOrClears_carriage_dozing :
    RingHoldLaw (order .identify [0, 73, 4] (withBin (recd .lost) (dozing.onCrane fun c => { c with carriage := .stray }))) := by
  unfold RingHoldLaw; decide

/-- The strays of the stands and of the port named: an ABSENT and a STORED bin at the inbound stand, APPROACH of an ACTIVE
station with SERVICE EMPTY. -/
theorem witness_IdentifyNamesOrClears_stands_and_port :
    let stored := withBin (recd .stored) strays
    let still := held .outLane (held .backLane strays)
    let at_ := busy.setApproach .stray
    (∀ x ∈ ([(strays, [7, 40, 7]), (still, [7, 40, 7]), (strays, [8, 73, 4]), (stored, [8, 73, 4]), (strays, [9, 40, 7]),
      (at_, [9, 40, 7]), (strays, [10, 40, 7]), (still, [10, 40, 7])] : List (State × List Byte)), Asked x.2 x.1 ∧
      x.1.ctl.straps.port = true ∧ x.1.bus.offBus = false ∧ x.1.crane.state ≠ .idle ∧ x.1.ctl.station ≠ .doze ∧
      foreign.bin ∉ heldBins x.1 ∧ bin ∉ heldBins x.1) ∧
      (strays.lanes.outStand = .stray ∧ strays.lanes.inStand = .stray ∧ strays.crane.pool.length < 32) ∧
      (idIsOwn strays bin ∧ (binAt 260 strays).state = .absent ∧ (binAt 260 stored).state = .stored) ∧
      (still.lanes.outSeg.cond ≠ .running ∧ still.lanes.backSeg.cond ≠ .running) ∧
      at_.port.approach = .stray ∧ at_.port.service = .empty ∧ at_.ctl.station = .active := by
  unfold Asked Waiting Takes idIsOwn; decide

/-- The same strays cleared, their sensors quiet and not; SERVICE with a bin waiting in APPROACH. -/
theorem witness_IdentifyNamesOrClears_cleared :
    let still := held .outLane (held .backLane strays)
    let seen := strays.onPins fun p => { p with outStand := true, inStand := true, approach := true, service := true }
    let waits := (busy.setService .stray).setApproach (.holding (toPort 9))
    (∀ p ∈ ([[7, 0, 0], [8, 0, 0], [9, 0, 0], [10, 0, 0]] : List (List Byte)), Asked p still ∧ Asked p seen ∧
      Asked p waits ∧ wordAt p 1 = 0) ∧
      (still.pins.outStand = false ∧ still.pins.inStand = false ∧ still.pins.approach = false ∧
        still.pins.service = false ∧ still.lanes.outSeg.cond ≠ .running ∧ still.lanes.backSeg.cond ≠ .running ∧
        still.crane.state ≠ .idle) ∧
      (seen.pins.outStand = true ∧ seen.pins.inStand = true ∧ seen.pins.approach = true ∧ seen.pins.service = true) ∧
      waits.port.service = .stray ∧ waits.port.approach = .holding (toPort 9) ∧ waits.ctl.station = .active := by
  unfold Asked Waiting Takes; decide

/-- A held head that is OFFERING with its PASS on the wire. -/
theorem witness_IdentifyNamesOrClears_offered :
    let s := held .outLane (held .backLane
      (slot .s2 (started (.pass .outLane 8 foreign)) (head .outLane .offering (places .outLane [⟨.carrying foreign, 1⟩] strays))))
    Asked [8, 0, 0] s ∧ s.lanes.outSeg.cond ≠ .running ∧ s.lanes.backSeg.cond ≠ .running ∧ s.pins.inStand = false ∧
      (s.seg .outLane).head = .offering ∧ OffersStarted (order .identify [8, 0, 0] s) := by
  refine ⟨by unfold Asked Waiting Takes; decide, by decide, by decide, by decide, by decide, ?_⟩
  intro l h
  cases l with
  | backLane => cases h
  | outLane =>
    refine ⟨by decide, ?_⟩
    intro id q hq hp
    cases id <;> cases hq <;> rfl

/-- A JAMMED head released with its own bin, with another one, and with none there. -/
theorem witness_IdentifyNamesOrClears_jam :
    let jammed := fun (c : Carry) (s : State) => held .outLane (head .outLane .jammed (places .outLane [⟨.carrying c, 1⟩] s))
    let s := jammed foreign (withBin (recd .lost) shut)
    let own := jammed (toPort 3) (withBin (recd .out) shut)
    (∀ x ∈ ([(s, [1, 40, 7]), (s, [1, 73, 4]), (own, [1, 40, 7]), (s, [1, 0, 0]), (headSeen .outLane s, [1, 0, 0])] :
      List (State × List Byte)), Asked x.2 x.1 ∧ (x.1.seg .outLane).head = .jammed ∧
      (x.1.seg .outLane).cond ≠ .running ∧ x.1.bus.offBus = false ∧
      (order .identify x.2 x.1).bus.slots.freeSlot.isSome = true) ∧
      (s.seg .outLane).places = [⟨.carrying foreign, 1⟩] ∧ ¬ idIsOwn s foreign.bin ∧
      (bin ∉ heldBins s ∧ idIsOwn s bin ∧ (binAt 260 s).state = .lost) ∧
      ((own.seg .outLane).places = [⟨.carrying (toPort 3), 1⟩] ∧ foreign.bin ∉ heldBins own ∧
        idIsOwn own (toPort 3).bin ∧ (binAt 260 own).state = .out) ∧
      (s.pins.seg .outLane).head = false ∧ ((headSeen .outLane s).pins.seg .outLane).head = true := by
  unfold Asked Waiting Takes idIsOwn; decide

/-! ### The step and the reset state -/

theorem witness_StepRunsTheFrontCommand :
    ({ calm with pending := [.startPoint] } : State).pending = .startPoint :: [] ∧ calm.pending = [] := by decide

/-! ### Well-formed commands: one ill-formed term for each check, and its neighbour that is accepted -/

def padded (n : Nat) : RxFrame := frame 8 9 (List.replicate n 0#8)

theorem test_wellFormed_frame_lengths :
    (∀ x ∈ [(Instr.pass, 8), (Instr.space, 1), (Instr.landed, 3), (Instr.jam, 3), (Instr.bid, 2), (Instr.room, 4),
      (Instr.fire, 1), (Instr.clear, 1), (Instr.join, 5)],
      wellFormed (x.1 (padded x.2)) = true ∧ wellFormed (x.1 (padded (x.2 - 1))) = false ∧
        wellFormed (x.1 (padded (x.2 + 1))) = false) := by decide

theorem test_wellFormed_order_lengths :
    ∀ x ∈ [(OrderKind.call, 6), (.cancel, 2), (.release, 3), (.halt, 0), (.resume, 0), (.doze, 0), (.wake, 0), (.restart, 0),
      (.enrol, 4), (.audit, 3), (.identify, 3), (.clearFaults, 1), (.query, 3), (.setupA, 7), (.setupB, 8)],
      wellFormed (.orderFrame x.1 (padded x.2)) = true ∧ wellFormed (.orderFrame x.1 (padded (x.2 + 1))) = false := by decide

theorem test_wellFormed_refuses_a_long_raw_frame :
    wellFormed (.voidMark ⟨0#16, 0#16, List.replicate 15 0#8, none⟩) = true ∧
      wellFormed (.voidMark ⟨0#16, 0#16, List.replicate 16 0#8, none⟩) = false := by decide

theorem test_wellFormed_refuses_positions_off_the_rack :
    wellFormed (.stopped 64 15) = true ∧ wellFormed (.stopped 65 0) = false ∧ wellFormed (.stopped 0 16) = false := by decide

theorem test_wellFormed_refuses_the_fault_codes_0_and_255 :
    wellFormed (.fault 1) = true ∧ wellFormed (.fault 254) = true ∧ wellFormed (.fault 0) = false ∧
      wellFormed (.fault 255) = false := by decide

theorem test_wellFormed_refuses_the_room_tags_0_and_4096 :
    ∀ c ∈ [Instr.scanEnd, Instr.bidClose, Instr.windowEnd],
      wellFormed (c 1) = true ∧ wellFormed (c 4095) = true ∧ wellFormed (c 0) = false ∧ wellFormed (c 4096) = false := by
  decide

/-! ### Values that the manual works out -/

/-- "Bin 7/589, for example, lies on side 0 at column 37, level 13 ... bin ID 14,925" (00_scope.md). -/
theorem test_bin_id_of_7_589 :
    7 * 2048 + 589 = 14925 ∧ homeOf 14925 = 7 ∧ indexOf 14925 = 589 ∧ sideOf 589 = 0 ∧ positionOf 589 = ⟨37, 13⟩ := by decide

/-- The six worked moves of section 5.2. -/
theorem test_worked_moves :
    moveTime Setup.powerOn Position.mouth ⟨37, 13⟩ = 3220 ∧ moveTime Setup.powerOn ⟨37, 11⟩ Position.mouth = 3220 ∧
      moveTime Setup.powerOn ⟨12, 3⟩ ⟨37, 11⟩ = 2500 ∧ moveTime Setup.powerOn ⟨21, 13⟩ ⟨37, 13⟩ = 1960 ∧
      moveTime Setup.powerOn ⟨5, 2⟩ ⟨5, 9⟩ = 1640 ∧ moveTime Setup.powerOn ⟨37, 13⟩ ⟨37, 13⟩ = 0 := by decide

/-- The estimates of the jobs of bin 9/589. -/
theorem test_worked_estimates :
    estOf Setup.powerOn (retrieveJob (9 * 2048 + 589) 40 3 .lend 1) = 12440 ∧
      estOf Setup.powerOn (storeJob (9 * 2048 + 589)) = 9220 ∧
      estOf Setup.powerOn { restoreJob (9 * 2048 + 589) with kind := .restore .rack } = 6220 ∧
      estOf Setup.powerOn (restoreJob (9 * 2048 + 589)) = 3000 := by decide

/-- The entry lanes from S9 in a twelve-station wing, for every destination. -/
theorem test_worked_entry_lanes :
    (List.range 12).map (fun k => entryLane Setup.powerOn 12 9 (k + 1)) =
      [⟨.outLane, some 8, 19200⟩, ⟨.outLane, some 7, 16800⟩, ⟨.outLane, some 6, 14400⟩, ⟨.outLane, some 5, 12000⟩,
       ⟨.outLane, some 4, 9600⟩, ⟨.outLane, some 3, 7200⟩, ⟨.outLane, some 2, 4800⟩, ⟨.outLane, some 1, 2400⟩,
       ⟨.outLane, some 0, 0⟩, ⟨.backLane, some 1, 2400⟩, ⟨.backLane, some 2, 4800⟩, ⟨.backLane, some 3, 7200⟩] := by decide

/-- The worked bid of section 5.6: 148. -/
theorem test_worked_bid :
    bidValue Setup.powerOn [{ storeJob 0 with est := 9000 }] 12 9 589 9 4 3 = some 148 := by decide

/-- The worked dispatch: J1 of three jobs starts, with the travel units 118, 88 and 100. -/
theorem test_worked_dispatch :
    let j1 := { retrieveJob (9 * 2048 + 36 * 16 + 11) 1 3 .lend 0 with stamp := 0 }
    let j2 := { retrieveJob (9 * 2048 + 4 * 16 + 2) 2 3 .lend 2 with stamp := 390 }
    let j3 := { storeJob (9 * 2048 + 19 * 16 + 6) with stamp := 420 }
    let here : Position := ⟨12, 3⟩
    [j1, j2, j3].map (travelUnits Setup.powerOn here) = [118, 88, 100] ∧
      [j1, j2, j3].map (credit 450) = [450, 240, 120] ∧
      let s := (jobs [j1, j2, j3] (calm.onBins fun _ => [(66, recd .stored), (587, recd .stored)])).onEst fun _ => { time := 450 }
      let t := dispatch ((s.setInStand (.holding { homeward with bin := j3.bin })).onCrane fun c => { c with pos := some here })
      t.crane.pool.map Job.state = [.active, .waiting, .waiting] ∧ t.crane.continuity = 1 := by decide +kernel

/-- "Examples of the fill step" (section 3.6): fill and hold after a visit, line by line. -/
theorem test_fill_step_examples :
    (∀ x ∈ ([(9, 4, some Purpose.fill, { homeward with delta := 4, filled := true }, 13, 0),
      (12, 0, some Purpose.lend, { homeward with delta := 5 }, 15, 0),
      (1, 0, some Purpose.lend, { homeward with delta := -3 }, 0, 0),
      (6, 5, some Purpose.fill, homeward, 6, 0),
      (6, 5, some Purpose.fill, toPort 3, 6, 5),
      (10, 3, none, { homeward with delta := 4 }, 12, 3)] : List (Nat × Nat × Option Purpose × Carry × Nat × Nat)),
      let r := { recd .out with fill := x.1, hold := x.2.1, call := x.2.2.1.map fun p => ⟨40, 3, p⟩ }
      let b := binAt 260 (homeVisit x.2.2.2.1 (withBin r calm)).2
      b.fill = x.2.2.2.2.1 ∧ b.hold = x.2.2.2.2.2) := by decide +kernel

/-- A frame of class 1, kind 10h from S9: the words of R2 and R24, laid out by hand. -/
theorem test_header_words_of_a_pass :
    (Frame.pass .outLane 8 foreign).word 9 = 0b0010000000001001 ∧
      (Frame.pass .outLane 8 foreign).control = 0b0100000100001000 := by decide

/-- The generator and the preset of R3 are those of the published CRC whose check value over "123456789" is 29B1h. -/
theorem test_check_value : checkOf 0x3132#16 0x3334#16 [0x35, 0x36, 0x37, 0x38, 0x39] = 0x29B1#16 := by decide +kernel

/-- R49 of every state: a warm reset as R67 gives, here a bin caught in the crane. -/
theorem test_warm_reset_loses_a_lifted_bin :
    warmRecord { recd .lifting with hold := 2, call := some ⟨40, 3, .fill⟩ } = recd .lost := by decide

/-! ### One step at a time -/

def after (c : Instr) (s : State) : State :=
  match step { s with pending := [c] } with
  | .next t => t
  | _ => s

/-- HOMED ends the first HOME run IDLE at the mouth (R73). -/
theorem test_step_homed :
    (after (.homed false) (flying .home (crane .homing calm))).crane.state = .idle := by decide +kernel

/-- DONE of a MOVE to the bin sends the FORK to its side (R75). -/
theorem test_step_done_sends_the_fork :
    (after .done (fetching .travelEmpty (.move ⟨17, 4⟩) .stored)).crane.inFlight = some (.fork 0 .pick) := by decide +kernel

/-- A CALL of a STORED bin starts at once at an IDLE crane (R82). -/
theorem test_step_call_starts :
    (after .call (order .call callBytes (withBin (recd .stored) calm))).crane.inFlight = some (.move ⟨17, 4⟩) := by
  decide +kernel

/-- A PASS taken makes the through reservation (R118). -/
theorem test_step_pass_reserves :
    (after (.pass (frame 10 9 passing)) calm).lanes.outSeg.reservation = some (.through .neighbour foreign) ∧
      (after (.pass (frame 10 9 passing)) calm).bus.answer = driveTaken := by decide +kernel

/-- The own compartment's FIRE shuts the station down (R175). -/
theorem test_step_fire_shuts_down :
    (after (.fire (frame 8 0 [8])) calm).ctl.station = .shutdown ∧
      (after (.fire (frame 8 0 [16])) calm).ctl.station = .active := by decide +kernel

/-- The join wait's end makes the station ACTIVE and sends the crane home (R30). -/
theorem test_step_join_wait_ends :
    (after .joinWaitExpiry State.reset).ctl.station = .active ∧
      (after .joinWaitExpiry State.reset).crane.inFlight = some .home := by decide +kernel

end Sys2Proof.Tests
end

section
/-! PROOF. Taking an order that the state tables admit: the REPLY it leaves, and the blocks that are its owner's alone
(R6, R16, R17, R35, R178). -/

namespace Sys2Proof.Machine

open Sys2Proof Sys2Proof.Safety

variable {s : State} {id : SlotId} {r : RxRecord} {rest : List RxRecord}

/-- The free slot that R6 gives is free. -/
theorem Slots.get_of_freeSlot {t : Slots} (h : t.freeSlot = some id) : t.get id = .free := by
  unfold Slots.freeSlot at h
  split_ifs at h <;> (cases h; assumption)

/-- The wish to take never displaces a queued frame: it meets a free slot or none (R6). -/
theorem wishGoesOn_get_of_holds {q : Queued} (h : s.bus.slots.get id = .holds q) :
    (wishGoesOn s).bus.slots.get id = .holds q := by
  unfold wishGoesOn
  split
  · exact h
  · split
    next free hfree =>
      have hne : id ≠ free := by
        rintro rfl
        simp [Slots.get_of_freeSlot hfree] at h
      exact (Slots.get_set_other hne ..).trans h
    next => exact h

/-- The wish to take writes the Bus Interface alone. -/
theorem wishGoesOn_eq_onBus (s : State) : wishGoesOn s = { s with bus := (wishGoesOn s).bus } := by
  unfold wishGoesOn
  split
  · rfl
  · split <;> rfl

/-- An order from the gateway node that the state tables do not refuse is answered by its owner (R35, R178). -/
theorem answerOrder_of_admitted (body : OrderBody) (hsender : r.sender.toNat = Config.gateway)
    (hadmit : refusal r.kind s.ctl.station = none) : answerOrder body r s = body r s := by
  simp [answerOrder, hsender, hadmit]

/-- What `serve` does with the record it takes (R16). -/
theorem serve_of_takes {p : RxRecord → Bool} {body : OrderBody} (h : Takes s id r rest) (hp : p r = true)
    (hadmit : refusal r.kind s.ctl.station = none) :
    serve p body s = wishGoesOn (putReply id r (body r (beginTake id r rest s)).1 s.bus.order
      (body r (beginTake id r rest s)).2) := by
  obtain ⟨hrx, hslot, hsender, hstraps⟩ := h
  have hanswer : answerOrder body r (beginTake id r rest s) = body r (beginTake id r rest s) :=
    answerOrder_of_admitted body hsender hadmit
  simp only [serve, hrx, hslot, hp, hstraps, hanswer, ne_eq, not_false_eq_true, decide_true, Bool.and_self, if_true]

/-- The order's answer is the REPLY in the granted slot, for an owner that leaves the receive queue alone (R16, R17). -/
theorem serve_replies {p : RxRecord → Bool} {body : OrderBody} (h : Takes s id r rest) (hp : p r = true)
    (hadmit : refusal r.kind s.ctl.station = none) (hrx : (body r (beginTake id r rest s)).2.bus.rx = rest) :
    Replies (serve p body s) id rest ((body r (beginTake id r rest s)).1.toReply r) := by
  rw [serve_of_takes h hp hadmit]
  refine ⟨?_, s.bus.order, wishGoesOn_get_of_holds ?_⟩
  · simp [hrx]
  · simp

/-- Outside the Bus Interface the take does what the order's owner does, and no more (R16). -/
theorem serve_eq_onBus {p : RxRecord → Bool} {body : OrderBody} (h : Takes s id r rest) (hp : p r = true)
    (hadmit : refusal r.kind s.ctl.station = none) :
    serve p body s = { (body r (beginTake id r rest s)).2 with bus := (serve p body s).bus } := by
  rw [serve_of_takes h hp hadmit]
  exact wishGoesOn_eq_onBus _

/-- The REPLY without a detail, to the gateway node (R17). -/
theorem Answer.toReply_plain (code : ResultCode) (ref : Nat) (hsender : r.sender.toNat = Config.gateway) :
    (Answer.plain code ref).toReply r = plainReply r.kind code ref := by
  simp [Answer.toReply, Answer.plain, plainReply, hsender]

end Sys2Proof.Machine
end

section
/-! PROOF. CLEAR-FAULTS (R46). -/

namespace Sys2Proof.Machine

open Sys2Proof Sys2Proof.Safety

/-- No station state refuses CLEAR-FAULTS (R35, R178). -/
theorem refusal_clearFaults (t : StationState) : refusal .clearFaults t = none := by
  cases t <;> rfl

/-- A bit of a mask, read as its weight. -/
theorem getLsbD_eq_decide_weight (mask : Byte) (k : Nat) :
    mask.getLsbD k = decide (mask.toNat / 2 ^ k % 2 = 1) := by
  rw [← BitVec.testBit_toNat, Nat.testBit_eq_decide_div_mod_eq]

/-- A flag that a decided condition clears, as the statements write it. -/
theorem and_not_decide_eq_ite (b : Bool) (p : Prop) [Decidable p] : (b && !decide p) = if p then false else b := by
  by_cases hp : p <;> simp [hp]

/-- Weight 64 or 128 stands in the mask exactly when the mask is 64 or more. -/
theorem weight_64_or_128_iff (mask : Byte) :
    (mask.getLsbD 6 || mask.getLsbD 7) = true ↔ mask.toNat / 64 ≠ 0 := by
  have hmask : mask.toNat < 256 := mask.isLt
  simp only [getLsbD_eq_decide_weight, Bool.or_eq_true, decide_eq_true_eq]
  omega

/-- The clearing, item by item, by the mask's weights (R46). -/
theorem clearRecord_eq (mask : Byte) (f : FaultRecord) :
    clearRecord mask f =
      { shutterFault := if mask.toNat % 2 = 1 then false else f.shutterFault
        driveFault := if mask.toNat / 2 % 2 = 1 then false else f.driveFault
        offBusEvent := if mask.toNat / 4 % 2 = 1 then false else f.offBusEvent
        ringMismatch := if mask.toNat / 8 % 2 = 1 then false else f.ringMismatch
        dropped := if mask.toNat / 32 % 2 = 1 then 0 else f.dropped
        deferred := if mask.toNat / 32 % 2 = 1 then 0 else f.deferred
        recircs := if mask.toNat / 32 % 2 = 1 then 0 else f.recircs } := by
  simp only [clearRecord, getLsbD_eq_decide_weight, and_not_decide_eq_ite, decide_eq_true_eq, pow_zero, Nat.div_one,
    Nat.reducePow]

/-- A mask with weight 64 or 128 is answered BAD-FIELD, and nothing changes (R46). -/
theorem clearFaultsBody_of_reserved {r : RxRecord} {mask : Byte} (hmask : r.payload = [mask])
    (h : mask.toNat / 64 ≠ 0) (s : State) : clearFaultsBody r s = (Answer.plain .badField 0, s) := by
  have hbits := (weight_64_or_128_iff mask).2 h
  simp only [clearFaultsBody, hmask, List.getD_cons_zero, hbits, if_true]

/-- Any other mask is answered DONE, and clears the fault record by its weights (R46). -/
theorem clearFaultsBody_of_items {r : RxRecord} {mask : Byte} (hmask : r.payload = [mask])
    (h : mask.toNat / 64 = 0) (s : State) :
    clearFaultsBody r s = (Answer.plain .done 0, s.onRecord (clearRecord mask)) := by
  have hbits : ¬ (mask.getLsbD 6 || mask.getLsbD 7) = true := fun hb => (weight_64_or_128_iff mask).1 hb h
  simp only [clearFaultsBody, hmask, List.getD_cons_zero, if_neg hbits]

/-- Settles O15: the take does what `clearFaultsBody` does, and that splits at weight 64 of the mask (R46). -/
theorem clearFaultsClears : Obligations.ClearFaultsClears := by
  intro s id r rest mask htakes hkind hmask
  have ⟨_, _, hsender, _⟩ := htakes
  have hp : isKind .clearFaults r = true := by simp [isKind, hkind]
  have hadmit : refusal r.kind s.ctl.station = none := hkind ▸ refusal_clearFaults _
  have hreplies := serve_replies (body := clearFaultsBody) htakes hp hadmit
  have hstate := serve_eq_onBus (body := clearFaultsBody) htakes hp hadmit
  refine ⟨serve (isKind .clearFaults) clearFaultsBody s, rfl, fun hreserved => ?_, fun hitems => ?_⟩
  · rw [clearFaultsBody_of_reserved hmask hreserved] at hreplies hstate
    rw [Answer.toReply_plain _ _ hsender, hkind] at hreplies
    exact ⟨hstate, hreplies rfl⟩
  · rw [clearFaultsBody_of_items hmask hitems] at hreplies hstate
    rw [Answer.toReply_plain _ _ hsender, hkind] at hreplies
    exact ⟨hreplies rfl, clearRecord_eq mask _ ▸ hstate⟩

end Sys2Proof.Machine
end

section
/-! PROOF. The range law of the Estimator (R109). -/

namespace Sys2Proof.Machine

open Sys2Proof

/-- A saturated value is within its limit. -/
theorem saturate_le (limit n : Nat) : saturate limit n ≤ limit := Nat.min_le_right ..

/-- A saturated time is at most 65,535 ms (R109). -/
theorem satTime_le (n : Nat) : satTime n ≤ 65535 := saturate_le ..

/-- The limit of every time, written out as the obligations write it (R109). -/
theorem satTime_eq_min (n : Nat) : satTime n = min n 65535 := rfl

theorem axisTime_le (ramp pitch d : Nat) : axisTime ramp pitch d ≤ 65535 := by
  unfold axisTime
  split
  · exact Nat.zero_le _
  · exact satTime_le _

theorem moveTime_le (u : Setup) (a b : Position) : moveTime u a b ≤ 65535 := by
  unfold moveTime
  split
  · exact Nat.zero_le _
  · exact satTime_le _

/-- Whatever the kind of the job, its last addition saturates (R97). -/
theorem cycleEstimate_le (u : Setup) (p : Position) (j : Job) : cycleEstimate u p j ≤ 65535 := by
  unfold cycleEstimate
  split <;> exact satTime_le _

theorem estOf_le (u : Setup) (j : Job) : estOf u j ≤ 65535 := cycleEstimate_le ..

theorem backlog_le (pool : List Job) : backlog pool ≤ 65535 := satTime_le _

theorem rawTime_le (u : Setup) (pool : List Job) (top n index port : Nat) :
    rawTime u pool top n index port ≤ 65535 := satTime_le _

theorem credit_le (now : Nat) (j : Job) : credit now j ≤ 65535 := saturate_le ..

/-- Off the ring the transit time is the limit itself; on the ring it saturates on either lane (R102, R103). -/
theorem transit_entryLane_le (u : Setup) (top n d : Nat) : (entryLane u top n d).transit ≤ 65535 := by
  unfold entryLane
  split
  · exact le_refl 65535
  · dsimp only
    split <;> exact satTime_le _

/-- A saturated time rounds up to at most 656 travel units (R104). -/
theorem travelUnits_le (u : Setup) (p : Position) (j : Job) : travelUnits u p j ≤ 656 := by
  have hcycle := cycleEstimate_le u p j
  unfold travelUnits ceilDiv
  omega

/-- A saturated time rounds up to at most 263 time units (R107). -/
theorem rawTime_units_le (u : Setup) (pool : List Job) (top n index port : Nat) :
    (rawTime u pool top n index port + 249) / 250 ≤ 263 := by
  have hraw := rawTime_le u pool top n index port
  omega

/-- A bin that would pass 15 units has no bid value; any other value is held at 254 (R107). -/
theorem bidValue_le {u : Setup} {pool : List Job} {top n index fill units port v : Nat}
    (h : bidValue u pool top n index fill units port = some v) : v ≤ 254 := by
  unfold bidValue at h
  split at h
  · cases h
  · cases h
    exact Nat.min_le_left ..

/-- Settles O31: each time, unit count and bid value has its own bound. -/
theorem estimatorRangeLaw : Obligations.EstimatorRangeLaw := by
  intro u p q j pool top n d index fill units ramp pitch dist
  exact ⟨axisTime_le .., moveTime_le .., cycleEstimate_le .., estOf_le .., backlog_le _, transit_entryLane_le ..,
    travelUnits_le .., rawTime_le .., rawTime_units_le .., fun now => credit_le now j, fun _ => bidValue_le⟩

end Sys2Proof.Machine
end

section
/-! PROOF. The entry lane (R100 to R103). -/

namespace Sys2Proof.Machine

open Sys2Proof

/-- Every station of the wing has its two segments among the 2T ring positions (R100). -/
theorem ringPosition_lt {top n : Nat} (l : Lane) (hn : 1 ≤ n) (htop : n ≤ top) : ringPosition top l n < 2 * top := by
  cases l <;> simp only [ringPosition] <;> omega

/-- Between ring positions the hop count is the difference taken round the ring, modulo 2T (R101). -/
theorem hopCount_eq_mod {top a b : Nat} (ha : a < 2 * top) (hb : b < 2 * top) :
    hopCount top a b = (b + 2 * top - a) % (2 * top) := by
  unfold hopCount
  split
  next hab =>
    have hlap : b + 2 * top - a = b - a + 2 * top := by omega
    rw [hlap, Nat.add_mod_right, Nat.mod_eq_of_lt (by omega)]
  next => rw [Nat.mod_eq_of_lt (by omega)]

theorem hopCount_self (top a : Nat) : hopCount top a a = 0 := by
  simp [hopCount]

/-- The distance from a ring position to a station of the wing, by the shorter way round to its two segments (R101). -/
theorem ringDistance_eq_min_mod {top a d : Nat} (ha : a < 2 * top) (hd : 1 ≤ d) (hdtop : d ≤ top) :
    ringDistance top a d =
      min ((top - d + 2 * top - a) % (2 * top)) ((top + d - 1 + 2 * top - a) % (2 * top)) := by
  rw [ringDistance, hopCount_eq_mod ha (ringPosition_lt .outLane hd hdtop),
    hopCount_eq_mod ha (ringPosition_lt .backLane hd hdtop)]
  rfl

/-- A station's own segment is at distance 0 from it (R101). -/
theorem ringDistance_ringPosition_self (top n : Nat) (l : Lane) : ringDistance top (ringPosition top l n) n = 0 := by
  cases l <;> simp [ringDistance, hopCount_self]

/-- A destination off the ring (R102). -/
theorem entryLane_of_off_ring {u : Setup} {top n d : Nat} (h : d = 0 ∨ top < d) :
    entryLane u top n d = { lane := .outLane, hops := none, transit := 65535 } := if_pos h

/-- A destination on the ring: the lane of the smaller distance, the out-lane when they are equal (R102). -/
theorem entryLane_of_on_ring {u : Setup} {top n d : Nat} (hd : 1 ≤ d) (hdtop : d ≤ top) :
    entryLane u top n d =
      if ringDistance top (ringPosition top .backLane n) d < ringDistance top (ringPosition top .outLane n) d
      then { lane := .backLane, hops := some (ringDistance top (ringPosition top .backLane n) d)
             transit := satTime (ringDistance top (ringPosition top .backLane n) d * u.hop) }
      else { lane := .outLane, hops := some (ringDistance top (ringPosition top .outLane n) d)
             transit := satTime (ringDistance top (ringPosition top .outLane n) d * u.hop) } :=
  if_neg (by omega)

/-- A station is its own destination without a hop (R101, R102). -/
theorem entryLane_self {u : Setup} {top n : Nat} (hn : 1 ≤ n) (htop : n ≤ top) :
    entryLane u top n n = { lane := .outLane, hops := some 0, transit := 0 } := by
  rw [entryLane_of_on_ring hn htop]
  simp [ringDistance_ringPosition_self, satTime_eq_min]

/-- Settles O32: on the ring the two distances are the two ways of the statement, by `ringDistance_eq_min_mod`. -/
theorem entryLaneIsTheShorterWay : Obligations.EntryLaneIsTheShorterWay := by
  intro u top n d _ hn htop ahead way
  refine ⟨entryLane_of_off_ring, fun hd hdtop => ?_, entryLane_self hn htop⟩
  have hout : ringDistance top (ringPosition top .outLane n) d = way (top - n) :=
    ringDistance_eq_min_mod (ringPosition_lt .outLane hn htop) hd hdtop
  have hback : ringDistance top (ringPosition top .backLane n) d = way (top + n - 1) :=
    ringDistance_eq_min_mod (ringPosition_lt .backLane hn htop) hd hdtop
  rw [entryLane_of_on_ring hd hdtop, hout, hback, satTime_eq_min, satTime_eq_min]

end Sys2Proof.Machine
end

section
/-! PROOF. What the shared operations keep of the laws (R6, R28, R50, R129, R175, R177, R189): three relations between a
state and a later one, each stronger than the one before, and a rule for each write of one block. -/

namespace Sys2Proof.Machine

-- Checked one after another: the host bounds the memory of all threads together.
set_option Elab.async false

open Sys2Proof Sys2Proof.Safety

variable {s t u : State}

/-- The part of the shutter law that speaks of the shutter and its outputs alone (R189): the alarm view has no say in it,
so that it stands also between a change of the view and the shutter's answer to it. -/
def ShutterDrive (s : State) : Prop :=
  (s.fire.openOut = true → s.fire.closeOut = false ∧ s.fire.shutter = some .opening) ∧
    (s.fire.shutter = some .opening → s.fire.closeOut = false)

theorem ShutterDrive.of_law (h : ShutterLaw s) : ShutterDrive s :=
  ⟨h.1, fun hopening => (h.2 hopening).1⟩

/-- From `s` to `t` the laws stand that no station state, no alarm view and no crane state enters: those of slot 0, of the
Bin Table, of the capacities and of the shutter's outputs. Every command but the resets does so. -/
structure Holds (s t : State) : Prop where
  pending : t.pending = s.pending
  straps : t.ctl.straps = s.ctl.straps
  slot : SlotLaw s → SlotLaw t
  bin : BinLaw s → BinLaw t
  cap : WithinCapacity s → WithinCapacity t
  drive : ShutterDrive s → ShutterDrive t

/-- Beyond `Holds`, the station state, the alarm view and the fire latch are unchanged, a RESTART run may have ended but
none has begun, and the ring hold law and the shutter law stand. -/
structure Keeps (s t : State) : Prop extends Holds s t where
  station : t.ctl.station = s.ctl.station
  view : t.fire.view = s.fire.view
  latch : t.fire.latch = s.fire.latch
  restartRun : s.crane.restartRun = false → t.crane.restartRun = false
  ring : RingHoldLaw s → RingHoldLaw t
  shutter : ShutterLaw s → ShutterLaw t

/-- Beyond `Keeps`, the law of the stopped crane stands. -/
structure Stays (s t : State) : Prop extends Keeps s t where
  crane : StoppedCraneLaw s → StoppedCraneLaw t

theorem Holds.refl : Holds s s := ⟨rfl, rfl, id, id, id, id⟩

theorem Holds.trans (h : Holds s t) (k : Holds t u) : Holds s u :=
  ⟨k.pending.trans h.pending, k.straps.trans h.straps, k.slot ∘ h.slot, k.bin ∘ h.bin, k.cap ∘ h.cap, k.drive ∘ h.drive⟩

theorem Keeps.trans (h : Keeps s t) (k : Keeps t u) : Keeps s u :=
  ⟨h.toHolds.trans k.toHolds, k.station.trans h.station, k.view.trans h.view, k.latch.trans h.latch,
    k.restartRun ∘ h.restartRun, k.ring ∘ h.ring, k.shutter ∘ h.shutter⟩

theorem Stays.refl : Stays s s := ⟨⟨.refl, rfl, rfl, rfl, id, id, id⟩, id⟩

theorem Keeps.refl : Keeps s s := Stays.refl.toKeeps

theorem Stays.trans (h : Stays s t) (k : Stays t u) : Stays s u := ⟨h.toKeeps.trans k.toKeeps, k.crane ∘ h.crane⟩

/-! ### One block written -/

/-- The Bus Interface written: the receive queue and the failure count within their limits, and slot 0 left to FIRE. -/
theorem Stays.onBus {f : Bus → Bus} (rx : s.bus.rx.length ≤ 8 → (f s.bus).rx.length ≤ 8 := by exact fun h => h)
    (failures : s.bus.failures ≤ 16 → (f s.bus).failures ≤ 16 := by exact fun h => h)
    (slot : SlotLaw s → SlotLaw (s.onBus f) := by exact fun h => h) : Stays s (s.onBus f) :=
  ⟨⟨⟨rfl, rfl, slot, id, fun ⟨hrx, hn, hp, ha, hf, hrest⟩ => ⟨rx hrx, hn, hp, ha, failures hf, hrest⟩, id⟩,
    rfl, rfl, rfl, id, id, id⟩, id⟩

/-- Station Control written, but for the station state: the notice list and the counts within their limits. -/
theorem Stays.onCtl {f : Control → Control} (straps : (f s.ctl).straps = s.ctl.straps := by rfl)
    (station : (f s.ctl).station = s.ctl.station := by rfl)
    (notices : s.ctl.notices.length ≤ 8 → (f s.ctl).notices.length ≤ 8 := by exact fun h => h)
    (dropped : s.ctl.record.dropped ≤ 255 → (f s.ctl).record.dropped ≤ 255 := by exact fun h => h)
    (deferred : s.ctl.record.deferred ≤ 255 → (f s.ctl).record.deferred ≤ 255 := by exact fun h => h)
    (recircs : s.ctl.record.recircs ≤ 255 → (f s.ctl).record.recircs ≤ 255 := by exact fun h => h) :
    Stays s (s.onCtl f) := by
  refine ⟨⟨⟨rfl, straps, id, id, ?_, id⟩, station, rfl, rfl, id, ?_, ?_⟩, ?_⟩
  · rintro ⟨hrx, hn, hp, ha, hf, ho, hb, hc, hdr, hde, hre, ht⟩
    exact ⟨hrx, notices hn, hp, ha, hf, ho, hb, hc, dropped hdr, deferred hde, recircs hre, ht⟩
  · simp [RingHoldLaw, station]
  · simp [ShutterLaw, State.ownAlarmed, State.alarmed, State.compartment, straps]
  · simp [StoppedCraneLaw, station]

theorem Stays.onPins {f : Pins → Pins} : Stays s (s.onPins f) := ⟨⟨⟨rfl, rfl, id, id, id, id⟩, rfl, rfl, rfl, id, id, id⟩, id⟩

theorem Stays.onPort {f : Port → Port} : Stays s (s.onPort f) := ⟨⟨⟨rfl, rfl, id, id, id, id⟩, rfl, rfl, rfl, id, id, id⟩, id⟩

/-- The auction records written: no more of them than before, or no more than four. -/
theorem Stays.onAuctions {f : AuctionUnit → AuctionUnit}
    (records : s.auctions.records.length ≤ 4 → (f s.auctions).records.length ≤ 4) : Stays s (s.onAuctions f) :=
  ⟨⟨⟨rfl, rfl, id, id, fun ⟨hrx, hn, hp, ha, hrest⟩ => ⟨hrx, hn, hp, records ha, hrest⟩, id⟩,
    rfl, rfl, rfl, id, id, id⟩, id⟩

/-- A segment written, but for its condition: the merge counter within its limit. -/
theorem Stays.onSeg {l : Lane} {f : Segment → Segment} (cond : (f (s.seg l)).cond = (s.seg l).cond := by rfl)
    (merge : (s.seg l).merge ≤ 8 → (f (s.seg l)).merge ≤ 8 := by exact fun h => h) : Stays s (s.onSeg l f) := by
  have hring : RingHoldLaw s → RingHoldLaw (s.onSeg l f) := by
    cases l <;> simp only [State.seg] at cond <;> simp [RingHoldLaw, State.onSeg, cond]
  have hcap : WithinCapacity s → WithinCapacity (s.onSeg l f) := by
    rintro ⟨hrx, hn, hp, ha, hf, ho, hb, hrest⟩
    cases l
    · exact ⟨hrx, hn, hp, ha, hf, merge ho, hb, hrest⟩
    · exact ⟨hrx, hn, hp, ha, hf, ho, merge hb, hrest⟩
  cases l <;> exact ⟨⟨⟨rfl, rfl, id, id, hcap, id⟩, rfl, rfl, rfl, id, hring, id⟩, id⟩

theorem Stays.setOutStand {o : OutStand} : Stays s (s.setOutStand o) :=
  ⟨⟨⟨rfl, rfl, id, id, id, id⟩, rfl, rfl, rfl, id, id, id⟩, id⟩

theorem Stays.setInStand {i : InStand} : Stays s (s.setInStand i) :=
  ⟨⟨⟨rfl, rfl, id, id, id, id⟩, rfl, rfl, rfl, id, id, id⟩, id⟩

theorem Stays.setApproach {a : Approach} : Stays s (s.setApproach a) := Stays.onPort

theorem Stays.setService {v : Service} : Stays s (s.setService v) := Stays.onPort

/-- The Crane Sequencer written in a way that has nothing to do with its law: the pool and the continuity count within
their limits, and no RESTART run begun. -/
theorem Keeps.onCrane {f : Crane → Crane} (pool : s.crane.pool.length ≤ 32 → (f s.crane).pool.length ≤ 32 := by exact fun h => h)
    (continuity : s.crane.continuity ≤ 8 → (f s.crane).continuity ≤ 8 := by exact fun h => h)
    (restartRun : s.crane.restartRun = false → (f s.crane).restartRun = false := by exact fun h => h) :
    Keeps s (s.onCrane f) := by
  refine ⟨⟨rfl, rfl, id, id, ?_, id⟩, rfl, rfl, rfl, restartRun, id, id⟩
  rintro ⟨hrx, hn, hp, ha, hf, ho, hb, hc, hrest⟩
  exact ⟨hrx, hn, pool hp, ha, hf, ho, hb, continuity hc, hrest⟩

/-- The Crane Sequencer written with its state and the command in flight left alone: no job comes into a state that no
job of the pool had, unless it is WAITING or FROZEN. -/
theorem Stays.onCrane {f : Crane → Crane} (pool : s.crane.pool.length ≤ 32 → (f s.crane).pool.length ≤ 32 := by exact fun h => h)
    (continuity : s.crane.continuity ≤ 8 → (f s.crane).continuity ≤ 8 := by exact fun h => h)
    (restartRun : s.crane.restartRun = false → (f s.crane).restartRun = false := by exact fun h => h)
    (state : (f s.crane).state = s.crane.state := by rfl)
    (inFlight : (f s.crane).inFlight = s.crane.inFlight := by rfl)
    (jobs : ∀ j ∈ (f s.crane).pool, j.state = .waiting ∨ j.state = .frozen ∨ ∃ k ∈ s.crane.pool, k.state = j.state
      := by exact fun j hj => .inr (.inr ⟨j, hj, rfl⟩)) :
    Stays s (s.onCrane f) := by
  refine ⟨Keeps.onCrane pool continuity restartRun, fun ⟨hflight, hshut⟩ => ⟨?_, fun hstation => ?_⟩⟩
  · simpa [state, inFlight] using hflight
  · obtain ⟨hrest, hrun, hjobs⟩ := hshut hstation
    refine ⟨by simpa [state] using hrest, restartRun hrun, fun j hj => ?_⟩
    rcases jobs j hj with hw | hfr | ⟨k, hk, hkj⟩
    · exact .inl hw
    · exact .inr hfr
    · exact hkj ▸ hjobs k hk

end Sys2Proof.Machine
end

section
/-! PROOF. The Bus Interface and the notices keep the laws (R6 to R11, R19, R31). -/

namespace Sys2Proof.Machine

-- Checked one after another: the host bounds the memory of all threads together.
set_option Elab.async false

open Sys2Proof Sys2Proof.Safety

variable {s t u : State} {id : SlotId}

/-- The law of slot 0 looks at the slots alone. -/
theorem slotLaw_of_s0 (h : t.bus.slots.s0 = s.bus.slots.s0) : SlotLaw s → SlotLaw t := by
  simp [SlotLaw, h]

/-- A slot of 1 to 3 may hold anything. -/
theorem setSlot_stays {x : Slot} (h : id ≠ .s0) : Stays s (setSlot id x s) :=
  Stays.onBus (slot := slotLaw_of_s0 (by cases id <;> first | rfl | exact absurd rfl h))

/-- A slot that is emptied holds nothing against the law. -/
theorem setSlot_free_stays : Stays s (setSlot id .free s) := by
  cases id
  · exact Stays.onBus (slot := fun _ => ⟨by simp [Slots.set], by simp [Slots.set]⟩)
  all_goals exact setSlot_stays (by decide)

/-- A queued frame whose marks alone change is the same frame to the law. -/
theorem setSlot_same_frame_stays {q q' : Queued} (hq : s.bus.slots.get id = .holds q) (hf : q'.frame = q.frame) :
    Stays s (setSlot id (.holds q') s) := by
  cases id
  · refine Stays.onBus (slot := fun ⟨_, hfire⟩ => ⟨by simp [Slots.set], fun r hr => ?_⟩)
    obtain rfl : q' = r := by simpa [Slots.set] using hr
    exact hf ▸ hfire q hq
  all_goals exact setSlot_stays (by decide)

theorem placeFrame_stays {f : Frame} (h : id ≠ .s0) : Stays s (placeFrame id f s) :=
  Stays.onBus (slot := slotLaw_of_s0 (by cases id <;> first | rfl | exact absurd rfl h))

/-- A FIRE may take slot 0. -/
theorem placeFire_stays {m : BitVec 8} : Stays s (placeFrame .s0 (.fire m) s) := by
  refine Stays.onBus (slot := fun _ => ⟨by simp [Slots.set], fun r hr => ⟨m, ?_⟩⟩)
  obtain rfl : newQueued (.fire m) s.bus.order = r := by simpa [Slots.set] using hr
  rfl

theorem Slots.freeSlot_ne_s0 {x : Slots} (h : x.freeSlot = some id) : id ≠ .s0 := by
  unfold Slots.freeSlot at h
  split_ifs at h <;> (cases h; decide)

theorem Slots.grantedSlot_ne_s0 {x : Slots} (h : x.grantedSlot = some id) : id ≠ .s0 := by
  unfold Slots.grantedSlot at h
  split_ifs at h <;> (cases h; decide)

theorem queueFire_stays {m : BitVec 8} : Stays s (queueFire m s) := by
  unfold queueFire
  split
  · exact .refl
  · split
    next q hq =>
      split
      · exact Stays.onBus
      · split
        next k _ =>
          refine Stays.onBus (slot := fun _ => ⟨by simp [Slots.set], fun r hr => ⟨k ||| m, ?_⟩⟩)
          obtain rfl : { q with frame := Frame.fire (k ||| m) } = r := by simpa [Slots.set] using hr
          rfl
        · exact .refl
    next => exact placeFire_stays

theorem queueFrame_stays {f : Frame} : Stays s (queueFrame f s) := by
  unfold queueFrame
  split
  · exact .refl
  · split
    next id hid => exact placeFrame_stays (Slots.freeSlot_ne_s0 hid)
    next => exact Stays.onBus

/-- Slot 0 seen through a change of the frames that leaves a FIRE a FIRE. -/
theorem slotLaw_mapFrames {f : Queued → Queued} (hf : ∀ q m, q.frame = .fire m → (f q).frame = .fire m) :
    SlotLaw s → SlotLaw (s.onBus fun b => { b with slots := b.slots.mapFrames f }) := by
  rintro ⟨hgranted, hfire⟩
  cases h0 : s.bus.slots.s0 with
  | free => simp [SlotLaw, Slots.mapFrames, Slot.mapFrame, h0]
  | granted => exact absurd h0 hgranted
  | holds q =>
    obtain ⟨m, hm⟩ := hfire q h0
    simp [SlotLaw, Slots.mapFrames, Slot.mapFrame, h0, hf q m hm]

theorem setPendingKind_stays {k : Nat} : Stays s (setPendingKind k s) :=
  Stays.trans Stays.onCtl (Stays.onBus (slot := slotLaw_mapFrames (fun q m hq => by simp [hq])))

theorem raise_stays {n : Notice} : Stays s (raise n s) := by
  unfold raise
  split
  · exact setPendingKind_stays
  · split
    next id hid => exact placeFrame_stays (Slots.freeSlot_ne_s0 hid)
    next =>
      split
      next hroom => exact Stays.trans (Stays.onCtl (notices := by simp; omega)) Stays.onBus
      next => exact setPendingKind_stays

theorem grantSlot_stays (h : id ≠ .s0) : Stays s (grantSlot id s) := by
  unfold grantSlot
  split
  · exact .refl
  · split
    · exact Stays.trans Stays.onBus (placeFrame_stays h)
    · refine Stays.trans (Stays.onCtl (notices := ?_)) (placeFrame_stays h)
      simp only [List.length_tail]
      omega
    · exact setSlot_stays h

theorem freeSlotThen_stays : Stays s (freeSlotThen id s) := by
  unfold freeSlotThen
  refine Stays.trans (t := setSlot id .free s) setSlot_free_stays ?_
  cases id
  · dsimp only
    split
    · exact .refl
    · exact Stays.trans Stays.onBus placeFire_stays
  all_goals exact grantSlot_stays (by decide)

theorem wishGoesOn_stays : Stays s (wishGoesOn s) := by
  unfold wishGoesOn
  split
  · exact .refl
  · split
    next id hid => exact setSlot_stays (Slots.freeSlot_ne_s0 hid)
    next => exact .refl

theorem wishBegins_stays : Stays s (wishBegins s) := Stays.onBus

theorem wishTake_stays : Stays s (wishTake s) := wishBegins_stays.trans wishGoesOn_stays

theorem abortFrame_stays {p : Frame → Bool} : Stays s (abortFrame p s).2 := by
  unfold abortFrame
  split
  · dsimp only
    exact Stays.onBus
  · split
    · exact .refl
    · split
      next q hq =>
        split
        · exact setSlot_same_frame_stays hq rfl
        · exact freeSlotThen_stays
      next => exact .refl

theorem setRoster_stays {n : Nat} {e : RosterEntry} : Stays s (setRoster n e s) := Stays.onCtl

theorem stationSilent_stays {n : Nat} : Stays s (stationSilent n s) := by
  unfold stationSilent
  split
  · dsimp only
    split
    · exact setRoster_stays.trans raise_stays
    · exact setRoster_stays
  · exact .refl

theorem answerWith_stays {a : AnswerBits} : Stays s (answerWith a s) := Stays.onBus

theorem onRecord_stays {f : FaultRecord → FaultRecord}
    (dropped : s.ctl.record.dropped ≤ 255 → (f s.ctl.record).dropped ≤ 255 := by exact fun h => h)
    (deferred : s.ctl.record.deferred ≤ 255 → (f s.ctl.record).deferred ≤ 255 := by exact fun h => h)
    (recircs : s.ctl.record.recircs ≤ 255 → (f s.ctl.record).recircs ≤ 255 := by exact fun h => h) :
    Stays s (s.onRecord f) :=
  Stays.onCtl (dropped := dropped) (deferred := deferred) (recircs := recircs)

theorem countDropped_stays : Stays s (countDropped s) := onRecord_stays (dropped := fun _ => saturate_le ..)

theorem countDeferred_stays : Stays s (countDeferred s) := onRecord_stays (deferred := fun _ => saturate_le ..)

theorem countRecirc_stays : Stays s (countRecirc s) := onRecord_stays (recircs := fun _ => saturate_le ..)

/-- The first slot that meets `p` holds a frame that meets it. -/
theorem Slots.find_holds {p : Queued → Bool} {x : Slots} (h : x.find p = some id) :
    ∃ q, x.get id = .holds q ∧ p q = true := by
  have hp := List.find?_some h
  split at hp
  next q hq => exact ⟨q, hq, hp⟩
  next => cases hp

/-- By the law of slot 0 a JOIN stands in a slot of 1 to 3. -/
theorem ne_s0_of_join (hlaw : SlotLaw s) {q : Queued} (hq : s.bus.slots.get id = .holds q)
    (hjoin : isJoin q.frame = true) : id ≠ .s0 := by
  rintro rfl
  obtain ⟨m, hm⟩ := hlaw.2 q hq
  simp [hm, isJoin] at hjoin

/-- A JOIN written over a JOIN: where slot 0 keeps its law, the slot is one of 1 to 3. -/
theorem setSlot_join_stays {q q' : Queued} (hq : s.bus.slots.get id = .holds q) (hjoin : isJoin q.frame = true) :
    Stays s (setSlot id (.holds q') s) := by
  refine Stays.onBus (slot := fun hlaw => slotLaw_of_s0 ?_ hlaw)
  have hne := ne_s0_of_join hlaw hq hjoin
  cases id <;> first | rfl | exact absurd rfl hne

theorem announce_stays : Stays s (announce s) := by
  unfold announce
  dsimp only
  split
  · exact Stays.onBus
  · split
    next => exact queueFrame_stays
    next id hid =>
      obtain ⟨q, hq, hjoin⟩ := Slots.find_holds hid
      rw [hq]
      exact setSlot_join_stays hq (Bool.and_eq_true_iff.1 hjoin).1

theorem mergeJoins_stays {q q' : Queued} (hq : s.bus.slots.get id = .holds q') (hjoin : isJoin q'.frame = true) :
    Stays s (mergeJoins id q s) := by
  unfold mergeJoins
  dsimp only
  split
  · exact Stays.trans Stays.onBus (setSlot_join_stays hq hjoin)
  · split
    · exact (setSlot_join_stays hq hjoin).trans freeSlotThen_stays
    · exact .refl

theorem unstart_stays {q : Queued} (hq : s.bus.slots.get id = .holds q) : Stays s (unstart id q s) := by
  unfold unstart
  dsimp only
  have hset := setSlot_same_frame_stays (q' := { q with started := false, errored := false }) hq rfl
  split
  next hjoin => exact hset.trans (mergeJoins_stays (Slots.get_set ..) hjoin)
  next => exact hset

end Sys2Proof.Machine
end

section
/-! PROOF. The Bin Table's operations keep the laws (R50, R51). -/

namespace Sys2Proof.Machine

-- Checked one after another: the host bounds the memory of all threads together.
set_option Elab.async false

open Sys2Proof Sys2Proof.Safety

variable {s t u : State} {r : BinRec}

/-- What the law of the Bin Table asks of one record (R50, R51). -/
def BinRec.Fits (r : BinRec) : Prop := r.fill + r.hold ≤ 15 ∧ r.followOns.length ≤ 3

theorem BinRec.blank_fits : BinRec.blank.Fits := ⟨by decide, by decide⟩

/-- A record that is read is one of the table or the blank one. -/
theorem tableGet_mem_or {α : Type} (d : α) (l : List (Nat × α)) (n : Nat) :
    (n, tableGet d l n) ∈ l ∨ tableGet d l n = d := by
  induction l with
  | nil => exact .inr rfl
  | cons e l ih =>
    obtain ⟨k, v⟩ := e
    simp only [tableGet]
    split
    next h => exact .inl (h ▸ List.mem_cons_self)
    next => exact ih.imp (List.mem_cons_of_mem _) id

/-- After a write the entries are old ones and the one written. -/
theorem mem_tablePut {α : Type} [DecidableEq α] {d v : α} {l : List (Nat × α)} {n : Nat} {e : Nat × α}
    (h : e ∈ tablePut d l n v) : e ∈ l ∨ e.2 = v := by
  induction l with
  | nil =>
    simp only [tablePut] at h
    split at h
    · cases h
    · exact .inr (by rw [List.mem_singleton.1 h])
  | cons a l ih =>
    obtain ⟨k, w⟩ := a
    simp only [tablePut] at h
    split_ifs at h
    · exact .inl h
    · exact (List.mem_cons.1 h).symm.imp id (fun h => by rw [h])
    · exact .inl (List.mem_cons_of_mem _ h)
    · exact (List.mem_cons.1 h).symm.imp (List.mem_cons_of_mem _) (fun h => by rw [h])
    · rcases List.mem_cons.1 h with h | h
      · exact .inl (h ▸ List.mem_cons_self)
      · exact (ih h).imp (List.mem_cons_of_mem _) id

theorem binAt_fits (h : BinLaw s) (i : Nat) : (binAt i s).Fits := by
  rcases tableGet_mem_or BinRec.blank s.bins i with hmem | hblank
  · exact h.2 _ hmem
  · rw [binAt, hblank]
    exact BinRec.blank_fits

/-- One record written: it fits where the table does. -/
theorem putBin_stays {i : Nat} (h : BinLaw s → r.Fits) : Stays s (putBin i r s) := by
  refine ⟨⟨⟨rfl, rfl, fun h => h, fun hlaw => ⟨putBin_wf hlaw.1 i r, fun e he => ?_⟩, fun h => h, fun h => h⟩,
    rfl, rfl, rfl, fun h => h, fun h => h, fun h => h⟩, fun h => h⟩
  rcases mem_tablePut he with hold | hnew
  · exact hlaw.2 e hold
  · exact hnew ▸ h hlaw

/-- A record written with its fill, its hold and its list kept. -/
theorem putBin_same_stays {i : Nat} (hfill : r.fill = (binAt i s).fill := by rfl)
    (hhold : r.hold = (binAt i s).hold := by rfl) (hlist : r.followOns = (binAt i s).followOns := by rfl) :
    Stays s (putBin i r s) :=
  putBin_stays fun h => by simpa [BinRec.Fits, hfill, hhold, hlist] using binAt_fits h i

theorem liftBegin_stays {i : Nat} {k : Call} : Stays s (liftBegin i k s).2 := by
  unfold liftBegin
  dsimp only
  split
  · exact putBin_same_stays
  · exact .refl

theorem liftEnd_stays {i : Nat} : Stays s (liftEnd i s).2 := by
  unfold liftEnd
  dsimp only
  split
  · exact putBin_same_stays
  · exact .refl

theorem storeBegin_stays {i : Nat} : Stays s (storeBegin i s).2 := by
  unfold storeBegin
  dsimp only
  split
  · exact putBin_same_stays
  · exact .refl

theorem handBack_length {b : Bool} {l : List FollowOn} : (handBack b l).2.length ≤ l.length := by
  unfold handBack
  split <;> simp

/-- A follow-on handed back leaves a record that fits (R58). -/
theorem fits_handBack {b : Bool} (h : r.Fits) (x : BinState) :
    ({ r with state := x, call := none, followOns := (handBack b r.followOns).2 } : BinRec).Fits :=
  ⟨h.1, handBack_length.trans h.2⟩

theorem storeEnd_stays {i : Nat} {b : Bool} : Stays s (storeEnd i b s).2 := by
  unfold storeEnd
  dsimp only
  split
  · exact (putBin_stays fun h => fits_handBack (binAt_fits h i) _).trans raise_stays
  · exact .refl

theorem restoreEnd_stays {i : Nat} {b : Bool} : Stays s (restoreEnd i b s).2 := by
  unfold restoreEnd
  dsimp only
  split
  · exact putBin_stays fun h => fits_handBack (binAt_fits h i) _
  · exact .refl

theorem callClear_stays {i tag : Nat} : Stays s (callClear i tag s).2 := by
  unfold callClear
  dsimp only
  split
  · split
    · split
      · exact putBin_same_stays
      · exact .refl
      · exact .refl
    · exact .refl
  · exact .refl

/-- The clamp of the home visit: the fill that it leaves and the hold that stays are at most 15 together (R50, R60). -/
theorem visitFill_add_visitHold (c : Carry) (h : r.hold ≤ 15) : visitFill r c + visitHold r c ≤ 15 := by
  have hhold : visitHold r c ≤ 15 := by
    unfold visitHold
    split <;> omega
  unfold visitFill clampInt
  omega

/-- The record after steps 2 to 5 of the home visit fits (R60). -/
theorem visitNext_fits {num : Nat} {c : Carry} (h : r.Fits) : (visitNext num r c).1.Fits := by
  unfold visitNext
  split
  · exact h
  · split
    next e l hl =>
      have hlen := h.2
      rw [hl, List.length_cons] at hlen
      exact ⟨h.1, by show l.length ≤ 3; omega⟩
    next hl => exact ⟨h.1, by show r.followOns.length ≤ 3; simp [hl]⟩

theorem visitSteps_stays {i : Nat} {c : Carry} (h : BinLaw s → r.Fits) : Stays s (visitSteps i r c s).2 := by
  unfold visitSteps
  extract_lets fill unserved hold s₁ s₂ n
  have h₁ : Stays s s₁ := by
    unfold s₁
    split
    · exact raise_stays
    · exact .refl
  have h₂ : Stays s₁ s₂ := by
    unfold s₂
    split
    · exact raise_stays
    · exact .refl
  refine (h₁.trans h₂).trans ?_
  have hbins : s₂.bins = s.bins := by
    unfold s₂ s₁
    (repeat' split) <;> simp
  refine putBin_stays fun hlaw => visitNext_fits ?_
  have hfits := h (by unfold BinLaw at hlaw ⊢; rwa [hbins] at hlaw)
  exact ⟨visitFill_add_visitHold c (by have := hfits.1; omega), hfits.2⟩

theorem homeVisit_stays {c : Carry} : Stays s (homeVisit c s).2 := by
  unfold homeVisit
  extract_lets i r visit sentHome
  have hr : BinLaw s → r.Fits := fun h => binAt_fits h i
  have hraise {n : Notice} : BinLaw (raise n s) → r.Fits := fun h => hr (by simpa [BinLaw] using h)
  split
  · exact .refl
  · split
    · exact raise_stays.trans (visitSteps_stays fun _ => BinRec.blank_fits)
    · exact raise_stays.trans (visitSteps_stays hraise)
    · exact raise_stays
    · exact raise_stays
    · exact raise_stays.trans (visitSteps_stays hraise)
    · exact visitSteps_stays hr

theorem markLostByJam_stays {bin : Nat} : Stays s (markLostByJam bin s) := by
  unfold markLostByJam
  dsimp only
  split
  · exact Stays.trans putBin_same_stays raise_stays
  · exact .refl

theorem markLostByAudit_stays {i : Nat} : Stays s (markLostByAudit i s) := by
  unfold markLostByAudit
  dsimp only
  split
  · exact Stays.trans putBin_same_stays raise_stays
  · exact .refl

theorem markFoundByIdentify_stays {i : Nat} : Stays s (markFoundByIdentify i s) := by
  unfold markFoundByIdentify
  dsimp only
  split
  · exact Stays.trans putBin_same_stays raise_stays
  · exact .refl

theorem markFoundByAudit_stays {i : Nat} : Stays s (markFoundByAudit i s) := by
  unfold markFoundByAudit
  extract_lets r s₁
  have hfits : BinLaw s → ({ r with state := .stored, hold := 0, call := none, followOns := [] } : BinRec).Fits :=
    fun h => ⟨by have := (binAt_fits h i).1; show (binAt i s).fill + 0 ≤ 15; omega, by simp⟩
  have hfound : Stays s s₁ := (putBin_stays hfits).trans raise_stays
  split
  · split
    · split
      · exact hfound.trans raise_stays
      · exact hfound
    · exact hfound
  · exact .refl

theorem holdSet_stays {i units : Nat} : Stays s (holdSet i units s).2 := by
  unfold holdSet
  dsimp only
  split
  next h => exact putBin_stays fun hlaw => ⟨h.2.2, (binAt_fits hlaw i).2⟩
  next => exact .refl

theorem holdClear_stays {i : Nat} : Stays s (holdClear i s).2 :=
  putBin_stays fun hlaw =>
    ⟨by have := (binAt_fits hlaw i).1; show (binAt i s).fill + 0 ≤ 15; omega, (binAt_fits hlaw i).2⟩

theorem followOnAppend_stays {i : Nat} {e : FollowOn} {p : Option Nat} : Stays s (followOnAppend i e p s).2 := by
  unfold followOnAppend
  dsimp only
  split
  · exact .refl
  · split
    · exact .refl
    · split
      · exact .refl
      next hroom => exact putBin_stays fun hlaw => ⟨(binAt_fits hlaw i).1, by simp; omega⟩

theorem removeTag_length {tag : Nat} {l : List FollowOn} : (removeTag tag l).length ≤ l.length := by
  induction l with
  | nil => exact le_refl _
  | cons e l ih =>
    unfold removeTag
    split
    · exact Nat.le_succ _
    · exact Nat.succ_le_succ ih

theorem followOnRemove_stays {tag : Nat} : Stays s (followOnRemove tag s).2 := by
  unfold followOnRemove
  split
  next i _ _ => exact putBin_stays fun hlaw => ⟨(binAt_fits hlaw i).1, removeTag_length.trans (binAt_fits hlaw i).2⟩
  next => exact .refl

end Sys2Proof.Machine
end

section
/-! PROOF. The Crane Sequencer's operations keep the laws (R68, R69, R74, R176). -/

namespace Sys2Proof.Machine

-- Checked one after another: the host bounds the memory of all threads together.
set_option Elab.async false

open Sys2Proof Sys2Proof.Safety

variable {s t u : State} {j : Job} {bin i tag : Nat}

/-! ### The law of the stopped crane -/

/-- The crane is not at rest and the station is not SHUTDOWN: the law of the stopped crane asks nothing (R176). -/
def Moving (s : State) : Prop := ¬ AtRest s.crane.state ∧ s.ctl.station ≠ .shutdown

theorem Moving.law (h : Moving s) : StoppedCraneLaw s :=
  ⟨fun hrest => absurd hrest h.1, fun hshut => absurd hshut h.2⟩

/-- A crane with anything but a STOP in flight is moving (R176). -/
theorem Moving.of_inFlight {c : DriveCmd} (h : StoppedCraneLaw s) (hc : s.crane.inFlight = some c) (hne : c ≠ .stop) :
    Moving s := by
  have hflight : ¬ AtRest s.crane.state := fun hrest => by simpa [hc, hne] using h.1 hrest
  exact ⟨hflight, fun hshut => hflight (h.2 hshut).1⟩

/-- A moving crane whose state changes from moving to moving, at a station in the same state. -/
theorem Moving.of_eq (h : Moving s) (hstate : t.crane.state = s.crane.state) (hstation : t.ctl.station = s.ctl.station) :
    Moving t := by
  simpa [Moving, hstate, hstation] using h

/-- A crane comes to rest with nothing but a STOP in flight, and no RESTART run goes on. -/
theorem Stays.onCrane_rest {f : Crane → Crane} (rest : AtRest (f s.crane).state)
    (inFlight : (f s.crane).inFlight = none ∨ (f s.crane).inFlight = some .stop)
    (restartRun : s.crane.restartRun = false → (f s.crane).restartRun = false := by exact fun h => h)
    (pool : (f s.crane).pool = s.crane.pool := by rfl)
    (continuity : (f s.crane).continuity = s.crane.continuity := by rfl) :
    Stays s (s.onCrane f) :=
  ⟨Keeps.onCrane (pool := by simp [pool]) (continuity := by simp [continuity]) restartRun, fun h =>
    ⟨fun _ => inFlight, fun hshut => ⟨rest, restartRun (h.2 hshut).2.1, by simpa [pool] using (h.2 hshut).2.2⟩⟩⟩

/-- A whole list of operations keeps what each of them keeps. -/
theorem Stays.foldl {α : Type} {f : State → α → State} (h : ∀ (t : State) (a : α), Stays t (f t a)) (l : List α) :
    Stays s (l.foldl f s) := by
  induction l generalizing s with
  | nil => exact .refl
  | cons a l ih => exact (h s a).trans ih

/-! ### The pool -/

theorem length_map_le_of_le {α β : Type} {f : α → β} {l : List α} {n : Nat} : l.length ≤ n → (l.map f).length ≤ n := by
  simp

theorem length_filter_le_of_le {α : Type} {p : α → Bool} {l : List α} {n : Nat} (h : l.length ≤ n) :
    (l.filter p).length ≤ n :=
  (List.length_filter_le p l).trans h

/-- The current job rewritten, its state kept, WAITING or FROZEN. -/
theorem onCurrent_stays {f : Job → Job}
    (h : ∀ j, (f j).state = j.state ∨ (f j).state = .waiting ∨ (f j).state = .frozen) :
    Stays s (onCurrent f s) := by
  refine Stays.onCrane (pool := length_map_le_of_le) (jobs := fun j hj => ?_)
  obtain ⟨k, hk, rfl⟩ := List.mem_map.1 hj
  split
  next hw => exact .inl hw
  next => exact (h k).elim (fun hsame => .inr (.inr ⟨k, hk, hsame.symm⟩)) (fun hnew => hnew.imp id .inl)

/-- The current job rewritten in any way: of the law of the stopped crane nothing is said. -/
theorem onCurrent_keepsLaws {f : Job → Job} : Keeps s (onCurrent f s) :=
  Keeps.onCrane (pool := length_map_le_of_le)

/-- Jobs leave the pool. -/
theorem filterPool_stays {p : Job → Bool} : Stays s (s.onCrane fun c => { c with pool := c.pool.filter p }) :=
  Stays.onCrane (pool := length_filter_le_of_le)
    (jobs := fun j hj => .inr (.inr ⟨j, (List.mem_filter.1 hj).1, rfl⟩))

theorem removeCurrent_stays : Stays s (removeCurrent s) := filterPool_stays

/-- A WAITING job comes into a pool that has room (R69). -/
theorem pushJob_stays (hw : j.state = .waiting) (hroom : s.crane.pool.length < 32) :
    Stays s (s.onCrane fun c => { c with pool := c.pool ++ [j] }) := by
  refine Stays.onCrane (pool := by simp; omega) (jobs := fun k hk => ?_)
  rcases List.mem_append.1 hk with hold | hnew
  · exact .inr (.inr ⟨k, hold, rfl⟩)
  · obtain rfl : k = j := List.mem_singleton.1 hnew
    exact .inl hw

theorem enterJob_stays (hw : j.state = .waiting) (hroom : s.crane.pool.length < 32) : Stays s (enterJob j s) := by
  unfold enterJob
  dsimp only
  split
  · split
    · exact .refl
    · exact pushJob_stays hw hroom
  · exact pushJob_stays hw hroom

/-- The pool takes a job only into one of its 32 places (R69). -/
theorem length_lt_of_poolAdmits {k : JobKind} (h : poolAdmits k s = true) : s.crane.pool.length < 32 := by
  unfold poolAdmits at h
  split at h
  · exact of_decide_eq_true h
  · exact of_decide_eq_true (Bool.and_eq_true_iff.1 h).2

theorem offerJob_stays (hw : j.state = .waiting) : Stays s (offerJob j s).2 := by
  unfold offerJob
  split
  · exact followOnAppend_stays
  · split
    next h => exact enterJob_stays hw (length_lt_of_poolAdmits h)
    next => exact .refl

theorem askStore_stays : Stays s (askStore bin s) := by
  unfold askStore
  dsimp only
  split
  · exact Stays.trans (offerJob_stays rfl) Stays.onCrane
  · exact Stays.trans (offerJob_stays rfl) Stays.onCrane

theorem askRestore_stays : Stays s (askRestore bin s) := by
  unfold askRestore
  dsimp only
  split
  · exact Stays.trans (offerJob_stays rfl) Stays.onCrane
  · exact Stays.trans (offerJob_stays rfl) Stays.onCrane

theorem recordFreed_stays : Stays s (recordFreed s) := by
  unfold recordFreed
  extract_lets s₁
  have h₁ : Stays s s₁ := by
    unfold s₁
    split
    · exact askRestore_stays
    · exact .refl
  refine h₁.trans ?_
  split
  · exact askStore_stays
  · exact .refl

theorem releaseStand_stays : Stays s (releaseStand s) := by
  unfold releaseStand
  split
  · exact .setOutStand
  · exact .refl

theorem failFill_stays : Stays s (failFill tag i s) := holdClear_stays.trans raise_stays

theorem dropCall_stays {p : Purpose} : Stays s (dropCall bin tag p s) := by
  unfold dropCall
  dsimp only
  split
  · exact raise_stays.trans failFill_stays
  · exact raise_stays

theorem failFills_stays : Stays s (failFills s) := by
  unfold failFills
  extract_lets gone s₁ s₂
  have h₂ : Stays s₁ s₂ := by
    unfold s₂
    split
    · exact releaseStand_stays
    · exact .refl
  split
  · exact .refl
  · exact ((filterPool_stays.trans h₂).trans (Stays.foldl (fun _ _ => failFill_stays) gone)).trans recordFreed_stays

/-! ### The drive link -/

theorem sendDrive_keepsLaws {c : DriveCmd} : Keeps s (sendDrive c s) := Keeps.onCrane

/-- With the command in flight gone the law of the stopped crane asks no more than before. -/
theorem Stays.onCrane_idleLink {f : Crane → Crane} (inFlight : (f s.crane).inFlight = none)
    (state : (f s.crane).state = s.crane.state := by rfl)
    (restartRun : (f s.crane).restartRun = s.crane.restartRun := by rfl)
    (pool : (f s.crane).pool = s.crane.pool := by rfl)
    (continuity : (f s.crane).continuity = s.crane.continuity := by rfl) :
    Stays s (s.onCrane f) :=
  ⟨Keeps.onCrane (by simp [pool]) (by simp [continuity]) (by simp [restartRun]), fun h =>
    ⟨fun _ => .inl inFlight, fun hshut => by simpa [state, restartRun, pool] using h.2 hshut⟩⟩

theorem abandonCommand_stays : Stays s (abandonCommand s) := by
  unfold abandonCommand
  split
  · exact .refl
  · exact Stays.onCrane_idleLink rfl

theorem reportTaken_stays : Stays s (reportTaken s) := Stays.onCrane_idleLink rfl

/-- STOP is what a crane at rest may have in flight (R176). -/
theorem sendStop_stays : Stays s (sendStop s) := by
  unfold sendStop
  split
  · exact .refl
  · extract_lets f
    have hfork : Stays (abandonCommand s) ((abandonCommand s).onCrane fun k => { k with forkAbandoned := f }) :=
      Stays.onCrane
    exact (abandonCommand_stays.trans hfork).trans ⟨sendDrive_keepsLaws, fun h => ⟨fun _ => .inr rfl, h.2⟩⟩

/-! ### The stages -/

theorem craneRests_keepsLaws : Keeps s (craneRests s) := Keeps.onCrane

/-- A crane that comes to rest with its job gone is IDLE or HALTED: it is not at rest as R176 means it. -/
theorem craneRests_moving (h : s.ctl.station ≠ .shutdown) : Moving (craneRests s) := by
  refine ⟨?_, h⟩
  show ¬ AtRest (if s.crane.state = .halting ∨ s.crane.state = .halted then .halted else .idle)
  split <;> simp [AtRest]

theorem advanceStage_stays : Stays s (advanceStage s) := onCurrent_stays fun _ => .inl rfl

theorem sendFork_keepsLaws {side : Nat} {op : ForkOp} : Keeps s (sendFork side op s) :=
  (onCurrent_keepsLaws).trans sendDrive_keepsLaws

theorem liftConflict_keepsLaws : Keeps s (liftConflict j s) := by
  unfold liftConflict
  extract_lets s₁ r s₂
  have h₁ : Keeps s s₁ := (removeCurrent_stays.trans releaseStand_stays).toKeeps.trans craneRests_keepsLaws
  have h₂ : Stays r.2 s₂ := by
    unfold s₂
    split
    · exact dropCall_stays
    · exact dropCall_stays
    · exact .refl
  exact h₁.trans ((followOnAppend_stays.trans h₂).trans recordFreed_stays).toKeeps

theorem liftConflict_moving (h : s.ctl.station ≠ .shutdown) : Moving (liftConflict j s) := by
  have hrests : Moving (craneRests (releaseStand (removeCurrent s))) := craneRests_moving (by simpa using h)
  unfold liftConflict
  dsimp only
  refine Moving.of_eq hrests ?_ ?_
  all_goals split <;> simp

theorem storeConflict_keepsLaws : Keeps s (storeConflict s) :=
  (((removeCurrent_stays.trans .setInStand).trans raise_stays).toKeeps.trans craneRests_keepsLaws).trans
    recordFreed_stays.toKeeps

theorem storeConflict_moving (h : s.ctl.station ≠ .shutdown) : Moving (storeConflict s) :=
  (craneRests_moving (s := raise (.stray 8) ((removeCurrent s).setInStand .stray)) (by simpa using h)).of_eq
    (by simp [storeConflict]) (by simp [storeConflict])

theorem beginFork_keepsLaws : Keeps s (beginFork s) := by
  unfold beginFork
  split
  · exact .refl
  · dsimp only
    split
    · split
      · exact liftBegin_stays.toKeeps.trans sendFork_keepsLaws
      · exact liftConflict_keepsLaws
    · split
      · exact storeBegin_stays.toKeeps.trans sendFork_keepsLaws
      · exact storeConflict_keepsLaws
    all_goals first | exact sendFork_keepsLaws | exact .refl

theorem beginFork_moving (h : Moving s) : Moving (beginFork s) := by
  unfold beginFork
  split
  · exact h
  · dsimp only
    split
    · split
      · exact h.of_eq (by simp) (by simp)
      · exact liftConflict_moving h.2
    · split
      · exact h.of_eq (by simp) (by simp)
      · exact storeConflict_moving h.2
    all_goals exact h.of_eq (by simp) (by simp)

theorem beginStage_keepsLaws : Keeps s (beginStage s) := by
  unfold beginStage
  split
  · exact .refl
  · split
    · split
      · exact advanceStage_stays.toKeeps.trans beginFork_keepsLaws
      · exact sendDrive_keepsLaws
    · exact beginFork_keepsLaws

theorem beginStage_moving (h : Moving s) : Moving (beginStage s) := by
  unfold beginStage
  split
  · exact h
  · split
    · split
      · exact beginFork_moving (h.of_eq (by simp) (by simp))
      · exact h.of_eq (by simp) (by simp)
    · exact beginFork_moving h

/-! ### Dispatch -/

/-- The continuity count is held at 8 (R81). -/
theorem continuityAfter_le {k : JobKind} {c : Crane} (h : c.continuity ≤ 8) : continuityAfter k c ≤ 8 := by
  unfold continuityAfter
  split
  · split
    · exact saturate_le ..
    · exact h
  · exact Nat.zero_le _
  · exact h

theorem startJob_keepsLaws {place : Nat} : Keeps s (startJob place s) := by
  unfold startJob
  split
  · exact .refl
  · extract_lets s₁ s₂
    have h₁ : Keeps s s₁ := Keeps.onCrane (pool := by simp) (continuity := continuityAfter_le)
    have h₂ : Stays s₁ s₂ := by
      unfold s₂
      split
      · exact .setOutStand
      · exact .refl
    exact (h₁.trans h₂.toKeeps).trans beginStage_keepsLaws

theorem startJob_moving {place : Nat} (h : Moving s) : Moving (startJob place s) := by
  unfold startJob
  split
  · exact h
  · extract_lets s₁ s₂
    have h₁ : Moving s₁ := ⟨by simp [s₁, AtRest], h.2⟩
    refine beginStage_moving ?_
    unfold s₂
    split
    · exact h₁
    · exact h₁

theorem dispatchFrom_keepsLaws {n : Nat} : Keeps s (dispatchFrom n s) := by
  induction n generalizing s with
  | zero => exact .refl
  | succ n ih =>
    unfold dispatchFrom
    split
    · split
      · exact .refl
      · exact startJob_keepsLaws.trans ih
    · exact .refl

theorem dispatchFrom_moving {n : Nat} (h : Moving s) : Moving (dispatchFrom n s) := by
  induction n generalizing s with
  | zero => exact h
  | succ n ih =>
    unfold dispatchFrom
    split
    · split
      · exact h
      · exact ih (startJob_moving h)
    · exact h

theorem dispatch_keepsLaws : Keeps s (dispatch s) := dispatchFrom_keepsLaws

theorem dispatch_moving (h : Moving s) : Moving (dispatch s) := dispatchFrom_moving h

/-- A dispatch finds an IDLE crane of a station that is ACTIVE or DOZE, or does nothing (R82). -/
theorem dispatch_stays : Stays s (dispatch s) := by
  refine ⟨dispatch_keepsLaws, fun hlaw => ?_⟩
  by_cases hready : s.crane.state = .idle ∧ dispatches s = true
  · refine (dispatch_moving ⟨by simp [hready.1, AtRest], fun hshut => ?_⟩).law
    simpa [dispatches, hshut] using hready.2
  · rw [dispatch, dispatchFrom, if_neg hready]
    exact hlaw

/-! ### The ends of jobs, the conversion, the drive fault -/

theorem handOver_stays {e : Option FollowOn} : Stays s (handOver bin e s) := by
  unfold handOver
  split
  · exact .refl
  · dsimp only
    split
    · exact (offerJob_stays rfl).trans dropCall_stays
    · exact (offerJob_stays rfl).trans dropCall_stays
    · exact (offerJob_stays rfl).trans dropCall_stays
    · exact offerJob_stays rfl

theorem finishStore_stays : Stays s (finishStore j s) := by
  unfold finishStore
  extract_lets s₁ i r
  have h₁ : Stays (removeCurrent s) s₁ := Stays.onCrane
  exact (((removeCurrent_stays.trans h₁).trans storeEnd_stays).trans handOver_stays).trans recordFreed_stays

theorem finishRestore_stays : Stays s (finishRestore j s) := by
  unfold finishRestore
  extract_lets s₁ i r
  exact ((removeCurrent_stays.trans restoreEnd_stays).trans handOver_stays).trans recordFreed_stays

theorem convertCurrent_stays : Stays s (convertCurrent j s) := by
  unfold convertCurrent
  have hkept : ∀ k : Job, (asRestore s.est.time s.ctl.setup k).state = k.state := fun _ => rfl
  exact ((onCurrent_stays fun k => .inl (hkept k)).trans callClear_stays).trans releaseStand_stays

theorem freezeCurrent_stays : Stays s (freezeCurrent s) := onCurrent_stays fun _ => .inr (.inr rfl)

/-- With the command in flight given up, nothing is in flight (R70). -/
@[simp] theorem abandonCommand_inFlight (s : State) : (abandonCommand s).crane.inFlight = none := by
  unfold abandonCommand
  split
  next h => exact h
  next => rfl

theorem craneFault_stays {code : Nat} : Stays s (craneFault code s) := by
  unfold craneFault
  extract_lets cmd s₁ s₂
  have hafter : Stays s (s.onCrane afterFault) := Stays.onCrane
  have hfaulted : Stays (abandonCommand (s.onCrane afterFault)) s₁ :=
    Stays.onCrane_rest (.inr (.inr (.inl rfl))) (.inl (by simp)) (fun _ => rfl)
  have h₁ : Stays s s₁ := (hafter.trans abandonCommand_stays).trans hfaulted
  exact (((h₁.trans freezeCurrent_stays).trans onRecord_stays).trans raise_stays).trans failFills_stays

/-! ### The wake -/

theorem sendWake_keepsLaws : Keeps s (sendWake s) := sendDrive_keepsLaws.trans Keeps.onCrane

theorem sendHome_keepsLaws : Keeps s (sendHome s) := sendDrive_keepsLaws.trans Keeps.onCrane

theorem sendHome_moving (h : s.ctl.station ≠ .shutdown) : Moving (sendHome s) := ⟨by simp [sendHome, AtRest], h⟩

end Sys2Proof.Machine
end

section
/-! PROOF. The Lane Unit's and the Port Unit's operations keep the laws (R110 to R130). -/

namespace Sys2Proof.Machine

-- Checked one after another: the host bounds the memory of all threads together.
set_option Elab.async false

open Sys2Proof Sys2Proof.Safety

variable {s t u : State} {l : Lane} {c : Carry} {bin pos : Nat}

/-! ### Heads, claims and the merge -/

theorem setHead_stays {h : HeadState} : Stays s (setHead l h s) := Stays.onSeg

theorem stopRetry_stays : Stays s (stopRetry l s) := Stays.onSeg

theorem removeHead_stays : Stays s (removeHead l s) := Stays.onSeg

theorem settleMerge_stays : Stays s (settleMerge l s) := by
  unfold settleMerge
  split
  · exact .refl
  · exact Stays.onSeg (merge := fun _ => Nat.zero_le _)

theorem raiseMerge_stays : Stays s (raiseMerge l s) := by
  unfold raiseMerge
  split
  · exact Stays.onSeg (merge := fun _ => saturate_le ..)
  · exact .refl

theorem grantLocal_stays {src : EntryFrom} : Stays s (grantLocal l src s) := by
  unfold grantLocal
  extract_lets limit s₁
  have h₁ : Stays s s₁ := Stays.onSeg (merge := fun _ => Nat.zero_le _)
  refine h₁.trans ?_
  split
  · split
    · exact .setOutStand
    · exact .refl
  · split
    · exact .setService
    · exact .refl

theorem tryLocals_stays : Stays s (tryLocals l s) := by
  unfold tryLocals
  split
  · split
    · exact grantLocal_stays
    · exact grantLocal_stays
    · exact grantLocal_stays
    · exact .refl
  · exact .refl

theorem holdOutStand_stays : Stays s (holdOutStand c s) := by
  unfold holdOutStand
  split
  · exact .setOutStand
  · dsimp only
    split
    · exact Stays.setOutStand.trans grantLocal_stays
    · exact .setOutStand

theorem releaseService_stays : Stays s (releaseService c s) := by
  unfold releaseService
  split
  · exact .setService
  · dsimp only
    split
    · exact Stays.setService.trans grantLocal_stays
    · exact .setService

theorem tryAdvance_stays : Stays s (tryAdvance s) := by
  unfold tryAdvance
  split
  · split
    · exact .onPort
    · exact .refl
  · exact .refl

/-! ### Passing, turning, diverting -/

theorem acceptedHead_stays : Stays s (acceptedHead l c s) := by
  unfold acceptedHead
  extract_lets old limit s₁ s₂
  have h₁ : Stays s s₁ := Stays.onSeg
  clear_value old
  split
  · exact h₁
  · split
    · split
      · exact (h₁.trans countRecirc_stays).trans raise_stays
      · exact h₁.trans countRecirc_stays
    · exact h₁

theorem claimTurn_stays : Stays s (claimTurn l c s) := by
  unfold claimTurn
  extract_lets t limit o s₁
  split
  · have hclaim : Stays s (s.onSeg t fun g => { g with reservation := some (.through .turn o), tailLimit := some limit }) :=
      Stays.onSeg
    exact (hclaim.trans raiseMerge_stays).trans acceptedHead_stays
  · exact stopRetry_stays.trans setHead_stays

theorem passOn_stays : Stays s (passOn l c s) := by
  unfold passOn
  split
  · split
    · exact setHead_stays
    · exact claimTurn_stays
  · split
    · exact (stopRetry_stays.trans setHead_stays).trans queueFrame_stays
    · exact stopRetry_stays.trans setHead_stays

theorem beginDivert_stays {d : DivertTarget} : Stays s (beginDivert l d s) := by
  unfold beginDivert
  extract_lets limit s₁
  have h₁ : Stays s s₁ := Stays.onSeg
  split
  · exact h₁.trans .setInStand
  · exact h₁.trans .setApproach

theorem decideHead_stays : Stays s (decideHead l s) := by
  unfold decideHead
  split
  · exact .refl
  · split
    · exact .refl
    · split
      · exact Stays.trans Stays.onSeg raise_stays
      · split
        · exact beginDivert_stays
        · exact passOn_stays

theorem actHead_stays : Stays s (actHead l s) := by
  unfold actHead
  split
  · exact decideHead_stays
  · exact .refl

theorem actIdleHead_stays : Stays s (actIdleHead l s) := by
  unfold actIdleHead
  split
  · exact actHead_stays
  · exact .refl

/-! ### The tail opens, a divert target becomes free -/

theorem retryTurn_stays : Stays s (retryTurn l s) := by
  unfold retryTurn
  dsimp only
  split
  · exact actHead_stays
  · exact .refl

theorem sendSpace_stays : Stays s (sendSpace l s) := by
  unfold sendSpace
  split
  · extract_lets s₁
    have h₁ : Stays s s₁ := Stays.onSeg
    split
    · exact h₁.trans queueFrame_stays
    · exact h₁
  · exact .refl

theorem openTail_stays : Stays s (openTail l s) := by
  unfold openTail
  split
  · dsimp only
    split
    · exact (tryLocals_stays.trans retryTurn_stays).trans sendSpace_stays
    · exact tryLocals_stays
  · exact .refl

theorem abortOffer_stays : Stays s (abortOffer l s) := by
  unfold abortOffer
  split
  · dsimp only
    split
    · exact abortFrame_stays.trans setHead_stays
    · exact abortFrame_stays
  · exact .refl

theorem headTakesUp_stays {d : DivertTarget} : Stays s (headTakesUp l d s) := by
  unfold headTakesUp
  split
  · exact abortOffer_stays.trans actHead_stays
  · exact .refl

theorem targetFreed_stays {d : DivertTarget} : Stays s (targetFreed d s) := headTakesUp_stays.trans headTakesUp_stays

theorem emptyApproach_stays : Stays s (emptyApproach s) := Stays.setApproach.trans targetFreed_stays

theorem emptyInStand_stays : Stays s (emptyInStand s) := by
  unfold emptyInStand
  have hcount : Stays (s.setInStand .empty) ((s.setInStand .empty).onCrane fun k => { k with continuity := 0 }) :=
    Stays.onCrane (continuity := fun _ => Nat.zero_le _)
  exact (Stays.setInStand.trans hcount).trans targetFreed_stays

/-! ### Conditions -/

/-- RUNNING is the wanted condition only where R129 and R186 let it be. -/
theorem running_of_wantedCondition (h : wantedCondition s = .running) :
    s.fire.view = 0#8 ∧ s.fire.listen = none ∧ s.ctl.station ≠ .joining ∧ s.ctl.station ≠ .doze ∧
      s.ctl.station ≠ .shutdown ∧ s.ctl.station ≠ .recovery ∧ (s.fire.shutter = none ∨ s.fire.shutter = some .opened) := by
  unfold wantedCondition at h
  split_ifs at h with hwall hdoze hwaking hring
  refine ⟨?_, ?_, ?_, hdoze, ?_, ?_, ?_⟩
  all_goals try simp only [ringHold, Bool.or_eq_true, decide_eq_true_eq, not_or, Option.isSome_iff_ne_none,
    not_not] at hring
  · exact hring.1.1.1.1
  · exact hring.1.1.1.2
  · exact hring.1.1.2
  · exact hring.1.2
  · exact hring.2
  · cases hx : s.fire.shutter with
    | none => exact .inl rfl
    | some x => exact .inr (by simpa [wallHold, hx] using hwall)

/-- Both segments with the condition that the rules give them: the ring hold law stands, whatever stood before. -/
theorem setConds_law : RingHoldLaw (setCond .backLane (wantedCondition s) (setCond .outLane (wantedCondition s) s)) :=
  fun hrunning => running_of_wantedCondition (hrunning.elim id id)

theorem setConds_stays : Stays s (setCond .backLane (wantedCondition s) (setCond .outLane (wantedCondition s) s)) :=
  ⟨⟨⟨rfl, rfl, fun h => h, fun h => h, fun h => h, fun h => h⟩, rfl, rfl, rfl, fun h => h, fun _ => setConds_law,
    fun h => h⟩, fun h => h⟩

theorem onHeld_stays {was : Condition} : Stays s (onHeld l was s) := by
  unfold onHeld
  split
  · exact abortOffer_stays
  · exact .refl

theorem onRunning_stays {was : Condition} : Stays s (onRunning l was s) := by
  unfold onRunning
  split
  · exact openTail_stays
  · exact .refl

theorem onRunningHead_stays {was : Condition} : Stays s (onRunningHead l was s) := by
  unfold onRunningHead
  split
  · exact stopRetry_stays.trans actHead_stays
  · exact .refl

/-- What follows the change of the two conditions. -/
theorem settleConditions_stays_from : Stays
    (setCond .backLane (wantedCondition s) (setCond .outLane (wantedCondition s) s)) (settleConditions s) :=
  ((onHeld_stays.trans onHeld_stays).trans (onRunning_stays.trans onRunning_stays)).trans
    (onRunningHead_stays.trans onRunningHead_stays)

theorem settleConditions_stays : Stays s (settleConditions s) := setConds_stays.trans settleConditions_stays_from

/-- The ring hold law stands once the segments have taken up their conditions, whatever stood before (R129, R186). -/
theorem settleConditions_law : RingHoldLaw (settleConditions s) := settleConditions_stays_from.ring setConds_law

/-! ### Waking, strays and jams -/

theorem wakeCause_stays : Stays s (wakeCause s) := by
  unfold wakeCause
  split
  next hdoze =>
    split
    next => exact ⟨sendWake_keepsLaws.trans settleConditions_stays.toKeeps, fun _ =>
      settleConditions_stays.crane (Moving.law ⟨by simp [sendWake, AtRest], by simp [hdoze]⟩)⟩
    next => exact Stays.onCrane
    next => exact .refl
  next => exact .refl

/-- A wake cause leaves a moving crane moving. -/
theorem wakeCause_moving (h : Moving s) : Moving (wakeCause s) := by
  unfold wakeCause
  split
  · split
    next hasleep => exact absurd (by simp [AtRest, hasleep]) h.1
    next => exact h
    next => exact h
  · exact h

theorem strayAt_stays : Stays s (strayAt l pos s) := by
  unfold strayAt
  split
  · exact (Stays.trans Stays.onSeg raise_stays).trans wakeCause_stays
  · exact .refl

theorem broadcastJam_stays : Stays s (broadcastJam l bin s) := queueFrame_stays.trans markLostByJam_stays

theorem headTimeout_stays : Stays s (headTimeout l s) := by
  unfold headTimeout
  split
  · exact removeHead_stays
  · split
    · exact Stays.trans Stays.onSeg raise_stays
    · exact ((removeHead_stays.trans broadcastJam_stays).trans openTail_stays).trans actIdleHead_stays

/-! ### Sensors and landings -/

theorem placeReported_stays {same : Bool} : Stays s (placeReported l pos same s) := by
  unfold placeReported
  dsimp only
  split
  · exact .refl
  · split
    · exact .onSeg
    · exact strayAt_stays

/-- A record that follows to the head place leaves all else of its segment alone. -/
theorem followToHead_stays : Stays s (followToHead l s) := by
  refine Stays.onSeg (cond := ?_) (merge := ?_)
  · (repeat' split) <;> rfl
  · intro h
    (repeat' split) <;> exact h

theorem headReported_stays {was : Bool} : Stays s (headReported l was s) := by
  unfold headReported
  split
  · split
    · exact .refl
    · exact followToHead_stays
  · exact placeReported_stays

theorem addAtTail_stays {x : Content} : Stays s (addAtTail l x s) := Stays.onSeg

theorem strayAtTail_stays : Stays s (strayAtTail l s) := addAtTail_stays.trans raise_stays

theorem placeLanded_stays {visits : Bool} : Stays s (placeLanded l c visits s) := by
  unfold placeLanded
  split
  · exact strayAtTail_stays
  · split
    · dsimp only
      split
      · exact homeVisit_stays.trans addAtTail_stays
      · exact homeVisit_stays.trans strayAtTail_stays
    · exact addAtTail_stays

theorem clearReservation_stays : Stays s (clearReservation l s) := Stays.onSeg

theorem sendLanded_stays : Stays s (sendLanded l bin s) := by
  unfold sendLanded
  split
  · exact queueFrame_stays
  · exact .refl

theorem leaveTurn_stays : Stays s (leaveTurn l bin s) := by
  unfold leaveTurn
  split
  · exact removeHead_stays
  · exact .refl

theorem landReserved_stays {r : Reservation} : Stays s (landReserved l r s) := by
  unfold landReserved
  extract_lets s₁ h
  refine clearReservation_stays.trans (t := s₁) ?_
  split
  · exact ((sendLanded_stays.trans placeLanded_stays).trans openTail_stays).trans actIdleHead_stays
  · exact ((leaveTurn_stays.trans placeLanded_stays).trans (openTail_stays.trans openTail_stays)).trans
      (actIdleHead_stays.trans actIdleHead_stays)
  · split
    · exact ((Stays.setOutStand.trans placeLanded_stays).trans openTail_stays).trans actIdleHead_stays
    · exact openTail_stays
  · split
    · exact (((Stays.setService.trans placeLanded_stays).trans openTail_stays).trans actIdleHead_stays).trans
        tryAdvance_stays
    · exact openTail_stays

end Sys2Proof.Machine
end

section
/-! PROOF. The operations of the Auction Unit, of the frames' outcomes and of the orders' answers keep the laws. -/

namespace Sys2Proof.Machine

-- Checked one after another: the host bounds the memory of all threads together.
set_option Elab.async false

open Sys2Proof Sys2Proof.Safety

variable {s t u : State} {tag i : Nat}

/-! ### Auctions (R152 to R163) -/

theorem onAuction_stays {f : Auction → Auction} : Stays s (onAuction tag f s) :=
  Stays.onAuctions length_map_le_of_le

theorem bidAborted_stays : Stays s (bidAborted tag s) := by
  unfold bidAborted
  split
  · exact .refl
  · split
    · dsimp only
      split
      · exact onAuction_stays.trans holdClear_stays
      · exact onAuction_stays
    · exact .refl

theorem bidSent_stays : Stays s (bidSent tag s) := by
  unfold bidSent
  split
  · exact .refl
  · split
    · split
      · exact onAuction_stays
      · exact onAuction_stays
    · exact .refl

theorem abortBid_stays : Stays s (abortBid tag s) := by
  unfold abortBid
  dsimp only
  split
  · exact abortFrame_stays.trans bidAborted_stays
  · exact abortFrame_stays

theorem voidAuction_stays : Stays s (voidAuction s tag) := by
  unfold voidAuction
  dsimp only
  split
  · split
    · exact onAuction_stays.trans abortBid_stays
    · exact onAuction_stays
  · exact onAuction_stays

theorem voidAuctions_stays : Stays s (voidAuctions s) := Stays.foldl (fun _ _ => voidAuction_stays) _

theorem recheck_stays {r : Auction} {v : Valued} : Stays s (recheck r v s).2 := by
  unfold recheck
  split
  · exact .refl
  · exact holdSet_stays

theorem standBid_stays {v : Valued} : Stays s (standBid tag v s) := by
  unfold standBid
  dsimp only
  split
  · exact onAuction_stays.trans bidAborted_stays
  · exact onAuction_stays.trans queueFrame_stays

theorem goQuiet_stays : Stays s (goQuiet tag s) := onAuction_stays

theorem chooseBid_stays {r : Auction} {l : List Valued} : Stays s (chooseBid r l s) := by
  unfold chooseBid
  dsimp only
  split
  · exact goQuiet_stays
  · split
    · exact goQuiet_stays
    · split
      · exact recheck_stays.trans standBid_stays
      · split
        · exact recheck_stays.trans goQuiet_stays
        · split
          · split
            · exact (recheck_stays.trans recheck_stays).trans standBid_stays
            · exact (recheck_stays.trans recheck_stays).trans goQuiet_stays
          · exact recheck_stays.trans goQuiet_stays

theorem fillCall_stays {port bid : Nat} : Stays s (fillCall tag port i bid s) := by
  unfold fillCall
  dsimp only
  split
  · exact raise_stays.trans failFill_stays
  · have hoffered := raise_stays.trans (offerJob_stays (s := raise (.won tag i bid) s)
      (j := retrieveJob (ownBin i (raise (.won tag i bid) s)) tag port .fill 1) rfl)
    split
    · exact (hoffered.trans wakeCause_stays).trans dispatch_stays
    · exact hoffered
    · exact hoffered.trans failFill_stays

/-! ### Outcomes (R4, R11, R119) and the entry to off-bus (R9) -/

theorem passOutcome_stays {l : Lane} {d : Nat} {c : Carry} {o : TxOutcome} : Stays s (passOutcome l d c o s) := by
  unfold passOutcome
  extract_lets s₁
  have h₁ : Stays s s₁ := by
    unfold s₁
    split
    · exact stationSilent_stays
    · exact .refl
  refine h₁.trans ?_
  split
  · split
    · exact acceptedHead_stays
    · exact .onSeg
    · exact setHead_stays.trans actHead_stays
    · exact setHead_stays.trans actHead_stays
    · exact .refl
  · exact .refl

theorem silentOn_stays {o : TxOutcome} {d : Nat} : Stays s (if o = .none then stationSilent d s else s) := by
  split
  · exact stationSilent_stays
  · exact .refl

theorem deliverOutcome_stays {f : Frame} {o : TxOutcome} : Stays s (deliverOutcome f o s) := by
  unfold deliverOutcome
  split
  · split
    · exact voidAuctions_stays
    · exact .refl
  · exact passOutcome_stays
  · exact silentOn_stays
  · exact silentOn_stays
  · exact .refl
  · split
    · exact bidSent_stays
    · exact bidAborted_stays
    · exact .refl
  · exact .refl
  next r =>
    dsimp only
    split
    · exact silentOn_stays.trans .onCtl
    · exact silentOn_stays
  · split
    · exact .refl
    · exact setPendingKind_stays

theorem frameReturned_stays {id : SlotId} {f : Frame} {o : TxOutcome} : Stays s (frameReturned id f o s) :=
  freeSlotThen_stays.trans deliverOutcome_stays

theorem auctionOffBus_stays : Stays s (auctionOffBus s tag) := by
  unfold auctionOffBus
  split
  · exact .refl
  · split
    · exact onAuction_stays
    · dsimp only
      split
      · exact onAuction_stays.trans holdClear_stays
      · exact onAuction_stays
    · exact .refl

theorem dropLocalClaims_stays : Stays s (dropLocalClaims s) := by
  unfold dropLocalClaims
  extract_lets s₁ s₂
  have h₁ : Stays s s₁ := by
    unfold s₁
    split
    · exact .setOutStand
    · exact .refl
  have h₂ : Stays s₁ s₂ := by
    unfold s₂
    split
    · exact .setService
    · exact .refl
  exact (h₁.trans h₂).trans (settleMerge_stays.trans settleMerge_stays)

/-- The frames that stay at the entry to off-bus are frames that were there (R9). -/
theorem slotLaw_atOffBus {b : Bus} (hb : b.slots.s0 = s.bus.slots.s0.atOffBus) (ht : t.bus = b) :
    SlotLaw s → SlotLaw t := by
  subst ht
  rintro ⟨hgranted, hfire⟩
  cases h0 : s.bus.slots.s0 with
  | free => simp [SlotLaw, hb, h0, Slot.atOffBus]
  | granted => exact absurd h0 hgranted
  | holds q =>
    obtain ⟨m, hm⟩ := hfire q h0
    by_cases hst : q.started = true
    · simp [SlotLaw, hb, h0, Slot.atOffBus, hst, hm]
    · simp [SlotLaw, hb, h0, Slot.atOffBus, hst]

theorem enterOffBus_stays : Stays s (enterOffBus s) := by
  unfold enterOffBus
  extract_lets gone s₁ s₂ s₃ s₄
  have h₁ : Stays s s₁ := onRecord_stays
  have h₂ : Stays s₁ s₂ := Stays.onBus (rx := fun _ => Nat.zero_le _) (slot := slotLaw_atOffBus rfl rfl)
  have h₃ : Stays s₂ s₃ := Stays.onCtl (notices := fun _ => Nat.zero_le _)
  have h₄ : Stays s₃ s₄ := dropLocalClaims_stays.trans (Stays.foldl (fun _ _ => auctionOffBus_stays) _)
  exact ((h₁.trans h₂).trans (h₃.trans h₄)).trans (Stays.foldl (fun _ _ => deliverOutcome_stays) _)

theorem countFailure_stays : Stays s (countFailure s) := by
  unfold countFailure
  extract_lets s₁
  have h₁ : Stays s s₁ := Stays.onBus (failures := fun _ => saturate_le ..)
  split
  · exact h₁.trans enterOffBus_stays
  · exact h₁

/-! ### The bus at the station (R1 to R15) -/

theorem startFrame_stays {id : SlotId} : Stays s (startFrame id s) := by
  unfold startFrame
  split
  next q hq =>
    exact Stays.trans (setSlot_same_frame_stays (q' := { q with started := true }) hq rfl) Stays.onBus
  next => exact .refl

theorem stopDriving_stays : Stays s (stopDriving s) := Stays.onBus

theorem endVoid_stays {id : SlotId} {q : Queued} (hq : s.bus.slots.get id = .holds q) : Stays s (endVoid id q s) := by
  unfold endVoid
  extract_lets s₁ s₂
  have h₁ : Stays s s₁ := unstart_stays hq
  have h₂ : Stays s₁ s₂ := frameReturned_stays
  split
  · split
    · exact h₁.trans h₂
    · exact (h₁.trans h₂).trans countFailure_stays
  · split
    · exact h₁
    · exact h₁.trans countFailure_stays

theorem endWith_stays {id : SlotId} {q : Queued} {o : TxOutcome} : Stays s (endWith id q o s) := by
  have hzero : Stays s (s.onBus fun b => { b with failures := 0 }) := Stays.onBus (failures := fun _ => Nat.zero_le _)
  exact hzero.trans frameReturned_stays

theorem storeOrder_stays {k : OrderKind} {f : RxFrame} : Stays s (storeOrder k f s) := by
  unfold storeOrder
  split
  next hroom =>
    extract_lets wasEmpty s₁
    have h₁ : Stays s s₁ := Stays.onBus (rx := fun _ => by simp; omega)
    split
    · exact h₁.trans wishTake_stays
    · exact h₁
  next =>
    split
    · exact countDropped_stays
    · exact answerWith_stays

/-! ### The drive link's reports (R75 to R79, R88, R182, R183) -/

theorem storePicked_stays : Stays s (storePicked s) := by
  unfold storePicked
  split
  next c _ =>
    have hpassed : Stays s (s.onCrane fun k => { k with carriage := .carrying c }) := Stays.onCrane
    exact hpassed.trans emptyInStand_stays
  next => exact .refl

theorem finishRetrieve_stays {j : Job} : Stays s (finishRetrieve j s) := by
  unfold finishRetrieve
  extract_lets a s₁
  have h₁ : Stays s s₁ := liftEnd_stays.trans removeCurrent_stays
  refine (h₁.trans ?_).trans recordFreed_stays
  split
  · exact holdOutStand_stays
  · exact Stays.setOutStand.trans raise_stays

theorem finishToStand_stays : Stays s (finishToStand s) := by
  unfold finishToStand
  extract_lets s₁
  have h₁ : Stays (removeCurrent s) s₁ := Stays.onCrane
  refine ((removeCurrent_stays.trans h₁).trans ?_).trans recordFreed_stays
  split
  · exact holdOutStand_stays
  · exact Stays.setOutStand.trans raise_stays

theorem finishJob_stays {j : Job} : Stays s (finishJob j s) := by
  unfold finishJob
  split
  · exact finishRetrieve_stays
  · exact finishStore_stays
  · exact finishRestore_stays
  · exact finishToStand_stays
  · exact .refl

theorem dropWaitingRetrieve_stays {bin : Nat} : Stays s (dropWaitingRetrieve bin s) := by
  unfold dropWaitingRetrieve
  split
  · split
    · exact (filterPool_stays.trans dropCall_stays).trans recordFreed_stays
    · exact .refl
  · exact .refl

theorem compareProbe_stays {present : Bool} : Stays s (compareProbe i present s) := by
  unfold compareProbe
  dsimp only
  split
  · split
    · exact .refl
    · exact markFoundByAudit_stays
    · exact raise_stays
  · split
    · exact markLostByAudit_stays.trans dropWaitingRetrieve_stays
    · exact .refl

theorem strayCarriage_stays {loaded : Bool} : Stays s (strayCarriage loaded s) := by
  unfold strayCarriage
  split
  · exact Stays.trans Stays.onCrane raise_stays
  · exact .refl

theorem goOn_keepsLaws : Keeps s (goOn s) := by
  unfold goOn
  split
  · exact onCurrent_keepsLaws.trans Keeps.onCrane
  · exact beginStage_keepsLaws

theorem goOn_moving (h : Moving s) : Moving (goOn s) := by
  unfold goOn
  split
  · exact ⟨by simp [AtRest], h.2⟩
  · exact beginStage_moving h

theorem backToWaiting_stays {st : Stage} : Stays s (backToWaiting st s) := onCurrent_stays fun _ => .inr (.inl rfl)

theorem activeAt_keepsLaws {st : Stage} : Keeps s (activeAt st s) :=
  (onCurrent_keepsLaws.trans (u := (onCurrent _ s).onCrane _) Keeps.onCrane).trans beginStage_keepsLaws

theorem convertFrozen_keepsLaws {j : Job} : Keeps s (convertFrozen j s) := by
  unfold convertFrozen
  extract_lets s₁ a
  have h₁ : Keeps s s₁ := convertCurrent_stays.toKeeps.trans activeAt_keepsLaws
  have ha : Keeps s a.2 := h₁.trans (offerJob_stays rfl).toKeeps
  split
  · exact ha.trans dropCall_stays.toKeeps
  · exact ha

theorem settleRetrieve_keepsLaws {loaded : Bool} {j : Job} : Keeps s (settleRetrieve loaded j s) := by
  unfold settleRetrieve
  split
  · exact (backToWaiting_stays.trans releaseStand_stays).toKeeps
  · split
    · exact convertFrozen_keepsLaws
    · split
      · exact ((restoreEnd_stays.trans backToWaiting_stays).trans releaseStand_stays).toKeeps
      · exact finishRetrieve_stays.toKeeps

theorem settleStore_keepsLaws {loaded : Bool} {j : Job} : Keeps s (settleStore loaded j s) := by
  unfold settleStore
  split
  · split
    · exact backToWaiting_stays.toKeeps
    · exact activeAt_keepsLaws
  · split
    · split
      · exact storePicked_stays.toKeeps.trans activeAt_keepsLaws
      · exact (onCurrent_keepsLaws.trans (u := (onCurrent _ s).onCrane _) Keeps.onCrane).trans sendFork_keepsLaws
    · split
      · exact activeAt_keepsLaws
      · exact finishStore_stays.toKeeps

theorem settleFrozen_keepsLaws {loaded : Bool} : Keeps s (settleFrozen loaded s) := by
  unfold settleFrozen
  split
  · exact .refl
  · split
    · exact settleRetrieve_keepsLaws
    · exact settleStore_keepsLaws
    · split
      · exact activeAt_keepsLaws
      · exact finishJob_stays.toKeeps
    · exact backToWaiting_stays.toKeeps

theorem homedState_keepsLaws : Keeps s (homedState s) := Keeps.onCrane

theorem homedState_moving (h : s.ctl.station ≠ .shutdown) : Moving (homedState s) := by
  refine ⟨?_, h⟩
  show ¬ AtRest (if (currentJob s).isSome then .running else .idle)
  split <;> simp [AtRest]

theorem advanceAudit_keepsLaws {j : Job} : Keeps s (advanceAudit j s) := by
  unfold advanceAudit
  split
  · exact (removeCurrent_stays.trans recordFreed_stays).toKeeps
  · exact onCurrent_keepsLaws

end Sys2Proof.Machine
end

section
/-! PROOF. Changes of the station state, of the alarm view and of the shutter keep the laws (R30, R37, R39, R74, R129,
R169 to R190). Between the change and what answers it a law may fail: what stands then is `Holds`. -/

namespace Sys2Proof.Machine

-- Checked one after another: the host bounds the memory of all threads together.
set_option Elab.async false

open Sys2Proof Sys2Proof.Safety

variable {s t u : State}

/-- From `s` to `t` every law that the steps keep is kept. -/
structure Safe (s t : State) : Prop extends Holds s t where
  fault : s.ctl.station ≠ .strapFault → t.ctl.station ≠ .strapFault
  ring : RingHoldLaw s → RingHoldLaw t
  shutter : ShutterLaw s → ShutterLaw t
  alarm : AlarmLaw s → AlarmLaw t
  crane : StoppedCraneLaw s → StoppedCraneLaw t

theorem Safe.trans (h : Safe s t) (k : Safe t u) : Safe s u :=
  ⟨h.toHolds.trans k.toHolds, k.fault ∘ h.fault, k.ring ∘ h.ring, k.shutter ∘ h.shutter, k.alarm ∘ h.alarm,
    k.crane ∘ h.crane⟩

/-- The law of the alarm reads what `Keeps` keeps. -/
theorem Keeps.alarm (h : Keeps s t) : AlarmLaw s → AlarmLaw t := by
  have hcomp : t.compartment = s.compartment := by simp [State.compartment, h.straps]
  rintro ⟨hshut, hrec, hact⟩
  simp only [AlarmLaw, State.ownAlarmed, State.alarmed, h.station, h.view, h.latch, hcomp]
  exact ⟨fun hs => ⟨(hshut hs).1, (hshut hs).2.1, h.restartRun (hshut hs).2.2⟩, hrec, hact⟩

/-- An operation that keeps what `Keeps` says, with the law of the stopped crane proved apart. -/
theorem Keeps.safe (h : Keeps s t) (crane : StoppedCraneLaw s → StoppedCraneLaw t) : Safe s t :=
  ⟨h.toHolds, fun hs => by rwa [h.station], h.ring, h.shutter, h.alarm, crane⟩

theorem Stays.safe (h : Stays s t) : Safe s t := h.toKeeps.safe h.crane

theorem Safe.refl : Safe s s := Stays.refl.safe

/-! ### The Fire Unit written -/

/-- The Fire Unit written, but for its view and its latch. -/
theorem Stays.onFire {f : FireUnit → FireUnit} (view : (f s.fire).view = s.fire.view := by rfl)
    (latch : (f s.fire).latch = s.fire.latch := by rfl) (ring : RingHoldLaw s → RingHoldLaw (s.onFire f) := by exact fun h => h)
    (drive : ShutterDrive s → ShutterDrive (s.onFire f) := by exact fun h => h)
    (shutter : ShutterLaw s → ShutterLaw (s.onFire f) := by exact fun h => h) : Stays s (s.onFire f) :=
  ⟨⟨⟨rfl, rfl, fun h => h, fun h => h, fun h => h, drive⟩, rfl, view, latch, fun h => h, ring, shutter⟩, fun h => h⟩

/-- A shutter that is not OPENING and has OPEN at rest keeps its law whatever the view (R189). -/
theorem shutterLaw_of_not_opening (hout : s.fire.openOut = false) (hne : s.fire.shutter ≠ some .opening) : ShutterLaw s :=
  ⟨fun h => by simp [hout] at h, fun h => absurd h hne⟩

/-- Under the ring hold law a shutter that is fitted and not OPEN has both segments at rest (R186). -/
theorem ringHoldLaw_of_wallHold (h : RingHoldLaw s) {x : ShutterState} (hx : s.fire.shutter = some x)
    (hne : x ≠ .opened) (hlanes : t.lanes = s.lanes) : RingHoldLaw t := by
  intro hrunning
  rw [hlanes] at hrunning
  have hshutter := (h hrunning).2.2.2.2.2.2
  simp [hx, hne] at hshutter

theorem beginClosing_stays {x : ShutterState} (hx : s.fire.shutter = some x) (hne : x ≠ .opened) :
    Stays s (beginClosing s) :=
  Stays.onFire (ring := fun h => ringHoldLaw_of_wallHold h hx hne rfl)
    (drive := fun _ => ShutterDrive.of_law (shutterLaw_of_not_opening rfl (by simp)))
    (shutter := fun _ => shutterLaw_of_not_opening rfl (by simp))

theorem beginClosing_law : ShutterLaw (beginClosing s) := shutterLaw_of_not_opening rfl (by simp [beginClosing])

/-- OPENING begins under the open condition: no adjacent compartment is in the view (R185, R189). -/
theorem beginOpening_law (h : openCondition s = true) : ShutterLaw (beginOpening s) := by
  simp only [openCondition, Bool.and_eq_true] at h
  obtain ⟨⟨hadjacent, -⟩, -⟩ := h
  refine ⟨fun _ => ⟨rfl, rfl⟩, fun _ => ⟨rfl, ?_⟩⟩
  simp only [beginOpening, State.ownAlarmed, State.alarmed, State.onFire_compartment, State.onFire_fire]
  cases hb : s.fire.below with
  | none =>
    have hview : s.fire.view = 0#8 := by simpa [hb] using hadjacent
    simp [hview]
  | some b =>
    simp only [hb, Bool.and_eq_true, Bool.not_eq_true', State.ownAlarmed, State.alarmed] at hadjacent
    simpa using hadjacent

theorem beginOpening_stays {x : ShutterState} (hx : s.fire.shutter = some x) (hne : x ≠ .opened)
    (hopen : openCondition s = true) : Stays s (beginOpening s) :=
  Stays.onFire (ring := fun h => ringHoldLaw_of_wallHold h hx hne rfl) (drive := fun _ => ShutterDrive.of_law (beginOpening_law hopen))
    (shutter := fun _ => beginOpening_law hopen)

/-- An OPEN shutter does not have OPEN driven (R189). -/
theorem ShutterDrive.openOut_eq (h : ShutterDrive s) (hne : s.fire.shutter ≠ some .opening) : s.fire.openOut = false := by
  by_contra hout
  exact hne (h.1 (by simpa using hout)).2

/-- The clear wait, whatever the ring does until it is taken up by `settleConditions`. -/
theorem beginClearing_law (h : ShutterDrive s) (hx : s.fire.shutter = some .opened) : ShutterLaw (beginClearing s) := by
  unfold beginClearing
  dsimp only
  split
  · exact shutterLaw_of_not_opening (h.openOut_eq (by simp [hx])) (by simp)
  · exact beginClosing_law

/-- The sequence takes up its conditions: the shutter law stands after, where its outputs were driven right before. -/
theorem shutterTakeUp_law (h : ShutterDrive s) : ShutterLaw (shutterTakeUp s) := by
  unfold shutterTakeUp
  split
  next hx =>
    split
    · exact settleConditions_stays.shutter (beginClearing_law h hx)
    · exact shutterLaw_of_not_opening (h.openOut_eq (by simp [hx])) (by simp [hx])
  next hx =>
    split
    · exact shutterLaw_of_not_opening (h.openOut_eq (by simp [hx])) (by simp [hx])
    · exact beginClosing_law
  next hx =>
    split
    next hopen => exact beginOpening_law hopen
    next => exact shutterLaw_of_not_opening (h.openOut_eq (by simp [hx])) (by simp [hx])
  next hx =>
    split
    next hopen => exact beginOpening_law hopen
    next => exact shutterLaw_of_not_opening (h.openOut_eq (by simp [hx])) (by simp [hx])
  next hx =>
    split
    · exact beginClosing_law
    next hends =>
      simp only [openingEnds, closeCondition, Bool.or_eq_true, not_or, Bool.not_eq_true] at hends
      obtain ⟨hclose, hown⟩ := hends
      refine ⟨h.1, fun hopening => ⟨h.2 hopening, hown, fun hbelow => by simpa [hbelow] using hclose, fun b hbelow => ?_⟩⟩
      by_cases hb : b = s.compartment
      · exact hb ▸ hown
      · simpa [hbelow, hb, hown] using hclose
  next hx => exact shutterLaw_of_not_opening (h.openOut_eq (by simp [hx])) (by simp [hx])
  next hx => exact shutterLaw_of_not_opening (h.openOut_eq (by simp [hx])) (by simp [hx])

/-- The clear wait changes nothing that `settleConditions` does not put right. -/
theorem beginClearing_holds (hx : s.fire.shutter = some .opened) : Holds s (beginClearing s) :=
  ⟨by simp, by simp, by simp [SlotLaw], by simp [BinLaw], by simp [WithinCapacity],
    fun h => ShutterDrive.of_law (beginClearing_law h hx)⟩

theorem shutterTakeUp_stays : Stays s (shutterTakeUp s) := by
  suffices hbase : Holds s (shutterTakeUp s) ∧ (RingHoldLaw s → RingHoldLaw (shutterTakeUp s)) by
    refine ⟨⟨hbase.1, by simp, by simp, by simp, by simp, hbase.2, fun h => shutterTakeUp_law (.of_law h)⟩, ?_⟩
    simp [StoppedCraneLaw]
  unfold shutterTakeUp
  split
  next hx =>
    split
    · exact ⟨(beginClearing_holds hx).trans settleConditions_stays.toHolds, fun _ => settleConditions_law⟩
    · exact ⟨.refl, fun h => h⟩
  next hx =>
    split
    · exact ⟨.refl, fun h => h⟩
    · exact ⟨(beginClosing_stays hx (by decide)).toHolds, (beginClosing_stays hx (by decide)).ring⟩
  next hx =>
    split
    next hopen => exact ⟨(beginOpening_stays hx (by decide) hopen).toHolds, (beginOpening_stays hx (by decide) hopen).ring⟩
    next => exact ⟨.refl, fun h => h⟩
  next hx =>
    split
    next hopen => exact ⟨(beginOpening_stays hx (by decide) hopen).toHolds, (beginOpening_stays hx (by decide) hopen).ring⟩
    next => exact ⟨.refl, fun h => h⟩
  next hx =>
    split
    · exact ⟨(beginClosing_stays hx (by decide)).toHolds, (beginClosing_stays hx (by decide)).ring⟩
    · exact ⟨.refl, fun h => h⟩
  next => exact ⟨.refl, fun h => h⟩
  next => exact ⟨.refl, fun h => h⟩

/-- What every change of the station state or of the view ends with (R129, R169, R185): the conditions, the shutter. -/
theorem takeUp_settle_laws (h : ShutterDrive s) :
    RingHoldLaw (shutterTakeUp (settleConditions s)) ∧ ShutterLaw (shutterTakeUp (settleConditions s)) :=
  ⟨shutterTakeUp_stays.ring settleConditions_law, shutterTakeUp_law (settleConditions_stays.drive h)⟩

theorem takeUp_settle_stays : Stays s (shutterTakeUp (settleConditions s)) :=
  settleConditions_stays.trans shutterTakeUp_stays

/-- A change of station state or view after which `Holds` stands, the two laws of its own put right at the end. -/
theorem Holds.safe_takeUp (h : Holds s t) (fault : s.ctl.station ≠ .strapFault → t.ctl.station ≠ .strapFault)
    (alarm : AlarmLaw s → AlarmLaw t) (crane : StoppedCraneLaw s → StoppedCraneLaw t) :
    Safe s (shutterTakeUp (settleConditions t)) :=
  ⟨h.trans takeUp_settle_stays.toHolds, fun hs => by rw [takeUp_settle_stays.station]; exact fault hs,
    fun hring => shutterTakeUp_stays.ring settleConditions_law,
    fun hshutter => (takeUp_settle_laws (h.drive (.of_law hshutter))).2,
    takeUp_settle_stays.alarm ∘ alarm, takeUp_settle_stays.crane ∘ crane⟩

/-! ### The station state -/

theorem putStation_holds {x : StationState} : Holds s (putStation x s) := by
  have hcap : WithinCapacity s → WithinCapacity (s.onCtl fun c => { c with station := x }) := fun h => h
  have hwrite : Holds s (s.onCtl fun c => { c with station := x }) :=
    ⟨rfl, rfl, fun h => h, fun h => h, hcap, fun h => h⟩
  exact hwrite.trans setRoster_stays.toHolds

theorem announce_raise_stays {n : Notice} : Stays s (raise n (announce s)) := announce_stays.trans raise_stays

theorem setStation_holds {x : StationState} : Holds s (setStation x s) :=
  putStation_holds.trans announce_raise_stays.toHolds

@[simp] theorem setStation_station (x : StationState) (s : State) : (setStation x s).ctl.station = x := by
  simp [setStation, putStation]

/-- Out of SHUTDOWN the law of the stopped crane asks less (R176). -/
theorem setStation_crane {x : StationState} (hx : x ≠ .shutdown) : StoppedCraneLaw s → StoppedCraneLaw (setStation x s) :=
  fun h => ⟨by simpa using h.1, fun hshut => absurd (by simpa using hshut) hx⟩

@[simp] theorem setStation_compartment (x : StationState) (s : State) : (setStation x s).compartment = s.compartment := by
  simp [State.compartment]

theorem ownAlarmed_setStation (x : StationState) (s : State) : (setStation x s).ownAlarmed = s.ownAlarmed := by
  simp [State.ownAlarmed, State.alarmed]

/-- A station that becomes ACTIVE or DOZE with its compartment out of the view (R175). -/
theorem setStation_alarm_of_clear {x : StationState} (hx : x = .active ∨ x = .doze) (hown : s.ownAlarmed = false) :
    AlarmLaw (setStation x s) := by
  refine ⟨fun h => ?_, fun h => ?_, fun _ => ?_⟩
  · rcases hx with rfl | rfl <;> simp at h
  · rcases hx with rfl | rfl <;> simp at h
  · rwa [ownAlarmed_setStation]

/-! ### Entry to SHUTDOWN (R175, R176) -/

/-- A job of the pool is one that was there, or a new one that waits and is no RETRIEVE (R69, R77). -/
def NewJobsWait (s t : State) : Prop :=
  ∀ j ∈ t.crane.pool, j ∈ s.crane.pool ∨ (j.state = .waiting ∧ j.kind ≠ .retrieve)

theorem NewJobsWait.refl : NewJobsWait s s := fun _ hj => .inl hj

theorem NewJobsWait.trans (h : NewJobsWait s t) (k : NewJobsWait t u) : NewJobsWait s u :=
  fun j hj => (k j hj).elim (fun hold => h j hold) .inr

theorem NewJobsWait.of_pool (h : t.crane.pool = s.crane.pool) : NewJobsWait s t := fun _ hj => .inl (h ▸ hj)

theorem enterJob_newJobsWait {j : Job} (hw : j.state = .waiting) (hk : j.kind ≠ .retrieve) :
    NewJobsWait s (enterJob j s) := by
  have hpush : ∀ k : Job, k.state = .waiting → k.kind ≠ .retrieve →
      NewJobsWait s (s.onCrane fun c => { c with pool := c.pool ++ [k] }) := by
    intro k hkw hkk m hm
    rcases List.mem_append.1 hm with hold | hnew
    · exact .inl hold
    · rw [List.mem_singleton.1 hnew]
      exact .inr ⟨hkw, hkk⟩
  unfold enterJob
  dsimp only
  split
  · split
    · exact .refl
    · exact hpush _ hw hk
  · exact hpush _ hw hk

theorem offerJob_newJobsWait {j : Job} (hw : j.state = .waiting) (hk : j.kind ≠ .retrieve) :
    NewJobsWait s (offerJob j s).2 := by
  simp only [offerJob, if_neg hk]
  split
  · exact enterJob_newJobsWait hw hk
  · exact .refl

theorem askStore_newJobsWait {bin : Nat} : NewJobsWait s (askStore bin s) := by
  have h := offerJob_newJobsWait (s := s) (j := storeJob bin) rfl (by simp [storeJob])
  unfold askStore
  dsimp only
  split <;> exact h

theorem askRestore_newJobsWait {bin : Nat} : NewJobsWait s (askRestore bin s) := by
  have h := offerJob_newJobsWait (s := s) (j := restoreJob bin) rfl (by simp [restoreJob])
  unfold askRestore
  dsimp only
  split <;> exact h

theorem recordFreed_newJobsWait : NewJobsWait s (recordFreed s) := by
  unfold recordFreed
  extract_lets s₁
  have h₁ : NewJobsWait s s₁ := by
    unfold s₁
    split
    · exact askRestore_newJobsWait
    · exact .refl
  refine h₁.trans ?_
  split
  · exact askStore_newJobsWait
  · exact .refl

/-- What the failing of the FILL jobs leaves in the pool: jobs that it does not fail, and new ones that wait (R74). -/
theorem mem_pool_failFills {j : Job} (h : j ∈ (failFills s).crane.pool) :
    (j ∈ s.crane.pool ∧ failsFill j = false) ∨ (j.state = .waiting ∧ j.kind ≠ .retrieve) := by
  unfold failFills at h
  extract_lets gone s₁ s₂ at h
  split at h
  next hnone =>
    refine .inl ⟨h, ?_⟩
    by_contra hfails
    have hmem : j ∈ gone := List.mem_filter.2 ⟨h, by simpa using hfails⟩
    simp [List.isEmpty_iff.1 hnone] at hmem
  next =>
    rcases recordFreed_newJobsWait j h with hold | hnew
    · have hfold := foldl_keeps State.crane (fun t (j : Job) => failFill j.tag (indexOf j.bin) t)
        (fun t j => by simp) gone s₂
      have hpool : s₂.crane = s₁.crane := by
        unfold s₂
        split <;> simp
      rw [hfold, hpool] at hold
      obtain ⟨hin, hkept⟩ := List.mem_filter.1 hold
      exact .inl ⟨hin, by simpa using hkept⟩
    · exact .inr hnew

/-- The crane that has been stopped for fire is at rest, and nothing but a STOP is in flight (R176). -/
theorem stopForFire_rest (s : State) : AtRest (stopForFire s).crane.state := by
  unfold stopForFire
  split
  next h => exact .inl h
  next => exact .inl rfl
  next => exact .inr (.inl rfl)
  next => exact .inr (.inl rfl)
  next => exact .inr (.inl rfl)
  next => exact .inr (.inl rfl)
  next h => exact .inr (.inl h)
  next h => exact .inr (.inr (.inl h))
  next h => exact .inr (.inr (.inr h))
  next => exact .inr (.inr (.inr rfl))

@[simp] theorem sendStop_inFlight (s : State) : (sendStop s).crane.inFlight = some .stop := by
  unfold sendStop
  split
  next h => exact h
  next => rfl

theorem stopForFire_inFlight (h : AtRest s.crane.state → s.crane.inFlight = none ∨ s.crane.inFlight = some .stop) :
    (stopForFire s).crane.inFlight = none ∨ (stopForFire s).crane.inFlight = some .stop := by
  unfold stopForFire
  split
  next hu => exact h (.inl hu)
  next => exact .inr (by simp)
  next => exact .inr (by simp)
  next => exact .inr (by simp)
  next => exact .inr (by simp)
  next => exact .inr (by simp)
  next hst => exact h (.inr (.inl hst))
  next hf => exact h (.inr (.inr (.inl hf)))
  next ha => exact h (.inr (.inr (.inr ha)))
  next => exact .inl (by simp)

theorem stopForFire_keepsLaws : Keeps s (stopForFire s) := by
  unfold stopForFire
  split
  · exact .refl
  · exact sendStop_stays.toKeeps.trans Keeps.onCrane
  · exact sendStop_stays.toKeeps.trans Keeps.onCrane
  · exact sendStop_stays.toKeeps.trans Keeps.onCrane
  · exact sendStop_stays.toKeeps.trans Keeps.onCrane
  · exact sendStop_stays.toKeeps.trans Keeps.onCrane
  · exact .refl
  · exact .refl
  · exact .refl
  · exact abandonCommand_stays.toKeeps.trans Keeps.onCrane

@[simp] theorem releaseStand_crane (s : State) : (releaseStand s).crane = s.crane := by simp

/-- The failing of the FILL jobs leaves the crane's state, its command and its RESTART run alone (R74). -/
@[simp] theorem failFills_crane (s : State) : (failFills s).crane.state = s.crane.state ∧
    (failFills s).crane.inFlight = s.crane.inFlight ∧ (failFills s).crane.restartRun = s.crane.restartRun := by
  unfold failFills
  extract_lets gone s₁ s₂
  have hfold := foldl_keeps State.crane (fun t (j : Job) => failFill j.tag (indexOf j.bin) t) (fun t j => by simp) gone s₂
  have hs₂ : s₂.crane = s₁.crane := by
    unfold s₂
    split <;> simp
  split
  · exact ⟨rfl, rfl, rfl⟩
  · simp only [recordFreed_keeps, hfold, hs₂]
    exact ⟨rfl, rfl, rfl⟩

/-- The state in which entry to SHUTDOWN has stopped the crane, before the announcement. -/
def stoppedForFire (s : State) : State :=
  failFills (freezeCurrent ((stopForFire (s.onFire fun f => { f with latch := true })).onCrane
    fun k => { k with wakeKept := false, restartRun := false }))

theorem enterShutdown_eq (s : State) : enterShutdown s = setStation .shutdown (stoppedForFire s) := rfl

theorem stoppedForFire_crane (h : StoppedCraneLaw s) :
    AtRest (stoppedForFire s).crane.state ∧
      ((stoppedForFire s).crane.inFlight = none ∨ (stoppedForFire s).crane.inFlight = some .stop) ∧
      (stoppedForFire s).crane.restartRun = false ∧
      ∀ j ∈ (stoppedForFire s).crane.pool, j.state = .waiting ∨ j.state = .frozen := by
  refine ⟨?_, ?_, ?_, fun j hj => ?_⟩
  · simpa [stoppedForFire] using stopForFire_rest _
  · simpa [stoppedForFire] using stopForFire_inFlight (s := s.onFire fun f => { f with latch := true }) h.1
  · simp [stoppedForFire]
  · rcases mem_pool_failFills hj with ⟨hin, -⟩ | ⟨hw, -⟩
    · obtain ⟨k, -, rfl⟩ := List.mem_map.1 hin
      split
      next hw => exact .inl hw
      next => exact .inr rfl
    · exact .inl hw

theorem latch_holds {b : Bool} : Holds s (s.onFire fun f => { f with latch := b }) :=
  ⟨rfl, rfl, fun h => h, fun h => h, fun h => h, fun h => h⟩

theorem stopForFire_after_keepsLaws :
    Keeps s ((stopForFire s).onCrane fun k => { k with wakeKept := false, restartRun := false }) :=
  stopForFire_keepsLaws.trans (Keeps.onCrane (restartRun := fun _ => rfl))

theorem stoppedForFire_keepsLaws : Keeps (s.onFire fun f => { f with latch := true }) (stoppedForFire s) :=
  stopForFire_after_keepsLaws.trans (freezeCurrent_stays.trans failFills_stays).toKeeps

theorem enterShutdown_holds : Holds s (enterShutdown s) :=
  (latch_holds.trans stoppedForFire_keepsLaws.toHolds).trans setStation_holds

theorem enterShutdown_crane (h : StoppedCraneLaw s) : StoppedCraneLaw (enterShutdown s) := by
  obtain ⟨hrest, hflight, hrun, hjobs⟩ := stoppedForFire_crane h
  rw [enterShutdown_eq]
  exact ⟨fun _ => by simpa using hflight, fun _ => by simpa using ⟨hrest, hrun, hjobs⟩⟩

@[simp] theorem enterShutdown_station (s : State) : (enterShutdown s).ctl.station = .shutdown := by
  simp [enterShutdown_eq]

theorem stoppedForFire_restartRun (s : State) : (stoppedForFire s).crane.restartRun = false := by simp [stoppedForFire]

/-- Entry to SHUTDOWN with the own compartment in the view sets the latch and ends a RESTART run (R175, R184). -/
theorem enterShutdown_alarm (hown : s.ownAlarmed = true) : AlarmLaw (enterShutdown s) := by
  have hcomp : (stoppedForFire s).compartment = s.compartment := by
    simp [State.compartment, stoppedForFire_keepsLaws.straps]
  refine ⟨fun _ => ⟨?_, ?_, ?_⟩, fun h => by simp at h, fun h => by simp at h⟩
  · simpa [enterShutdown_eq, State.ownAlarmed, State.alarmed, stoppedForFire_keepsLaws.view, hcomp] using hown
  · simp [enterShutdown_eq, stoppedForFire_keepsLaws.latch]
  · simp [enterShutdown_eq, stoppedForFire_restartRun]

/-! ### The alarm view (R169) -/

/-- The own compartment's entry into the view, or its leaving it, as the station takes it (R175, R179). -/
def viewAnswered (s : State) : State :=
  if s.ownAlarmed then
    match s.ctl.station with
    | .active => enterShutdown s
    | .doze => enterShutdown s
    | .recovery => enterShutdown s
    | _ => s
  else if s.ctl.station = .shutdown then enterRecovery s
  else s

theorem viewReaders_eq (s : State) : viewReaders s =
    shutterTakeUp (settleConditions
      (if (viewAnswered s).fire.view = 0#8 then dispatch (viewAnswered s) else viewAnswered s)) := rfl

theorem viewAnswered_holds : Holds s (viewAnswered s) := by
  unfold viewAnswered
  split
  · split
    · exact enterShutdown_holds
    · exact enterShutdown_holds
    · exact enterShutdown_holds
    · exact .refl
  · split
    · exact setStation_holds
    · exact .refl

theorem viewAnswered_fault (h : s.ctl.station ≠ .strapFault) : (viewAnswered s).ctl.station ≠ .strapFault := by
  unfold viewAnswered
  split
  · split
    · simp
    · simp
    · simp
    · exact h
  · split
    · simp [enterRecovery]
    · exact h

theorem viewAnswered_crane (h : StoppedCraneLaw s) : StoppedCraneLaw (viewAnswered s) := by
  unfold viewAnswered
  split
  · split
    · exact enterShutdown_crane h
    · exact enterShutdown_crane h
    · exact enterShutdown_crane h
    · exact h
  · split
    · exact setStation_crane (by decide) h
    · exact h

/-- Whatever the view has become, the station state agrees with it again (R175, R179). -/
theorem viewAnswered_alarm {v : BitVec 8} (h : AlarmLaw s) :
    AlarmLaw (viewAnswered (s.onFire fun f => { f with view := v })) := by
  obtain ⟨hshut, hrec, -⟩ := h
  set t := s.onFire fun f => { f with view := v } with ht
  unfold viewAnswered
  split
  next hown =>
    split
    · exact enterShutdown_alarm hown
    · exact enterShutdown_alarm hown
    · exact enterShutdown_alarm hown
    next hactive hdoze hrecovery =>
      refine ⟨fun hst => ⟨hown, (hshut hst).2.1, (hshut hst).2.2⟩, fun hst => absurd hst hrecovery, fun hst => ?_⟩
      exact hst.elim (fun ha => absurd ha hactive) (fun hd => absurd hd hdoze)
  next hclear =>
    have hown : t.ownAlarmed = false := by simpa using hclear
    split
    next hst =>
      have hlatch : t.fire.latch = true := (hshut hst).2.1
      refine ⟨fun h => by simp [enterRecovery] at h, fun _ => ⟨?_, ?_⟩, fun h => by simp [enterRecovery] at h⟩
      · rwa [enterRecovery, ownAlarmed_setStation]
      · simpa [enterRecovery] using hlatch
    next hst => exact ⟨fun h => absurd h hst, fun h => ⟨hown, (hrec h).2⟩, fun _ => hown⟩

theorem setView_safe {v : BitVec 8} : Safe s (setView v s) := by
  unfold setView
  split
  · exact .refl
  · set t := s.onFire fun f => { f with view := v } with ht
    have hwrite : Holds s t := ⟨rfl, rfl, fun h => h, fun h => h, fun h => h, fun h => h⟩
    have hdispatch : Stays (viewAnswered t)
        (if (viewAnswered t).fire.view = 0#8 then dispatch (viewAnswered t) else viewAnswered t) := by
      split
      · exact dispatch_stays
      · exact .refl
    rw [viewReaders_eq]
    refine Holds.safe_takeUp ((hwrite.trans viewAnswered_holds).trans hdispatch.toHolds) (fun hs => ?_) (fun h => ?_)
      (fun h => ?_)
    · exact hdispatch.station ▸ viewAnswered_fault hs
    · exact hdispatch.alarm (viewAnswered_alarm h)
    · exact hdispatch.crane (viewAnswered_crane h)

theorem ownFire_safe : Safe s (ownFire s) := by
  unfold ownFire
  have hrepeat : ∀ t : State, Stays t (t.onFire fun f => { f with repeatTimer := some Config.fireRepeatMs }) :=
    fun t => Stays.onFire
  exact (setView_safe.trans queueFire_stays.safe).trans (hrepeat _).safe

/-! ### The ends of JOINING, of a wake and of a RESTART (R30, R39, R182) -/

theorem afterActive_stays : Stays s (afterActive s) :=
  (takeUp_settle_stays.trans tryAdvance_stays).trans dispatch_stays

/-- A change of the station state after which the station goes on as at its entry to ACTIVE. -/
theorem Holds.safe_afterActive (h : Holds s t) (fault : s.ctl.station ≠ .strapFault → t.ctl.station ≠ .strapFault)
    (alarm : AlarmLaw s → AlarmLaw t) (crane : StoppedCraneLaw s → StoppedCraneLaw t) : Safe s (afterActive t) :=
  (h.safe_takeUp fault alarm crane).trans (tryAdvance_stays.trans dispatch_stays).safe

theorem endJoining_safe (hjoining : s.ctl.station = .joining) : Safe s (endJoining s) := by
  unfold endJoining
  extract_lets s₁ s₂
  have h₁ : Stays s s₁ := Stays.onCtl
  refine h₁.safe.trans ?_
  have hfault : ∀ x, x ≠ .strapFault → s₁.ctl.station ≠ .strapFault → (setStation x s₁).ctl.station ≠ .strapFault :=
    fun x hx _ => by simpa using hx
  split
  next hown =>
    exact enterShutdown_holds.safe_takeUp (fun _ => by simp) (fun _ => enterShutdown_alarm hown) enterShutdown_crane
  next hclear =>
    have hown : s₁.ownAlarmed = false := by simpa using hclear
    split
    next hlatch =>
      refine setStation_holds.safe_takeUp (hfault _ (by decide)) (fun _ => ?_) (setStation_crane (by decide))
      refine ⟨fun h => by simp at h, fun _ => ⟨?_, ?_⟩, fun h => by simp at h⟩
      · rwa [ownAlarmed_setStation]
      · simpa using hlatch
    next =>
      have hst : s₁.ctl.station ≠ .shutdown := by simp [s₁, hjoining]
      have h₂ : Safe s₁ s₂ := by
        unfold s₂
        split
        · exact sendHome_keepsLaws.safe fun _ => (sendHome_moving hst).law
        · exact .refl
      have hown₂ : s₂.ownAlarmed = false := by
        unfold s₂
        split
        · simpa [State.ownAlarmed, State.alarmed, State.compartment] using hown
        · exact hown
      exact h₂.trans (setStation_holds.safe_afterActive (fun _ => by simp)
        (fun _ => setStation_alarm_of_clear (.inl rfl) hown₂) (setStation_crane (by decide)))

theorem wakeEnds_safe (hdoze : s.ctl.station = .doze) : Safe s (wakeEnds s) := by
  unfold wakeEnds
  extract_lets s₁
  have hset : Holds s (setStation .active s) := setStation_holds
  have hrest : Stays (setStation .active s) (sendSpace .backLane (sendSpace .outLane s₁)) :=
    (settleConditions_stays.trans sendSpace_stays).trans sendSpace_stays
  have hring : RingHoldLaw (sendSpace .backLane (sendSpace .outLane s₁)) :=
    (sendSpace_stays.trans sendSpace_stays).ring settleConditions_law
  have htail : Stays (shutterTakeUp (sendSpace .backLane (sendSpace .outLane s₁)))
      (dispatch (tryAdvance (shutterTakeUp (sendSpace .backLane (sendSpace .outLane s₁))))) :=
    tryAdvance_stays.trans dispatch_stays
  have hall := (hrest.trans shutterTakeUp_stays).trans htail
  refine ⟨hset.trans hall.toHolds, fun _ => ?_, fun _ => ?_, fun h => ?_, fun h => ?_, fun h => ?_⟩
  · rw [hall.station]
    simp
  · exact htail.ring (shutterTakeUp_stays.ring hring)
  · exact htail.shutter (shutterTakeUp_law (hrest.drive (hset.drive (.of_law h))))
  · exact hall.alarm (setStation_alarm_of_clear (.inl rfl) (h.2.2 (.inr hdoze)))
  · exact hall.crane (setStation_crane (by decide) h)

theorem driveFault_safe {code : Nat} : Safe s (driveFault code s) := by
  unfold driveFault
  split
  next hdoze => exact craneFault_stays.safe.trans (wakeEnds_safe (by rw [craneFault_stays.station, hdoze]))
  next => exact craneFault_stays.safe

theorem wakeFailed_safe : Safe s (wakeFailed s) := by
  unfold wakeFailed
  extract_lets s₁ s₂
  have hfaulted : Stays (abandonCommand s) s₁ :=
    Stays.onCrane_rest (.inr (.inr (.inl rfl))) (.inl (by simp)) (fun _ => rfl)
  have h₂ : Stays s s₂ := ((abandonCommand_stays.trans hfaulted).trans onRecord_stays).trans raise_stays
  split
  next hdoze => exact h₂.safe.trans (wakeEnds_safe hdoze)
  next => exact h₂.safe

theorem enterDoze_safe (hactive : s.ctl.station = .active) : Safe s (enterDoze s) := by
  have htaken : Safe s (shutterTakeUp (settleConditions (setStation .doze s))) :=
    setStation_holds.safe_takeUp (fun _ => by simp)
      (fun h => setStation_alarm_of_clear (.inr rfl) (h.2.2 (.inl hactive))) (setStation_crane (by decide))
  refine htaken.trans ?_
  set t := shutterTakeUp (settleConditions (setStation .doze s)) with ht
  have hdoze : t.ctl.station = .doze := by simp [ht]
  show Safe t (parkCrane t)
  unfold parkCrane
  extract_lets s₁
  have h₁ : Keeps t s₁ := Keeps.onCrane
  have hmoving : Moving s₁ := ⟨by simp [s₁, AtRest], by simp [s₁, hdoze]⟩
  split
  · exact (h₁.trans sendDrive_keepsLaws).safe fun _ => (hmoving.of_eq (by simp) (by simp)).law
  · exact (h₁.trans sendDrive_keepsLaws).safe fun _ => (hmoving.of_eq (by simp) (by simp)).law

end Sys2Proof.Machine
end

section
/-! PROOF. The frames received and the orders keep the laws (R13 to R17, R35, R84 to R91, R118 to R120, R139, R152 to
R159, R180, R194). -/

namespace Sys2Proof.Machine

-- Checked one after another: the host bounds the memory of all threads together.
set_option Elab.async false

open Sys2Proof Sys2Proof.Safety

variable {s t u : State} {bin tag : Nat}

/-! ### Frames -/

/-- A frame received is delivered to its owner or only answered (R12, R13). -/
theorem receive_safe {row : KindRow} {offBusToo : Bool} {honoured : Nat → Bool} {deliver : RxFrame → State → State}
    {f : RxFrame} (h : ∀ t : State, Safe t (deliver f t)) : Safe s (receive row offBusToo honoured deliver f s) := by
  have hanswer : ∀ a, Safe s (answerWith a s) := fun _ => answerWith_stays.safe
  unfold receive
  dsimp only
  split
  · exact .refl
  · split
    · exact hanswer _
    · split
      · exact hanswer _
      · split
        · exact hanswer _
        · split
          · exact hanswer _
          · split
            · split
              · exact (hanswer _).trans (h _)
              · exact hanswer _
            · split
              · split
                · exact (hanswer _).trans (h _)
                · exact hanswer _
              · exact hanswer _

theorem takePass_stays {l : Lane} {c : Carry} : Stays s (takePass l c s) := by
  unfold takePass
  dsimp only
  exact Stays.trans Stays.onSeg raiseMerge_stays

theorem holdPass_stays {l : Lane} {up : Bool} : Stays s (holdPass l up s) := by
  unfold holdPass
  extract_lets s₁
  have h₁ : Stays s s₁ := answerWith_stays.trans countDeferred_stays
  split
  · exact Stays.trans (h₁.trans Stays.onSeg) wakeCause_stays
  · exact h₁.trans wakeCause_stays

theorem decidePass_stays {f : RxFrame} : Stays s (decidePass f s) := by
  unfold decidePass
  dsimp only
  split
  · exact takePass_stays
  · exact holdPass_stays

theorem takeSpace_stays {f : RxFrame} : Stays s (takeSpace f s) := by
  unfold takeSpace
  dsimp only
  split
  · exact stopRetry_stays.trans actHead_stays
  · exact .refl

theorem takeLanded_stays {f : RxFrame} : Stays s (takeLanded f s) := by
  unfold takeLanded
  dsimp only
  split
  · exact ((removeHead_stays.trans openTail_stays).trans actIdleHead_stays).trans shutterTakeUp_stays
  · exact .refl

theorem takeBid_stays {f : RxFrame} : Stays s (takeBid f s) := by
  unfold takeBid
  dsimp only
  split
  · exact .refl
  · split
    · split
      · exact onAuction_stays.trans abortBid_stays
      · exact onAuction_stays
    · exact onAuction_stays

/-- An auction is joined only with a record free (R152). -/
theorem takeRoom_stays {f : RxFrame} : Stays s (takeRoom f s) := by
  unfold takeRoom
  dsimp only
  split
  next hjoins =>
    have hroom : s.auctions.records.length < 4 := by
      simp only [joinsAuction, Bool.and_eq_true, decide_eq_true_eq] at hjoins
      exact hjoins.2
    unfold joinAuction
    exact Stays.onAuctions (fun _ => by simp; omega)
  next => exact .refl

theorem takeFire_safe {f : RxFrame} : Safe s (voidAuctions (setView (s.fire.view ||| maskOf f) s)) :=
  setView_safe.trans voidAuctions_stays.safe

theorem takeClear_safe {f : RxFrame} : Safe s (takeClear f s) := by
  have hrepeat : ∀ t : State, Stays t (t.onFire fun u => { u with repeatTimer := some Config.fireRepeatMs }) :=
    fun t => Stays.onFire
  unfold takeClear
  dsimp only
  split
  · exact (setView_safe.trans queueFire_stays.safe).trans (hrepeat _).safe
  · exact setView_safe

/-- The compartment below has no say in the shutter's outputs, and the shutter answers it at once (R185). -/
theorem joinRoster_keeps_ring {n comp : Nat} {port : Bool} {x : StationState} :
    Holds s (joinRoster n comp port x s) ∧ (joinRoster n comp port x s).ctl.station = s.ctl.station ∧
      (joinRoster n comp port x s).fire.view = s.fire.view ∧ (joinRoster n comp port x s).fire.latch = s.fire.latch ∧
      (joinRoster n comp port x s).crane = s.crane ∧ (RingHoldLaw s → RingHoldLaw (joinRoster n comp port x s)) := by
  unfold joinRoster
  extract_lets s₁
  have h₁ : Stays s s₁ := setRoster_stays
  split
  · exact ⟨h₁.toHolds.trans ⟨rfl, rfl, fun h => h, fun h => h, fun h => h, fun h => h⟩, rfl, rfl, rfl, rfl, h₁.ring⟩
  · exact ⟨h₁.toHolds, rfl, rfl, rfl, rfl, h₁.ring⟩

theorem answerJoining_stays {x : StationState} : Stays s (answerJoining x s) := by
  unfold answerJoining
  split
  · dsimp only
    split
    · exact announce_stays
    · exact announce_stays.trans queueFire_stays
  · exact .refl

theorem joinMismatch_stays {n : Nat} : Stays s (joinMismatch n s) :=
  (setRoster_stays.trans onRecord_stays).trans raise_stays

theorem headsFor_stays {n : Nat} : Stays s (headsFor n s) := by
  unfold headsFor
  dsimp only
  have hact : ∀ (l : Lane) (t : State), Stays t (if t.downstream l = some n ∧ mayOffer n t then actIdleHead l t else t) := by
    intro l t
    split
    · exact actIdleHead_stays
    · exact .refl
  exact (hact _ _).trans (hact _ _)

/-- A JOIN with the own T: the shutter takes up the compartment below (R41, R185). -/
theorem joinAccepted_safe {n comp : Nat} {port : Bool} {x : StationState} :
    Safe s (headsFor n (shutterTakeUp (answerJoining x (joinRoster n comp port x s)))) := by
  obtain ⟨hholds, hstation, hview, hlatch, hcrane, hring⟩ := joinRoster_keeps_ring (s := s) (n := n) (comp := comp)
    (port := port) (x := x)
  have hcomp : (joinRoster n comp port x s).compartment = s.compartment := by simp [State.compartment, hholds.straps]
  have hall := (answerJoining_stays (s := joinRoster n comp port x s) (x := x)).trans shutterTakeUp_stays
  refine Safe.trans ?_ (headsFor_stays.safe)
  refine ⟨hholds.trans hall.toHolds, fun hs => ?_, fun h => hall.ring (hring h), fun h => ?_, fun h => hall.alarm ?_,
    fun h => hall.crane ?_⟩
  · rwa [hall.station, hstation]
  · exact shutterTakeUp_law (answerJoining_stays.drive (hholds.drive (.of_law h)))
  · simpa [AlarmLaw, State.ownAlarmed, State.alarmed, hstation, hview, hlatch, hcrane, hcomp] using h
  · simpa [StoppedCraneLaw, hstation, hcrane] using h

theorem takeJoin_safe {f : RxFrame} : Safe s (takeJoin f s) := by
  unfold takeJoin
  dsimp only
  split
  · split
    · exact .refl
    · split
      · exact joinAccepted_safe
      · exact (joinMismatch_stays.trans answerJoining_stays).safe
  · exact .refl

/-! ### The take of an order -/

theorem putReply_stays {id : SlotId} {r : RxRecord} {a : Answer} {n : Nat} (h : id ≠ .s0) : Stays s (putReply id r a n s) :=
  setSlot_stays h

theorem answerOrder_safe {body : OrderBody} {r : RxRecord} (h : Safe s (body r s).2) : Safe s (answerOrder body r s).2 := by
  unfold answerOrder
  split
  · exact .refl
  · split
    · exact .refl
    · exact h

/-- The take keeps what the order's owner keeps (R16). -/
theorem serve_safe {p : RxRecord → Bool} {body : OrderBody} (h : ∀ (r : RxRecord) (t : State), Safe t (body r t).2) :
    Safe s (serve p body s) := by
  unfold serve
  split
  next r rest id hrx hid =>
    split
    · have hne := Slots.grantedSlot_ne_s0 hid
      have hleft : Stays s (s.onBus fun b => { b with rx := rest }) :=
        Stays.onBus (rx := fun h => by rw [hrx, List.length_cons] at h; show rest.length ≤ 8; omega)
      have htake : Stays s (beginTake id r rest s) := (hleft.trans wishBegins_stays).trans (putReply_stays hne)
      have hreply := (putReply_stays hne).trans (wishGoesOn_stays (s := putReply id r
        (answerOrder body r (beginTake id r rest s)).1 s.bus.order (answerOrder body r (beginTake id r rest s)).2))
      exact (htake.safe.trans (answerOrder_safe (h r _))).trans hreply.safe
    · exact .refl
  next => exact .refl

/-! ### The orders' owners -/

theorem jobEntered_stays : Stays s (jobEntered s) := wakeCause_stays.trans dispatch_stays

theorem callAppend_stays {port urgency : Nat} {purpose : Purpose} {mark : Bool} :
    Stays s (callAppend bin tag port purpose urgency mark s).2 := by
  unfold callAppend
  dsimp only
  split
  · exact followOnAppend_stays
  · exact followOnAppend_stays
  · exact followOnAppend_stays
  · exact followOnAppend_stays

theorem callBody_stays (r : RxRecord) (s : State) : Stays s (callBody r s).2 := by
  unfold callBody
  dsimp only
  split
  · exact .refl
  · unfold callDecide
    dsimp only
    split
    · exact .refl
    · split
      · exact .refl
      · split
        · split
          · exact (offerJob_stays rfl).trans jobEntered_stays
          · exact offerJob_stays rfl
        · exact callAppend_stays

theorem removeFirst_subset {l : List Job} : removeFirst tag l ⊆ l := by
  induction l with
  | nil => exact List.Subset.refl _
  | cons j l ih =>
    unfold removeFirst
    split
    · exact List.subset_cons_self ..
    · exact List.cons_subset_cons _ ih

theorem removeFirst_length {l : List Job} : (removeFirst tag l).length ≤ l.length := by
  induction l with
  | nil => exact le_refl _
  | cons j l ih =>
    unfold removeFirst
    split
    · exact Nat.le_succ _
    · exact Nat.succ_le_succ ih

theorem cancelHold_stays {purpose : Purpose} {i : Nat} : Stays s (cancelHold purpose i s) := by
  unfold cancelHold
  split
  · exact holdClear_stays
  · exact .refl

theorem stopMove_stays : Stays s (stopMove s) := by
  unfold stopMove
  split
  · exact sendStop_stays
  · exact .refl

theorem cancelRemove_stays {j : Job} : Stays s (cancelRemove j s) := by
  unfold cancelRemove
  extract_lets s₁ s₂
  have h₁ : Stays s s₁ := Stays.onCrane (pool := fun h => removeFirst_length.trans h)
    (jobs := fun k hk => .inr (.inr ⟨k, removeFirst_subset hk, rfl⟩))
  have h₂ : Stays s₁ s₂ := by
    unfold s₂
    split
    · exact .refl
    · exact releaseStand_stays
  exact ((h₁.trans h₂).trans cancelHold_stays).trans recordFreed_stays

theorem cancelJob_stays {j : Job} : Stays s (cancelJob j s).2 := by
  unfold cancelJob
  split
  · exact cancelRemove_stays.trans dispatch_stays
  · split
    · exact (stopMove_stays.trans cancelRemove_stays).trans dispatch_stays
    · split
      · exact .refl
      · have hstop : Stays s (if j.state = .active then stopMove s else s) := by
          split
          · exact stopMove_stays
          · exact .refl
        exact (hstop.trans (cancelHold_stays.trans convertCurrent_stays)).trans dispatch_stays

theorem cancelRecord_stays : Stays s (cancelRecord tag s).2 := by
  unfold cancelRecord
  split
  · unfold cancelEntry
    dsimp only
    split
    · exact followOnRemove_stays.trans cancelHold_stays
    · exact followOnRemove_stays
  · split <;> exact .refl
  · exact .refl

theorem cancelBody_stays (r : RxRecord) (s : State) : Stays s (cancelBody r s).2 := by
  unfold cancelBody
  dsimp only
  split
  · dsimp only
    split
    · exact cancelJob_stays
    · exact cancelRecord_stays
  · exact .refl

theorem releaseBody_stays (r : RxRecord) (s : State) : Stays s (releaseBody r s).2 := by
  unfold releaseBody
  dsimp only
  split
  · exact .refl
  · split
    · split
      · exact releaseService_stays
      · exact .refl
    · exact .refl

/-- A crane that a HALT finds IDLE or RUNNING is moving, unless the law is broken already (R176). -/
theorem onCrane_safe_of_moving {f : Crane → Crane} (hkeeps : Keeps s (s.onCrane f)) (hbefore : ¬ AtRest s.crane.state)
    (hafter : ¬ AtRest (f s.crane).state) : Safe s (s.onCrane f) :=
  hkeeps.safe fun h => Moving.law ⟨hafter, fun hshut => hbefore (h.2 hshut).1⟩

theorem haltBody_safe (r : RxRecord) (s : State) : Safe s (haltBody r s).2 := by
  unfold haltBody haltCrane
  split
  next h =>
    dsimp only
    exact onCrane_safe_of_moving Keeps.onCrane (by simp [h, AtRest]) (by simp [AtRest])
  next h =>
    split
    · exact .refl
    · have hstop : Stays s (stopMove s) := stopMove_stays
      dsimp only
      refine hstop.safe.trans (onCrane_safe_of_moving Keeps.onCrane ?_ (by simp [AtRest]))
      unfold stopMove
      split <;> simp [h, AtRest]
  next => exact .refl
  next => exact .refl
  next => exact .refl

theorem resumeHalted_safe (h : s.crane.state = .halted) : Safe s (resumeHalted s) := by
  have hmoving : StoppedCraneLaw s → s.ctl.station ≠ .shutdown := fun hlaw hshut => by
    have hrest := (hlaw.2 hshut).1
    simp [h, AtRest] at hrest
  unfold resumeHalted
  split
  · exact (onCrane_safe_of_moving Keeps.onCrane (by simp [h, AtRest]) (by simp [AtRest])).trans dispatch_stays.safe
  · have hactive : Keeps s ((onCurrent (fun j => { j with state := .active }) s).onCrane
        fun k => { k with state := .running }) := onCurrent_keepsLaws.trans Keeps.onCrane
    refine Safe.trans ((hactive.trans beginStage_keepsLaws).safe fun hlaw => ?_) dispatch_stays.safe
    exact (beginStage_moving ⟨by simp [AtRest], by simpa using hmoving hlaw⟩).law

theorem resumeBody_safe (r : RxRecord) (s : State) : Safe s (resumeBody r s).2 := by
  unfold resumeBody resumeCrane
  split
  next h => exact resumeHalted_safe h
  next h =>
    dsimp only
    exact onCrane_safe_of_moving Keeps.onCrane (by simp [h, AtRest]) (by simp [AtRest])
  next => exact .refl

theorem dozeBody_safe (r : RxRecord) (s : State) : Safe s (dozeBody r s).2 := by
  unfold dozeBody
  split
  next hactive =>
    split
    · exact enterDoze_safe hactive
    · exact .refl
  next => exact .refl
  next => exact .refl

theorem wakeBody_stays (r : RxRecord) (s : State) : Stays s (wakeBody r s).2 := by
  unfold wakeBody
  split
  · exact .refl
  · exact wakeCause_stays
  · exact .refl

/-- A RESTART is taken in RECOVERY or in ACTIVE (R180). -/
theorem station_of_restartResult (h : restartResult s = .done) : s.ctl.station = .recovery ∨ s.ctl.station = .active := by
  unfold restartResult at h
  split at h
  next h₁ _ => exact .inl h₁
  next h₁ _ => exact .inl h₁
  next h₁ _ => exact .inl h₁
  next h₁ _ => exact .inl h₁
  next => cases h
  next h₁ _ => exact .inr h₁
  next => cases h

/-- A RESTART run begins at a station that is not SHUTDOWN: of the alarm the law asks nothing more (R181). -/
theorem beginRestart_safe (hst : s.ctl.station ≠ .shutdown) : Safe s (beginRestart s) := by
  unfold beginRestart
  extract_lets s₁
  have h₁ : Safe s s₁ := by
    have hgiven := abandonCommand_stays (s := s)
    have hst' : (abandonCommand s).ctl.station ≠ .shutdown := by simpa using hst
    refine hgiven.safe.trans ⟨⟨rfl, rfl, fun h => h, fun h => h, fun h => h, fun h => h⟩, fun h => h, fun h => h,
      fun h => h, fun h => ?_, fun h => ?_⟩
    · exact ⟨fun hshut => absurd hshut hst', h.2.1, h.2.2⟩
    · exact ⟨h.1, fun hshut => absurd hshut hst'⟩
  have hst₁ : s₁.ctl.station ≠ .shutdown := by simpa [s₁] using hst
  split
  · exact h₁.trans (sendWake_keepsLaws.safe fun _ => Moving.law ⟨by simp [sendWake, AtRest], by simpa using hst₁⟩)
  · exact h₁.trans (sendHome_keepsLaws.safe fun _ => (sendHome_moving hst₁).law)

theorem restartBody_safe (r : RxRecord) (s : State) : Safe s (restartBody r s).2 := by
  unfold restartBody
  dsimp only
  split
  next hdone =>
    refine beginRestart_safe fun hshut => ?_
    rcases station_of_restartResult hdone with h | h <;> simp [h] at hshut
  next => exact .refl

theorem enrolAddBody_stays (r : RxRecord) (s : State) : Stays s (enrolAddBody r s).2 := by
  unfold enrolAddBody enrolAddOwn
  dsimp only
  split
  · split
    · exact .refl
    · split
      · exact Stays.trans (putBin_stays fun _ => ⟨Nat.min_le_left .., Nat.zero_le _⟩) dispatch_stays
      · exact .refl
  · exact .refl

theorem enrolRemoveBody_stays (r : RxRecord) (s : State) : Stays s (enrolRemoveBody r s).2 := by
  unfold enrolRemoveBody
  dsimp only
  split
  · exact .refl
  · split
    · exact putBin_stays fun _ => BinRec.blank_fits
    · exact .refl

theorem auditBody_stays (r : RxRecord) (s : State) : Stays s (auditBody r s).2 := by
  unfold auditBody
  dsimp only
  split
  · exact .refl
  · split
    · exact (offerJob_stays rfl).trans jobEntered_stays
    · exact offerJob_stays rfl

/-! ### IDENTIFY (R194 to R197) -/

theorem nameOwn_stays {p : Place} : Stays s (nameOwn p bin s) := by
  unfold nameOwn
  split
  · dsimp only
    split
    · exact markFoundByIdentify_stays
    · split
      · exact (putBin_stays fun _ => ⟨by decide, by decide⟩).trans raise_stays
      · exact .refl
    · split
      · exact Stays.trans putBin_same_stays raise_stays
      · exact .refl
    · exact .refl
  · exact .refl

theorem releaseJam_stays {l : Lane} : Stays s (releaseJam l s) :=
  (setHead_stays.trans openTail_stays).trans actIdleHead_stays

theorem jamOldHead_stays {l : Lane} : Stays s (jamOldHead l s) := by
  unfold jamOldHead
  split
  · exact broadcastJam_stays
  · exact .refl

theorem placeNamed_stays {p : Place} {c : Carry} : Stays s (placeNamed p c s) := by
  unfold placeNamed
  split
  · exact Stays.trans Stays.onSeg actIdleHead_stays
  · exact holdOutStand_stays
  · extract_lets s₁
    have h₁ : Stays s s₁ := Stays.setInStand.trans askStore_stays
    refine (h₁.trans ?_).trans dispatch_stays
    split
    · exact .refl
    · exact wakeCause_stays
  · exact Stays.setApproach.trans tryAdvance_stays
  · exact releaseService_stays
  · dsimp only
    have hasked := Stays.trans (Stays.onCrane (s := s) (f := fun k => { k with carriage := .carrying c, load := .loaded }))
      (askRestore_stays (bin := c.bin))
    split
    · exact hasked
    · exact hasked.trans jobEntered_stays

theorem placeCleared_stays {p : Place} : Stays s (placeCleared p s) := by
  unfold placeCleared
  split
  · exact (Stays.trans Stays.onSeg openTail_stays).trans actIdleHead_stays
  · exact Stays.setOutStand.trans dispatch_stays
  · exact emptyInStand_stays.trans dispatch_stays
  · exact emptyApproach_stays
  · exact Stays.setService.trans tryAdvance_stays
  · exact Stays.trans Stays.onCrane dispatch_stays

theorem identifyJam_stays {place : Nat} {l : Lane} : Stays s (identifyJam place l bin s).2 := by
  unfold identifyJam
  split
  · exact releaseJam_stays
  · split
    · exact .refl
    · exact (Stays.trans (jamOldHead_stays.trans nameOwn_stays) Stays.onSeg).trans releaseJam_stays

theorem identifyBody_stays (r : RxRecord) (s : State) : Stays s (identifyBody r s).2 := by
  unfold identifyBody
  dsimp only
  split
  · exact .refl
  · split
    · exact identifyJam_stays
    · unfold identifyStray
      split
      · split
        · exact .refl
        · exact nameOwn_stays.trans placeNamed_stays
      · exact .refl

theorem identifyClearBody_stays (r : RxRecord) (s : State) : Stays s (identifyClearBody r s).2 := by
  unfold identifyClearBody
  dsimp only
  split
  · exact .refl
  · split
    · unfold clearJam
      split
      · exact .refl
      · exact (jamOldHead_stays.trans removeHead_stays).trans releaseJam_stays
    · unfold clearStray
      split
      · split
        · exact .refl
        · exact placeCleared_stays
      · exact .refl

/-! ### CLEAR-FAULTS and the SETUP orders -/

/-- The counts only fall (R46). -/
theorem clearFaultsBody_stays (r : RxRecord) (s : State) : Stays s (clearFaultsBody r s).2 := by
  have hzero : ∀ (b : Bool) {n : Nat}, n ≤ 255 → (if b then 0 else n) ≤ 255 := fun b n h => by
    split <;> omega
  unfold clearFaultsBody
  dsimp only
  split
  · exact .refl
  · exact onRecord_stays (dropped := hzero _) (deferred := hzero _) (recircs := hzero _)

theorem setupABody_stays (r : RxRecord) (s : State) : Stays s (setupABody r s).2 := by
  unfold setupABody
  split
  · dsimp only
    exact .onCtl
  · exact .refl

theorem setupBBody_safe (r : RxRecord) (s : State) : Safe s (setupBBody r s).2 := by
  unfold setupBBody
  split
  next hjoining =>
    have hset : Stays s (s.onCtl fun c => { c with setup := setupBValues r.payload c.setup }) := Stays.onCtl
    exact hset.safe.trans (endJoining_safe hjoining)
  next => exact .refl

end Sys2Proof.Machine
end

section
/-! PROOF. The drive link, the sensors, the limits and the resets keep the laws (R28, R29, R70 to R79, R110 to R151,
R156 to R163, R170 to R190). -/

namespace Sys2Proof.Machine

-- Checked one after another: the host bounds the memory of all threads together.
set_option Elab.async false

open Sys2Proof Sys2Proof.Safety

variable {s t u : State}

/-! ### Reports of the drive link -/

theorem eraseStale_stays {k : ReportKind} : Stays s (eraseStale k s) := Stays.onCrane

/-- A report is ignored, taken for a fault, or completes the command in flight (R70 to R74). -/
theorem takeReport_safe {k : ReportKind} {onMatch : DriveCmd → State → State}
    (h : ∀ c, s.crane.inFlight = some c → completingReport c = k → Safe s (onMatch c (reportTaken s))) :
    Safe s (takeReport k onMatch s) := by
  unfold takeReport
  split
  · exact .refl
  · split
    · exact eraseStale_stays.safe
    · split
      · exact eraseStale_stays.safe
      next c hc =>
        split
        next hk => exact h c hc hk
        next =>
          split
          · exact eraseStale_stays.safe
          · exact driveFault_safe

/-- What a report of a crane that moves does keeps the laws when it leaves the crane moving (R176). -/
theorem safe_of_moving_report {c : DriveCmd} (hc : s.crane.inFlight = some c) (hne : c ≠ .stop)
    (hkeeps : Keeps (reportTaken s) t) (hmoving : Moving (reportTaken s) → Moving t) : Safe s t :=
  (reportTaken_stays.toKeeps.trans hkeeps).safe fun hlaw =>
    (hmoving ((Moving.of_inFlight hlaw hc hne).of_eq (by simp) (by simp))).law

theorem moveDone_keepsLaws {p : Position} : Keeps s (moveDone p s) := by
  unfold moveDone
  extract_lets s₁
  have h₁ : Keeps s s₁ := Keeps.onCrane
  split
  · exact ((h₁.trans advanceStage_stays.toKeeps).trans goOn_keepsLaws).trans dispatch_keepsLaws
  · split
    · exact h₁.trans sendDrive_keepsLaws
    · exact h₁

theorem moveDone_moving {p : Position} (h : Moving s) : Moving (moveDone p s) := by
  unfold moveDone
  dsimp only
  split
  · exact dispatch_moving (goOn_moving (h.of_eq (by simp) (by simp)))
  · split
    · exact h.of_eq (by simp) (by simp)
    · exact h.of_eq (by simp) (by simp)

/-- The pick of a STORE leaves the crane's state alone (R76). -/
@[simp] theorem storePicked_state (s : State) : (storePicked s).crane.state = s.crane.state := by
  unfold storePicked
  split <;> simp

theorem pickDone_keepsLaws : Keeps s (pickDone s) := by
  unfold pickDone
  extract_lets s₁
  have h₁ : Keeps s s₁ := Keeps.onCrane
  split
  · exact h₁
  · split
    · exact (h₁.trans (advanceStage_stays.trans storePicked_stays).toKeeps).trans goOn_keepsLaws
    · exact h₁.trans goOn_keepsLaws
    · exact (h₁.trans advanceStage_stays.toKeeps).trans goOn_keepsLaws

theorem pickDone_moving (h : Moving s) : Moving (pickDone s) := by
  unfold pickDone
  dsimp only
  split
  · exact h
  · split
    · exact goOn_moving (h.of_eq (by simp) (by rw [storePicked_stays.station]; simp))
    · exact goOn_moving h
    · exact goOn_moving (h.of_eq (by simp) (by simp))

theorem placeDone_keepsLaws : Keeps s (placeDone s) := by
  unfold placeDone
  extract_lets s₁
  have h₁ : Keeps s s₁ := Keeps.onCrane
  split
  · exact h₁
  · exact ((h₁.trans finishJob_stays.toKeeps).trans craneRests_keepsLaws).trans dispatch_keepsLaws

theorem placeDone_moving (h : Moving s) : Moving (placeDone s) := by
  unfold placeDone
  dsimp only
  split
  · exact h
  · refine dispatch_moving (craneRests_moving ?_)
    rw [finishJob_stays.station]
    exact h.2

/-- SLEEP completed: the crane rests with nothing in flight (R37). -/
theorem sleepDone_stays (hflight : s.crane.inFlight = none) : Stays s (sleepDone s) := by
  unfold sleepDone
  extract_lets kept s₁
  have h₁ : Stays s s₁ := Stays.onCrane_rest (.inr (.inr (.inr rfl))) (.inl hflight)
  split
  · exact h₁.trans wakeCause_stays
  · exact h₁

theorem execDone_safe : Safe s (takeReport .done doneTo s) := by
  refine takeReport_safe fun c hc hk => ?_
  unfold doneTo
  split
  · exact safe_of_moving_report hc (by simp) moveDone_keepsLaws moveDone_moving
  · exact safe_of_moving_report hc (by simp) pickDone_keepsLaws pickDone_moving
  · exact safe_of_moving_report hc (by simp) placeDone_keepsLaws placeDone_moving
  · exact (reportTaken_stays.trans (sleepDone_stays rfl)).safe
  · exact reportTaken_stays.safe

theorem probe_safe {present : Bool} : Safe s (takeReport .probe (probeTo present) s) := by
  refine takeReport_safe fun c hc hk => ?_
  have hne : c ≠ .stop := by
    rintro rfl
    cases hk
  unfold probeTo
  split
  · exact reportTaken_stays.safe
  next j _ =>
    refine safe_of_moving_report hc hne ((compareProbe_stays.toKeeps.trans advanceAudit_keepsLaws).trans
      (craneRests_keepsLaws.trans dispatch_keepsLaws)) fun h => dispatch_moving (craneRests_moving ?_)
    rw [(compareProbe_stays.toKeeps.trans advanceAudit_keepsLaws).station]
    exact h.2

/-- STOPPED leaves a crane at rest as it is, and a moving one moving (R72, R88 to R91, R176). -/
theorem stoppedTo_safe {p : Position} {c : DriveCmd} : Safe s (stoppedTo p c s) := by
  unfold stoppedTo
  extract_lets s₁
  have h₁ : Stays s s₁ := Stays.onCrane
  have hst : ∀ {x}, s₁.crane.state = x → ¬ AtRest x → StoppedCraneLaw s → s₁.ctl.station ≠ .shutdown := by
    rintro x hx hnot hlaw hshut
    exact hnot (hx ▸ ((h₁.crane hlaw).2 hshut).1)
  split
  · exact (Stays.trans h₁ Stays.onCrane).safe
  next hstate =>
    refine Keeps.safe (h₁.toKeeps.trans (onCurrent_keepsLaws.trans Keeps.onCrane)) fun hlaw => Moving.law ?_
    exact ⟨by simp [AtRest], hst hstate (by simp [AtRest]) hlaw⟩
  next hstate =>
    have hmoving : StoppedCraneLaw s → Moving s₁ := fun hlaw =>
      ⟨by simp [hstate, AtRest], hst hstate (by simp [AtRest]) hlaw⟩
    split
    · exact ((h₁.toKeeps.trans beginStage_keepsLaws).trans dispatch_keepsLaws).safe
        fun hlaw => (dispatch_moving (beginStage_moving (hmoving hlaw))).law
    · have hidle : Keeps s₁ (s₁.onCrane fun k => { k with state := .idle }) := Keeps.onCrane
      exact ((h₁.toKeeps.trans hidle).trans dispatch_keepsLaws).safe
        fun hlaw => (dispatch_moving (s := s₁.onCrane _) ⟨by simp [AtRest], (hmoving hlaw).2⟩).law
  · exact h₁.safe

/-- HOMED outside a RESTART run (R73). -/
theorem firstHomed_keepsLaws {loaded : Bool} : Keeps s (firstHomed loaded s) :=
  (strayCarriage_stays.toKeeps.trans homedState_keepsLaws).trans dispatch_keepsLaws

/-- The frozen job is settled and the crane is IDLE or RUNNING (R182): the station state is what it was, and the latch
is clear. -/
def restartSettled (loaded : Bool) (s : State) : State :=
  homedState (strayCarriage loaded (settleFrozen loaded
    ((s.onFire fun f => { f with latch := false }).onCrane fun k => { k with restartRun := false })))

theorem restartCompletes_eq (loaded : Bool) (s : State) : restartCompletes loaded s =
    if (restartSettled loaded s).ctl.station = .recovery then afterActive (setStation .active (restartSettled loaded s))
    else dispatch (settleConditions (restartSettled loaded s)) := rfl

theorem restartSettled_keepsLaws {loaded : Bool} :
    Keeps (s.onFire fun f => { f with latch := false }) (restartSettled loaded s) := by
  have hrun : Keeps (s.onFire fun f => { f with latch := false })
      ((s.onFire fun f => { f with latch := false }).onCrane fun k => { k with restartRun := false }) :=
    Keeps.onCrane (restartRun := fun _ => rfl)
  exact (hrun.trans settleFrozen_keepsLaws).trans (strayCarriage_stays.toKeeps.trans homedState_keepsLaws)

/-- The end of a RESTART run, which no station in SHUTDOWN has (R182, R184). -/
theorem restartCompletes_safe {loaded : Bool} (hrun : s.crane.restartRun = true) : Safe s (restartCompletes loaded s) := by
  have hkeeps := restartSettled_keepsLaws (s := s) (loaded := loaded)
  have hholds : Holds s (restartSettled loaded s) := latch_holds.trans hkeeps.toHolds
  have hstation : (restartSettled loaded s).ctl.station = s.ctl.station := hkeeps.station
  have hcrane : StoppedCraneLaw s → StoppedCraneLaw (restartSettled loaded s) := fun hlaw => by
    refine (homedState_moving fun hshut => ?_).law
    rw [strayCarriage_stays.station, settleFrozen_keepsLaws.station] at hshut
    simpa [hrun] using (hlaw.2 hshut).2.1
  have hown : (restartSettled loaded s).ownAlarmed = s.ownAlarmed := by
    have hview : (restartSettled loaded s).fire.view = s.fire.view := hkeeps.view
    simp [State.ownAlarmed, State.alarmed, State.compartment, hview, hholds.straps]
  rw [restartCompletes_eq]
  split
  next hrec =>
    refine (hholds.trans setStation_holds).safe_afterActive (fun _ => by simp) (fun h => ?_)
      (fun h => setStation_crane (by decide) (hcrane h))
    exact setStation_alarm_of_clear (.inl rfl) (hown.trans (h.2.1 (hstation ▸ hrec)).1)
  next hrec =>
    have hrest : Safe s (restartSettled loaded s) := by
      refine ⟨hholds, fun h => by rwa [hstation], hkeeps.ring, hkeeps.shutter, fun h => ?_, hcrane⟩
      refine ⟨fun hs => ?_, fun hs => absurd hs hrec, fun hs => ?_⟩
      · simpa [hrun] using (h.1 (hstation ▸ hs)).2.2
      · rw [hown]
        exact h.2.2 (hstation ▸ hs)
    exact hrest.trans (settleConditions_stays.trans dispatch_stays).safe

theorem homed_safe {loaded : Bool} : Safe s (takeReport .homed (homedTo loaded) s) := by
  refine takeReport_safe fun c hc hk => ?_
  have hne : c ≠ .stop := by
    rintro rfl
    cases hk
  unfold homedTo
  extract_lets s₁
  have h₁ : Keeps (reportTaken s) s₁ := Keeps.onCrane
  split
  next hrun => exact (safe_of_moving_report hc hne h₁ fun h => h).trans (restartCompletes_safe hrun)
  next =>
    refine safe_of_moving_report hc hne (h₁.trans firstHomed_keepsLaws) fun h => dispatch_moving (homedState_moving ?_)
    rw [strayCarriage_stays.station]
    exact h.2

theorem woken_safe : Safe s (takeReport .woken wokenTo s) := by
  refine takeReport_safe fun c hc hk => ?_
  have hne : c ≠ .stop := by
    rintro rfl
    cases hk
  unfold wokenTo
  split
  · exact safe_of_moving_report hc hne sendHome_keepsLaws fun h => sendHome_moving h.2
  · extract_lets s₁
    have h₁ : Keeps (reportTaken s) s₁ := Keeps.onCrane
    have hidle : Safe s s₁ := safe_of_moving_report hc hne h₁ fun h => ⟨by simp [s₁, AtRest], h.2⟩
    split
    next hdoze => exact hidle.trans (wakeEnds_safe hdoze)
    next => exact hidle

/-! ### The sensors and limits of the ring and the port -/

theorem headBecomesReady_stays {l : Lane} : Stays s (headBecomesReady l s) := by
  unfold headBecomesReady
  split
  · exact actHead_stays
  · exact .refl

theorem tailReported_stays {l : Lane} {was : Bool} : Stays s (tailReported l was s) := by
  unfold tailReported
  split
  · exact (landReserved_stays.trans shutterTakeUp_stays).trans dispatch_stays
  · split
    · exact .refl
    · exact strayAt_stays

theorem releaseTarget_stays {d : DivertTarget} : Stays s (releaseTarget d s) := by
  unfold releaseTarget
  split
  · split
    · exact emptyInStand_stays.trans dispatch_stays
    · exact .refl
  · split
    · exact emptyApproach_stays
    · exact .refl

theorem standEntryTimedOut_stays {l : Lane} : Stays s (standEntryTimedOut l s) := by
  unfold standEntryTimedOut
  split
  · split
    · exact Stays.setOutStand.trans raise_stays
    · exact (Stays.setOutStand.trans broadcastJam_stays).trans dispatch_stays
  · exact .refl

theorem serviceEntryTimedOut_stays {l : Lane} : Stays s (serviceEntryTimedOut l s) := by
  unfold serviceEntryTimedOut
  split
  · split
    · exact Stays.setService.trans raise_stays
    · exact (Stays.setService.trans broadcastJam_stays).trans tryAdvance_stays
  · exact .refl

theorem outStandLifted_stays : Stays s (outStandLifted s) := by
  unfold outStandLifted
  split
  · exact ((Stays.setOutStand.trans (settleMerge_stays.trans settleMerge_stays)).trans broadcastJam_stays).trans
      dispatch_stays
  · exact .refl

theorem outStandFound_stays : Stays s (outStandFound s) := by
  unfold outStandFound
  split
  · exact (Stays.setOutStand.trans raise_stays).trans wakeCause_stays
  · exact .refl

theorem divertLeaves_stays {l : Lane} : Stays s (divertLeaves l s) :=
  (removeHead_stays.trans openTail_stays).trans actIdleHead_stays

theorem inStandFound_stays : Stays s (inStandFound s) := by
  unfold inStandFound
  split
  · unfold divertToStand
    split
    · exact .refl
    · split
      · exact .refl
      · exact ((Stays.setInStand.trans divertLeaves_stays).trans askStore_stays).trans dispatch_stays
  · exact (Stays.setInStand.trans raise_stays).trans wakeCause_stays
  · exact .refl

theorem dropStore_stays {bin : Nat} : Stays s (dropStore bin s) := by
  unfold dropStore
  extract_lets moving s₁
  have h₁ : Stays s s₁ := by
    unfold s₁
    split
    · exact sendStop_stays
    · exact .refl
  exact h₁.trans (Stays.onCrane (pool := length_filter_le_of_le)
    (jobs := fun j hj => .inr (.inr ⟨j, (List.mem_filter.1 hj).1, rfl⟩)))

theorem inStandLifted_stays : Stays s (inStandLifted s) := by
  unfold inStandLifted
  split
  · split
    · exact .refl
    · exact ((((Stays.setInStand.trans broadcastJam_stays).trans dropStore_stays).trans emptyInStand_stays).trans
        recordFreed_stays).trans dispatch_stays
  · exact .refl

theorem approachFound_stays : Stays s (approachFound s) := by
  unfold approachFound
  split
  · unfold divertToApproach
    split
    · exact .refl
    · split
      · exact .refl
      · exact (Stays.setApproach.trans divertLeaves_stays).trans tryAdvance_stays
  · exact (Stays.setApproach.trans raise_stays).trans wakeCause_stays
  · exact .refl

theorem approachLifted_stays : Stays s (approachLifted s) := by
  unfold approachLifted
  split
  · split
    · exact .refl
    · exact broadcastJam_stays.trans emptyApproach_stays
  · exact emptyApproach_stays
  · exact .refl

theorem advanceEnds_stays : Stays s (advanceEnds s) := by
  unfold advanceEnds
  extract_lets s₁
  have h₁ : Stays s s₁ := Stays.onPort
  split
  · split
    · exact ((h₁.trans emptyApproach_stays).trans .setService).trans raise_stays
    · exact (h₁.trans emptyApproach_stays).trans releaseService_stays
  · exact h₁

theorem serviceFound_stays : Stays s (serviceFound s) := by
  unfold serviceFound
  split
  · exact advanceEnds_stays
  · exact (Stays.setService.trans raise_stays).trans wakeCause_stays
  · exact .refl

theorem serviceTaken_stays {c : Carry} : Stays s (serviceTaken c s) :=
  ((Stays.setService.trans (settleMerge_stays.trans settleMerge_stays)).trans broadcastJam_stays).trans tryAdvance_stays

theorem serviceLifted_stays : Stays s (serviceLifted s) := by
  unfold serviceLifted
  split
  · exact serviceTaken_stays
  · exact serviceTaken_stays
  · exact Stays.setService.trans tryAdvance_stays
  · exact .refl

theorem advanceTimedOut_stays : Stays s (advanceTimedOut s) := by
  unfold advanceTimedOut
  extract_lets s₁
  have h₁ : Stays s s₁ := Stays.onPort
  split
  · split
    · exact (h₁.trans .setApproach).trans raise_stays
    · exact (h₁.trans broadcastJam_stays).trans emptyApproach_stays
  · exact h₁

theorem pressed_stays : Stays s (pressed s) := by
  unfold pressed
  split
  · exact releaseService_stays
  · exact .refl

/-! ### The times of an auction -/

theorem decideAuction_stays {r : Auction} : Stays s (decideAuction r s) := by
  unfold decideAuction
  split
  · exact .refl
  · split
    · exact fillCall_stays
    · exact holdClear_stays

theorem freeAuction_stays {tag : Nat} : Stays s (freeAuction tag s) := Stays.onAuctions length_filter_le_of_le

theorem scanEnds_stays {tag : Nat} : Stays s (scanEnds tag s) := by
  unfold scanEnds
  split
  · exact .refl
  · exact chooseBid_stays

/-! ### The Fire Unit's times and sensors -/

theorem listenEnds_safe : Safe s (listenEnds s) := by
  unfold listenEnds
  refine Holds.safe_takeUp (t := s.onFire _) ⟨rfl, rfl, fun h => h, fun h => h, fun h => h, fun h => ⟨fun hout => ?_, h.2⟩⟩
    (fun h => h) (fun h => h) (fun h => h)
  by_cases hopening : s.fire.shutter = some .opening
  · exact ⟨h.2 hopening, hopening⟩
  · exact h.1 (by simpa [hopening] using hout)

theorem closeFails_stays (hclosing : s.fire.shutter = some .closing) : Stays s (closeFails s) := by
  unfold closeFails
  extract_lets s₁
  have hout (h : ShutterDrive s) : s₁.fire.openOut = false := h.openOut_eq (by simp [hclosing])
  have h₁ : Stays s s₁ := Stays.onFire (ring := fun h => ringHoldLaw_of_wallHold h hclosing (by decide) rfl)
    (drive := fun h => .of_law (shutterLaw_of_not_opening (hout h) (by simp)))
    (shutter := fun h => shutterLaw_of_not_opening (hout (.of_law h)) (by simp))
  exact ((h₁.trans onRecord_stays).trans raise_stays).trans shutterTakeUp_stays

theorem shutterCloses_stays {x : ShutterState} (hx : s.fire.shutter = some x) (hne : x ≠ .opened) (hno : x ≠ .opening) :
    Stays s (shutterCloses s) := by
  have hout (h : ShutterDrive s) : s.fire.openOut = false := h.openOut_eq (by simp [hx, hno])
  have hclosed : Stays s
      (s.onFire fun f => { f with shutter := some .closed, closeLimit := none, closeOut := false }) :=
    Stays.onFire (ring := fun h => ringHoldLaw_of_wallHold h hx hne rfl)
      (drive := fun h => .of_law (shutterLaw_of_not_opening (hout h) (by simp)))
      (shutter := fun h => shutterLaw_of_not_opening (hout (.of_law h)) (by simp))
  exact hclosed.trans shutterTakeUp_stays

/-- The open sensor ends OPENING: the segments follow at once (R186, R189). -/
theorem shutterOpens_safe : Safe s (shutterOpens s) := by
  unfold shutterOpens
  exact Holds.safe_takeUp (t := s.onFire _) ⟨rfl, rfl, fun h => h, fun h => h, fun h => h,
    fun _ => .of_law (shutterLaw_of_not_opening rfl (by simp))⟩ (fun h => h) (fun h => h) (fun h => h)

/-! ### Every command but the resets -/

theorem unlessStrapFault_safe {f : State → State} (h : ∀ t, Safe t (f t)) : Safe s (unlessStrapFault f s) := by
  unfold unlessStrapFault
  split
  · exact .refl
  · exact h s

theorem withPort_safe {f : State → State} (h : ∀ t, Safe t (f t)) : Safe s (withPort f s) := by
  refine unlessStrapFault_safe fun t => ?_
  split
  · exact h t
  · exact .refl

end Sys2Proof.Machine
end

section
/-! PROOF. Every step keeps the laws (R6, R8, R15, R19, R28, R50, R93, R129, R175, R177, R184, R186, R189): one lemma for
every command but the resets, one for the resets, and the laws settled from the two. -/

namespace Sys2Proof.Machine

-- Checked one after another: the host bounds the memory of all threads together.
set_option Elab.async false

open Sys2Proof Sys2Proof.Safety

variable {s t u : State} {c : Instr}

/-! ### Every command but the resets -/

theorem execStartPoint_safe : ∃ t, execStartPoint s = .next t ∧ Safe s t := by
  refine ⟨_, rfl, unlessStrapFault_safe fun t => ?_⟩
  split
  · exact .refl
  · split
    · exact .refl
    · exact startFrame_stays.safe

theorem execArbitrationLost_safe : ∃ t, execArbitrationLost s = .next t ∧ Safe s t := by
  refine ⟨_, rfl, ?_⟩
  split
  · exact .refl
  · split
    next q hq =>
      split
      · exact .refl
      · split
        · exact (stopDriving_stays.trans frameReturned_stays).safe
        · exact (stopDriving_stays.trans (unstart_stays hq)).safe
    next => exact .refl

theorem execTransmitError_safe : ∃ t, execTransmitError s = .next t ∧ Safe s t := by
  refine ⟨_, rfl, ?_⟩
  split
  · exact .refl
  · split
    next q hq =>
      split
      · exact .refl
      · have hmark : Stays (stopDriving s) (setSlot _ (.holds { q with errored := true }) (stopDriving s)) :=
          setSlot_same_frame_stays hq rfl
        exact ((stopDriving_stays.trans hmark).trans countFailure_stays).safe
    next => exact .refl

theorem execFrameOutcome_safe {bits : AnswerBits} : ∃ t, execFrameOutcome bits s = .next t ∧ Safe s t := by
  refine ⟨_, rfl, ?_⟩
  split
  · exact .refl
  · split
    next q hq =>
      dsimp only
      split
      · exact (stopDriving_stays.trans (endVoid_stays hq)).safe
      · split
        · exact (stopDriving_stays.trans (endVoid_stays hq)).safe
        · exact (stopDriving_stays.trans endWith_stays).safe
    next => exact .refl

theorem execDriveLimitExpiry_safe : ∃ t, execDriveLimitExpiry s = .next t ∧ Safe s t := by
  refine ⟨_, rfl, ?_⟩
  split
  · exact driveFault_safe
  · exact .refl

theorem execWakeLimitExpiry_safe : ∃ t, execWakeLimitExpiry s = .next t ∧ Safe s t := by
  refine ⟨_, rfl, ?_⟩
  split
  · exact wakeFailed_safe
  · exact .refl

theorem execJoinWaitExpiry_safe : ∃ t, execJoinWaitExpiry s = .next t ∧ Safe s t := by
  refine ⟨_, rfl, ?_⟩
  split
  next h => exact endJoining_safe h.2
  next => exact .refl

theorem execFault_safe {code : Nat} : ∃ t, execFault code s = .next t ∧ Safe s t := by
  refine ⟨_, rfl, unlessStrapFault_safe fun t => ?_⟩
  split
  · exact .refl
  · exact driveFault_safe

/-- A sensor's report is written among the input lines, and a bin is found or is gone. -/
theorem sensorReport_safe {f : Pins → Pins} {present : Bool} {found lifted : State → State}
    (hfound : ∀ t, Stays t (found t)) (hlifted : ∀ t, Stays t (lifted t)) :
    Safe s (if present then found (s.onPins f) else lifted (s.onPins f)) := by
  split
  · exact (Stays.onPins.trans (hfound _)).safe
  · exact (Stays.onPins.trans (hlifted _)).safe

theorem execHeadSensorReport_safe {l : Lane} {b : Bool} : ∃ t, execHeadSensorReport l b s = .next t ∧ Safe s t :=
  ⟨_, rfl, unlessStrapFault_safe fun _ =>
    sensorReport_safe (fun _ => headReported_stays.trans headBecomesReady_stays) fun _ => .refl⟩

theorem execPlaceSensorReport_safe {l : Lane} {b : Bool} : ∃ t, execPlaceSensorReport l b s = .next t ∧ Safe s t :=
  ⟨_, rfl, unlessStrapFault_safe fun _ => sensorReport_safe (fun _ => placeReported_stays) fun _ => .refl⟩

theorem execTailSensorReport_safe {l : Lane} {b : Bool} : ∃ t, execTailSensorReport l b s = .next t ∧ Safe s t :=
  ⟨_, rfl, unlessStrapFault_safe fun _ => sensorReport_safe (fun _ => tailReported_stays) fun _ => .refl⟩

theorem execOfferRetryExpiry_safe {l : Lane} : ∃ t, execOfferRetryExpiry l s = .next t ∧ Safe s t := by
  refine ⟨_, rfl, ?_⟩
  split
  · exact (stopRetry_stays.trans actHead_stays).safe
  · exact .refl

theorem execHandoffLimitExpiry_safe {l : Lane} : ∃ t, execHandoffLimitExpiry l s = .next t ∧ Safe s t := by
  refine ⟨_, rfl, ?_⟩
  split
  · exact (headTimeout_stays.trans shutterTakeUp_stays).safe
  · exact .refl

theorem execReservationLimitExpiry_safe {l : Lane} : ∃ t, execReservationLimitExpiry l s = .next t ∧ Safe s t := by
  refine ⟨_, rfl, ?_⟩
  split
  · exact ((clearReservation_stays.trans openTail_stays).trans shutterTakeUp_stays).safe
  · exact .refl

theorem execDivertLimitExpiry_safe {l : Lane} : ∃ t, execDivertLimitExpiry l s = .next t ∧ Safe s t := by
  refine ⟨_, rfl, ?_⟩
  split
  · exact (releaseTarget_stays.trans headTimeout_stays).safe
  · exact .refl

theorem execEntryLimitExpiry_safe {l : Lane} : ∃ t, execEntryLimitExpiry l s = .next t ∧ Safe s t := by
  refine ⟨_, rfl, ?_⟩
  split
  · exact ((clearReservation_stays.trans openTail_stays).trans standEntryTimedOut_stays).safe
  · exact ((clearReservation_stays.trans openTail_stays).trans serviceEntryTimedOut_stays).safe
  · exact .refl

theorem execAdvanceLimitExpiry_safe : ∃ t, execAdvanceLimitExpiry s = .next t ∧ Safe s t := by
  refine ⟨_, rfl, ?_⟩
  split
  · exact advanceTimedOut_stays.safe
  · exact .refl

theorem execReleaseButtonPress_safe : ∃ t, execReleaseButtonPress s = .next t ∧ Safe s t := by
  refine ⟨_, rfl, withPort_safe fun t => ?_⟩
  split
  · exact .refl
  · exact (Stays.onPins.trans pressed_stays).safe

theorem execScanEnd_safe {tag : Nat} : ∃ t, execScanEnd tag s = .next t ∧ Safe s t := by
  refine ⟨_, rfl, ?_⟩
  split
  · exact .refl
  · split
    · exact (onAuction_stays.trans scanEnds_stays).safe
    · exact .refl

theorem execBidClose_safe {tag : Nat} : ∃ t, execBidClose tag s = .next t ∧ Safe s t := by
  refine ⟨_, rfl, ?_⟩
  split
  · exact .refl
  · split
    · exact .refl
    · dsimp only
      split
      · exact (onAuction_stays.trans abortBid_stays).safe
      · exact onAuction_stays.safe

theorem execWindowEnd_safe {tag : Nat} : ∃ t, execWindowEnd tag s = .next t ∧ Safe s t := by
  refine ⟨_, rfl, ?_⟩
  split
  · exact .refl
  · dsimp only
    split
    · exact (freeAuction_stays.trans decideAuction_stays).safe
    · exact freeAuction_stays.safe

theorem execFireLineAsserted_safe : ∃ t, execFireLineAsserted s = .next t ∧ Safe s t := by
  refine ⟨_, rfl, unlessStrapFault_safe fun t => ?_⟩
  split
  · exact .refl
  · exact Stays.onPins.safe.trans ownFire_safe

theorem execFireLineReleased_safe : ∃ t, execFireLineReleased s = .next t ∧ Safe s t :=
  ⟨_, rfl, unlessStrapFault_safe fun _ => Stays.safe (Stays.trans Stays.onPins Stays.onFire)⟩

theorem execFireRepeatExpiry_safe : ∃ t, execFireRepeatExpiry s = .next t ∧ Safe s t := by
  refine ⟨_, rfl, ?_⟩
  split
  · exact ownFire_safe
  · exact .refl

theorem execListenPeriodExpiry_safe : ∃ t, execListenPeriodExpiry s = .next t ∧ Safe s t := by
  refine ⟨_, rfl, ?_⟩
  split
  · exact listenEnds_safe
  · exact .refl

theorem execShutterClearTimeExpiry_safe : ∃ t, execShutterClearTimeExpiry s = .next t ∧ Safe s t := by
  refine ⟨_, rfl, ?_⟩
  split
  next h => exact (beginClosing_stays h.2 (by decide)).safe
  next => exact .refl

theorem execCloseLimitExpiry_safe : ∃ t, execCloseLimitExpiry s = .next t ∧ Safe s t := by
  refine ⟨_, rfl, ?_⟩
  split
  next h => exact (closeFails_stays h.2).safe
  next => exact .refl

theorem execClosedSensorReport_safe {b : Bool} : ∃ t, execClosedSensorReport b s = .next t ∧ Safe s t := by
  refine ⟨_, rfl, unlessStrapFault_safe fun t => ?_⟩
  dsimp only
  split
  next h =>
    rcases h.2 with hx | hx
    · exact (Stays.onPins.trans (shutterCloses_stays hx (by decide) (by decide))).safe
    · exact (Stays.onPins.trans (shutterCloses_stays hx (by decide) (by decide))).safe
  next => exact Stays.onPins.safe

theorem execOpenSensorReport_safe {b : Bool} : ∃ t, execOpenSensorReport b s = .next t ∧ Safe s t := by
  refine ⟨_, rfl, unlessStrapFault_safe fun t => ?_⟩
  dsimp only
  split
  · exact Stays.onPins.safe.trans shutterOpens_safe
  · exact Stays.onPins.safe

/-- Every command but a reset answers a next state and keeps the laws. -/
theorem exec_safe (h : isReset c = false) : ∃ t, exec c s = .next t ∧ Safe s t := by
  cases c with
  | powerOnReset _ => cases h
  | warmReset _ => cases h
  | startPoint => exact execStartPoint_safe
  | arbitrationLost => exact execArbitrationLost_safe
  | transmitError => exact execTransmitError_safe
  | frameOutcome _ => exact execFrameOutcome_safe
  | voidMark _ => exact ⟨_, rfl, unlessStrapFault_safe fun _ => answerWith_stays.safe⟩
  | orderFrame _ _ => exact ⟨_, rfl, receive_safe fun _ => storeOrder_stays.safe⟩
  | pass _ => exact ⟨_, rfl, receive_safe fun _ => decidePass_stays.safe⟩
  | space _ => exact ⟨_, rfl, receive_safe fun _ => takeSpace_stays.safe⟩
  | landed _ => exact ⟨_, rfl, receive_safe fun _ => takeLanded_stays.safe⟩
  | jam _ => exact ⟨_, rfl, receive_safe fun _ => markLostByJam_stays.safe⟩
  | bid _ => exact ⟨_, rfl, receive_safe fun _ => takeBid_stays.safe⟩
  | room _ => exact ⟨_, rfl, receive_safe fun _ => takeRoom_stays.safe⟩
  | fire _ => exact ⟨_, rfl, receive_safe fun _ => takeFire_safe⟩
  | clear _ => exact ⟨_, rfl, receive_safe fun _ => takeClear_safe⟩
  | join _ => exact ⟨_, rfl, receive_safe fun _ => takeJoin_safe⟩
  | call => exact ⟨_, rfl, serve_safe fun r t => (callBody_stays r t).safe⟩
  | cancel => exact ⟨_, rfl, serve_safe fun r t => (cancelBody_stays r t).safe⟩
  | release => exact ⟨_, rfl, serve_safe fun r t => (releaseBody_stays r t).safe⟩
  | halt => exact ⟨_, rfl, serve_safe haltBody_safe⟩
  | resume => exact ⟨_, rfl, serve_safe resumeBody_safe⟩
  | doze => exact ⟨_, rfl, serve_safe dozeBody_safe⟩
  | wake => exact ⟨_, rfl, serve_safe fun r t => (wakeBody_stays r t).safe⟩
  | restart => exact ⟨_, rfl, serve_safe restartBody_safe⟩
  | enrolAdd => exact ⟨_, rfl, serve_safe fun r t => (enrolAddBody_stays r t).safe⟩
  | enrolRemove => exact ⟨_, rfl, serve_safe fun r t => (enrolRemoveBody_stays r t).safe⟩
  | audit => exact ⟨_, rfl, serve_safe fun r t => (auditBody_stays r t).safe⟩
  | identify => exact ⟨_, rfl, serve_safe fun r t => (identifyBody_stays r t).safe⟩
  | identifyClear => exact ⟨_, rfl, serve_safe fun r t => (identifyClearBody_stays r t).safe⟩
  | clearFaults => exact ⟨_, rfl, serve_safe fun r t => (clearFaultsBody_stays r t).safe⟩
  | queryStatus => exact ⟨_, rfl, serve_safe fun _ _ => .refl⟩
  | queryRequest => exact ⟨_, rfl, serve_safe fun _ _ => .refl⟩
  | queryBin => exact ⟨_, rfl, serve_safe fun _ _ => .refl⟩
  | queryCounts => exact ⟨_, rfl, serve_safe fun r t => by unfold countsBody; split <;> exact .refl⟩
  | setupA => exact ⟨_, rfl, serve_safe fun r t => (setupABody_stays r t).safe⟩
  | setupB => exact ⟨_, rfl, serve_safe setupBBody_safe⟩
  | joinWaitExpiry => exact execJoinWaitExpiry_safe
  | done => exact ⟨_, rfl, execDone_safe⟩
  | probe _ => exact ⟨_, rfl, probe_safe⟩
  | stopped _ _ => exact ⟨_, rfl, takeReport_safe fun _ _ _ => reportTaken_stays.safe.trans stoppedTo_safe⟩
  | homed _ => exact ⟨_, rfl, homed_safe⟩
  | woken => exact ⟨_, rfl, woken_safe⟩
  | fault _ => exact execFault_safe
  | driveLimitExpiry => exact execDriveLimitExpiry_safe
  | wakeLimitExpiry => exact execWakeLimitExpiry_safe
  | headSensorReport _ _ => exact execHeadSensorReport_safe
  | placeSensorReport _ _ => exact execPlaceSensorReport_safe
  | tailSensorReport _ _ => exact execTailSensorReport_safe
  | offerRetryExpiry _ => exact execOfferRetryExpiry_safe
  | handoffLimitExpiry _ => exact execHandoffLimitExpiry_safe
  | reservationLimitExpiry _ => exact execReservationLimitExpiry_safe
  | divertLimitExpiry _ => exact execDivertLimitExpiry_safe
  | entryLimitExpiry _ => exact execEntryLimitExpiry_safe
  | outboundStandSensor _ =>
    exact ⟨_, rfl, unlessStrapFault_safe fun _ =>
      sensorReport_safe (fun _ => outStandFound_stays) fun _ => outStandLifted_stays⟩
  | inboundStandSensor _ =>
    exact ⟨_, rfl, unlessStrapFault_safe fun _ =>
      sensorReport_safe (fun _ => inStandFound_stays) fun _ => inStandLifted_stays⟩
  | approachSensor _ =>
    exact ⟨_, rfl, withPort_safe fun _ => sensorReport_safe (fun _ => approachFound_stays) fun _ => approachLifted_stays⟩
  | serviceSensor _ =>
    exact ⟨_, rfl, withPort_safe fun _ => sensorReport_safe (fun _ => serviceFound_stays) fun _ => serviceLifted_stays⟩
  | advanceLimitExpiry => exact execAdvanceLimitExpiry_safe
  | releaseButtonPress => exact execReleaseButtonPress_safe
  | scanEnd _ => exact execScanEnd_safe
  | bidClose _ => exact execBidClose_safe
  | windowEnd _ => exact execWindowEnd_safe
  | fireLineAsserted => exact execFireLineAsserted_safe
  | fireLineReleased => exact execFireLineReleased_safe
  | fireRepeatExpiry => exact execFireRepeatExpiry_safe
  | listenPeriodExpiry => exact execListenPeriodExpiry_safe
  | shutterClearTimeExpiry => exact execShutterClearTimeExpiry_safe
  | closeLimitExpiry => exact execCloseLimitExpiry_safe
  | closedSensorReport _ => exact execClosedSensorReport_safe
  | openSensorReport _ => exact execOpenSensorReport_safe
  | releaseButtonReleased => exact ⟨_, rfl, withPort_safe fun _ => Stays.onPins.safe⟩

/-! ### The resets -/

/-- No segment runs after a reset, before the listen period or the join wait has ended (R132). -/
theorem freshLanes_cond (i : Inputs) : (freshLanes i).outSeg.cond = .held ∧ (freshLanes i).backSeg.cond = .held := by
  unfold freshLanes
  split <;> exact ⟨rfl, rfl⟩

theorem freshLanes_merge (i : Inputs) : (freshLanes i).outSeg.merge = 0 ∧ (freshLanes i).backSeg.merge = 0 := by
  unfold freshLanes
  split <;> exact ⟨rfl, rfl⟩

theorem clearedState_slot {warm : Bool} {i : Inputs} : SlotLaw (clearedState warm i s) := by
  simp [SlotLaw, clearedState, Bus.cleared]

/-- A warm reset neither adds to a record nor to its list (R67). -/
theorem warmRecord_fits {r : BinRec} (h : r.Fits) : (warmRecord r).Fits := by
  have hnohold : r.fill + 0 ≤ 15 := by have := h.1; omega
  unfold warmRecord
  split
  · exact h
  · exact ⟨hnohold, Nat.zero_le _⟩
  · exact ⟨hnohold, Nat.zero_le _⟩
  · exact ⟨hnohold, Nat.zero_le _⟩
  · split
    · exact h
    · exact ⟨hnohold, h.2⟩
  · split
    · exact h
    · exact ⟨hnohold, h.2⟩

theorem clearedState_bin {warm : Bool} {i : Inputs} (h : BinLaw s) : BinLaw (clearedState warm i s) := by
  cases warm
  · exact ⟨rfl, fun e he => by cases he⟩
  · refine ⟨warmBins_wf h.1, fun e he => ?_⟩
    obtain ⟨k, hk, rfl⟩ := List.mem_map.1 he
    exact warmRecord_fits (h.2 k hk)

theorem freshCrane_eq (p : Straps) : (freshCrane p).pool = [] ∧ (freshCrane p).continuity = 0 ∧
    (freshCrane p).inFlight = none ∧ (freshCrane p).state = .unreferenced := by
  unfold freshCrane
  split <;> exact ⟨rfl, rfl, rfl, rfl⟩

theorem clearedState_cap {warm : Bool} {i : Inputs} : WithinCapacity (clearedState warm i s) := by
  obtain ⟨hout, hback⟩ := freshLanes_merge i
  obtain ⟨hpool, hcount, -, -⟩ := freshCrane_eq i.straps
  cases warm <;>
    simp [WithinCapacity, clearedState, Bus.cleared, freshControl, hout, hback, hpool, hcount, FaultRecord.warm,
      FaultRecord.clear]

theorem clearedState_ring {warm : Bool} {i : Inputs} : RingHoldLaw (clearedState warm i s) := by
  obtain ⟨hout, hback⟩ := freshLanes_cond i
  rintro (h | h)
  · exact absurd (hout.symm.trans h) (by decide)
  · exact absurd (hback.symm.trans h) (by decide)

/-- The shutter as the reset's table gives it (R190), under an empty view. -/
theorem clearedState_shutter {warm : Bool} {i : Inputs} (h : ShutterLaw s) : ShutterLaw (clearedState warm i s) := by
  have hdrive := ShutterDrive.of_law h
  have hview : (clearedState warm i s).fire.view = 0#8 := rfl
  have hbelow : (clearedState warm i s).fire.below = none := rfl
  suffices hdriven : ShutterDrive (clearedState warm i s) from
    ⟨hdriven.1, fun hopening => ⟨hdriven.2 hopening, by simp [State.ownAlarmed, State.alarmed, hview], fun _ => hview,
      fun b hb => by simp [hbelow] at hb⟩⟩
  show ((shutterReset warm i s.fire).opening = true → (shutterReset warm i s.fire).close = false ∧
      (shutterReset warm i s.fire).state = some .opening) ∧
    ((shutterReset warm i s.fire).state = some .opening → (shutterReset warm i s.fire).close = false)
  unfold shutterReset
  split
  · exact hdrive
  · (repeat' split) <;> simp

theorem clearedState_station (warm : Bool) (i : Inputs) (s : State) :
    (clearedState warm i s).ctl.station = freshStation i.straps := rfl

theorem freshStation_cases (p : Straps) : freshStation p = .joining ∨ freshStation p = .strapFault := by
  unfold freshStation
  split
  · exact .inl rfl
  · exact .inr rfl

theorem clearedState_alarm {warm : Bool} {i : Inputs} : AlarmLaw (clearedState warm i s) := by
  rcases freshStation_cases i.straps with h | h <;> simp [AlarmLaw, clearedState_station, h]

theorem clearedState_crane {warm : Bool} {i : Inputs} : StoppedCraneLaw (clearedState warm i s) := by
  refine ⟨fun _ => .inl (freshCrane_eq i.straps).2.2.1, fun hshut => ?_⟩
  rw [clearedState_station] at hshut
  rcases freshStation_cases i.straps with h | h <;> simp [h] at hshut

theorem resetEnds_safe {warm : Bool} {i : Inputs} : Safe (clearedState warm i s) (resetEnds warm i s) := by
  unfold resetEnds
  extract_lets t₀ t₁ t₂
  have h₁ : Stays t₀ t₁ := by
    unfold t₁
    split
    · exact announce_stays
    · exact .refl
  have h₂ : Stays t₀ t₂ := h₁.trans (Stays.foldl (fun _ _ => raise_stays) _)
  split
  · exact h₂.safe.trans ownFire_safe
  · exact h₂.safe

/-- The laws of any reset, whatever its straps. -/
theorem resetEnds_laws (warm : Bool) (i : Inputs) (s : State) :
    (resetEnds warm i s).pending = s.pending ∧ SlotLaw (resetEnds warm i s) ∧
      (BinLaw s → BinLaw (resetEnds warm i s)) ∧ WithinCapacity (resetEnds warm i s) ∧
      RingHoldLaw (resetEnds warm i s) ∧ (ShutterLaw s → ShutterLaw (resetEnds warm i s)) ∧
      AlarmLaw (resetEnds warm i s) ∧ StoppedCraneLaw (resetEnds warm i s) :=
  have h := resetEnds_safe (s := s) (warm := warm) (i := i)
  ⟨h.pending, h.slot clearedState_slot, fun hb => h.bin (clearedState_bin hb), h.cap clearedState_cap,
    h.ring clearedState_ring, fun hs => h.shutter (clearedState_shutter hs), h.alarm clearedState_alarm,
    h.crane clearedState_crane⟩

theorem exec_reset (h : isReset c = true) :
    ∃ (warm : State → Bool) (i : Inputs), ∀ s, exec c s = .next (resetEnds (warm s) i s) := by
  cases c with
  | powerOnReset i => exact ⟨fun _ => false, i, fun _ => rfl⟩
  | warmReset i => exact ⟨fun s => staysWarm s.ctl.straps i.straps, i, fun _ => rfl⟩
  | _ => cases h

/-! ### STRAP-FAULT (R28) -/

/-- In STRAP-FAULT with nothing started, held or running, no command but a reset changes anything (R28). -/
theorem exec_of_strapFault (hquiet : StrapQuiet s) (hfault : s.ctl.station = .strapFault) (h : isReset c = false) :
    exec c s = .next s := by
  obtain ⟨hstarted, hclaims, hrx, hjoin, hflight, hlimit, hlanes, hport, hauctions, hrepeat, hlisten, hclear, hclose⟩ :=
    hquiet hfault
  have hunless : ∀ f, unlessStrapFault f s = s := fun f => if_pos hfault
  have hserve : ∀ p body, serve p body s = s := fun p body => by simp [serve, hrx]
  have hreport : ∀ k f, takeReport k f s = s := fun k f => if_pos hfault
  have hreceive : ∀ row b hon del f, receive row b hon del f s = s := fun row b hon del f => if_pos hfault
  have hauction : ∀ tag, auctionOf tag s = none := fun tag => by simp [auctionOf, hauctions]
  have hseg : ∀ l, s.seg l = Segment.cleared := fun l => by cases l <;> simp [State.seg, hlanes, Lanes.cleared]
  cases c with
  | powerOnReset _ => cases h
  | warmReset _ => cases h
  | arbitrationLost => simp [exec, execArbitrationLost, hstarted]
  | transmitError => simp [exec, execTransmitError, hstarted]
  | frameOutcome _ => simp [exec, execFrameOutcome, hstarted]
  | joinWaitExpiry => simp [exec, execJoinWaitExpiry, hjoin]
  | driveLimitExpiry => simp [exec, execDriveLimitExpiry, hlimit]
  | wakeLimitExpiry => simp [exec, execWakeLimitExpiry, hlimit]
  | offerRetryExpiry _ => simp [exec, execOfferRetryExpiry, hseg, Segment.cleared]
  | handoffLimitExpiry _ => simp [exec, execHandoffLimitExpiry, hseg, Segment.cleared]
  | reservationLimitExpiry _ => simp [exec, execReservationLimitExpiry, hseg, Segment.cleared]
  | divertLimitExpiry _ => simp [exec, execDivertLimitExpiry, hseg, Segment.cleared]
  | entryLimitExpiry _ => simp [exec, execEntryLimitExpiry, hseg, Segment.cleared]
  | advanceLimitExpiry => simp [exec, execAdvanceLimitExpiry, hport, Port.cleared]
  | scanEnd _ => simp [exec, execScanEnd, hauction]
  | bidClose _ => simp [exec, execBidClose, hauction]
  | windowEnd _ => simp [exec, execWindowEnd, hauction]
  | fireRepeatExpiry => simp [exec, execFireRepeatExpiry, hrepeat]
  | listenPeriodExpiry => simp [exec, execListenPeriodExpiry, hlisten]
  | shutterClearTimeExpiry => simp [exec, execShutterClearTimeExpiry, hclear]
  | closeLimitExpiry => simp [exec, execCloseLimitExpiry, hclose]
  | startPoint | voidMark _ | fault _ | headSensorReport _ _ | placeSensorReport _ _ | tailSensorReport _ _
  | outboundStandSensor _ | inboundStandSensor _ | approachSensor _ | serviceSensor _ | releaseButtonPress
  | releaseButtonReleased | fireLineAsserted | fireLineReleased | closedSensorReport _ | openSensorReport _ =>
    exact congrArg _ (hunless _)
  | orderFrame _ _ | pass _ | space _ | landed _ | jam _ | bid _ | room _ | fire _ | clear _ | join _ =>
    exact congrArg _ (hreceive _ _ _ _ _)
  | call | cancel | release | halt | resume | doze | wake | restart | enrolAdd | enrolRemove | audit | identify
  | identifyClear | clearFaults | queryStatus | queryRequest | queryBin | queryCounts | setupA | setupB =>
    exact congrArg _ (hserve _ _)
  | done | probe _ | stopped _ _ | homed _ | woken => exact congrArg _ (hreport _ _)

end Sys2Proof.Machine
end

section
/-! PROOF. What a reset with invalid straps leaves (R27 to R29), and the laws settled from `exec_safe` and
`resetEnds_laws`. -/

namespace Sys2Proof.Machine

-- Checked one after another: the host bounds the memory of all threads together.
set_option Elab.async false

open Sys2Proof Sys2Proof.Safety

variable {s t u : State} {c : Instr}

/-- No frame has started when no slot holds one that has (R1). -/
theorem Slots.started_eq_none_iff {x : Slots} : x.started = none ↔ ∀ id q, x.get id = .holds q → q.started = false := by
  have hall : ∀ id : SlotId, id ∈ slotIds := fun id => by cases id <;> decide
  simp only [Slots.started, Slots.find, List.find?_eq_none, Bool.not_eq_true]
  constructor
  · intro h id q hq
    simpa [hq] using h id (hall id)
  · intro h id _
    split
    next q hq => exact h id q hq
    next => rfl

/-- Nothing has been started and nothing waits with a claim (R28). -/
def BusQuiet (s : State) : Prop := s.bus.slots.started = none ∧ s.bus.claims = []

theorem Slots.get_mapFrames (id : SlotId) (f : Queued → Queued) (x : Slots) :
    (x.mapFrames f).get id = (x.get id).mapFrame f := by
  cases id <;> rfl

/-- The pending set leaves every queued frame as far started as it was (R20). -/
theorem setPendingKind_busQuiet {k : Nat} (h : BusQuiet s) : BusQuiet (setPendingKind k s) := by
  refine ⟨Slots.started_eq_none_iff.2 fun id q hq => ?_, h.2⟩
  simp only [setPendingKind, State.onBus_bus, State.onCtl_bus, Slots.get_mapFrames] at hq
  cases hid : s.bus.slots.get id with
  | free => simp [hid, Slot.mapFrame] at hq
  | granted => simp [hid, Slot.mapFrame] at hq
  | holds p =>
    rw [hid] at hq
    obtain rfl := Slot.holds.inj hq
    have hp := Slots.started_eq_none_iff.1 h.1 id p hid
    dsimp only
    split <;> exact hp

theorem placeFrame_busQuiet {id : SlotId} {f : Frame} (h : BusQuiet s) : BusQuiet (placeFrame id f s) := by
  refine ⟨Slots.started_eq_none_iff.2 fun k q hq => ?_, h.2⟩
  simp only [placeFrame, State.onBus_bus] at hq
  by_cases hk : k = id
  · subst hk
    rw [Slots.get_set] at hq
    obtain rfl := Slot.holds.inj hq
    rfl
  · rw [Slots.get_set_other hk] at hq
    exact Slots.started_eq_none_iff.1 h.1 k q hq

theorem raise_busQuiet {n : Notice} (h : BusQuiet s) : BusQuiet (raise n s) := by
  unfold raise
  split
  · exact setPendingKind_busQuiet h
  · split
    · exact placeFrame_busQuiet h
    · split
      · exact h
      · exact setPendingKind_busQuiet h

theorem foldl_raise_busQuiet {l : List Notice} (h : BusQuiet s) : BusQuiet (l.foldl (fun t n => raise n t) s) := by
  induction l generalizing s with
  | nil => exact h
  | cons n l ih => exact ih (raise_busQuiet h)

/-- Raising notices one after another leaves alone what each of them does. -/
theorem foldl_raise_eq {β : Type} (g : State → β) (h : ∀ (n : Notice) (t : State), g (raise n t) = g t) (l : List Notice)
    (s : State) : g (l.foldl (fun t n => raise n t) s) = g s :=
  foldl_keeps g (fun t n => raise n t) (fun t n => h n t) l s

/-- A reset with invalid straps ends with its notices: no JOIN and no FIRE (R28). -/
theorem resetEnds_of_invalid {warm : Bool} {i : Inputs} (h : i.straps.valid = false) :
    resetEnds warm i s = (resetNotices warm i s).foldl (fun t n => raise n t) (clearedState warm i s) := by
  simp [resetEnds, h]

theorem resetEnds_strapQuiet {warm : Bool} {i : Inputs} (h : i.straps.valid = false) : StrapQuiet (resetEnds warm i s) := by
  intro _
  rw [resetEnds_of_invalid h]
  generalize resetNotices warm i s = l
  have hbus : BusQuiet (clearedState warm i s) := ⟨rfl, rfl⟩
  obtain ⟨hstarted, hclaims⟩ := foldl_raise_busQuiet (l := l) hbus
  refine ⟨hstarted, hclaims, ?_, ?_, ?_, ?_, ?_, ?_, ?_, ?_, ?_, ?_, ?_⟩
  · rw [foldl_raise_eq (·.bus.rx) (by simp)]
    rfl
  · rw [foldl_raise_eq (·.ctl.joinWait) (by simp)]
    simp [clearedState, freshControl, h]
  · rw [foldl_raise_eq (·.crane.inFlight) (by simp)]
    exact (freshCrane_eq i.straps).2.2.1
  · rw [foldl_raise_eq (·.crane.limit) (by simp)]
    simp [clearedState, freshCrane, h, Crane.cleared]
  · rw [foldl_raise_eq (·.lanes) (by simp)]
    simp [clearedState, freshLanes, h]
  · rw [foldl_raise_eq (·.port) (by simp)]
    simp [clearedState, freshPort, h]
  · rw [foldl_raise_eq (·.auctions.records) (by simp)]
    rfl
  · rw [foldl_raise_eq (·.fire.repeatTimer) (by simp)]
    rfl
  · rw [foldl_raise_eq (·.fire.listen) (by simp)]
    simp [clearedState, freshFire, h]
  · rw [foldl_raise_eq (·.fire.clearTimer) (by simp)]
    rfl
  · rw [foldl_raise_eq (·.fire.closeLimit) (by simp)]
    simp [clearedState, freshFire, shutterReset, h]

theorem resetEnds_station_of_invalid {warm : Bool} {i : Inputs} (h : i.straps.valid = false) :
    (resetEnds warm i s).ctl.station = .strapFault := by
  rw [resetEnds_of_invalid h, foldl_raise_eq (·.ctl.station) (by simp), clearedState_station]
  simp [freshStation, h]

theorem resetEnds_lastSent_of_invalid {warm : Bool} {i : Inputs} (h : i.straps.valid = false) :
    (resetEnds warm i s).crane.lastSent = some .stop := by
  rw [resetEnds_of_invalid h, foldl_raise_eq (·.crane.lastSent) (by simp)]
  simp [clearedState, freshCrane, h]

theorem resetEnds_roster_of_invalid {warm : Bool} {i : Inputs} (h : i.straps.valid = false) :
    (resetEnds warm i s).ctl.roster = freshRoster i.straps := by
  rw [resetEnds_of_invalid h, foldl_raise_eq (·.ctl.roster) (by simp)]
  rfl

/-- The roster after a reset holds the own entry alone, where the number is a station's (R29, section 2.7). -/
theorem tableGet_freshRoster (p : Straps) (n : Nat) : tableGet RosterEntry.cleared (freshRoster p) n =
    if n = p.number.toNat ∧ 1 ≤ n ∧ n ≤ 24
    then { present := true, compartment := p.compartment.toNat, port := p.port, announced := freshStation p }
    else RosterEntry.cleared := by
  unfold freshRoster isStation
  by_cases hn : n = p.number.toNat
  · subst hn
    split_ifs with hstation hrange hrange
    · simp [tableGet]
    · simp_all
    · simp_all
    · rfl
  · have hother : ¬ (n = p.number.toNat ∧ 1 ≤ n ∧ n ≤ 24) := fun h => hn h.1
    rw [if_neg hother]
    split
    · simp [tableGet, hn]
    · rfl

/-- Settles O11: the two resets by `resetEnds_of_invalid`, every other command by `exec_of_strapFault`. -/
theorem strapFaultTakesPartInNothing : Obligations.StrapFaultTakesPartInNothing := by
  refine ⟨fun s i h => ?_, fun s c hquiet hfault hc => exec_of_strapFault hquiet hfault hc⟩
  refine ⟨resetEnds false i s, resetEnds (staysWarm s.ctl.straps i.straps) i s, rfl, rfl, resetEnds_strapQuiet h,
    resetEnds_strapQuiet h, resetEnds_station_of_invalid h, resetEnds_station_of_invalid h,
    resetEnds_lastSent_of_invalid h, resetEnds_lastSent_of_invalid h, ?_, fun n => ?_⟩
  · rw [resetEnds_roster_of_invalid h, resetEnds_roster_of_invalid h]
  · rw [rosterOf, resetEnds_roster_of_invalid h, tableGet_freshRoster]
    simp [freshStation, h]

/-! ### The step -/

/-- A step is a tenth of a second, a command that keeps the laws, or a reset. -/
theorem step_cases (h : step s = .next t) :
    t = tickTime s ∨ (∃ (c : Instr) (rest : List Instr), s.pending = c :: rest ∧ isReset c = false ∧
        exec c { s with pending := rest } = .next t ∧ Safe { s with pending := rest } t) ∨
      ∃ (warm : Bool) (i : Inputs) (rest : List Instr), t = resetEnds warm i { s with pending := rest } := by
  unfold step at h
  split at h
  next => exact .inl (by cases h; rfl)
  next c rest hp =>
    cases hreset : isReset c
    · obtain ⟨u, hu, hsafe⟩ := exec_safe (s := { s with pending := rest }) hreset
      obtain rfl : u = t := by simpa [hu] using h
      exact .inr (.inl ⟨c, rest, hp, hreset, hu, hsafe⟩)
    · obtain ⟨warm, i, hexec⟩ := exec_reset hreset
      rw [hexec] at h
      exact .inr (.inr ⟨_, i, rest, by simpa using h.symm⟩)

/-- A law that reads neither the queue nor the time, that every safe command keeps and every reset restores, is kept by
every step. -/
theorem law_of_step {L : State → Prop} (hpending : ∀ (s : State) (l : List Instr), L s → L { s with pending := l })
    (htick : ∀ s : State, L s → L (tickTime s)) (hsafe : ∀ {s t : State}, Safe s t → L s → L t)
    (hreset : ∀ (warm : Bool) (i : Inputs) (s : State), L s → L (resetEnds warm i s)) :
    ∀ s t : State, L s → step s = .next t → L t := by
  intro s t hl hstep
  rcases step_cases hstep with rfl | ⟨_, rest, -, -, -, h⟩ | ⟨warm, i, rest, rfl⟩
  · exact htick s hl
  · exact hsafe h (hpending s rest hl)
  · exact hreset warm i _ (hpending s rest hl)

/-- Settles O12: in STRAP-FAULT only a reset acts, no other command leads there, and a reset leaves it quiet. -/
theorem strapQuietIsKept : Obligations.StrapQuietIsKept := by
  intro s t hquiet hstep
  rcases step_cases hstep with rfl | ⟨c, rest, -, hc, hexec, hsafe⟩ | ⟨warm, i, rest, rfl⟩
  · exact hquiet
  · have hquiet' : StrapQuiet { s with pending := rest } := hquiet
    by_cases hfault : s.ctl.station = .strapFault
    · rw [exec_of_strapFault hquiet' hfault hc] at hexec
      obtain rfl : { s with pending := rest } = t := by simpa using hexec
      exact hquiet'
    · exact fun hst => absurd hst (hsafe.fault hfault)
  · cases hvalid : i.straps.valid
    · exact resetEnds_strapQuiet hvalid
    · refine fun hst => absurd hst (resetEnds_safe.fault ?_)
      simp [clearedState_station, freshStation, hvalid]

/-- Settles O19, by `Safe.bin` and the warm reset of each record. -/
theorem binLawIsKept : Obligations.BinLawIsKept :=
  law_of_step (fun _ _ h => h) (fun _ h => h) (fun h => h.bin) fun warm i s h => (resetEnds_laws warm i s).2.2.1 h

/-- Settles O29, by `Safe.cap` and `Safe.slot`; the station time saturates. -/
theorem capacitiesAreKept : Obligations.CapacitiesAreKept := by
  refine ⟨law_of_step (fun _ _ h => h) (fun s h => ?_) (fun h => h.cap) fun warm i s _ => (resetEnds_laws warm i s).2.2.2.1,
    law_of_step (fun _ _ h => h) (fun _ h => h) (fun h => h.slot) fun warm i s _ => (resetEnds_laws warm i s).2.1⟩
  obtain ⟨hrx, hn, hp, ha, hf, ho, hb, hc, hdr, hde, hre, -⟩ := h
  exact ⟨hrx, hn, hp, ha, hf, ho, hb, hc, hdr, hde, hre, saturate_le ..⟩

/-- Settles O41, by `Safe.ring`: only `settleConditions` sets a segment going. -/
theorem ringHoldLawIsKept : Obligations.RingHoldLawIsKept :=
  law_of_step (fun _ _ h => h) (fun _ h => h) Safe.ring fun warm i s _ => (resetEnds_laws warm i s).2.2.2.2.1

/-- Settles O54, by `Safe.shutter`: every change of the view ends with the shutter's answer to it. -/
theorem shutterLawIsKept : Obligations.ShutterLawIsKept :=
  law_of_step (fun _ _ h => h) (fun _ h => h) Safe.shutter fun warm i s h => (resetEnds_laws warm i s).2.2.2.2.2.1 h

/-- Settles O55, by `Safe.alarm`. -/
theorem alarmLawIsKept : Obligations.AlarmLawIsKept :=
  law_of_step (fun _ _ h => h) (fun _ h => h) Safe.alarm fun warm i s _ => (resetEnds_laws warm i s).2.2.2.2.2.2.1

/-- Settles O56, by `Safe.crane`; the second part is the law of a crane at rest. -/
theorem stoppedCraneLawIsKept : Obligations.StoppedCraneLawIsKept :=
  ⟨law_of_step (fun _ _ h => h) (fun _ h => h) Safe.crane fun warm i s _ => (resetEnds_laws warm i s).2.2.2.2.2.2.2,
    fun _ h hshut => h.1 (h.2 hshut).1⟩

/-- Settles O59: the two branches of `step`, and the queue that `Safe` and the resets leave alone. -/
theorem stepRunsTheFrontCommand : Obligations.StepRunsTheFrontCommand := by
  refine ⟨fun s c rest hp => by simp [step, hp], fun s hp => by simp [step, hp, tickTime, State.onEst, saturate, Config.maxStationTime, Nat.min_comm],
    fun s c => ?_⟩
  cases hreset : isReset c
  · obtain ⟨t, ht, hsafe⟩ := exec_safe (s := s) hreset
    exact ⟨t, ht, hsafe.pending⟩
  · obtain ⟨warm, i, hexec⟩ := exec_reset hreset
    exact ⟨_, hexec s, (resetEnds_laws (warm s) i s).1⟩

/-- The state after reset is what a power-on reset on its board leaves (R29). -/
theorem resetEnds_resetInputs : resetEnds false resetInputs State.reset = State.reset := by decide +kernel

/-- Settles O60: the state after reset is one that a reset leaves, and so meets every law of a reset. -/
theorem resetMeetsTheLaws : Obligations.ResetMeetsTheLaws := by
  obtain ⟨-, hslot, hbin, hcap, hring, hshutter, halarm, hcrane⟩ := resetEnds_laws false resetInputs State.reset
  rw [resetEnds_resetInputs] at hslot hbin hcap hring hshutter halarm hcrane
  refine ⟨fun h => ?_, hslot, hbin ⟨rfl, fun e he => by cases he⟩, hcap, hring, hshutter ?_, halarm, hcrane,
    congrArg _ resetEnds_resetInputs⟩
  · cases h
  · exact shutterLaw_of_not_opening rfl (by decide)

end Sys2Proof.Machine
end

section
/-! PROOF. The start point, the void mark, notices and the PASS layout (R3, R7, R19, R24, R25, R118). -/

namespace Sys2Proof.Machine

-- Checked one after another: the host bounds the memory of all threads together.
set_option Elab.async false

open Sys2Proof Sys2Proof.Safety

variable {s : State} {id : SlotId} {q : Queued}

/-! ### The best of a list

START_POINT and the dispatch choose the best of a list in the same way; `bestBy` is their common shape. -/

/-- The best of a list under `before`; of two that stand level, the one nearer the front. -/
def bestBy {α : Type} (before : α → α → Bool) : List α → Option α
  | [] => none
  | a :: t => match bestBy before t with
    | none => some a
    | some b => if before b a then some b else some a

variable {α : Type} {before : α → α → Bool} {notAfter : α → α → Prop}

theorem bestBy_isSome {l : List α} (h : l ≠ []) : ∃ a, bestBy before l = some a := by
  cases l with
  | nil => exact absurd rfl h
  | cons a t =>
    simp only [bestBy]
    split
    · exact ⟨_, rfl⟩
    · split
      · exact ⟨_, rfl⟩
      · exact ⟨_, rfl⟩

/-- The one chosen is of the list, and comes after none of it. -/
theorem bestBy_least {l : List α} {r : α} (hrefl : ∀ a, notAfter a a)
    (htrans : ∀ a b c, notAfter a b → notAfter b c → notAfter a c)
    (hbefore : ∀ a b, before a b = true → notAfter a b) (hnot : ∀ a b, ¬ before b a = true → notAfter a b)
    (h : bestBy before l = some r) : r ∈ l ∧ ∀ x ∈ l, notAfter r x := by
  induction l generalizing r with
  | nil => cases h
  | cons a t ih =>
    simp only [bestBy] at h
    split at h
    next hnone =>
      cases h
      have htail : t = [] := by
        by_contra hne
        obtain ⟨b, hb⟩ := bestBy_isSome (before := before) hne
        rw [hb] at hnone
        cases hnone
      subst htail
      exact ⟨List.mem_singleton.2 rfl, fun x hx => List.mem_singleton.1 hx ▸ hrefl _⟩
    next b hb =>
      obtain ⟨hmem, hleast⟩ := ih hb
      split at h
      next hfirst =>
        cases h
        exact ⟨List.mem_cons_of_mem _ hmem, List.forall_mem_cons.2 ⟨hbefore _ _ hfirst, hleast⟩⟩
      next hfirst =>
        cases h
        exact ⟨List.mem_cons_self, List.forall_mem_cons.2
          ⟨hrefl _, fun x hx => htrans _ _ _ (hnot _ _ hfirst) (hleast x hx)⟩⟩

/-! ### The start point (R7) -/

/-- The order of R7: by word, then by the moment of queueing. -/
def RankedFrame.NotAfter (a b : RankedFrame) : Prop := a.word < b.word ∨ (a.word = b.word ∧ a.order ≤ b.order)

theorem bestFrame_eq_bestBy (l : List RankedFrame) : bestFrame l = bestBy RankedFrame.before l := by
  induction l with
  | nil => rfl
  | cons a t ih =>
    rw [bestFrame, bestBy, ih]
    cases bestBy RankedFrame.before t <;> rfl

/-- The frame chosen is one of the list, and none comes before it (R7). -/
theorem bestFrame_least {l : List RankedFrame} {r : RankedFrame} (h : bestFrame l = some r) :
    r ∈ l ∧ ∀ x ∈ l, r.NotAfter x := by
  rw [bestFrame_eq_bestBy] at h
  refine bestBy_least (notAfter := RankedFrame.NotAfter) ?_ ?_ ?_ ?_ h
  · exact fun a => Or.inr ⟨rfl, le_refl _⟩
  · intro a b c hab hbc
    unfold RankedFrame.NotAfter at *
    omega
  · intro a b hab
    simp only [RankedFrame.before, Bool.or_eq_true, Bool.and_eq_true, decide_eq_true_eq] at hab
    unfold RankedFrame.NotAfter
    omega
  · intro a b hba
    simp only [RankedFrame.before, Bool.or_eq_true, Bool.and_eq_true, decide_eq_true_eq] at hba
    unfold RankedFrame.NotAfter
    omega

/-- The ranked frames are the frames that the four slots hold. -/
theorem mem_rankedFrames {r : RankedFrame} :
    r ∈ rankedFrames s ↔ ∃ q, s.bus.slots.get r.slot = .holds q ∧ r.word = q.frame.word s.num ∧ r.order = q.order := by
  have hall : ∀ k : SlotId, k ∈ slotIds := by intro k; cases k <;> decide
  simp only [rankedFrames, List.mem_filterMap, hall, true_and, Option.map_eq_some_iff]
  constructor
  · rintro ⟨k, q, hq, rfl⟩
    cases hslot : s.bus.slots.get k with
    | holds p =>
      rw [hslot] at hq
      cases hq
      exact ⟨q, rfl, rfl, rfl⟩
    | free => rw [hslot] at hq; cases hq
    | granted => rw [hslot] at hq; cases hq
  · rintro ⟨q, hslot, hword, horder⟩
    refine ⟨r.slot, q, by rw [hslot]; rfl, ?_⟩
    rw [← hword, ← horder]

/-- Settles O1: the frame begun is `bestFrame` of the four slots, which `bestFrame_least` puts first (R7). -/
theorem startPointSendsLowestWord : Obligations.StartPointSendsLowestWord := by
  intro s hstation hbus hstarted ⟨id, q, hq⟩
  have hrank : ∀ {k p}, s.bus.slots.get k = .holds p → (⟨p.frame.word s.num, p.order, k⟩ : RankedFrame) ∈ rankedFrames s :=
    fun {k p} h => mem_rankedFrames.2 ⟨p, h, rfl, rfl⟩
  obtain ⟨r, hr⟩ := bestBy_isSome (before := RankedFrame.before) (List.ne_nil_of_mem (hrank hq))
  rw [← bestFrame_eq_bestBy] at hr
  obtain ⟨hmem, hleast⟩ := bestFrame_least hr
  obtain ⟨p, hp, hword, horder⟩ := mem_rankedFrames.1 hmem
  refine ⟨r.slot, p, hp, fun k p' hp' => ?_, ?_⟩
  · rw [← hword, ← horder]
    exact hleast _ (hrank hp')
  · have hrun : execStartPoint s = .next (startFrame r.slot s) := by
      simp [execStartPoint, unlessStrapFault, hstation, hbus, hstarted, hr]
    refine hrun.trans (congrArg _ ?_)
    unfold startFrame
    rw [hp]
    rfl

/-! ### The void mark (R3) -/

/-- No two rows of the kind code table have one code (R24). -/
theorem kindTable_code_injective : ∀ r ∈ kindTable, ∀ r' ∈ kindTable, r.code = r'.code → r = r' := by decide

/-- The destination faults of R3, one by one. -/
theorem badDest_eq_false_iff (a : Addressing) (dest : Nat) :
    badDest a dest = false ↔ ¬ (25 ≤ dest ∧ dest ≤ 29) ∧ (a = .broadcast → dest = 0) ∧ (a = .addressed → dest ≠ 0) := by
  cases a <;> simp [badDest]

/-- A row of the table that fits kind, class, length and destination is the row that the judgement finds (R3, R24). -/
theorem kindRow_fits_iff (code cls len dest : Nat) :
    (match kindTable.find? (fun r => r.code == code) with
      | none => true
      | some r => decide (r.length ≠ len) || decide (r.cls ≠ cls) || badDest r.addressing dest) = false ↔
    ∃ r ∈ kindTable, r.code = code ∧ r.cls = cls ∧ r.length = len ∧ ¬ (25 ≤ dest ∧ dest ≤ 29) ∧
      (r.addressing = .broadcast → dest = 0) ∧ (r.addressing = .addressed → dest ≠ 0) := by
  cases hfind : kindTable.find? (fun r => r.code == code) with
  | none =>
    simp only [Bool.true_eq_false, false_iff]
    rintro ⟨r, hr, hcode, -⟩
    exact absurd (beq_iff_eq.2 hcode) (List.find?_eq_none.1 hfind r hr)
  | some r =>
    have hmem := List.mem_of_find?_eq_some hfind
    have hcode : r.code = code := by simpa using List.find?_some hfind
    simp only [Bool.or_eq_false_iff, decide_eq_false_iff_not, not_not, badDest_eq_false_iff]
    constructor
    · rintro ⟨⟨hlen, hcls⟩, hdest⟩
      exact ⟨r, hmem, hcode, hcls, hlen, hdest⟩
    · rintro ⟨r', hmem', hcode', hcls, hlen, hdest⟩
      obtain rfl := kindTable_code_injective r hmem r' hmem' (hcode.trans hcode'.symm)
      exact ⟨⟨hlen, hcls⟩, hdest⟩

/-- The judgement of a frame of class 0 to 4 from a station or node (R3). -/
theorem judgedVoid_eq_false_iff {f : RawFrame} (hcls : f.arb.toNat / 8192 ≤ 4)
    (hsender : deafSender (f.arb.toNat % 32) = false) :
    judgedVoid f = false ↔
      f.check = some (checkOf f.arb f.ctrl f.payload) ∧ f.payload.length = f.ctrl.toNat % 16 ∧
        ∃ r ∈ kindTable, r.code = f.ctrl.toNat / 16 % 128 ∧ r.cls = f.arb.toNat / 8192 ∧
          r.length = f.ctrl.toNat % 16 ∧ ¬ (25 ≤ f.ctrl.toNat / 2048 ∧ f.ctrl.toNat / 2048 ≤ 29) ∧
          (r.addressing = .broadcast → f.ctrl.toNat / 2048 = 0) ∧
          (r.addressing = .addressed → f.ctrl.toNat / 2048 ≠ 0) := by
  have hheard : (decide (5 ≤ f.arb.toNat / 8192) || deafSender (f.arb.toNat % 32)) = false := by
    simp [hsender]; omega
  rw [← kindRow_fits_iff]
  simp only [judgedVoid, hheard, Bool.false_eq_true, if_false, Bool.or_eq_false_iff, decide_eq_false_iff_not, not_not,
    and_assoc] <;> rfl

/-- Settles O4: the mark is driven by `judgedVoid` at a station that is not off-bus, and only the answer is written. -/
theorem voidMarkOnAFaultyFrame : Obligations.VoidMarkOnAFaultyFrame := by
  intro s f hstation hcls hsender
  have hrun : exec (.voidMark f) s =
      .next (answerWith (if judgedVoid f && !s.bus.offBus then driveVoid else silent) s) := by
    simp [exec, execVoidMark, unlessStrapFault, hstation]
  refine ⟨_, hrun, rfl, ?_, ?_⟩
  · rw [← judgedVoid_eq_false_iff hcls hsender]
    cases hvoid : judgedVoid f <;> cases hoff : s.bus.offBus <;> simp [answerWith, driveVoid, silent]
  · by_cases hvoid : (judgedVoid f && !s.bus.offBus) = true
    · exact Or.inl (by simp [answerWith, hvoid])
    · exact Or.inr (by simp [answerWith, hvoid])

/-! ### Notices (R19) -/

/-- Settles O6: `raise` masks the notice, or finds it a slot, a place in the list, or neither. -/
theorem noticeIsQueuedListedOrPending : Obligations.NoticeIsQueuedListedOrPending := by
  intro s n t masked
  have hraise : t = raise n s := rfl
  have hmasked : masked = (s.ctl.setup.noticeMask.getLsbD n.code || s.bus.offBus) := rfl
  clear_value t masked
  unfold raise at hraise
  rw [← hmasked] at hraise
  cases masked with
  | true =>
    subst hraise
    refine ⟨fun _ => ⟨rfl, rfl⟩, ?_, ?_, ?_, rfl⟩ <;> (intro h; cases h)
  | false =>
    rw [if_neg Bool.false_ne_true] at hraise
    refine ⟨fun h => absurd h Bool.false_ne_true, ?_⟩
    cases hslot : s.bus.slots.freeSlot with
    | some k =>
      simp only [hslot] at hraise
      subst hraise
      refine ⟨fun _ id hid => ?_, fun _ h => ?_, fun _ h => ?_, rfl⟩
      · cases hid
        exact ⟨rfl, rfl⟩
      · cases h
      · cases h
    | none =>
      simp only [hslot] at hraise
      by_cases hfull : s.ctl.notices.length < 8
      · rw [if_pos hfull] at hraise
        subst hraise
        exact ⟨fun _ _ hid => (nomatch hid), fun _ _ _ => ⟨rfl, rfl⟩, fun _ _ h => absurd hfull (by omega), rfl⟩
      · rw [if_neg hfull] at hraise
        subst hraise
        exact ⟨fun _ _ hid => (nomatch hid), fun _ _ h => absurd h hfull, fun _ _ _ => rfl, rfl⟩

/-! ### The PASS on the wire (R24, R25, R118) -/

theorem toNat_byteOf_of_lt {n : Nat} (h : n < 256) : (byteOf n).toNat = n := by
  simp [byteOf, Nat.mod_eq_of_lt h]

/-- A 16-bit field, read back from its two bytes. -/
theorem wordAt_hiByte_loByte {n : Nat} (h : n < 65536) : (hiByte n).toNat * 256 + (loByte n).toNat = n := by
  simp only [hiByte, loByte, BitVec.toNat_ofNat]
  omega

/-- A signed field within −15 to +15, read back from its byte. -/
theorem toInt_signedByte {x : Int} (hlo : -15 ≤ x) (hhi : x ≤ 15) : (signedByte x).toInt = x := by
  simp only [signedByte, BitVec.toInt_ofInt]
  exact Int.bmod_eq_of_le (by omega) (by omega)

/-- The flags byte of a PASS holds its four fields at their weights (R25). -/
theorem passFlags (l : Lane) (k : DestKind) (p : Purpose) (b : Bool) :
    let flags := l.code + 2 * k.code + 4 * p.code + (if b then 16 else 0)
    flags < 256 ∧ laneOf flags = l ∧ (if flags / 2 % 2 = 0 then DestKind.port else .home) = k ∧
      purposeOf (flags / 4) = p ∧ decide (flags / 16 % 2 = 1) = b := by
  cases l <;> cases k <;> cases p <;> cases b <;> decide

/-- Settles O8: each field is read back from its own bytes, by the three lemmas above. -/
theorem passDecodesToItsCarryRecord : Obligations.PassDecodesToItsCarryRecord := by
  intro l c hbin hdest htag hrecirc hlo hhi
  obtain ⟨hflags, hlane, hkind, hpurpose, hfilled⟩ := passFlags l c.kind c.purpose c.filled
  have hbyte := toNat_byteOf_of_lt hflags
  refine ⟨?_, ?_, rfl⟩
  · obtain ⟨bin, dest, kind, tag, purpose, recirc, delta, filled⟩ := c
    dsimp only at *
    have hwordBin := wordAt_hiByte_loByte hbin
    have hwordTag := wordAt_hiByte_loByte htag
    have hdelta := toInt_signedByte hlo hhi
    have hsat : saturate 15 recirc = recirc := Nat.min_eq_left hrecirc
    have hclamp : clampInt (-15) 15 delta = delta := by unfold clampInt; omega
    simp only [passCarry, passBytes, wordAt, byteAt, signedAt, List.getD_cons_zero, List.getD_cons_succ, hbyte, hwordBin,
      hwordTag, toNat_byteOf_of_lt hdest, toNat_byteOf_of_lt (show recirc < 256 by omega), hdelta, hsat, hclamp, hkind,
      hpurpose, hfilled]
  · simp only [passBytes, byteAt, List.getD_cons_zero, List.getD_cons_succ, hbyte, hlane]

end Sys2Proof.Machine
end

section
/-! PROOF. Orders taken and orders stored: what is refused before it is decoded, and the queries (R12, R13, R15 to R17,
R21 to R23, R35, R36, R178). -/

namespace Sys2Proof.Machine

-- Checked one after another: the host bounds the memory of all threads together.
set_option Elab.async false

open Sys2Proof Sys2Proof.Safety

variable {s t u : State} {id : SlotId} {r : RxRecord} {rest : List RxRecord} {a : Answer} {code : ResultCode}
  {p : RxRecord → Bool} {body : OrderBody}

/-! ### Two states that agree block by block -/

theorem State.eq_of_blocks (hpending : t.pending = u.pending) (hpins : t.pins = u.pins) (hbus : t.bus = u.bus)
    (hctl : t.ctl = u.ctl) (hbins : t.bins = u.bins) (hcrane : t.crane = u.crane) (hest : t.est = u.est)
    (hlanes : t.lanes = u.lanes) (hport : t.port = u.port) (hauctions : t.auctions = u.auctions)
    (hfire : t.fire = u.fire) : t = u := by
  cases t
  cases u
  simp_all

/-! ### The take (R16) -/

/-- The take of a record, whoever sent it (R16). -/
theorem serve_of_record (hrx : s.bus.rx = r :: rest) (hslot : s.bus.slots.grantedSlot = some id)
    (hstation : s.ctl.station ≠ .strapFault) (hp : p r = true) :
    serve p body s = wishGoesOn (putReply id r (answerOrder body r (beginTake id r rest s)).1 s.bus.order
      (answerOrder body r (beginTake id r rest s)).2) := by
  simp only [serve, hrx, hslot, hp, hstation, ne_eq, not_false_eq_true, decide_true, Bool.and_self, if_true]

/-- An order that is only answered: its REPLY takes the granted slot, and outside the Bus Interface nothing changes. -/
theorem serve_of_answered (hrx : s.bus.rx = r :: rest) (hslot : s.bus.slots.grantedSlot = some id)
    (hstation : s.ctl.station ≠ .strapFault) (hp : p r = true)
    (hanswer : answerOrder body r (beginTake id r rest s) = (a, beginTake id r rest s)) :
    Replies (serve p body s) id rest (a.toReply r) ∧ serve p body s = { s with bus := (serve p body s).bus } ∧
      (serve p body s).bus.failures = s.bus.failures := by
  rw [serve_of_record hrx hslot hstation hp, hanswer]
  refine ⟨⟨by simp [beginTake_eq], s.bus.order, wishGoesOn_get_of_holds (by simp)⟩, ?_, by simp [beginTake_eq]⟩
  exact wishGoesOn_eq_onBus _

/-- An order that its owner only answers. -/
theorem serve_answers (h : Takes s id r rest) (hp : p r = true) (hadmit : refusal r.kind s.ctl.station = none)
    (hbody : body r (beginTake id r rest s) = (a, beginTake id r rest s)) :
    Replies (serve p body s) id rest (a.toReply r) ∧ serve p body s = { s with bus := (serve p body s).bus } ∧
      (serve p body s).bus.failures = s.bus.failures := by
  obtain ⟨hrx, hslot, hsender, hstation⟩ := h
  exact serve_of_answered hrx hslot hstation hp ((answerOrder_of_admitted (s := beginTake id r rest s) body hsender hadmit).trans hbody)

/-- An order that its owner carries out: the REPLY, and outside the Bus Interface what the owner left. -/
theorem serve_carriesOut (h : Takes s id r rest) (hp : p r = true) (hadmit : refusal r.kind s.ctl.station = none)
    (hbody : body r (beginTake id r rest s) = (a, u)) (hrx : u.bus.rx = rest) :
    Replies (serve p body s) id rest (a.toReply r) ∧ serve p body s = { u with bus := (serve p body s).bus } := by
  have hreplies := serve_replies (p := p) (body := body) h hp hadmit
  have hstate := serve_eq_onBus (p := p) (body := body) h hp hadmit
  rw [hbody] at hreplies hstate
  exact ⟨hreplies hrx, hstate⟩

/-- The REPLY of an answer to the gateway node. -/
theorem Answer.toReply_eq (a : Answer) (hsender : r.sender.toNat = Config.gateway) :
    a.toReply r = { dest := Config.gateway, kind := r.kind, clampMark := a.clampMark, ref := a.ref, code := a.code,
                    d0 := a.d0, d1 := a.d1, d2 := a.d2, d3 := a.d3, clears := a.clears } := by
  rw [Answer.toReply, hsender]

/-! ### The rows of the order kinds (R16, R35) -/

/-- The owner's handling of the record that `commandFor` takes. -/
def bodyFor (r : RxRecord) : OrderBody :=
  match r.kind with
  | .call => callBody
  | .cancel => cancelBody
  | .release => releaseBody
  | .halt => haltBody
  | .resume => resumeBody
  | .doze => dozeBody
  | .wake => wakeBody
  | .restart => restartBody
  | .enrol => if byteAt r.payload 0 = 2 then enrolRemoveBody else enrolAddBody
  | .audit => auditBody
  | .identify => if wordAt r.payload 1 = 0 then identifyClearBody else identifyBody
  | .clearFaults => clearFaultsBody
  | .query =>
    match byteAt r.payload 0 with
    | 0 => fun _ s => (statusAnswer s, s)
    | 1 => fun r s => (requestAnswer (wordAt r.payload 1) s, s)
    | 2 => fun r s => (binAnswer (wordAt r.payload 1) s, s)
    | _ => countsBody
  | .setupA => setupABody
  | .setupB => setupBBody

/-- The command of a record takes it, with the handling of `bodyFor` (R16). -/
theorem exec_commandFor (r : RxRecord) :
    ∃ p : RxRecord → Bool, p r = true ∧ ∀ s, exec (commandFor r) s = .next (serve p (bodyFor r) s) := by
  have hkind : ∀ k, r.kind = k → isKind k r = true := fun k h => by simp [isKind, h]
  cases hk : r.kind with
  | call => exact ⟨_, hkind _ hk, fun s => by simp only [commandFor, bodyFor, hk]; rfl⟩
  | cancel => exact ⟨_, hkind _ hk, fun s => by simp only [commandFor, bodyFor, hk]; rfl⟩
  | release => exact ⟨_, hkind _ hk, fun s => by simp only [commandFor, bodyFor, hk]; rfl⟩
  | halt => exact ⟨_, hkind _ hk, fun s => by simp only [commandFor, bodyFor, hk]; rfl⟩
  | resume => exact ⟨_, hkind _ hk, fun s => by simp only [commandFor, bodyFor, hk]; rfl⟩
  | doze => exact ⟨_, hkind _ hk, fun s => by simp only [commandFor, bodyFor, hk]; rfl⟩
  | wake => exact ⟨_, hkind _ hk, fun s => by simp only [commandFor, bodyFor, hk]; rfl⟩
  | restart => exact ⟨_, hkind _ hk, fun s => by simp only [commandFor, bodyFor, hk]; rfl⟩
  | audit => exact ⟨_, hkind _ hk, fun s => by simp only [commandFor, bodyFor, hk]; rfl⟩
  | clearFaults => exact ⟨_, hkind _ hk, fun s => by simp only [commandFor, bodyFor, hk]; rfl⟩
  | setupA => exact ⟨_, hkind _ hk, fun s => by simp only [commandFor, bodyFor, hk]; rfl⟩
  | setupB => exact ⟨_, hkind _ hk, fun s => by simp only [commandFor, bodyFor, hk]; rfl⟩
  | enrol =>
    by_cases haction : byteAt r.payload 0 = 2
    · exact ⟨isRemove, by simp [isRemove, hk, haction], fun s => by simp only [commandFor, bodyFor, hk, haction]; rfl⟩
    · exact ⟨fun r => decide (r.kind = .enrol) && !isRemove r, by simp [isRemove, hk, haction],
        fun s => by simp only [commandFor, bodyFor, hk, haction]; rfl⟩
  | identify =>
    by_cases hbin : wordAt r.payload 1 = 0
    · exact ⟨isIdentifyClear, by simp [isIdentifyClear, hk, hbin], fun s => by simp only [commandFor, bodyFor, hk, hbin]; rfl⟩
    · exact ⟨fun r => decide (r.kind = .identify) && !isIdentifyClear r, by simp [isIdentifyClear, hk, hbin],
        fun s => by simp only [commandFor, bodyFor, hk, hbin]; rfl⟩
  | query =>
    rcases hform : byteAt r.payload 0 with _ | _ | _ | n
    · exact ⟨isForm 0, by simp [isForm, hk, hform], fun s => by simp only [commandFor, bodyFor, hk, hform]; rfl⟩
    · exact ⟨isForm 1, by simp [isForm, hk, hform], fun s => by simp only [commandFor, bodyFor, hk, hform]; rfl⟩
    · exact ⟨isForm 2, by simp [isForm, hk, hform], fun s => by simp only [commandFor, bodyFor, hk, hform]; rfl⟩
    · exact ⟨isCounts, by simp [isCounts, hk, hform], fun s => by simp only [commandFor, bodyFor, hk, hform]; rfl⟩

/-- The reference of an order refused before it is decoded (R17, R26). -/
theorem orderReference_eq_namedBy (r : RxRecord) : orderReference r.kind r.payload = namedBy r := by
  unfold namedBy
  cases r.kind <;> rfl

/-- An order of another sender is replied UNSUPPORTED (R13, R35). -/
theorem answerOrder_of_sender (hsender : r.sender.toNat ≠ Config.gateway) :
    answerOrder body r s = (Answer.plain .unsupported (namedBy r), s) := by
  simp [answerOrder, hsender, orderReference_eq_namedBy]

/-- An order that the state tables refuse (R35, R178). -/
theorem answerOrder_of_refusal (hsender : r.sender.toNat = Config.gateway)
    (h : refusal r.kind s.ctl.station = some code) : answerOrder body r s = (Answer.plain code (namedBy r), s) := by
  simp [answerOrder, hsender, h, orderReference_eq_namedBy]

/-- DOZE, WAKE and the two SETUP orders name nothing. -/
theorem namedBy_eq_zero (hk : r.kind ∈ [OrderKind.doze, .wake, .setupA, .setupB]) : namedBy r = 0 := by
  simp only [List.mem_cons, List.not_mem_nil, or_false] at hk
  rcases hk with hk | hk | hk | hk <;> simp only [namedBy, hk]

/-- DOZE and WAKE outside ACTIVE and DOZE, and the two SETUP orders outside JOINING, are NOT-READY by their own rules
(R32, R37, R38). -/
theorem bodyFor_notReady
    (h : r.kind ∈ [OrderKind.doze, .wake] ∧ s.ctl.station ≠ .active ∧ s.ctl.station ≠ .doze ∨
      r.kind ∈ [OrderKind.setupA, .setupB] ∧ s.ctl.station ≠ .joining) :
    bodyFor r r s = (Answer.plain .notReady (namedBy r), s) := by
  simp only [List.mem_cons, List.not_mem_nil, or_false] at h
  rcases h with ⟨hk | hk, hactive, hdoze⟩ | ⟨hk | hk, hjoining⟩
  · rw [namedBy_eq_zero (by simp [hk])]
    simp only [bodyFor, hk, dozeBody]
  · rw [namedBy_eq_zero (by simp [hk])]
    simp only [bodyFor, hk, wakeBody]
  · rw [namedBy_eq_zero (by simp [hk])]
    simp only [bodyFor, hk, setupABody, hjoining, if_false]
  · rw [namedBy_eq_zero (by simp [hk])]
    simp only [bodyFor, hk, setupBBody, hjoining, if_false]

/-- The state tables refuse nothing of the orders that are decided by rules of their own (R35, R178). -/
theorem refusal_ownRule (hk : r.kind ∈ [OrderKind.doze, .wake, .setupA, .setupB]) (x : StationState) :
    refusal r.kind x = none := by
  simp only [List.mem_cons, List.not_mem_nil, or_false] at hk
  rcases hk with hk | hk | hk | hk <;> rw [hk] <;> cases x <;> rfl

end Sys2Proof.Machine
end

section
/-! PROOF. Orders refused, orders stored, and the queries (R12, R13, R15, R21 to R23, R35, R36, R178). -/

namespace Sys2Proof.Machine

-- Checked one after another: the host bounds the memory of all threads together.
set_option Elab.async false

open Sys2Proof Sys2Proof.Safety

variable {s t u : State} {id : SlotId} {r : RxRecord} {rest : List RxRecord} {a : Answer} {code : ResultCode} {f : RxFrame}

/-! ### Refusals before the decoding (R35, R178) -/

/-- A record whose order is refused leaves its REPLY, and nothing else changes. -/
theorem exec_commandFor_refused (hrx : s.bus.rx = r :: rest) (hslot : s.bus.slots.grantedSlot = some id)
    (hstation : s.ctl.station ≠ .strapFault)
    (hanswer : answerOrder (bodyFor r) r (beginTake id r rest s)
      = (Answer.plain code (namedBy r), beginTake id r rest s)) :
    ∃ t, exec (commandFor r) s = .next t ∧
      Replies t id rest { plainReply r.kind code (namedBy r) with dest := r.sender.toNat } ∧ t = { s with bus := t.bus } := by
  obtain ⟨p, hp, hexec⟩ := exec_commandFor r
  obtain ⟨hreplies, hstate, -⟩ := serve_of_answered hrx hslot hstation hp hanswer
  exact ⟨_, hexec s, hreplies, hstate⟩

/-- The orders that the state table of JOINING refuses (R35). -/
theorem refusal_joining (hk : r.kind ∈ [OrderKind.call, .cancel, .release, .halt, .resume, .enrol, .audit, .identify]) :
    refusal r.kind .joining = some .notReady := by
  simp only [List.mem_cons, List.not_mem_nil, or_false] at hk
  rcases hk with hk | hk | hk | hk | hk | hk | hk | hk <;> rw [hk] <;> rfl

/-- The orders of the gateway node that are NOT-READY: those that a state table refuses so (R35, R178), and those that
their own rules do (R32, R37, R38). -/
theorem answerOrder_notReady (hsender : r.sender.toNat = Config.gateway)
    (h : refusal r.kind s.ctl.station = some .notReady ∨
      r.kind ∈ [OrderKind.doze, .wake] ∧ s.ctl.station ≠ .active ∧ s.ctl.station ≠ .doze ∨
      r.kind ∈ [OrderKind.setupA, .setupB] ∧ s.ctl.station ≠ .joining) :
    answerOrder (bodyFor r) r s = (Answer.plain .notReady (namedBy r), s) := by
  rcases h with hrefused | hown
  · exact answerOrder_of_refusal hsender hrefused
  · have hmem : r.kind ∈ [OrderKind.doze, .wake, .setupA, .setupB] := by
      simp only [List.mem_cons, List.not_mem_nil, or_false] at hown ⊢
      rcases hown with ⟨hk, -⟩ | ⟨hk, -⟩
      · exact hk.elim Or.inl fun h => Or.inr (Or.inl h)
      · exact Or.inr (Or.inr hk)
    rw [answerOrder_of_admitted _ hsender (refusal_ownRule hmem _)]
    exact bodyFor_notReady hown

/-! ### An ORDER received (R12, R13, R15) -/

/-- The wish to take begins and goes on without touching the waiting claims. -/
theorem wishTake_claims (s : State) : (wishTake s).bus.claims = s.bus.claims := by
  unfold wishTake wishGoesOn
  split
  · rfl
  · split <;> rfl

/-- A broadcast ORDER is of a kind that may be broadcast; every ORDER has its fixed length (R24). -/
theorem framesFault_order_eq_false {k : OrderKind} (hlen : f.payload.length = k.length)
    (hdest : f.dest.toNat = s.num ∧ isStation s.num = true ∨ f.dest.toNat = 0 ∧ (orderRow k).addressing = .either) :
    framesFault (orderRow k) f = false := by
  have hrow : (orderRow k).length = k.length := by cases k <;> rfl
  have hbroadcast : (orderRow k).addressing ≠ .broadcast := by cases k <;> decide
  have hbad : badDest (orderRow k).addressing f.dest.toNat = false := by
    rw [badDest_eq_false_iff]
    rcases hdest with ⟨hown, hnum⟩ | ⟨hzero, heither⟩
    · simp only [isStation, Bool.and_eq_true, decide_eq_true_eq] at hnum
      exact ⟨by omega, fun h => absurd h hbroadcast, fun _ => by omega⟩
    · exact ⟨by omega, fun _ => hzero, fun h => by rw [heither] at h; cases h⟩
  simp [framesFault, hlen, hrow, hbad]

/-- An ORDER that the station hears goes to the receive queue (R12, R13). -/
theorem exec_orderFrame_of_heard {k : OrderKind} (hstation : s.ctl.station ≠ .strapFault) (hbus : s.bus.offBus = false)
    (hdeaf : deafSender f.sender.toNat = false) (hsender : f.sender.toNat ≠ s.num) (hlen : f.payload.length = k.length)
    (hdest : f.dest.toNat = s.num ∧ isStation s.num = true ∨ f.dest.toNat = 0 ∧ (orderRow k).addressing = .either) :
    exec (.orderFrame k f) s =
      .next (storeOrder k f (answerWith (if f.dest.toNat = 0 then silent else driveTaken) s)) := by
  have hfault := framesFault_order_eq_false hlen hdest
  have hrun : receive (orderRow k) false (fun _ => true) (storeOrder k) f s =
      storeOrder k f (answerWith (if f.dest.toNat = 0 then silent else driveTaken) s) := by
    by_cases hzero : f.dest.toNat = 0
    · simp [receive, hstation, hdeaf, hfault, hbus, hsender, hzero]
    · have hown : f.dest.toNat = s.num := hdest.elim And.left fun h => absurd h.1 hzero
      have hnum : s.num ≠ 0 := hown ▸ hzero
      simp [receive, hstation, hdeaf, hfault, hbus, hsender, hown, hnum]
  exact congrArg _ hrun

/-- An ORDER at a queue of fewer than 8 is stored at its tail (R15). -/
theorem storeOrder_of_room {k : OrderKind} (h : s.bus.rx.length < 8) :
    let t := storeOrder k f s
    t = { s with bus := t.bus } ∧ t.bus.failures = s.bus.failures ∧ t.bus.claims = s.bus.claims ∧
      t.bus.rx = s.bus.rx ++ [⟨f.sender, decide (f.dest.toNat ≠ 0), k, f.param, f.payload⟩] ∧
      t.bus.answer = s.bus.answer := by
  have hwish : ∀ u : State, wishTake u = { u with bus := (wishTake u).bus } :=
    fun u => wishGoesOn_eq_onBus (wishBegins u)
  simp only [storeOrder, if_pos h]
  split
  · refine ⟨hwish _, ?_, wishTake_claims _, ?_, ?_⟩ <;> simp
  · exact ⟨rfl, rfl, rfl, rfl, rfl⟩

/-- Settles O5: the refusals at the take by `exec_commandFor_refused`, the three ends of an ORDER at its delivery by the
cases of `storeOrder`. -/
theorem orderFrameIsStoredHeldOrDropped : Obligations.OrderFrameIsStoredHeldOrDropped := by
  constructor
  · intro s r rest id hrx hslot hstation gateway refused
    have hrefused : ∀ code, answerOrder (bodyFor r) r (beginTake id r rest s)
        = (Answer.plain code (namedBy r), beginTake id r rest s) → refused code :=
      fun code => exec_commandFor_refused hrx hslot hstation
    have htook : (beginTake id r rest s).ctl.station = s.ctl.station := rfl
    refine ⟨fun h => hrefused _ (answerOrder_of_sender h), fun hg hst hk => ?_, fun hg hst hk => ?_, fun hg hst hk => ?_,
      fun hg hst hk => ?_, fun hg hst hk => ?_⟩
    · refine hrefused _ (answerOrder_notReady hg ?_)
      rw [htook, hst]
      by_cases hwake : r.kind ∈ [OrderKind.doze, .wake]
      · exact Or.inr (Or.inl ⟨hwake, by decide, by decide⟩)
      · refine Or.inl (refusal_joining ?_)
        simp only [List.mem_cons, List.not_mem_nil, or_false] at hk hwake ⊢
        tauto
    · refine hrefused _ (answerOrder_of_refusal hg ?_)
      rw [htook, hst]
      simp only [List.mem_cons, List.not_mem_nil, or_false] at hk
      rcases hk with hk | hk | hk <;> rw [hk] <;> rfl
    · refine hrefused _ (answerOrder_notReady hg (Or.inl ?_))
      rw [htook, hst, hk]
      rfl
    · refine hrefused _ (answerOrder_notReady hg ?_)
      rw [htook]
      by_cases hhalt : r.kind = .halt ∨ r.kind = .resume
      · refine Or.inl ?_
        rcases hst with hst | hst <;> rcases hhalt with hk | hk <;> rw [hst, hk] <;> rfl
      · have hnot : s.ctl.station ≠ .active ∧ s.ctl.station ≠ .doze ∧ s.ctl.station ≠ .joining := by
          rcases hst with hst | hst <;> rw [hst] <;> decide
        simp only [List.mem_cons, List.not_mem_nil, or_false] at hk ⊢
        tauto
    · refine hrefused _ (answerOrder_notReady hg (Or.inr (Or.inr ⟨hk, ?_⟩)))
      rw [htook]
      rcases hst with hst | hst <;> rw [hst] <;> decide
  · intro s k f hstation hbus hdeaf hsender hlen hdest
    refine ⟨_, exec_orderFrame_of_heard hstation hbus hdeaf hsender hlen hdest, fun hroom => ?_, fun hfull hone => ?_,
      fun hfull hall hcount => ?_⟩
    · obtain ⟨hstate, hfailures, hclaims, hrx, hanswer⟩ := storeOrder_of_room (k := k) (f := f)
        (s := answerWith (if f.dest.toNat = 0 then silent else driveTaken) s) hroom
      exact ⟨hstate, hfailures, hclaims, hrx, hanswer⟩
    · have hnot : ¬ s.bus.rx.length < 8 := by omega
      simp [storeOrder, answerWith, hnot, hone, State.onBus]
    · have hnot : ¬ s.bus.rx.length < 8 := by omega
      simp [storeOrder, answerWith, hnot, hall, State.onBus, countDropped, State.onRecord, State.onCtl, saturate, Nat.min_comm]

/-! ### The queries (R21 to R23, R36) -/

/-- No station state refuses a QUERY (R35, R178). -/
theorem refusal_query (x : StationState) : refusal .query x = none := by cases x <;> rfl

/-- A QUERY that its owner only answers: the REPLY to the gateway node, and nothing else. -/
theorem query_replies {p : RxRecord → Bool} {body : OrderBody} (h : Takes s id r rest) (hk : r.kind = .query)
    (hp : p r = true) (hbody : body r (beginTake id r rest s) = (a, beginTake id r rest s)) :
    Replies (serve p body s) id rest
        { dest := Config.gateway, kind := .query, clampMark := a.clampMark, ref := a.ref, code := a.code,
          d0 := a.d0, d1 := a.d1, d2 := a.d2, d3 := a.d3, clears := a.clears } ∧
      serve p body s = { s with bus := (serve p body s).bus } ∧ (serve p body s).bus.failures = s.bus.failures := by
  have ⟨_, _, hsender, _⟩ := h
  have hresult := serve_answers h hp (hk ▸ refusal_query _) hbody
  rw [a.toReply_eq hsender, hk] at hresult
  exact hresult

/-- Settles O14: a QUERY of form 3 or above is answered by `countsBody`, which changes nothing. -/
theorem queryCountsReports : Obligations.QueryCountsReports := by
  intro s id r rest htakes hk hform
  have hp : isCounts r = true := by simp [isCounts, hk, hform]
  by_cases hthree : byteAt r.payload 0 = 3
  · have hbody : countsBody r (beginTake id r rest s) = (countsAnswer s, beginTake id r rest s) := by
      simp only [countsBody, if_pos hthree]
      rfl
    obtain ⟨hreplies, hstate, hfailures⟩ := query_replies htakes hk hp hbody
    exact ⟨_, _, rfl, hstate, hfailures, hreplies, fun _ => rfl, fun h => by omega⟩
  · have hbody : countsBody r (beginTake id r rest s) = (Answer.plain .badField 0, beginTake id r rest s) := by
      simp only [countsBody, if_neg hthree]
    obtain ⟨hreplies, hstate, hfailures⟩ := query_replies htakes hk hp hbody
    exact ⟨_, _, rfl, hstate, hfailures, hreplies, fun h => absurd h hthree, fun _ => rfl⟩

end Sys2Proof.Machine
end

section
/-! PROOF. The Bin Table read: where a tag is held, and the queries that report it (R22, R23, R47, R66). -/

namespace Sys2Proof.Machine

-- Checked one after another: the host bounds the memory of all threads together.
set_option Elab.async false

open Sys2Proof Sys2Proof.Safety

variable {s t u : State} {id : SlotId} {r : RxRecord} {rest : List RxRecord} {tag i : Nat}

/-! ### Bin identities (R47) -/

/-- The indices of the two sides that are fitted, in the columns that are fitted (R47). -/
theorem validIndex_iff {p : Straps} (h : i ≤ 2047) :
    validIndex p i = true ↔ (i / 1024 = 1 → p.twoSided = true) ∧ i % 1024 / 16 + 1 ≤ 16 * (p.lengthClass.toNat + 1) := by
  have hside : i / 1024 = 0 ∨ i / 1024 = 1 := by omega
  rcases hside with hside | hside <;>
    simp [validIndex, sideOf, positionOf, Straps.columns, hside]

/-- The own bins, as the statements say them (R47). -/
theorem classify_eq_own_iff (bin : Nat) : classify bin s = .own ↔ idIsOwn s bin := by
  have hvalid := validIndex_iff (p := s.ctl.straps) (i := bin % 2048) (by omega)
  have hcolumn : bin % 2048 % 1024 = bin % 1024 := by omega
  rw [hcolumn] at hvalid
  unfold classify idIsOwn homeOf indexOf
  split
  next h =>
    simp only [reduceCtorEq, false_iff]
    omega
  next h =>
    split
    next hother =>
      simp only [reduceCtorEq, false_iff]
      omega
    next hown =>
      split
      next hv =>
        obtain ⟨hside, hcolumns⟩ := hvalid.1 hv
        simp only [true_iff]
        exact ⟨by omega, by omega, by omega, hside, hcolumns⟩
      next hv =>
        simp only [reduceCtorEq, false_iff]
        exact fun hid => hv (hvalid.2 ⟨hid.2.2.2.1, hid.2.2.2.2⟩)

/-- An own bin's ID, from its index (R47). -/
theorem ownBin_indexOf {bin : Nat} (h : idIsOwn s bin) : ownBin (bin % 2048) s = bin := by
  obtain ⟨-, -, hhome, -⟩ := h
  unfold ownBin
  omega

/-! ### The first record of the table that meets a test (R66) -/

/-- In a canonical table, the first hit of a search is the hit of lowest index. -/
theorem findSome?_of_first {β : Type} {g : Nat → BinRec → Option β} {b : β} {l : List (Nat × BinRec)}
    (hwf : tableWf BinRec.blank l = true) (hblank : ∀ k, g k BinRec.blank = none)
    (hi : g i (tableGet BinRec.blank l i) = some b) (hbefore : ∀ k < i, g k (tableGet BinRec.blank l k) = none) :
    l.findSome? (fun e => g e.1 e.2) = some b := by
  induction l with
  | nil =>
    rw [tableGet, hblank] at hi
    cases hi
  | cons e l ih =>
    obtain ⟨k, v⟩ := e
    simp only [tableWf, Bool.and_eq_true, decide_eq_true_eq] at hwf
    obtain ⟨⟨-, habove⟩, hwf⟩ := hwf
    have hget : ∀ m, m ≠ k → tableGet BinRec.blank ((k, v) :: l) m = tableGet BinRec.blank l m := fun m hm => if_neg hm
    by_cases hik : i = k
    · subst hik
      have hv : tableGet BinRec.blank ((i, v) :: l) i = v := if_pos rfl
      rw [hv] at hi
      simp [hi]
    · have hlt : k < i := by
        by_contra hle
        have hbelow : tableGet BinRec.blank l i = BinRec.blank := tableGet_below _ (tableAbove_mono (Nat.le_of_lt (by omega)) habove)
        rw [hget i hik, hbelow, hblank] at hi
        cases hi
      have hv : tableGet BinRec.blank ((k, v) :: l) k = v := if_pos rfl
      have hmiss := hbefore k hlt
      rw [hv] at hmiss
      rw [List.findSome?_cons, hmiss]
      refine ih hwf (hget i hik ▸ hi) fun m hm => ?_
      by_cases hmk : m = k
      · subst hmk
        rw [tableGet_below _ habove, hblank]
      · exact hget m hmk ▸ hbefore m hm

/-- The position of the oldest entry that holds the tag. -/
theorem positionIn_of_first {l : List FollowOn} {p : Nat} (h : l[p]?.map FollowOn.tag = some tag)
    (hbefore : ∀ f ∈ l.take p, f.tag ≠ tag) : positionIn tag l = some (p + 1) := by
  induction l generalizing p with
  | nil => cases h
  | cons e l ih =>
    cases p with
    | zero =>
      have htag : e.tag = tag := by simpa using h
      simp [positionIn, htag]
    | succ p =>
      rw [List.take_succ_cons, List.forall_mem_cons] at hbefore
      have htail := ih (p := p) (by simpa using h) hbefore.2
      simp [positionIn, hbefore.1, htail]

theorem positionIn_eq_none {l : List FollowOn} (h : ∀ f ∈ l, f.tag ≠ tag) : positionIn tag l = none := by
  induction l with
  | nil => rfl
  | cons e l ih =>
    rw [List.forall_mem_cons] at h
    simp [positionIn, h.1, ih h.2]

theorem searchFollowOns_eq (tag : Nat) (l : List (Nat × BinRec)) :
    searchFollowOns tag l = l.findSome? fun e => (positionIn tag e.2.followOns).map fun p => .followOn e.1 p := by
  induction l with
  | nil => rfl
  | cons e l ih =>
    obtain ⟨k, v⟩ := e
    rw [List.findSome?_cons, searchFollowOns, ih]
    cases positionIn tag v.followOns <;> rfl

theorem searchCalls_eq (tag : Nat) (l : List (Nat × BinRec)) :
    searchCalls tag l = l.findSome? fun e => if callHolds tag e.2 then some (.current e.1) else none := by
  induction l with
  | nil => rfl
  | cons e l ih =>
    obtain ⟨k, v⟩ := e
    rw [List.findSome?_cons, searchCalls, ih]
    by_cases h : callHolds tag v = true <;> simp [h]

theorem callHolds_iff {b : BinRec} : callHolds tag b = true ↔ b.call.map Call.tag = some tag := by
  unfold callHolds
  cases b.call <;> simp

/-- Tag search finds the oldest entry of the follow-on list of lowest index (R66). -/
theorem tagSearch_of_followOn {p : Nat} (hwf : tableWf BinRec.blank s.bins = true)
    (h : (binAt i s).followOns[p]?.map FollowOn.tag = some tag)
    (holder : ∀ f ∈ (binAt i s).followOns.take p, f.tag ≠ tag)
    (hbefore : ∀ k < i, ∀ f ∈ (binAt k s).followOns, f.tag ≠ tag) : tagSearch tag s = some (.followOn i (p + 1)) := by
  have hfound : searchFollowOns tag s.bins = some (.followOn i (p + 1)) := by
    rw [searchFollowOns_eq]
    refine findSome?_of_first (i := i) (g := fun k b => (positionIn tag b.followOns).map fun p => TagPlace.followOn k p) hwf
      (fun k => rfl) ?_ fun k hk => ?_
    · have hpos : positionIn tag (tableGet BinRec.blank s.bins i).followOns = some (p + 1) :=
        positionIn_of_first h holder
      rw [hpos]
      rfl
    · have hpos : positionIn tag (tableGet BinRec.blank s.bins k).followOns = none := positionIn_eq_none (hbefore k hk)
      rw [hpos]
      rfl
  rw [tagSearch, hfound]

theorem searchFollowOns_eq_none (h : ∀ e ∈ s.bins, ∀ f ∈ e.2.followOns, f.tag ≠ tag) :
    searchFollowOns tag s.bins = none := by
  rw [searchFollowOns_eq, List.findSome?_eq_none_iff]
  intro e he
  rw [positionIn_eq_none (h e he)]
  rfl

/-- With no follow-on entry, tag search finds the current call of lowest index (R66). -/
theorem tagSearch_of_call (hwf : tableWf BinRec.blank s.bins = true)
    (hnone : ∀ e ∈ s.bins, ∀ f ∈ e.2.followOns, f.tag ≠ tag) (h : (binAt i s).call.map Call.tag = some tag)
    (hbefore : ∀ k < i, (binAt k s).call.map Call.tag ≠ some tag) : tagSearch tag s = some (.current i) := by
  rw [tagSearch, searchFollowOns_eq_none hnone, searchCalls_eq]
  exact findSome?_of_first (g := fun k b => if callHolds tag b then some (TagPlace.current k) else none) hwf (fun k => rfl)
    (if_pos (callHolds_iff.2 h)) fun k hk => if_neg fun hcall => hbefore k hk (callHolds_iff.1 hcall)

/-- A tag held nowhere in the table (R66). -/
theorem tagSearch_eq_none (hnone : ∀ e ∈ s.bins, ∀ f ∈ e.2.followOns, f.tag ≠ tag)
    (hcalls : ∀ e ∈ s.bins, e.2.call.map Call.tag ≠ some tag) : tagSearch tag s = none := by
  rw [tagSearch, searchFollowOns_eq_none hnone, searchCalls_eq, List.findSome?_eq_none_iff]
  exact fun e he => if_neg fun hcall => hcalls e he (callHolds_iff.1 hcall)

/-! ### Where a tag is found (R22) -/

theorem validTag_iff : validTag tag = true ↔ 1 ≤ tag ∧ tag ≤ 4095 := by simp [validTag]

theorem jobWith_eq_find? (h : tag ≠ 0) : jobWith tag s = s.crane.pool.find? fun j => j.tag == tag := by
  simp only [jobWith, h, ne_eq, not_false_eq_true, decide_true, Bool.and_true]
  rfl

theorem jobWith_eq_none (h : ∀ j ∈ s.crane.pool, j.tag ≠ tag) : jobWith tag s = none := by
  simp only [jobWith, List.find?_eq_none]
  intro j hj
  simp [h j hj]

theorem whereFound_of_job {j : Job} (h : jobWith tag s = some j) :
    whereFound tag s = { place := 1, info := j.state.code * 16 + j.stage.code, index := indexOf j.bin } := by
  simp only [whereFound, h]

theorem whereFound_of_followOn {p : Nat} (hjob : jobWith tag s = none) (h : tagSearch tag s = some (.followOn i p)) :
    whereFound tag s = { place := 2, info := p, index := i } := by
  simp only [whereFound, hjob, h]

theorem whereFound_of_call (hjob : jobWith tag s = none) (h : tagSearch tag s = some (.current i)) :
    whereFound tag s = { place := 3, info := 0, index := i } := by
  simp only [whereFound, hjob, h]

theorem whereFound_of_none (hjob : jobWith tag s = none) (h : tagSearch tag s = none) :
    whereFound tag s = { place := 0, info := 0, index := 0 } := by
  simp only [whereFound, hjob, h]

/-- The REPLY of QUERY REQUEST to the gateway node, by the tag (R22). -/
theorem requestAnswer_of_valid {w : WhereFound} (hlo : 1 ≤ tag) (hhi : tag ≤ 4095) (h : whereFound tag s = w) :
    requestAnswer tag s = { Answer.plain .done tag with
      d0 := w.place, d1 := w.info, d2 := w.index / 256, d3 := w.index % 256 } := by
  rw [requestAnswer, if_pos (validTag_iff.2 ⟨hlo, hhi⟩), h]
  rfl

/-- The answer to QUERY BIN for an index of no location here (R23, R47). -/
theorem binAnswer_of_wrong (h : 2047 < i ∨ (i / 1024 = 1 ∧ s.ctl.straps.twoSided = false)
      ∨ 16 * (s.ctl.straps.lengthClass.toNat + 1) < i % 1024 / 16 + 1) :
    binAnswer i s = Answer.plain .unknownBin 0 := by
  rw [binAnswer, if_pos]
  by_cases hi : 2047 < i
  · exact Or.inl hi
  · refine Or.inr ?_
    rw [Bool.not_eq_true', Bool.eq_false_iff, Ne, validIndex_iff (by omega)]
    rcases h with h | ⟨hside, hone⟩ | hcolumn
    · exact absurd h hi
    · exact fun hv => Bool.false_ne_true (hone.symm.trans (hv.1 hside))
    · exact fun hv => absurd hv.2 (by omega)

/-- The answer to QUERY BIN for a location of this station (R23, R47). -/
theorem binAnswer_of_valid (h : ¬ (2047 < i ∨ (i / 1024 = 1 ∧ s.ctl.straps.twoSided = false)
      ∨ 16 * (s.ctl.straps.lengthClass.toNat + 1) < i % 1024 / 16 + 1)) :
    binAnswer i s = if (binAt i s).state = .absent then Answer.plain .done (ownBin i s) else
      { Answer.plain .done (ownBin i s) with
        d0 := (binAt i s).state.code
        d1 := (binAt i s).fill * 16 + (binAt i s).hold
        d2 := (binDestination (binAt i s) s.num).1
        d3 := (binDestination (binAt i s) s.num).2 } := by
  rw [not_or, not_or, not_and] at h
  obtain ⟨hi, hside, hcolumn⟩ := h
  have hv : validIndex s.ctl.straps i = true := by
    rw [validIndex_iff (by omega)]
    exact ⟨fun hone => by simpa using hside hone, by omega⟩
  rw [binAnswer, if_neg (by simp [hi, hv])]

/-- Settles O7: the three answers are read off the state, QUERY REQUEST by `whereFound`. -/
theorem queryReports : Obligations.QueryReports := by
  refine ⟨?_, ?_, ?_⟩
  · intro s id r rest htakes hk hform
    have hbody : (statusAnswer (beginTake id r rest s), beginTake id r rest s) = (statusAnswer s, beginTake id r rest s) :=
      rfl
    obtain ⟨hreplies, hstate, -⟩ := query_replies (p := isForm 0) (body := fun _ s => (statusAnswer s, s)) htakes hk
      (by simp [isForm, hk, hform]) hbody
    exact ⟨_, rfl, hstate, hreplies⟩
  · intro s id r rest htakes hk hform tag found
    obtain ⟨hreplies, hstate, -⟩ := query_replies (a := requestAnswer tag s) (p := isForm 1)
      (body := fun r s => (requestAnswer (wordAt r.payload 1) s, s)) htakes hk (by simp [isForm, hk, hform]) rfl
    refine ⟨_, _, rfl, hstate, hreplies, fun hbad => ?_, fun hlo hhi j hj => ?_, fun hlo hhi hjobs hwf i p hp holder hbefore => ?_,
      fun hlo hhi hjobs hwf hnone i hcall hbefore => ?_, fun hlo hhi hjobs hnone hcalls => ?_⟩
    · have hanswer : requestAnswer tag s = Answer.plain .badField tag :=
        if_neg fun h => by rw [validTag_iff] at h; omega
      rw [hanswer]
      rfl
    · rw [← jobWith_eq_find? (by omega)] at hj
      rw [requestAnswer_of_valid hlo hhi (whereFound_of_job hj)]
      rfl
    · rw [requestAnswer_of_valid hlo hhi
        (whereFound_of_followOn (jobWith_eq_none hjobs) (tagSearch_of_followOn hwf hp holder hbefore))]
      rfl
    · rw [requestAnswer_of_valid hlo hhi
        (whereFound_of_call (jobWith_eq_none hjobs) (tagSearch_of_call hwf hnone hcall hbefore))]
      rfl
    · rw [requestAnswer_of_valid hlo hhi (whereFound_of_none (jobWith_eq_none hjobs) (tagSearch_eq_none hnone hcalls))]
      rfl
  · intro s id r rest htakes hk hform i b wrong
    obtain ⟨hreplies, hstate, -⟩ := query_replies (a := binAnswer i s) (p := isForm 2)
      (body := fun r s => (binAnswer (wordAt r.payload 1) s, s)) htakes hk (by simp [isForm, hk, hform]) rfl
    refine ⟨_, _, rfl, hstate, hreplies, fun hwrong => ?_, fun hright habsent => ?_, fun hright hpresent => ?_⟩
    · rw [binAnswer_of_wrong hwrong]
      rfl
    · rw [binAnswer_of_valid hright, if_pos habsent]
      rfl
    · rw [binAnswer_of_valid hright, if_neg hpresent]
      have hdest : binDestination b s.num = match b.call with
          | some c => (c.port, 1)
          | none => if b.state = .lifting ∨ b.state = .out then (s.num, 2) else (0, 0) := rfl
      cases hcall : b.call with
      | some c => rw [hcall] at hdest; simp [plainReply, Answer.plain, b, ownBin, hdest] 
      | none => rw [hcall] at hdest; simp [plainReply, Answer.plain, b, ownBin, hdest]; split <;> simp

end Sys2Proof.Machine
end

section
/-! PROOF. The Bin Table written: enrolment, the home visit, a JAM, holds and follow-ons (R54, R55, R59 to R61, R63 to
R66), and how a frame is received (R3, R12, R13). -/

namespace Sys2Proof.Machine

-- Checked one after another: the host bounds the memory of all threads together.
set_option Elab.async false

open Sys2Proof Sys2Proof.Safety

variable {s t u : State} {id : SlotId} {r : RxRecord} {rest : List RxRecord} {tag i : Nat} {b : BinRec} {c : Carry}

/-! ### One record written -/

/-- Writing what an index reads as leaves a canonical table alone. -/
theorem tablePut_tableGet {l : List (Nat × BinRec)} (hwf : tableWf BinRec.blank l = true) :
    tablePut BinRec.blank l i (tableGet BinRec.blank l i) = l := by
  induction l with
  | nil => simp [tablePut, tableGet]
  | cons e l ih =>
    obtain ⟨k, v⟩ := e
    simp only [tableWf, Bool.and_eq_true, decide_eq_true_eq] at hwf
    obtain ⟨⟨hv, habove⟩, hwf⟩ := hwf
    rcases Nat.lt_trichotomy i k with hlt | heq | hgt
    · have hblank : tableGet BinRec.blank l i = BinRec.blank := tableGet_below _ (tableAbove_mono (Nat.le_of_lt hlt) habove)
      have hne : i ≠ k := Nat.ne_of_lt hlt
      simp [tablePut, tableGet, hlt, hne, hblank]
    · subst heq
      simp [tablePut, tableGet, hv]
    · have hnlt : ¬ i < k := by omega
      have hne : i ≠ k := by omega
      simp [tablePut, tableGet, hnlt, hne, ih hwf]

theorem putBin_binAt (hwf : BinsWf s) : putBin i (binAt i s) s = s :=
  congrArg (fun l => { s with bins := l }) (tablePut_tableGet hwf)

/-- One record written: it reads as written, every other record as before, and nothing else has changed. -/
theorem putBin_writes (hwf : BinsWf s) (i : Nat) (b : BinRec) :
    binAt i (putBin i b s) = b ∧ (∀ k, k ≠ i → binAt k (putBin i b s) = binAt k s) ∧
      putBin i b s = { s with bins := (putBin i b s).bins } :=
  ⟨binAt_putBin hwf i b, fun _ hk => binAt_putBin_other hwf hk b, rfl⟩

/-! ### Holds and follow-on calls (R63 to R66) -/

theorem holdSet_of_free {units : Nat} (h : (binAt i s).state = .stored ∧ (binAt i s).hold = 0 ∧ (binAt i s).fill + units ≤ 15) :
    holdSet i units s = (true, putBin i { binAt i s with hold := units } s) := if_pos h

theorem holdSet_refused {units : Nat}
    (h : ¬ ((binAt i s).state = .stored ∧ (binAt i s).hold = 0 ∧ (binAt i s).fill + units ≤ 15)) :
    holdSet i units s = (false, s) := if_neg h

theorem holdClear_snd (i : Nat) (s : State) : (holdClear i s).2 = putBin i { binAt i s with hold := 0 } s := rfl

/-- Hold clear of a record without a hold changes nothing (R64). -/
theorem holdClear_of_none (hwf : BinsWf s) (h : (binAt i s).hold = 0) : holdClear i s = (.noneHeld, s) := by
  have hsame : ({ binAt i s with hold := 0 } : BinRec) = binAt i s := by rw [← h]
  have hstate := putBin_binAt (i := i) hwf
  simp only [holdClear, hsame, hstate, h, lt_self_iff_false, if_false]

theorem mem_pendingPorts {jobPort : Option Nat} {p : Nat} :
    p ∈ pendingPorts b jobPort ↔
      b.call.map Call.port = some p ∨ jobPort = some p ∨ ∃ f ∈ b.followOns, f.port = p := by
  simp [pendingPorts]

/-- The oldest entry with the tag goes; what is older and what is later stays (R66). -/
theorem removeTag_of_oldest {older later : List FollowOn} {e : FollowOn} (he : e.tag = tag)
    (holder : ∀ f ∈ older, f.tag ≠ tag) : removeTag tag (older ++ e :: later) = older ++ later := by
  induction older with
  | nil => simp [removeTag, he]
  | cons f l ih =>
    rw [List.forall_mem_cons] at holder
    simp [removeTag, holder.1, ih holder.2]

/-- Follow-on remove of a tag that tag search finds in a list (R66). -/
theorem followOnRemove_of_found {p : Nat} (h : tagSearch tag s = some (.followOn i p)) :
    followOnRemove tag s =
      (.removed i, putBin i { binAt i s with followOns := removeTag tag (binAt i s).followOns } s) := by
  simp only [followOnRemove, h]

/-- Follow-on remove of a tag that no list holds (R66). -/
theorem followOnRemove_of_none (h : ∀ e ∈ s.bins, ∀ f ∈ e.2.followOns, f.tag ≠ tag) :
    followOnRemove tag s = (.notHeld, s) := by
  have hcall : ∀ l, searchCalls tag l = none ∨ ∃ k, searchCalls tag l = some (.current k) := by
    intro l
    induction l with
    | nil => exact Or.inl rfl
    | cons e l ih =>
      by_cases hold : callHolds tag e.2 = true
      · exact Or.inr ⟨e.1, if_pos hold⟩
      · rw [searchCalls, if_neg hold]
        exact ih
  have hsearch : tagSearch tag s = searchCalls tag s.bins := by rw [tagSearch, searchFollowOns_eq_none h]
  rcases hcall s.bins with hnone | ⟨k, hk⟩
  · simp only [followOnRemove, hsearch, hnone]
  · simp only [followOnRemove, hsearch, hk]

/-- Settles O22: each operation's cases exclude each other, and each writes one record or none. -/
theorem holdSetAndFollowOnAppend : Obligations.HoldSetAndFollowOnAppend := by
  refine ⟨fun i units s hunits hwf => ?_, fun i s hwf => ?_, fun i e jobPort s hwf => ?_, fun tag s hwf => ?_⟩
  · intro b v
    refine ⟨fun hfree => ?_, holdSet_refused⟩
    have hv : v = (true, putBin i { b with hold := units } s) := holdSet_of_free hfree
    obtain ⟨hsame, hother, hframe⟩ := putBin_writes hwf i { b with hold := units }
    rw [hv]
    refine ⟨rfl, hsame, hother, hframe, fun more => holdSet_refused ?_⟩
    rw [hsame]
    exact fun h => absurd h.2.1 (by dsimp only; omega)
  · intro b v
    obtain ⟨hsame, hother, hframe⟩ := putBin_writes hwf i { b with hold := 0 }
    refine ⟨fun hheld => if_pos hheld, holdClear_of_none hwf, hsame, hother, hframe, ?_⟩
    exact holdClear_of_none (putBin_wf hwf i _) (congrArg BinRec.hold hsame)
  · intro b v gone pending
    have hpending : e.port ∈ pendingPorts b jobPort ↔ pending := mem_pendingPorts
    refine ⟨fun hgone => if_pos hgone, fun hpresent hp => ?_, fun hpresent hp hfull => ?_, fun hpresent hp hroom => ?_⟩
    · exact (if_neg hpresent).trans (if_pos (hpending.2 hp))
    · exact (if_neg hpresent).trans ((if_neg fun h => hp (hpending.1 h)).trans (if_pos hfull))
    · have hv : v = (.appended, putBin i { b with followOns := b.followOns ++ [e] } s) :=
        (if_neg hpresent).trans ((if_neg fun h => hp (hpending.1 h)).trans (if_neg (Nat.not_le.2 hroom)))
      rw [hv]
      exact ⟨rfl, putBin_writes hwf i _⟩
  · refine ⟨fun i older e later hlist he holder hbefore => ?_, followOnRemove_of_none⟩
    have hposition : (binAt i s).followOns[older.length]?.map FollowOn.tag = some tag := by simp [hlist, he]
    have holdest : ∀ f ∈ (binAt i s).followOns.take older.length, f.tag ≠ tag := by simpa [hlist] using holder
    rw [followOnRemove_of_found (tagSearch_of_followOn hwf hposition holdest hbefore), hlist,
      removeTag_of_oldest he holder]
    exact ⟨rfl, putBin_writes hwf i _⟩

/-! ### Frames received (R3, R12, R13) -/

theorem deafSender_of_isStation {n : Nat} (h : isStation n = true) : deafSender n = false := by
  simp only [isStation, Bool.and_eq_true, decide_eq_true_eq] at h
  simp [deafSender]
  omega

/-- A good broadcast frame is delivered to its owner where its sender is honoured; its answer slot stays undriven. -/
theorem receive_broadcast {row : KindRow} {offBusToo : Bool} {honoured : Nat → Bool} {deliver : RxFrame → State → State}
    {f : RxFrame} (hstation : s.ctl.station ≠ .strapFault) (hdeaf : deafSender f.sender.toNat = false)
    (hsender : f.sender.toNat ≠ s.num) (hdest : f.dest = 0#5) (hlen : f.payload.length = row.length)
    (hrow : row.addressing = .broadcast) (hbus : s.bus.offBus = false ∨ offBusToo = true) :
    receive row offBusToo honoured deliver f s =
      if honoured f.sender.toNat then deliver f (answerWith silent s) else answerWith silent s := by
  have hfault : framesFault row f = false := by simp [framesFault, hlen, hrow, hdest, badDest]
  have hhear : (s.bus.offBus && !offBusToo) = false := by rcases hbus with h | h <;> simp [h]
  simp [receive, hstation, hdeaf, hfault, hhear, hsender, hdest]

/-- A good frame addressed to this station is answered TAKEN, and delivered where its sender is honoured. -/
theorem receive_addressed {row : KindRow} {offBusToo : Bool} {honoured : Nat → Bool} {deliver : RxFrame → State → State}
    {f : RxFrame} {length : Nat} (h : AddressedHere s f length) (hlen : row.length = length)
    (hrow : row.addressing = .addressed) :
    receive row offBusToo honoured deliver f s =
      if honoured f.sender.toNat then deliver f (answerWith driveTaken s) else answerWith driveTaken s := by
  obtain ⟨hstation, hbus, hfrom, hsender, hnum, hdest, hpayload⟩ := h
  have hdeaf := deafSender_of_isStation hfrom
  simp only [isStation, Bool.and_eq_true, decide_eq_true_eq] at hnum
  have hzero : s.num ≠ 0 := by omega
  have hbad : badDest row.addressing f.dest.toNat = false := by
    rw [badDest_eq_false_iff, hrow]
    exact ⟨by omega, fun h => absurd h (by decide), fun _ => by omega⟩
  have hfault : framesFault row f = false := by simp [framesFault, hpayload, hlen, hbad]
  simp [receive, hstation, hdeaf, hfault, hbus, hsender, hdest, hzero]

/-! ### Notices and the Bin Table -/

/-- A notice touches the Bus Interface and Station Control alone (R19). -/
theorem raise_eq_onBus_onCtl (n : Notice) (s : State) :
    raise n s = { s with bus := (raise n s).bus, ctl := (raise n s).ctl } :=
  (noticeIsQueuedListedOrPending s n).2.2.2.2

/-- A notice neither reads nor writes the Bin Table. -/
theorem raise_with_bins (n : Notice) (s : State) (l : List (Nat × BinRec)) :
    raise n { s with bins := l } = { raise n s with bins := l } := by
  unfold raise
  dsimp only
  split
  · rfl
  · split
    · rfl
    · split <;> rfl

/-! ### A JAM (R61) -/

/-- Settles O23: the JAM is delivered to `markLostByJam`, which tests the class and the state of the bin it names. -/
theorem jamMarksAnOutBinLost : Obligations.JamMarksAnOutBinLost := by
  intro s f hstation hbus hfrom hsender hdest hlen hwf bin i
  have hrun : exec (.jam f) s = .next (markLostByJam bin (answerWith silent s)) := by
    refine congrArg _ ((receive_broadcast (offBusToo := false) hstation (deafSender_of_isStation hfrom) hsender hdest hlen
      rfl (Or.inl hbus)).trans ?_)
    rw [if_pos hfrom]
  have hown : classify bin (answerWith silent s) = .own ↔ idIsOwn s bin := classify_eq_own_iff (s := s) bin
  refine ⟨_, hrun, fun hid hout => ?_, fun hnot => ?_⟩
  · have hmark : markLostByJam bin (answerWith silent s)
        = raise (.lost bin 1) (putBin i { binAt i s with state := .lost } (answerWith silent s)) :=
      if_pos ⟨hown.2 hid, hout⟩
    rw [hmark]
    have hbins : (raise (.lost bin 1) (putBin i { binAt i s with state := .lost } (answerWith silent s))).bins
        = (putBin i { binAt i s with state := .lost } s).bins := by simp; rfl
    refine ⟨?_, fun k hk => ?_, ?_⟩
    · unfold binAt at *
      rw [hbins]
      exact binAt_putBin hwf i _
    · unfold binAt at *
      rw [hbins]
      exact binAt_putBin_other hwf hk _
    · rw [hbins]
      exact raise_with_bins (.lost bin 1) (answerWith silent s) _
  · exact if_neg fun h => hnot ⟨hown.1 h.1, h.2⟩

/-! ### Enrolment (R54, R55) -/

/-- A crane that is not IDLE starts no job (R82). -/
theorem dispatch_of_not_idle (h : s.crane.state ≠ .idle) : dispatch s = s := if_neg fun hidle => h hidle.1

theorem hasJob_iff {bin : Nat} (h : idIsOwn s bin) :
    hasJob (bin % 2048) s = true ↔ ∃ j ∈ s.crane.pool, j.kind ≠ .audit ∧ j.bin = bin := by
  simp [hasJob, ownBin_indexOf h]

/-- A record that may be removed (R55). -/
theorem removable_iff {bin : Nat} (h : idIsOwn s bin) :
    removable (bin % 2048) s = true ↔
      ((binAt (bin % 2048) s).state = .stored ∨ (binAt (bin % 2048) s).state = .lost) ∧
        (binAt (bin % 2048) s).hold = 0 ∧ (binAt (bin % 2048) s).followOns = [] ∧
        ¬ ∃ j ∈ s.crane.pool, j.kind ≠ .audit ∧ j.bin = bin := by
  rw [← hasJob_iff h]
  simp [removable, and_assoc]

/-- The REPLY of an ENROL of an own bin reports its record (R53). -/
theorem enrolAnswer_of_own {bin : Nat} {mark : Bool} {code : ResultCode} (h : idIsOwn s bin) (hsender : r.sender.toNat = Config.gateway)
    (hk : r.kind = .enrol) :
    (enrolAnswer code mark bin s).toReply r = enrolReply code mark bin (binAt (bin % 2048) s) := by
  have hreported : reported bin s = binAt (bin % 2048) s := if_pos ((classify_eq_own_iff bin).2 h)
  rw [Answer.toReply_eq _ hsender, enrolAnswer, hreported, hk]
  rfl

theorem classRefusal_of_own {bin : Nat} (h : idIsOwn s bin) : classRefusal (classify bin s) = none := by
  rw [(classify_eq_own_iff bin).2 h]
  rfl

/-- Settles O20: ENROL ADD by whether the record is ABSENT, ENROL REMOVE by `removable`. -/
theorem enrolAddsAndRemoves : Obligations.EnrolAddsAndRemoves := by
  intro s id r rest htakes hk hactive hwf bin fill i b hown
  have ⟨_, _, hsender, _⟩ := htakes
  have hadmit : refusal r.kind s.ctl.station = none := by rw [hk, hactive]; rfl
  have htook : ∀ code mark b', (binAt i s) = b' →
      (enrolAnswer code mark bin (beginTake id r rest s)).toReply r = enrolReply code mark bin b' :=
    fun code mark b' hb' => hb' ▸ enrolAnswer_of_own (s := beginTake id r rest s) hown hsender hk
  have hwrites := fun b' => putBin_writes (s := beginTake id r rest s) hwf i b'
  let adds : RxRecord → Bool := fun r => decide (r.kind = .enrol) && !isRemove r
  have hadds : byteAt r.payload 0 = 1 → adds r = true := fun h => by simp [adds, isRemove, hk, h]
  have hremoves : byteAt r.payload 0 = 2 → isRemove r = true := fun h => by simp [isRemove, hk, h]
  have hclass := classRefusal_of_own (s := beginTake id r rest s) hown
  refine ⟨fun haction habsent hbusy => ?_, fun haction hpresent => ?_, fun haction hstate hhold hlist hjobs => ?_,
    fun haction hnot => ?_⟩
  · let put := putBin i { BinRec.blank with state := .stored, fill := min 15 fill } (beginTake id r rest s)
    have hbody : enrolAddBody r (beginTake id r rest s) =
        (enrolAnswer (if 15 < fill then .clamped else .done) (decide (15 < fill)) bin put, put) := by
      have hput : dispatch put = put := dispatch_of_not_idle hbusy
      have hadd : enrolAddOwn bin fill (beginTake id r rest s) =
          (enrolAnswer (if 15 < fill then .clamped else .done) (decide (15 < fill)) bin put, dispatch put) :=
        if_pos habsent
      simp only [enrolAddBody, if_pos haction, bin, fill] at hadd ⊢
      rw [hclass]
      exact hadd.trans (by rw [hput])
    obtain ⟨hsame, hother, hframe⟩ := hwrites { BinRec.blank with state := .stored, fill := min 15 fill }
    obtain ⟨hreplies, hstate⟩ := serve_carriesOut (p := adds) htakes (hadds haction) hadmit hbody rfl
    rw [enrolAnswer_of_own (s := put) hown hsender hk] at hreplies
    refine ⟨_, rfl, ?_, ?_, fun k hk => ?_, ?_⟩
    · exact hsame ▸ hreplies
    · exact (congrArg (binAt i) hstate).trans hsame
    · exact (congrArg (binAt k) hstate).trans (hother k hk)
    · exact hstate.trans (by rw [hstate]; rfl)
  · have hbody : enrolAddBody r (beginTake id r rest s) =
        (enrolAnswer .conflict false bin (beginTake id r rest s), beginTake id r rest s) := by
      have hadd : enrolAddOwn bin fill (beginTake id r rest s) =
          (enrolAnswer .conflict false bin (beginTake id r rest s), beginTake id r rest s) := if_neg hpresent
      simp only [enrolAddBody, if_pos haction, bin, fill] at hadd ⊢
      rw [hclass]
      exact hadd
    obtain ⟨hreplies, hstate, -⟩ := serve_answers (p := adds) htakes (hadds haction) hadmit hbody
    exact ⟨_, rfl, htook _ _ b rfl ▸ hreplies, hstate⟩
  · let put := putBin i BinRec.blank (beginTake id r rest s)
    have hremovable : removable i (beginTake id r rest s) = true := by
      refine (removable_iff (s := beginTake id r rest s) hown).2 ⟨hstate, hhold, hlist, ?_⟩
      rintro ⟨j, hj, haudit, hbin⟩
      exact (hjobs j hj).elim haudit fun h => h hbin
    have hbody : enrolRemoveBody r (beginTake id r rest s) = (enrolAnswer .done false bin put, put) := by
      simp only [enrolRemoveBody, bin] at *
      rw [hclass]
      exact if_pos hremovable
    obtain ⟨hsame, hother, hframe⟩ := hwrites BinRec.blank
    obtain ⟨hreplies, hserve⟩ := serve_carriesOut htakes (hremoves haction) hadmit hbody rfl
    rw [enrolAnswer_of_own (s := put) hown hsender hk] at hreplies
    refine ⟨_, rfl, ?_, ?_, fun k hk => ?_, ?_⟩
    · exact hsame ▸ hreplies
    · exact (congrArg (binAt i) hserve).trans hsame
    · exact (congrArg (binAt k) hserve).trans (hother k hk)
    · exact hserve.trans (by rw [hserve]; rfl)
  · have hkept : ¬ removable i (beginTake id r rest s) = true := by
      intro h
      obtain ⟨hstate, hhold, hlist, hjobs⟩ := (removable_iff (s := beginTake id r rest s) hown).1 h
      change b.state = .stored ∨ b.state = .lost at hstate
      change b.hold = 0 at hhold
      change b.followOns = [] at hlist
      rcases hnot with h | h | h | h | h | h | h
      · simp [h] at hstate
      · simp [h] at hstate
      · simp [h] at hstate
      · simp [h] at hstate
      · exact h hhold
      · exact h hlist
      · exact hjobs h
    have hbody : enrolRemoveBody r (beginTake id r rest s) =
        (enrolAnswer .busy false bin (beginTake id r rest s), beginTake id r rest s) := by
      simp only [enrolRemoveBody, bin] at *
      rw [hclass]
      exact if_neg hkept
    obtain ⟨hreplies, hstate, -⟩ := serve_answers htakes (hremoves haction) hadmit hbody
    exact ⟨_, rfl, htook _ _ b rfl ▸ hreplies, hstate⟩

end Sys2Proof.Machine
end

section
/-! PROOF. The Auction Unit: joining, the comparing of bids, the end of the scan and of the window (R152 to R163). -/

namespace Sys2Proof.Machine

-- Checked one after another: the host bounds the memory of all threads together.
set_option Elab.async false

open Sys2Proof Sys2Proof.Safety

variable {s t u : State} {tag i : Nat} {r : Auction} {f : RxFrame}

/-! ### The lowest seen (R156, R157) -/

theorem BidPair.before_iff (a b : BidPair) :
    a.before b = true ↔ a.value < b.value ∨ (a.value = b.value ∧ a.station < b.station) := by
  simp [BidPair.before]

/-- The lowest seen once a pair has been compared with it (R157). -/
def lowerOf (lowest : Option BidPair) (p : BidPair) : Option BidPair :=
  if lowerThanSeen p lowest then some p else lowest

theorem seeBid_lowest (p : BidPair) (r : Auction) : (seeBid p r).lowest = lowerOf r.lowest p := by
  unfold seeBid lowerOf
  split <;> rfl

/-- Only the lowest seen follows a comparison. -/
theorem seeBid_eq (p : BidPair) (r : Auction) : seeBid p r = { r with lowest := (seeBid p r).lowest } := by
  unfold seeBid
  split <;> rfl

theorem foldl_seeBid_lowest (l : List BidPair) (r : Auction) :
    (l.foldl (fun r x => seeBid x r) r).lowest = l.foldl lowerOf r.lowest := by
  induction l generalizing r with
  | nil => rfl
  | cons x l ih => rw [List.foldl_cons, List.foldl_cons, ih, seeBid_lowest]

theorem lowerOf_none (p : BidPair) : lowerOf none p = some p := rfl

theorem lowerOf_some (b p : BidPair) : lowerOf (some b) p = some (if p.before b then p else b) := by
  by_cases h : p.before b = true <;> simp [lowerOf, lowerThanSeen, h]

/-- The order of bids is total: of two pairs, neither before the other, both are one. -/
theorem BidPair.eq_of_not_before {a b : BidPair} (hab : ¬ a.before b = true) (hba : ¬ b.before a = true) : a = b := by
  rw [BidPair.before_iff] at hab hba
  obtain ⟨v, n⟩ := a
  obtain ⟨w, m⟩ := b
  dsimp only at hab hba
  simp only [BidPair.mk.injEq]
  omega

/-- Two comparisons give the same lowest seen in either order. -/
theorem lowerOf_comm (o : Option BidPair) (x y : BidPair) : lowerOf (lowerOf o x) y = lowerOf (lowerOf o y) x := by
  have hpair : ∀ a b : BidPair, (if a.before b then a else b) = if b.before a then b else a := by
    intro a b
    by_cases hab : a.before b = true
    · have hba : ¬ b.before a = true := by rw [BidPair.before_iff] at hab ⊢; omega
      simp [hab, hba]
    · by_cases hba : b.before a = true
      · simp [hab, hba]
      · simp [BidPair.eq_of_not_before hab hba]
  cases o with
  | none => rw [lowerOf_none, lowerOf_none, lowerOf_some, lowerOf_some, hpair]
  | some b =>
    simp only [lowerOf_some, Option.some.injEq]
    by_cases hx : x.before b = true <;> by_cases hy : y.before b = true
    · simp only [hx, hy, if_true]
      exact hpair y x
    · have hyx : ¬ y.before x = true := by rw [BidPair.before_iff] at hx hy ⊢; omega
      simp [hx, hy, hyx]
    · have hxy : ¬ x.before y = true := by rw [BidPair.before_iff] at hx hy ⊢; omega
      simp [hx, hy, hxy]
    · simp [hx, hy]

/-- The lowest seen of a list of bids does not depend on their order. -/
theorem foldl_lowerOf_perm {p q : List BidPair} (h : p.Perm q) (o : Option BidPair) :
    p.foldl lowerOf o = q.foldl lowerOf o :=
  have : RightCommutative lowerOf := ⟨lowerOf_comm⟩
  h.foldl_eq o

/-- A pair that no bid of the list is before stays the lowest seen. -/
theorem foldl_lowerOf_some {l : List BidPair} {m : BidPair} (h : ∀ x ∈ l, ¬ x.before m = true) :
    l.foldl lowerOf (some m) = some m := by
  induction l with
  | nil => rfl
  | cons x l ih =>
    rw [List.forall_mem_cons] at h
    rw [List.foldl_cons, lowerOf_some, if_neg h.1, ih h.2]

/-- The bid that none of the list is before is the lowest seen of all. -/
theorem foldl_lowerOf_least {l : List BidPair} {m : BidPair} (hm : m ∈ l) (h : ∀ x ∈ l, ¬ x.before m = true) :
    l.foldl lowerOf none = some m := by
  rw [foldl_lowerOf_perm (List.perm_cons_erase hm), List.foldl_cons, lowerOf_none]
  exact foldl_lowerOf_some fun x hx => h x (List.mem_of_mem_erase hx)

/-- Settles O47: the comparison is right-commutative, so a permutation of the bids has the same lowest seen. -/
theorem sameBidsHaveOneWinner : Obligations.SameBidsHaveOneWinner := by
  intro p q a b hperm _ ha hb seenA seenB
  have hA : seenA.lowest = p.foldl lowerOf none := ha ▸ foldl_seeBid_lowest p a
  have hB : seenB.lowest = q.foldl lowerOf none := hb ▸ foldl_seeBid_lowest q b
  have hsame : seenA.lowest = seenB.lowest := by rw [hA, hB, foldl_lowerOf_perm hperm]
  refine ⟨hsame, fun m hm hleast => ?_, fun x y hx hy => ?_⟩
  · rw [hA]
    refine foldl_lowerOf_least hm fun x hx => ?_
    have := hleast x hx
    rw [BidPair.before_iff]
    omega
  · rw [hsame, hy] at hx
    cases hx
    rfl

/-! ### The records by room tag -/

theorem auctionOf_roomTag (h : auctionOf tag s = some r) : r.roomTag = tag := by
  simpa using List.find?_some h

/-- A change of the record of a room tag is read back. -/
theorem auctionOf_onAuction {g : Auction → Auction} (hg : ∀ r, (g r).roomTag = r.roomTag) :
    auctionOf tag (onAuction tag g s) = (auctionOf tag s).map g := by
  unfold auctionOf onAuction
  simp only [State.onAuctions_auctions]
  induction s.auctions.records with
  | nil => rfl
  | cons r l ih =>
    by_cases htag : r.roomTag = tag
    · simp [htag, hg]
    · simp only [List.map_cons, List.find?_cons, htag, if_false, decide_false]
      exact ih

theorem auctionOf_onAuction_some {g : Auction → Auction} (h : auctionOf tag s = some r)
    (hg : ∀ r, (g r).roomTag = r.roomTag) : auctionOf tag (onAuction tag g s) = some (g r) := by
  rw [auctionOf_onAuction hg, h, Option.map_some]

theorem auctionOf_eq_none_iff : auctionOf tag s = none ↔ ∀ r ∈ s.auctions.records, r.roomTag ≠ tag := by
  simp [auctionOf]

/-! ### Joining (R152 to R154) -/

theorem joinsAuction_iff {units port : Nat} :
    joinsAuction tag units port s = true ↔
      (1 ≤ tag ∧ tag ≤ 4095) ∧ (1 ≤ units ∧ units ≤ 15) ∧ (1 ≤ port ∧ port ≤ 24) ∧
        (rosterOf port s).port = true ∧ (s.ctl.station = .active ∨ s.ctl.station = .doze) ∧
        s.ctl.setup.takesReturns = true ∧ s.fire.view = 0#8 ∧ (∀ r ∈ s.auctions.records, r.roomTag ≠ tag) ∧
        s.auctions.records.length < 4 := by
  simp only [joinsAuction, isStation, Option.isNone_iff_eq_none, auctionOf_eq_none_iff, Bool.and_eq_true,
    Bool.or_eq_true, decide_eq_true_eq, and_assoc]

/-- Settles O43: the ROOM is delivered to `takeRoom`, which joins exactly under `joinsAuction`. -/
theorem roomIsJoinedOrIgnored : Obligations.RoomIsJoinedOrIgnored := by
  intro s f hstation hbus hsender hnum hdest hlen tag units port joins
  have hdeaf : deafSender f.sender.toNat = false := by rw [hsender]; rfl
  have hrun : exec (.room f) s = .next (takeRoom f (answerWith silent s)) := by
    refine congrArg _ ((receive_broadcast (offBusToo := false) hstation hdeaf (by omega) hdest hlen rfl
      (Or.inl hbus)).trans ?_)
    rw [if_pos (by rw [hsender]; rfl)]
  have hjoins : joinsAuction tag units port (answerWith silent s) = true ↔ joins := joinsAuction_iff
  by_cases hj : joins
  · have htake : takeRoom f (answerWith silent s) = joinAuction tag units port (answerWith silent s) :=
      if_pos (hjoins.2 hj)
    rw [htake] at hrun
    exact ⟨_, hrun, rfl, fun _ => ⟨_, rfl, rfl, rfl, rfl, rfl, rfl, rfl, rfl, rfl, rfl, rfl, rfl⟩, fun h => absurd hj h⟩
  · have htake : takeRoom f (answerWith silent s) = answerWith silent s := if_neg fun h => hj (hjoins.1 h)
    rw [htake] at hrun
    exact ⟨_, hrun, rfl, fun h => absurd h hj, fun _ => rfl⟩

end Sys2Proof.Machine
end

section
/-! PROOF. The own BID and the ends of the scan and of the window (R155 to R163). -/

namespace Sys2Proof.Machine

-- Checked one after another: the host bounds the memory of all threads together.
set_option Elab.async false

open Sys2Proof Sys2Proof.Safety

variable {s t u : State} {tag i : Nat} {r : Auction} {f : RxFrame}

/-! ### The own BID aborted (R158 to R160) -/

/-- The own BID returned ABORTED: the record is LOST, its hold cleared (R158). -/
theorem bidAborted_of_out (h : auctionOf tag s = some r) (hout : bidOut r = true) (hi : r.candidate = some i) :
    bidAborted tag s =
      (holdClear i (onAuction tag (fun r => { r with phase := .lost, bidReturned := true }) s)).2 := by
  simp only [bidAborted, h, hout, if_true, hi]

/-- A record whose own BID has been returned ABORTED, with a candidate or not. -/
theorem auctionOf_bidAborted (tag : Nat) (s : State) :
    auctionOf tag (bidAborted tag s) =
      (auctionOf tag s).map fun r => if bidOut r then { r with phase := .lost, bidReturned := true } else r := by
  unfold bidAborted
  cases hr : auctionOf tag s with
  | none => exact hr
  | some r =>
    dsimp only [Option.map_some]
    by_cases hout : bidOut r = true
    · have hread : auctionOf tag (onAuction tag (fun r => { r with phase := .lost, bidReturned := true }) s)
          = some { r with phase := .lost, bidReturned := true } := auctionOf_onAuction_some hr fun _ => rfl
      rw [if_pos hout, if_pos hout]
      split
      · exact hread
      · exact hread
    · rw [if_neg hout, if_neg hout, hr]

/-- The own BID waits in a slot, not yet started: the abort returns it at once (R10). -/
theorem abortBid_of_queued {id : SlotId} {q : Queued} (hclaims : ∀ c ∈ s.bus.claims, isBidOf tag c.frame = false)
    (hfind : s.bus.slots.find (fun q => isBidOf tag q.frame) = some id) (hslot : s.bus.slots.get id = .holds q)
    (hq : q.started = false) : abortBid tag s = bidAborted tag (freeSlotThen id s) := by
  have hany : s.bus.claims.any (fun c => isBidOf tag c.frame) = false := by simpa using hclaims
  simp only [abortBid, abortFrame, hany, hfind, hslot, hq, Bool.false_eq_true, if_false]

/-- The own BID has started: the abort waits on it (R10). -/
theorem abortBid_of_started {id : SlotId} {q : Queued} (hclaims : ∀ c ∈ s.bus.claims, isBidOf tag c.frame = false)
    (hfind : s.bus.slots.find (fun q => isBidOf tag q.frame) = some id) (hslot : s.bus.slots.get id = .holds q)
    (hq : q.started = true) : abortBid tag s = setSlot id (.holds { q with abortAsked := true }) s := by
  have hany : s.bus.claims.any (fun c => isBidOf tag c.frame) = false := by simpa using hclaims
  simp only [abortBid, abortFrame, hany, hfind, hslot, hq, Bool.false_eq_true, if_false, if_true]

/-- An abort leaves the auction records alone until the outcome comes. -/
theorem auctionOf_of_auctions_eq (h : t.auctions = s.auctions) : auctionOf tag t = auctionOf tag s := by
  unfold auctionOf
  rw [h]

/-- The record of an aborted BID, whatever became of the abort: only phase and mark of return change. -/
theorem auctionOf_abortBid (h : auctionOf tag s = some r) :
    auctionOf tag (abortBid tag s) = some r ∨
      auctionOf tag (abortBid tag s) = some { r with phase := .lost, bidReturned := true } := by
  have hread : auctionOf tag (abortFrame (isBidOf tag) s).2 = some r :=
    (auctionOf_of_auctions_eq (s := s) (by simp)).trans h
  unfold abortBid
  dsimp only
  split
  · rw [auctionOf_bidAborted, hread]
    by_cases hout : bidOut r = true
    · exact Or.inr (by simp [hout])
    · exact Or.inl (by simp [hout])
  · exact Or.inl hread

/-- An aborted BID touches the Bus Interface, Station Control, the Bin Table and the auctions alone. -/
theorem abortBid_frame (tag : Nat) (s : State) :
    abortBid tag s = { s with
      bus := (abortBid tag s).bus
      ctl := (abortBid tag s).ctl
      bins := (abortBid tag s).bins
      auctions := (abortBid tag s).auctions } := by
  apply State.eq_of_blocks <;> simp

/-- The frees of a slot leave the Bin Table alone, so the abort of a queued BID clears the hold it had (R158). -/
theorem bins_abortBid_of_queued {id : SlotId} {q : Queued} (h : auctionOf tag s = some r) (hout : bidOut r = true)
    (hi : r.candidate = some i) (hclaims : ∀ c ∈ s.bus.claims, isBidOf tag c.frame = false)
    (hfind : s.bus.slots.find (fun q => isBidOf tag q.frame) = some id) (hslot : s.bus.slots.get id = .holds q)
    (hq : q.started = false) :
    auctionOf tag (abortBid tag s) = some { r with phase := .lost, bidReturned := true } ∧
      (abortBid tag s).bins = tablePut BinRec.blank s.bins i { binAt i s with hold := 0 } := by
  rw [abortBid_of_queued hclaims hfind hslot hq]
  have hread : auctionOf tag (freeSlotThen id s) = some r := (auctionOf_of_auctions_eq (s := s) (by simp)).trans h
  constructor
  · rw [auctionOf_bidAborted, hread]
    simp [hout]
  · rw [bidAborted_of_out hread hout hi, holdClear_snd]
    simp [putBin, binAt]

/-! ### BID and bid close (R157, R159, R160) -/

/-- A BID received, at the record of its tag (R157, R159). -/
theorem takeBid_of_record (h : auctionOf (wordAt f.payload 0) s = some r) :
    let tag := wordAt f.payload 0
    let pair : BidPair := { value := f.param.toNat, station := f.sender.toNat }
    let seen := onAuction tag (seeBid pair) s
    auctionOf tag seen = some { r with lowest := lowerOf r.lowest pair } ∧
      takeBid f s = match r.own with
        | some v => if bidOut r && pair.before { value := v, station := s.num } then abortBid tag seen else seen
        | none => seen := by
  intro tag pair seen
  constructor
  · have hg : ∀ r : Auction, (seeBid pair r).roomTag = r.roomTag := fun r => by rw [seeBid_eq]
    rw [auctionOf_onAuction hg, h, Option.map_some, seeBid_eq, seeBid_lowest]
  · simp only [takeBid]
    rw [h]
    rfl

/-- The lowest seen after a BID, as the statement writes it. -/
theorem lowerOf_eq (o : Option BidPair) (value station : Nat) :
    lowerOf o ⟨value, station⟩ = (match o with
      | none => some ⟨value, station⟩
      | some b => if value < b.value ∨ (value = b.value ∧ station < b.station) then some ⟨value, station⟩ else some b) := by
  cases o with
  | none => rfl
  | some b =>
    rw [lowerOf_some]
    simp only [BidPair.before_iff]
    split <;> rfl

/-- The abort of a BID, or none: either way the auctions, the Bin Table and the bus alone may change. -/
theorem takeBid_frame (f : RxFrame) (s : State) :
    takeBid f s = { s with
      bus := (takeBid f s).bus
      ctl := (takeBid f s).ctl
      bins := (takeBid f s).bins
      auctions := (takeBid f s).auctions } := by
  cases hr : auctionOf (wordAt f.payload 0) s with
  | none =>
    have hnone : takeBid f s = s := by simp only [takeBid]; rw [hr]
    rw [hnone]
  | some r =>
    rw [(takeBid_of_record hr).2]
    split
    · split
      · exact abortBid_frame ..
      · rfl
    · rfl

/-- Settles O44: the record by `takeBid_of_record`, the abort by whether the own BID has started. -/
theorem bidsAreComparedUntilTheClose : Obligations.BidsAreComparedUntilTheClose := by
  constructor
  · intro s f hstation hfrom hsender hdest hlen tag value lower
    have hrun : exec (.bid f) s = .next (takeBid f (answerWith silent s)) := by
      refine congrArg _ ((receive_broadcast (offBusToo := true) hstation (deafSender_of_isStation hfrom) hsender hdest hlen
        rfl (Or.inr rfl)).trans ?_)
      rw [if_pos hfrom]
    refine ⟨_, hrun, takeBid_frame f _, fun hnone => ?_, fun r hr => ⟨?_, ?_⟩⟩
    · have hread : auctionOf (wordAt f.payload 0) (answerWith silent s) = none := hnone
      simp only [takeBid]
      rw [hread]
      rfl
    · obtain ⟨hseen, htake⟩ := takeBid_of_record (s := answerWith silent s) (f := f) hr
      rw [htake]
      split
      · split
        · rcases auctionOf_abortBid hseen with habort | habort
          · exact ⟨_, habort, rfl, rfl, lowerOf_eq ..⟩
          · exact ⟨_, habort, rfl, rfl, lowerOf_eq ..⟩
        · exact ⟨_, hseen, rfl, rfl, lowerOf_eq ..⟩
      · exact ⟨_, hseen, rfl, rfl, lowerOf_eq ..⟩
    · intro v i id q hphase hreturned hown hi hlower hclaims hfind hslot
      obtain ⟨hseen, htake⟩ := takeBid_of_record (s := answerWith silent s) (f := f) hr
      have hout : bidOut r = true := by simp [bidOut, hphase, hreturned]
      have hbeaten : (BidPair.before ⟨f.param.toNat, f.sender.toNat⟩ ⟨v, s.num⟩) = true := (BidPair.before_iff ..).2 hlower
      have habort : takeBid f (answerWith silent s) =
          abortBid tag (onAuction tag (seeBid ⟨f.param.toNat, f.sender.toNat⟩) (answerWith silent s)) := by
        rw [htake, hown]
        exact if_pos (by rw [Bool.and_eq_true]; exact ⟨hout, hbeaten⟩)
      rw [habort]
      constructor
      · intro hq
        obtain ⟨hlost, hbins⟩ := bins_abortBid_of_queued hseen hout hi hclaims hfind hslot hq
        exact ⟨⟨_, hlost, rfl⟩, hbins⟩
      · intro hq
        rw [abortBid_of_started (s := onAuction tag _ (answerWith silent s)) hclaims hfind hslot hq]
        exact ⟨⟨_, hseen, hphase⟩, rfl, Slots.get_set ..⟩
  · intro s tag r hr
    by_cases hclosed : r.closed = true
    · have hrun : exec (.bidClose tag) s = .next s := by
        simp only [exec, execBidClose, hr, hclosed, if_true]
      have hsame : ({ r with closeLimit := none } : Auction) = r := by
        rw [← Option.isNone_iff_eq_none.1 hclosed]
      refine ⟨s, hrun, rfl, fun _ => ⟨hsame ▸ hr, rfl, rfl, rfl⟩, fun _ => rfl, fun i id q hopen => ?_⟩
      rw [hopen] at hclosed
      cases hclosed
    · have hrun : exec (.bidClose tag) s = .next (if bidOut r
          then abortBid tag (onAuction tag (fun r => { r with closeLimit := none }) s)
          else onAuction tag (fun r => { r with closeLimit := none }) s) := by
        simp only [exec, execBidClose, hr, hclosed, Bool.false_eq_true, if_false]
      have hread : auctionOf tag (onAuction tag (fun r => { r with closeLimit := none }) s)
          = some { r with closeLimit := none } := auctionOf_onAuction_some hr fun _ => rfl
      refine ⟨_, hrun, ?_, fun hnot => ?_, fun h => absurd h hclosed,
        fun i id q _ hphase hreturned hi hclaims hfind hslot hq => ?_⟩
      · split
        · exact abortBid_frame ..
        · rfl
      · have hin : bidOut r = false := by
          rcases hnot with h | h <;> simp [bidOut, h]
        rw [if_neg (by rw [hin]; exact Bool.false_ne_true)]
        exact ⟨hread, rfl, rfl, rfl⟩
      · have hout : bidOut r = true := by simp [bidOut, hphase, hreturned]
        rw [if_pos hout]
        exact bins_abortBid_of_queued hread hout hi hclaims hfind hslot hq

end Sys2Proof.Machine
end

section
/-! PROOF. The ends of the scan and of the window, and the home visit (R59, R60, R155, R156, R161, R163). -/

namespace Sys2Proof.Machine

-- Checked one after another: the host bounds the memory of all threads together.
set_option Elab.async false

open Sys2Proof Sys2Proof.Safety

variable {s t u : State} {tag i : Nat} {r : Auction} {v w : Valued} {c : Carry} {b : BinRec}

/-! ### The scan's end (R155, R156) -/

/-- No bin stands (R156). -/
theorem goQuiet_result (h : auctionOf tag s = some r) :
    (∃ u, auctionOf tag (goQuiet tag s) = some u ∧ u.phase = .quiet) ∧ (goQuiet tag s).bins = s.bins ∧
      (goQuiet tag s).bus = s.bus :=
  ⟨⟨_, auctionOf_onAuction_some h fun _ => rfl, rfl⟩, rfl, rfl⟩

/-- A bin takes the hold: no RETRIEVE for it, STORED, without a hold, and with room for the units (R63, R156). -/
def TakesHold (s : State) (units : Nat) (v : Valued) : Prop :=
  hasRetrieve v.index s = false ∧ (binAt v.index s).state = .stored ∧ (binAt v.index s).hold = 0 ∧
    (binAt v.index s).fill + units ≤ 15

theorem recheck_of_takesHold (h : TakesHold s r.units v) :
    recheck r v s = (true, putBin v.index { binAt v.index s with hold := r.units } s) := by
  obtain ⟨hretrieve, hstate, hhold, hfill⟩ := h
  rw [recheck, if_neg (by simp [hretrieve])]
  exact holdSet_of_free ⟨hstate, hhold, hfill⟩

theorem recheck_of_not_takesHold (h : ¬ TakesHold s r.units v) : recheck r v s = (false, s) := by
  unfold recheck
  split
  next => rfl
  next hretrieve =>
    exact holdSet_refused fun hfree => h ⟨by simpa using hretrieve, hfree.1, hfree.2.1, hfree.2.2⟩

/-- A bin that stands: its record BIDs with it, and the BID takes the free slot (R156). -/
theorem standBid_result {id : SlotId} (h : auctionOf tag s = some r) (hbus : s.bus.offBus = false)
    (hslot : s.bus.slots.freeSlot = some id) :
    (∃ u, auctionOf tag (standBid tag v s) = some u ∧ u.phase = .bidding ∧ u.candidate = some v.index ∧
        u.own = some v.value) ∧
      (standBid tag v s).bins = s.bins ∧
      (standBid tag v s).bus.slots = s.bus.slots.set id (.holds (newQueued (.bid tag v.value) s.bus.order)) := by
  have hstand : standBid tag v s = placeFrame id (.bid tag v.value)
      (onAuction tag (fun r => { r with candidate := some v.index, own := some v.value, phase := .bidding }) s) := by
    simp [standBid, queueFrame, hbus, hslot]
  rw [hstand]
  exact ⟨⟨_, auctionOf_onAuction_some (s := s) h fun _ => rfl, rfl, rfl, rfl⟩, rfl, rfl⟩

/-- Step 2 of R156, as the statement says it. -/
theorem beatsSeen_iff :
    beatsSeen r v s = true ↔
      ∀ b, r.lowest = some b → v.value < b.value ∨ (v.value = b.value ∧ s.num < b.station) := by
  unfold beatsSeen lowerThanSeen
  cases r.lowest with
  | none => simp
  | some b => simp [BidPair.before_iff]

/-- The bin chosen of a ranking that is not empty, for a record that may still bid (R156). -/
theorem chooseBid_cons {more : List Valued} (hvoid : r.voidMark = false) (hopen : r.closed = false) :
    (beatsSeen r v s = true → TakesHold s r.units v →
      chooseBid r (v :: more) s = standBid r.roomTag v (putBin v.index { binAt v.index s with hold := r.units } s)) ∧
    (¬ beatsSeen r v s = true → chooseBid r (v :: more) s = goQuiet r.roomTag s) ∧
    (beatsSeen r v s = true → ¬ TakesHold s r.units v → ∀ w rest, more = w :: rest → beatsSeen r w s = true →
      TakesHold s r.units w →
      chooseBid r (v :: more) s = standBid r.roomTag w (putBin w.index { binAt w.index s with hold := r.units } s)) ∧
    (beatsSeen r v s = true → ¬ TakesHold s r.units v → more = [] →
      chooseBid r (v :: more) s = goQuiet r.roomTag s) := by
  refine ⟨fun hbeats hholds => ?_, fun hbeats => ?_, fun hbeats hholds w rest hmore hnext hnextHolds => ?_,
    fun hbeats hholds hmore => ?_⟩
  · simp [chooseBid, hvoid, hopen, hbeats, recheck_of_takesHold hholds]
  · simp [chooseBid, hbeats]
  · simp [chooseBid, hvoid, hopen, hbeats, hmore, recheck_of_not_takesHold hholds, hnext,
      recheck_of_takesHold hnextHolds]
  · simp [chooseBid, hvoid, hopen, hbeats, hmore, recheck_of_not_takesHold hholds]

/-- The record with the scan's remaining reads made (R155). -/
def scanned (r : Auction) (s : State) : Auction :=
  { r with noted := r.noted ++ scanRange r.units r.nextRead 2048 s, nextRead := 2048 }

theorem auctionOf_readRest (h : auctionOf tag s = some r) : auctionOf tag (readRest tag s) = some (scanned r s) :=
  auctionOf_onAuction_some h fun _ => rfl

theorem execScanEnd_of_scanning (h : auctionOf tag s = some r) (hphase : r.phase = .scanning) :
    exec (.scanEnd tag) s =
      .next (chooseBid (scanned r s) (scanRanking (scanned r s) s) (readRest tag s)) := by
  simp only [exec, execScanEnd, h, hphase, if_true, scanEnds, auctionOf_readRest h]
  rfl

theorem chooseBid_frame (r : Auction) (ranked : List Valued) (s : State) :
    chooseBid r ranked s = { s with
      bus := (chooseBid r ranked s).bus
      bins := (chooseBid r ranked s).bins
      auctions := (chooseBid r ranked s).auctions } := by
  apply State.eq_of_blocks <;> simp

/-- Settles O45: the ranking is walked by `chooseBid_cons`, and each end has its own result lemma. -/
theorem scanEndBidsOrGoesQuiet : Obligations.ScanEndBidsOrGoesQuiet := by
  intro s tag r id hr hphase hbus hslot noted ranked beats takesHold bids quiet
  have htag : (scanned r s).roomTag = tag := (auctionOf_roomTag hr : r.roomTag = tag)
  have hread := auctionOf_readRest hr
  have hranked : scanRanking (scanned r s) s = ranked := rfl
  have hquiet : quiet (goQuiet (scanned r s).roomTag (readRest tag s)) := by
    rw [htag]
    exact goQuiet_result hread
  have hbids : ∀ v, bids (standBid (scanned r s).roomTag v
      (putBin v.index { binAt v.index s with hold := r.units } (readRest tag s))) v := by
    intro v
    rw [htag]
    exact standBid_result hread hbus hslot
  have hbeats : ∀ v, beatsSeen (scanned r s) v (readRest tag s) = true ↔ beats v := fun v => beatsSeen_iff
  refine ⟨_, execScanEnd_of_scanning hr hphase, chooseBid_frame .., fun hnone => ?_,
    fun hvoid hopen v more hmore => ?_⟩
  · rw [hranked]
    cases hlist : ranked with
    | nil => exact hquiet
    | cons v more =>
      have hvoid : r.voidMark = true := hnone.resolve_right (by rw [hlist]; exact List.cons_ne_nil _ _)
      have hchoose : chooseBid (scanned r s) (v :: more) (readRest tag s) = goQuiet (scanned r s).roomTag (readRest tag s) := by
        simp [chooseBid, scanned, hvoid]
      rw [hchoose]
      exact hquiet
  · obtain ⟨hfirst, hbeaten, hnext, hlast⟩ :=
      chooseBid_cons (r := scanned r s) (v := v) (more := more) (s := readRest tag s) hvoid hopen
    rw [hranked, hmore]
    refine ⟨fun hv hholds => ?_, fun hv => ?_, fun hv hholds w rest hw hwbeats hwholds => ?_, fun hv hholds hempty => ?_⟩
    · exact hfirst ((hbeats v).2 hv) hholds ▸ hbids v
    · exact hbeaten (fun h => hv ((hbeats v).1 h)) ▸ hquiet
    · exact hnext ((hbeats v).2 hv) hholds w rest hw ((hbeats w).2 hwbeats) hwholds ▸ hbids w
    · exact hlast ((hbeats v).2 hv) hholds hempty ▸ hquiet

/-! ### The window's end (R161, R163) -/

theorem ownLowest_iff : ownLowest r s = true ↔ ∃ v, r.own = some v ∧ r.lowest = some ⟨v, s.num⟩ := by
  unfold ownLowest
  cases hown : r.own with
  | none => simp
  | some v =>
    cases hlow : r.lowest with
    | none => simp
    | some p => simp

theorem wakeCause_of_not_doze (h : s.ctl.station ≠ .doze) : wakeCause s = s := if_neg h

theorem fillFailsAtOnce_iff :
    fillFailsAtOnce i s = true ↔
      s.ctl.station = .shutdown ∨ s.ctl.station = .recovery ∨ s.crane.state = .faulted ∨ s.crane.state = .stopped
        ∨ (binAt i s).state = .lost ∨ (binAt i s).hold = 0 := by
  simp [fillFailsAtOnce, or_assoc]

/-- A RETRIEVE for a bin without one enters a pool with room (R69). -/
theorem offerJob_retrieve_of_room {j : Job} (hkind : j.kind = .retrieve) (hnone : retrieveFor j.bin s = none)
    (hcount : nonStoreCount s.crane.pool < 31) (hroom : s.crane.pool.length < 32) :
    offerJob j s = (.entered, s.onCrane fun k => { k with
      pool := k.pool ++ [{ j with stamp := s.est.time, est := estOf s.ctl.setup j }] }) := by
  have hadmit : poolAdmits .retrieve s = true := by simp [poolAdmits, hcount, hroom]
  simp only [offerJob, hkind, if_true, hnone, hadmit, enterJob]

/-- Settles O46: the record is freed, and `decideAuction` splits by the candidate and the own pair. -/
theorem windowEndDecidesTheAuction : Obligations.WindowEndDecidesTheAuction := by
  intro s tag r hr others freed own
  have hfreed : freeAuction tag s = freed := rfl
  have hown : ownLowest r freed = true ↔ own := ownLowest_iff
  have hrun : r.phase = .bidding → exec (.windowEnd tag) s = .next (decideAuction r freed) := by
    intro hphase
    simp only [exec, execWindowEnd, hr, hphase, if_true, hfreed]
  have hwon : ∀ i v, r.phase = .bidding → r.candidate = some i → r.voidMark = false → r.own = some v →
      r.lowest = some ⟨v, s.num⟩ → r.roomTag = tag →
      exec (.windowEnd tag) s = .next (fillCall tag r.port i v freed) := by
    intro i v hphase hi hvoid hv hlow htag
    have hwins : (!r.voidMark && ownLowest r freed) = true := by
      rw [hvoid, hown.2 ⟨v, hv, hlow⟩]
      rfl
    rw [hrun hphase]
    simp only [decideAuction, hi, hwins, if_true, htag, hv, Option.getD_some]
  refine ⟨fun hphase => ?_, fun i hphase hi hlost => ?_, ?_,
    fun i v hphase hi hvoid hv hlow htag hfails => ?_⟩
  · simp only [exec, execWindowEnd, hr, hphase, if_false, hfreed]
  · have hloses : ¬ (!r.voidMark && ownLowest r freed) = true := by
      rw [Bool.and_eq_true, hown]
      rintro ⟨hvoid, h⟩
      rcases hlost with hv | hn
      · rw [hv] at hvoid
        cases hvoid
      · exact hn h
    rw [hrun hphase]
    simp only [decideAuction, hi, if_neg hloses]
    rfl
  · intro i v hphase hi hvoid hv hlow hactive hidle hfault hstop hstored hhold hretrieve hcount hroom job htag
    rw [hwon i v hphase hi hvoid hv hlow htag]
    have hgoes : ¬ fillFailsAtOnce i (raise (.won tag i v) freed) = true := by
      rw [fillFailsAtOnce_iff]
      simp [binAt] at hstored hhold ⊢
      simp [freed, hactive, hfault, hstop, hstored, hhold]
    have hnone : retrieveFor (ownBin i (raise (.won tag i v) freed)) (raise (.won tag i v) freed) = none := by
      have hnum : (raise (.won tag i v) freed).num = s.num := by simp [State.num, freed]
      have hpool : (raise (.won tag i v) freed).crane.pool = s.crane.pool := by simp [freed]
      rw [hasRetrieve, Option.isSome_eq_false_iff, Option.isNone_iff_eq_none] at hretrieve
      unfold retrieveFor ownBin at *
      rw [hnum, hpool]
      exact hretrieve
    have hoffer := offerJob_retrieve_of_room (s := raise (.won tag i v) freed)
      (j := retrieveJob (ownBin i (raise (.won tag i v) freed)) tag r.port .fill 1) rfl hnone
      (by simpa [freed] using hcount) (by simpa [freed] using hroom)
    have hbusy : ∀ u : State, u.ctl.station = .active → u.crane.state ≠ .idle → dispatch (wakeCause u) = u := by
      intro u hu hidle
      rw [wakeCause_of_not_doze (by rw [hu]; decide), dispatch_of_not_idle hidle]
    rw [fillCall]
    dsimp only
    rw [if_neg hgoes, hoffer]
    dsimp only
    rw [hbusy _ (by simp [freed, hactive]) (by simp [freed, hidle])]
    simp [State.onCrane, freed, ownBin, State.num, job]
  · rw [hwon i v hphase hi hvoid hv hlow htag]
    have hgone : fillFailsAtOnce i (raise (.won tag i v) freed) = true := by
      rw [fillFailsAtOnce_iff]
      simpa [binAt, freed] using hfails
    rw [fillCall]
    dsimp only
    rw [if_pos hgone, failFill, holdClear_snd]
    simp [putBin, State.onBins, binAt, freed]

end Sys2Proof.Machine
end

section
/-! PROOF. The home visit, the estimates, and the dispatch (R59, R60, R80 to R82, R95 to R98, R104 to R108). -/

namespace Sys2Proof.Machine

-- Checked one after another: the host bounds the memory of all threads together.
set_option Elab.async false

open Sys2Proof Sys2Proof.Safety

variable {s t u : State} {i n : Nat} {c : Carry} {b r : BinRec} {j : Job}

/-! ### The home visit (R59, R60) -/

/-- The record and the carry record that steps 2 to 5 of R60 work on. -/
def visited (num : Nat) (b : BinRec) (c : Carry) : BinRec × Carry :=
  visitNext num { b with fill := visitFill b c, hold := visitHold b c } { c with delta := 0, filled := false }

/-- Steps 2 to 5 of the home visit: the carry record, the record written, and what else may change. -/
theorem visitSteps_eq (i : Nat) (b : BinRec) (c : Carry) (s : State) :
    (visitSteps i b c s).1 = (visited s.num b c).2 ∧
      (visitSteps i b c s).2.bins = (putBin i (visited s.num b c).1 s).bins ∧
      (visitSteps i b c s).2 = { s with
        bus := (visitSteps i b c s).2.bus, ctl := (visitSteps i b c s).2.ctl, bins := (visitSteps i b c s).2.bins } := by
  refine ⟨?_, ?_, ?_⟩
  · unfold visitSteps visited visitHold
    dsimp only
    split <;> split <;> simp [State.num]
  · unfold visitSteps visited visitHold putBin
    dsimp only
    split <;> split <;> simp [State.num]
  · apply State.eq_of_blocks <;> simp

theorem visitNext_state (num : Nat) (b : BinRec) (c : Carry) : (visitNext num b c).1.state = b.state := by
  unfold visitNext
  split
  · rfl
  · split <;> rfl

theorem visited_state (num : Nat) (b : BinRec) (c : Carry) : (visited num b c).1.state = b.state := visitNext_state ..

theorem visitNext_kept (num : Nat) (b : BinRec) (c : Carry) :
    (visitNext num b c).1.fill = b.fill ∧ (visitNext num b c).1.hold = b.hold ∧ (visitNext num b c).2.bin = c.bin ∧
      (visitNext num b c).2.delta = c.delta ∧ (visitNext num b c).2.filled = c.filled := by
  unfold visitNext
  split
  · exact ⟨rfl, rfl, rfl, rfl, rfl⟩
  · split <;> exact ⟨rfl, rfl, rfl, rfl, rfl⟩

theorem visited_kept (num : Nat) (b : BinRec) (c : Carry) :
    (visited num b c).1.fill = visitFill b c ∧ (visited num b c).1.hold = visitHold b c ∧
      (visited num b c).2.bin = c.bin ∧ (visited num b c).2.delta = 0 ∧ (visited num b c).2.filled = false :=
  visitNext_kept ..

/-- A bin bound for a port keeps its destination (R60 step 4). -/
theorem visited_of_port {num : Nat} (h : c.kind = .port) :
    visited num b c = ({ b with fill := visitFill b c, hold := visitHold b c }, { c with delta := 0, filled := false }) :=
  if_pos h

theorem unservedFill_iff :
    unservedFill b c = true ↔ c.kind = .home ∧ c.filled = false ∧ ∃ k, b.call = some k ∧ k.purpose = .fill := by
  unfold unservedFill
  cases b.call <;> simp [and_assoc]

/-- The fill, clamped against the hold that remains (R60 step 2). -/
theorem visitFill_eq (b : BinRec) (c : Carry) :
    ((visitFill b c : Nat) : Int) = max 0 (min (15 - (visitHold b c : Int)) ((b.fill : Int) + c.delta)) := by
  unfold visitFill clampInt
  omega

theorem validIndex_of_own {bin : Nat} (h : idIsOwn s bin) : validIndex s.ctl.straps (indexOf bin) = true := by
  have hown := (classify_eq_own_iff bin).2 h
  unfold classify at hown
  split at hown
  · cases hown
  · split at hown
    · cases hown
    · split at hown
      next hvalid => exact hvalid
      next => cases hown

theorem BinRec.with_state_self {x : BinState} (h : b.state = x) : ({ b with state := x } : BinRec) = b := by rw [← h]

/-- The home visit of an own bin that R60 visits: the record it is visited with, and the notice that comes first. -/
theorem homeVisit_of_visits (hown : idIsOwn s c.bin)
    (hstate : (binAt (indexOf c.bin) s).state ≠ .lifting ∧ (binAt (indexOf c.bin) s).state ≠ .storing) :
    ∃ b v, b.state = .out ∧
      ((binAt (indexOf c.bin) s).state = .out ∨ (binAt (indexOf c.bin) s).state = .lost →
        b = { binAt (indexOf c.bin) s with state := .out }) ∧
      v.bins = s.bins ∧ v.num = s.num ∧ v = { s with bus := v.bus, ctl := v.ctl } ∧
      homeVisit c s = (some ⟨(visitSteps (indexOf c.bin) b c v).1, .out⟩, (visitSteps (indexOf c.bin) b c v).2) := by
  have hvalid := validIndex_of_own hown
  have hraised : ∀ n, (raise n s).bins = s.bins ∧ (raise n s).num = s.num ∧
      raise n s = { s with bus := (raise n s).bus, ctl := (raise n s).ctl } :=
    fun n => ⟨by simp, by simp [State.num], raise_eq_onBus_onCtl n s⟩
  unfold homeVisit
  simp only [hvalid, Bool.not_true, Bool.false_eq_true, if_false]
  cases hb : (binAt (indexOf c.bin) s).state with
  | absent => exact ⟨{ BinRec.blank with state := .out }, raise _ s, rfl, by simp, (hraised _).1, (hraised _).2.1, (hraised _).2.2, rfl⟩
  | stored => exact ⟨{ binAt (indexOf c.bin) s with state := .out }, raise _ s, rfl, by simp, (hraised _).1, (hraised _).2.1, (hraised _).2.2, rfl⟩
  | lifting => exact absurd hb hstate.1
  | storing => exact absurd hb hstate.2
  | lost => exact ⟨{ binAt (indexOf c.bin) s with state := .out }, raise _ s, rfl, fun _ => rfl, (hraised _).1, (hraised _).2.1, (hraised _).2.2, rfl⟩
  | out => exact ⟨binAt (indexOf c.bin) s, s, hb, fun _ => (BinRec.with_state_self hb).symm, rfl, rfl, rfl, rfl⟩

/-- What a home visit leaves in the Bin Table. -/
theorem binAt_visitSteps {v : State} (hwf : BinsWf s) (hbins : v.bins = s.bins) (hnum : v.num = s.num) :
    binAt i (visitSteps i b c v).2 = (visited s.num b c).1 ∧ ∀ k, k ≠ i → binAt k (visitSteps i b c v).2 = binAt k s := by
  obtain ⟨-, hput, -⟩ := visitSteps_eq i b c v
  have hsteps : (visitSteps i b c v).2.bins = (putBin i (visited s.num b c).1 s).bins := by
    rw [hput, hnum]
    unfold putBin
    simp [hbins]
  unfold binAt
  rw [hsteps]
  exact ⟨binAt_putBin hwf i _, fun k hk => binAt_putBin_other hwf hk _⟩

/-- Settles O21: every visit is `visitSteps` on one record, whose result `visited` gives. -/
theorem homeVisitRewritesTheCarry : Obligations.HomeVisitRewritesTheCarry := by
  constructor
  · intro c s hown hwf i b hout unserved
    obtain ⟨b', v, -, hb', hbins, hnum, hv, hvisit⟩ := homeVisit_of_visits hown (by
      change b.state ≠ _ ∧ b.state ≠ _
      rw [hout]
      decide)
    obtain rfl : b' = b := (hb' (Or.inl hout)).trans (BinRec.with_state_self hout)
    obtain ⟨hcarry, -, hframe⟩ := visitSteps_eq i b c v
    obtain ⟨hsame, hother⟩ := binAt_visitSteps (i := i) (b := b) (c := c) hwf hbins hnum
    obtain ⟨hfill, hhold, hbin, hdelta, hfilled⟩ := visited_kept s.num b c
    rw [hnum] at hcarry
    have hunserved : unservedFill b c = true ↔ unserved := unservedFill_iff
    refine ⟨(visited s.num b c).2, (visitSteps i b c v).2, hvisit.trans (by rw [← hcarry]; rfl), ?_, hbin, hdelta, hfilled, ?_⟩
    · rw [hsame, visited_state, hout]
    rw [hsame, hhold, hfill]
    refine ⟨fun h => ?_, fun hempty hserved => ?_, visitFill_eq b c, fun hport => ?_, fun hhome e l hlist => ?_,
      fun hhome hlist => ?_, hother, ?_⟩
    · unfold visitHold
      rw [if_pos]
      rw [Bool.or_eq_true, hunserved]
      exact h
    · unfold visitHold
      rw [if_neg]
      rw [Bool.or_eq_true, hunserved, hempty]
      exact fun h => h.elim (fun h => by cases h) hserved
    · rw [visited_of_port hport]
      exact ⟨rfl, hport, rfl, rfl, rfl, rfl, rfl⟩
    · simp [visited, visitNext, hhome, hlist]
    · simp [visited, visitNext, hhome, hlist, boundHome]
    · rw [hframe, hv]
  · intro c s hown hwf i b v
    refine ⟨fun hstate => ?_, fun hstate => ?_, fun hlost hport hdelta hfilled hfits => ?_⟩
    · have hvalid := validIndex_of_own hown
      have hvisit : v = homeVisit c s := rfl
      unfold homeVisit at hvisit
      simp only [hvalid, Bool.not_true, Bool.false_eq_true, if_false] at hvisit
      rcases hstate with h | h
      · have hb : (binAt (indexOf c.bin) s).state = .lifting := h
        rw [hb] at hvisit
        rw [hvisit, h]
        exact ⟨rfl, by simp⟩
      · have hb : (binAt (indexOf c.bin) s).state = .storing := h
        rw [hb] at hvisit
        rw [hvisit, h]
        exact ⟨rfl, by simp⟩
    · obtain ⟨b', u, hout, -, hbins, hnum, -, hvisit⟩ := homeVisit_of_visits hown (by
        change b.state ≠ _ ∧ b.state ≠ _
        rcases hstate with h | h | h | h <;> rw [h] <;> decide)
      have hv : v = _ := hvisit
      rw [hv]
      have hsame := (binAt_visitSteps (i := i) (b := b') (c := c) hwf hbins hnum).1
      refine ⟨?_, _, rfl⟩
      exact (congrArg BinRec.state hsame).trans ((visited_state ..).trans hout)
    · obtain ⟨b', u, -, hb', hbins, hnum, -, hvisit⟩ := homeVisit_of_visits hown (by
        change b.state ≠ _ ∧ b.state ≠ _
        rw [hlost]
        decide)
      have hv : v = _ := hvisit
      have hsame := (binAt_visitSteps (i := i) (b := b') (c := c) hwf hbins hnum).1
      have hkeptHold : visitHold { b with state := .out } c = b.hold := by
        simp [visitHold, unservedFill, hport, hfilled]
      have hkeptFill : visitFill { b with state := .out } c = b.fill := by
        have := visitFill_eq { b with state := .out } c
        rw [hkeptHold, hdelta] at this
        dsimp only at this
        omega
      rw [hv]
      refine hsame.trans ?_
      have hb : b' = { b with state := .out } := hb' (Or.inr hlost)
      rw [hb, visited_of_port hport, hkeptFill, hkeptHold]

/-! ### Estimates (R95 to R98, R107, R108) -/

/-- An axis time within the limit is not saturated (R95). -/
theorem axisTime_eq {ramp pitch x y : Nat} (h : ramp + distance x y * pitch ≤ 65535) :
    axisTime ramp pitch (distance x y) = if x = y then 0 else ramp + (max x y - min x y) * pitch := by
  have hdistance : distance x y = max x y - min x y := by unfold distance; omega
  have hzero : distance x y = 0 ↔ x = y := by unfold distance; omega
  rw [axisTime, satTime_eq_min, Nat.min_eq_left h]
  simp only [hzero]
  rw [hdistance]

theorem distance_comm (x y : Nat) : distance x y = distance y x := by unfold distance; omega

theorem moveTime_comm (u : Setup) (a b : Position) : moveTime u a b = moveTime u b a := by
  simp only [moveTime, eq_comm (a := a), distance_comm a.column, distance_comm a.level]

/-- The move time of a station within its setup ranges, which never saturates (R34, R96). -/
theorem moveTime_eq {u : Setup} {a b : Position} (hhp : u.hPitch ≤ 255) (hvp : u.vPitch ≤ 255) (hhr : u.hRamp ≤ 2550)
    (hvr : u.vRamp ≤ 2550) (hs : u.settle ≤ 2550) (hac : a.column ≤ 64) (hbc : b.column ≤ 64) (hal : a.level ≤ 15)
    (hbl : b.level ≤ 15) (hab : a ≠ b) :
    let axis := fun (ramp pitch x y : Nat) => if x = y then 0 else ramp + (max x y - min x y) * pitch
    moveTime u a b =
        max (axis u.hRamp u.hPitch a.column b.column) (axis u.vRamp u.vPitch a.level b.level) + u.settle ∧
      moveTime u a b ≤ 21420 := by
  intro axis
  have hcolumn : distance a.column b.column * u.hPitch ≤ 64 * 255 := Nat.mul_le_mul (by unfold distance; omega) hhp
  have hlevel : distance a.level b.level * u.vPitch ≤ 15 * 255 := Nat.mul_le_mul (by unfold distance; omega) hvp
  have hx := axisTime_eq (ramp := u.hRamp) (pitch := u.hPitch) (x := a.column) (y := b.column) (by omega)
  have hy := axisTime_eq (ramp := u.vRamp) (pitch := u.vPitch) (x := a.level) (y := b.level) (by omega)
  have hxle : axisTime u.hRamp u.hPitch (distance a.column b.column) ≤ u.hRamp + distance a.column b.column * u.hPitch := by
    unfold axisTime
    split
    · exact Nat.zero_le _
    · exact Nat.min_le_left ..
  have hyle : axisTime u.vRamp u.vPitch (distance a.level b.level) ≤ u.vRamp + distance a.level b.level * u.vPitch := by
    unfold axisTime
    split
    · exact Nat.zero_le _
    · exact Nat.min_le_left ..
  rw [moveTime, if_neg hab, satTime_eq_min, Nat.min_eq_left (by omega)]
  exact ⟨by rw [hx, hy], by omega⟩

/-- The cycle estimate of each kind, as one saturated sum (R97). -/
theorem cycleEstimate_eq (u : Setup) (p : Position) (j : Job) :
    let location := positionOf (indexOf j.bin)
    cycleEstimate u p j = min 65535 (match j.kind with
      | .retrieve => moveTime u p location + u.fork + moveTime u location .mouth + u.fork
      | .store => moveTime u p .mouth + u.fork + moveTime u .mouth location + u.fork
      | .restore .rack => moveTime u p location + u.fork
      | .restore .outStand => moveTime u p .mouth + u.fork
      | .audit => moveTime u p (positionOf j.nextIndex) + u.fork) := by
  intro location
  unfold cycleEstimate
  cases j.kind with
  | retrieve => simp only [satTime_eq_min, location]; omega
  | store => simp only [satTime_eq_min, location]; omega
  | restore target =>
    cases target with
    | rack => simp only [satTime_eq_min, Nat.min_comm, location]
    | outStand => simp only [satTime_eq_min, Nat.min_comm]
  | audit => simp only [satTime_eq_min, Nat.min_comm]

theorem rawTime_eq (u : Setup) (pool : List Job) (top n index port : Nat) :
    rawTime u pool top n index port = min 65535 (estOf u (retrieveJob index 0 0 .noPurpose 0)
      + (entryLane u top n port).transit + (pool.map Job.est).sum) := by
  simp only [rawTime, backlog, satTime_eq_min]
  omega

/-- The order of the ranking (R108). -/
def Valued.NotAfter (a b : Valued) : Prop := a.value < b.value ∨ (a.value = b.value ∧ a.index ≤ b.index)

theorem perm_rankInsert (a : Valued) (l : List Valued) : (rankInsert a l).Perm (a :: l) := by
  induction l with
  | nil => exact List.Perm.refl _
  | cons b l ih =>
    simp only [rankInsert]
    split
    · exact List.Perm.refl _
    · exact (ih.cons b).trans (List.Perm.swap a b l)

theorem pairwise_rankInsert {a : Valued} {l : List Valued} (h : l.Pairwise Valued.NotAfter) :
    (rankInsert a l).Pairwise Valued.NotAfter := by
  induction l with
  | nil => exact List.pairwise_singleton ..
  | cons b l ih =>
    obtain ⟨hb, hl⟩ := List.pairwise_cons.1 h
    simp only [rankInsert]
    split
    next hbefore =>
      have hab : a.NotAfter b := by
        simp only [Valued.before, Bool.or_eq_true, Bool.and_eq_true, decide_eq_true_eq] at hbefore
        unfold Valued.NotAfter
        omega
      refine List.pairwise_cons.2 ⟨List.forall_mem_cons.2 ⟨hab, fun x hx => ?_⟩, h⟩
      have hbx := hb x hx
      unfold Valued.NotAfter at *
      omega
    next hafter =>
      have hba : b.NotAfter a := by
        simp only [Valued.before, Bool.or_eq_true, Bool.and_eq_true, decide_eq_true_eq] at hafter
        unfold Valued.NotAfter
        omega
      refine List.pairwise_cons.2 ⟨fun x hx => ?_, ih hl⟩
      rcases List.mem_cons.1 ((perm_rankInsert a l).mem_iff.1 hx) with rfl | hx
      · exact hba
      · exact hb x hx

theorem ranking_sorts (l : List Valued) : (ranking l).Perm l ∧ (ranking l).Pairwise Valued.NotAfter := by
  induction l with
  | nil => exact ⟨List.Perm.refl _, List.Pairwise.nil⟩
  | cons a l ih => exact ⟨(perm_rankInsert a _).trans (ih.1.cons a), pairwise_rankInsert ih.2⟩

/-- Settles O30: the sums stay within the setup's ranges or saturate once, and the ranking is an insertion sort. -/
theorem estimatesOfTimeAndBid : Obligations.EstimatesOfTimeAndBid := by
  refine ⟨fun u a b hhp hvp hhr hvr hs hac hbc hal hbl => ?_, fun u p j => ?_, fun u pool top n index fill units port => ?_,
    ranking_sorts⟩
  · intro axis
    have hself : ∀ a, moveTime u a a = 0 := fun a => if_pos rfl
    refine ⟨hself a, moveTime_comm u a b, ?_, fun hab => (moveTime_eq hhp hvp hhr hvr hs hac hbc hal hbl hab).1⟩
    by_cases hab : a = b
    · rw [hab, hself]
      exact Nat.zero_le _
    · exact (moveTime_eq hhp hvp hhr hvr hs hac hbc hal hbl hab).2
  · intro location mouth
    have hcycle := cycleEstimate_eq u p j
    refine ⟨rfl, fun hk => ?_, fun hk => ?_, fun hk => ?_, fun hk => ?_, fun hk => ?_, fun i _ => rfl⟩
    · rw [hcycle, hk]
      rfl
    · rw [hcycle, hk]
      rfl
    · rw [hcycle, hk]
      rfl
    · rw [hcycle, hk]
      rfl
    · rw [hcycle, hk]
  · intro cycle raw
    refine ⟨fun hfull => if_pos hfull, fun hfits => ?_⟩
    rw [bidValue, if_neg (by omega), rawTime_eq]
    rfl

/-! ### The dispatch (R80 to R82, R104 to R106) -/

/-- The order of R82: by score, then by stamp, tag and place. -/
def Scored.NotAfter (a b : Scored) : Prop :=
  b.score < a.score ∨ (a.score = b.score ∧ (a.stamp < b.stamp ∨ (a.stamp = b.stamp ∧
    (a.tag < b.tag ∨ (a.tag = b.tag ∧ a.place ≤ b.place)))))

theorem bestScored_eq_bestBy (l : List Scored) : bestScored l = bestBy Scored.before l := by
  induction l with
  | nil => rfl
  | cons a t ih =>
    rw [bestScored, bestBy, ih]
    cases bestBy Scored.before t <;> rfl

theorem bestScored_least {l : List Scored} {r : Scored} (h : bestScored l = some r) :
    r ∈ l ∧ ∀ x ∈ l, r.NotAfter x := by
  rw [bestScored_eq_bestBy] at h
  refine bestBy_least (notAfter := Scored.NotAfter) ?_ ?_ ?_ ?_ h
  · exact fun a => Or.inr ⟨rfl, Or.inr ⟨rfl, Or.inr ⟨rfl, le_refl _⟩⟩⟩
  · intro a b c hab hbc
    unfold Scored.NotAfter at *
    omega
  · intro a b hab
    simp only [Scored.before, Bool.or_eq_true, Bool.and_eq_true, decide_eq_true_eq] at hab
    unfold Scored.NotAfter
    omega
  · intro a b hba
    simp only [Scored.before, Bool.or_eq_true, Bool.and_eq_true, decide_eq_true_eq] at hba
    unfold Scored.NotAfter
    omega

/-- The entry of a job at a place of the pool, at a dispatch. -/
def scoredAt (s : State) (n : Nat) (j : Job) : Scored :=
  { score := dispatchScore s.ctl.setup s.est.time (craneAt s) j, stamp := j.stamp, tag := j.tag, place := n }

theorem mem_scoredJobs {x : Scored} :
    x ∈ scoredJobs s ↔ ∃ n j, s.crane.pool[n]? = some j ∧ eligible s j = true ∧ x = scoredAt s n j := by
  simp only [scoredJobs, List.mem_map, List.mem_filter, Prod.exists, List.mem_zipIdx_iff_getElem?]
  constructor
  · rintro ⟨j, n, ⟨hj, helig⟩, rfl⟩
    exact ⟨n, j, hj, helig, rfl⟩
  · rintro ⟨n, j, hj, helig, rfl⟩
    exact ⟨j, n, ⟨hj, helig⟩, rfl⟩

theorem dispatchFrom_of_not_idle (h : s.crane.state ≠ .idle) (n : Nat) : dispatchFrom n s = s := by
  cases n with
  | zero => rfl
  | succ n => exact if_neg fun hidle => h hidle.1

/-- A dispatch without an eligible job starts none (R82). -/
theorem dispatch_of_none_eligible (h : ∀ j ∈ s.crane.pool, eligible s j = false) : dispatch s = s := by
  have hempty : scoredJobs s = [] := by
    rw [List.eq_nil_iff_forall_not_mem]
    intro x hx
    obtain ⟨n, j, hj, helig, -⟩ := mem_scoredJobs.1 hx
    rw [h j (List.mem_of_getElem? hj)] at helig
    cases helig
  unfold dispatch dispatchFrom
  split
  · rw [hempty]
    rfl
  · rfl

/-- A dispatch of an IDLE crane starts the best eligible job, and no other unless that one goes at once (R82). -/
theorem dispatch_starts (hidle : s.crane.state = .idle) (hdisp : dispatches s = true)
    (helig : ∃ j ∈ s.crane.pool, eligible s j = true) :
    ∃ n j, s.crane.pool[n]? = some j ∧ eligible s j = true ∧
      (∀ m k, s.crane.pool[m]? = some k → eligible s k = true → (scoredAt s n j).NotAfter (scoredAt s m k)) ∧
      ((startJob n s).crane.state ≠ .idle → dispatch s = startJob n s) := by
  obtain ⟨k, hk, hke⟩ := helig
  obtain ⟨m, hm⟩ := List.getElem?_of_mem hk
  obtain ⟨b, hb⟩ := bestBy_isSome (before := Scored.before)
    (List.ne_nil_of_mem (mem_scoredJobs.2 ⟨m, k, hm, hke, rfl⟩))
  rw [← bestScored_eq_bestBy] at hb
  obtain ⟨hmem, hleast⟩ := bestScored_least hb
  obtain ⟨n, j, hj, hje, rfl⟩ := mem_scoredJobs.1 hmem
  refine ⟨n, j, hj, hje, fun m k hm hke => hleast _ (mem_scoredJobs.2 ⟨m, k, hm, hke, rfl⟩), fun hruns => ?_⟩
  unfold dispatch dispatchFrom
  rw [if_pos ⟨hidle, hdisp⟩, hb]
  exact dispatchFrom_of_not_idle hruns _

theorem urgencyWeight_eq (n : Nat) : urgencyWeight n = 2 ^ min 3 n := by
  unfold urgencyWeight
  split
  · rfl
  · rfl
  · rfl
  next h0 h1 h2 =>
    have hmin : min 3 n = 3 := by
      have h0' : n ≠ 0 := fun h => h0 h
      have h1' : n ≠ 1 := fun h => h1 h
      have h2' : n ≠ 2 := fun h => h2 h
      omega
    rw [hmin]
    rfl

/-- The dispatch score, as the statement writes it (R104 to R106). -/
theorem dispatchScore_eq (u : Setup) (now : Nat) (p : Position) (j : Job) :
    dispatchScore u now p j = ((min 65535 (min 65535 (now - j.stamp) * 2 ^ min 3 j.urgency) : Nat) : Int)
      - (((cycleEstimate u p j + 99) / 100 : Nat) : Int) := by
  simp only [dispatchScore, credit, saturate, travelUnits, ceilDiv, urgencyWeight_eq, Nat.min_comm]
  rfl

theorem carriageEmpty_iff : carriageEmpty s = true ↔ s.crane.load = .empty ∧ s.crane.carriage = .nothing := by
  simp [carriageEmpty]

/-- The continuity count once a job has started (R81). -/
theorem startJob_continuity (h : s.crane.pool[n]? = some j) :
    (startJob n s).crane.continuity = continuityAfter j.kind s.crane := by
  unfold startJob
  simp only [h, beginStage_keeps]
  split <;> rfl

theorem emptyInStand_continuity (s : State) : (emptyInStand s).crane.continuity = 0 := by
  simp [emptyInStand]

/-- Settles O33: the choice by `dispatch_starts`, eligibility and the continuity count kind by kind. -/
theorem dispatchStartsTheBestJob : Obligations.DispatchStartsTheBestJob := by
  refine ⟨fun s hidle hdisp => ?_, fun s j => ?_, fun s n j hj => ?_, fun s _ => emptyInStand_continuity s⟩
  · intro score
    refine ⟨dispatch_of_none_eligible, fun helig => ?_⟩
    obtain ⟨n, j, hj, hje, hbest, hstart⟩ := dispatch_starts hidle hdisp helig
    refine ⟨n, j, hj, hje, fun m k hm hke => ?_, hstart⟩
    have horder := hbest m k hm hke
    simp only [Scored.NotAfter, scoredAt, dispatchScore_eq] at horder
    exact horder.imp_right fun h => ⟨h.1.symm, h.2⟩
  · intro empty
    have hempty : carriageEmpty s = true ↔ empty := carriageEmpty_iff
    refine ⟨fun h => ?_, fun hk hw => ?_, fun hk hw => ?_, fun hk hw => ?_, fun hk hw => ?_, fun hk hw => ?_⟩
    · simp only [eligible, Bool.and_eq_true, decide_eq_true_eq] at h
      exact h.1
    · simp only [eligible, hk, hw, Bool.and_eq_true, decide_eq_true_eq, hempty, true_and, and_assoc]
      rfl
    · simp only [eligible, hk, hw, Bool.and_eq_true, decide_eq_true_eq, hempty, true_and]
      refine and_congr_left fun _ => ?_
      cases s.lanes.inStand <;> simp
    · simp [eligible, hk, hw]
    · simp [eligible, hk, hw]
    · simp [eligible, hk, hw, hempty]
  · intro count
    have hcount : count = continuityAfter j.kind s.crane := startJob_continuity hj
    refine ⟨fun hk hstores => ?_, fun hk hstores => ?_, fun hk => ?_, fun hk => ?_⟩
    · rw [hcount, hk]
      have hany : s.crane.pool.any (fun j => decide (j.kind = .store) && decide (j.state = .waiting)) = true := by
        simpa using hstores
      simp only [continuityAfter, hany, if_true, saturate, Nat.min_comm]
    · rw [hcount, hk]
      have hany : s.crane.pool.any (fun j => decide (j.kind = .store) && decide (j.state = .waiting)) = false := by
        simpa using hstores
      simp only [continuityAfter, hany, Bool.false_eq_true, if_false]
    · rw [hcount, hk]
      rfl
    · rcases hk with hk | hk | hk <;> (rw [hcount, hk]; rfl)

end Sys2Proof.Machine
end

section
/-! PROOF. What the Lane Unit's operations leave of a segment's condition, and what the settling of the conditions leaves
(R129, R186). -/

namespace Sys2Proof.Machine

-- Checked one after another: the host bounds the memory of all threads together.
set_option Elab.async false

open Sys2Proof Sys2Proof.Safety

variable {s t : State} {l k : Lane} {c : Carry}

/-! ### The condition of a segment under the Lane Unit's operations -/

/-- A change of one segment that does not touch its condition. -/
theorem seg_cond_onSeg {f : Segment → Segment} (h : (f (s.seg l)).cond = (s.seg l).cond) (k : Lane) :
    ((s.onSeg l f).seg k).cond = (s.seg k).cond := by
  rcases eq_or_ne k l with rfl | hne
  · rwa [State.seg_onSeg]
  · rw [State.seg_onSeg_other hne]

theorem seg_of_lanes (ho : t.lanes.outSeg = s.lanes.outSeg) (hb : t.lanes.backSeg = s.lanes.backSeg) (k : Lane) :
    t.seg k = s.seg k := by
  cases k
  · exact ho
  · exact hb

theorem seg_of_lanes_eq (h : t.lanes = s.lanes) (k : Lane) : t.seg k = s.seg k :=
  seg_of_lanes (by rw [h]) (by rw [h]) k

@[simp] theorem setHead_cond (h : HeadState) (s : State) : ((setHead l h s).seg k).cond = (s.seg k).cond :=
  seg_cond_onSeg rfl k

@[simp] theorem stopRetry_cond (s : State) : ((stopRetry l s).seg k).cond = (s.seg k).cond := seg_cond_onSeg rfl k

@[simp] theorem grantLocal_cond (src : EntryFrom) (s : State) :
    ((grantLocal l src s).seg k).cond = (s.seg k).cond := by
  unfold grantLocal
  extract_lets limit s₁
  have h₁ : (s₁.seg k).cond = (s.seg k).cond := seg_cond_onSeg rfl k
  split
  · split
    · simpa using h₁
    · exact h₁
  · split
    · simpa using h₁
    · exact h₁

@[simp] theorem tryLocals_cond (s : State) : ((tryLocals l s).seg k).cond = (s.seg k).cond := by
  unfold tryLocals
  split
  · split
    · simp
    · simp
    · simp
    · rfl
  · rfl

@[simp] theorem raiseMerge_cond (s : State) : ((raiseMerge l s).seg k).cond = (s.seg k).cond := by
  unfold raiseMerge
  split
  · exact seg_cond_onSeg rfl k
  · rfl

@[simp] theorem raise_seg (n : Notice) (s : State) : (raise n s).seg k = s.seg k := seg_of_lanes_eq (by simp) k

@[simp] theorem queueFrame_seg (f : Frame) (s : State) : (queueFrame f s).seg k = s.seg k := seg_of_lanes_eq (by simp) k

@[simp] theorem acceptedHead_cond (s : State) : ((acceptedHead l c s).seg k).cond = (s.seg k).cond := by
  unfold acceptedHead
  extract_lets old limit s₁ s₂
  have h₁ : (s₁.seg k).cond = (s.seg k).cond := seg_cond_onSeg rfl k
  have h₂ : (s₂.seg k).cond = (s.seg k).cond := by rw [← h₁]; exact congrArg _ (seg_of_lanes_eq (by simp [s₂]) k)
  clear_value old
  split
  · exact h₁
  · split
    · split
      · simpa using h₂
      · exact h₂
    · exact h₁

@[simp] theorem claimTurn_cond (s : State) : ((claimTurn l c s).seg k).cond = (s.seg k).cond := by
  unfold claimTurn
  extract_lets t limit o s₁
  split
  · rw [acceptedHead_cond]
    exact (raiseMerge_cond _).trans (seg_cond_onSeg rfl k)
  · simp

@[simp] theorem passOn_cond (s : State) : ((passOn l c s).seg k).cond = (s.seg k).cond := by
  unfold passOn
  split
  · split
    · simp
    · simp
  · split
    · simp
    · simp

@[simp] theorem beginDivert_cond (d : DivertTarget) (s : State) :
    ((beginDivert l d s).seg k).cond = (s.seg k).cond := by
  unfold beginDivert
  extract_lets limit s₁
  have h₁ : (s₁.seg k).cond = (s.seg k).cond := seg_cond_onSeg rfl k
  split
  · simpa using h₁
  · simpa using h₁

@[simp] theorem decideHead_cond (s : State) : ((decideHead l s).seg k).cond = (s.seg k).cond := by
  unfold decideHead
  split
  · rfl
  · split
    · rfl
    · split
      · rw [raise_seg]
        exact seg_cond_onSeg rfl k
      · split
        · simp
        · simp

@[simp] theorem actHead_cond (s : State) : ((actHead l s).seg k).cond = (s.seg k).cond := by
  unfold actHead
  split
  · simp
  · rfl

@[simp] theorem retryTurn_cond (s : State) : ((retryTurn l s).seg k).cond = (s.seg k).cond := by
  unfold retryTurn
  dsimp only
  split
  · simp
  · rfl

@[simp] theorem sendSpace_cond (s : State) : ((sendSpace l s).seg k).cond = (s.seg k).cond := by
  unfold sendSpace
  split
  · extract_lets s₁
    have h₁ : (s₁.seg k).cond = (s.seg k).cond := seg_cond_onSeg rfl k
    split
    · simpa using h₁
    · exact h₁
  · rfl

@[simp] theorem openTail_cond (s : State) : ((openTail l s).seg k).cond = (s.seg k).cond := by
  unfold openTail
  split
  · dsimp only
    split
    · simp
    · simp
  · rfl

@[simp] theorem abortFrame_seg (p : Frame → Bool) (s : State) : (abortFrame p s).2.seg k = s.seg k :=
  seg_of_lanes_eq (by simp) k

@[simp] theorem abortOffer_cond (s : State) : ((abortOffer l s).seg k).cond = (s.seg k).cond := by
  unfold abortOffer
  split
  · dsimp only
    split
    · simp
    · simp
  · rfl

@[simp] theorem onHeld_cond (was : Condition) (s : State) : ((onHeld l was s).seg k).cond = (s.seg k).cond := by
  unfold onHeld
  split
  · simp
  · rfl

@[simp] theorem onRunning_cond (was : Condition) (s : State) : ((onRunning l was s).seg k).cond = (s.seg k).cond := by
  unfold onRunning
  split
  · simp
  · rfl

@[simp] theorem onRunningHead_cond (was : Condition) (s : State) :
    ((onRunningHead l was s).seg k).cond = (s.seg k).cond := by
  unfold onRunningHead
  split
  · simp
  · rfl

/-- Each segment has the condition that the rules give it once the conditions are settled (R129, R186). -/
@[simp] theorem settleConditions_cond (s : State) (k : Lane) :
    ((settleConditions s).seg k).cond = wantedCondition s := by
  have hset : ((setCond .backLane (wantedCondition s) (setCond .outLane (wantedCondition s) s)).seg k).cond =
      wantedCondition s := by
    cases k
    · rfl
    · rfl
  unfold settleConditions
  simpa using hset

/-- Both segments with the condition `w` and all else as it stands. -/
def withConds (w : Condition) (s : State) : State := setCond .backLane w (setCond .outLane w s)

/-- Where no offer is under way or none is cut off, and no segment starts to run, the settling of the conditions writes
the conditions and does nothing more. -/
theorem settleConditions_eq_withConds
    (hoffer : ∀ k, (s.seg k).cond = .running → (s.seg k).head = .offering → wantedCondition s = .running)
    (hrun : ∀ k, wantedCondition s = .running → (s.seg k).cond = .running) :
    settleConditions s = withConds (wantedCondition s) s := by
  have hheads : ∀ k, ((withConds (wantedCondition s) s).seg k).head = (s.seg k).head := by
    intro k
    cases k
    · rfl
    · rfl
  have hconds : ∀ k, ((withConds (wantedCondition s) s).seg k).cond = wantedCondition s := by
    intro k
    cases k
    · rfl
    · rfl
  have hheld : ∀ k, onHeld k (s.seg k).cond (withConds (wantedCondition s) s) = withConds (wantedCondition s) s := by
    intro k
    unfold onHeld
    split_ifs with h
    · obtain ⟨hwas, hnow⟩ := h
      unfold abortOffer
      rw [if_neg]
      intro hhead
      exact hnow ((hconds k).trans (hoffer k hwas ((hheads k).symm.trans hhead)))
    · rfl
  have hrunning : ∀ k, ¬ ((s.seg k).cond ≠ .running ∧ ((withConds (wantedCondition s) s).seg k).cond = .running) :=
    fun k h => h.1 (hrun k ((hconds k).symm.trans h.2))
  have hopen : ∀ k, onRunning k (s.seg k).cond (withConds (wantedCondition s) s) = withConds (wantedCondition s) s :=
    fun k => if_neg (hrunning k)
  have hacts : ∀ k, onRunningHead k (s.seg k).cond (withConds (wantedCondition s) s) =
      withConds (wantedCondition s) s := fun k => if_neg (hrunning k)
  show onRunningHead .backLane _ (onRunningHead .outLane _ (onRunning .backLane _ (onRunning .outLane _
    (onHeld .backLane _ (onHeld .outLane _ (withConds (wantedCondition s) s)))))) = _
  rw [hheld, hheld, hopen, hopen, hacts, hacts]

theorem withConds_self (h : ∀ k, (s.seg k).cond = wantedCondition s) : withConds (wantedCondition s) s = s := by
  have ho : s.lanes.outSeg.cond = wantedCondition s := h .outLane
  have hb : s.lanes.backSeg.cond = wantedCondition s := h .backLane
  generalize wantedCondition s = w at ho hb
  subst ho
  show { s with lanes := { s.lanes with backSeg := { s.lanes.backSeg with cond := s.lanes.outSeg.cond } } } = s
  rw [← hb]

/-- Where both segments have the condition that the rules give them, settling changes nothing. -/
theorem settleConditions_eq_self (h : ∀ k, (s.seg k).cond = wantedCondition s) : settleConditions s = s :=
  (settleConditions_eq_withConds (fun k hr _ => (h k).symm.trans hr) (fun k hr => (h k).trans hr)).trans
    (withConds_self h)

/-! ### The wanted condition -/

/-- The wanted condition reads the shutter, the view, the listen period, the station state and the crane state. -/
theorem wantedCondition_congr (hshutter : t.fire.shutter = s.fire.shutter) (hview : t.fire.view = s.fire.view)
    (hlisten : t.fire.listen = s.fire.listen) (hstation : t.ctl.station = s.ctl.station)
    (hcrane : t.crane.state = s.crane.state) : wantedCondition t = wantedCondition s := by
  unfold wantedCondition wallHold ringHold
  rw [hshutter, hview, hlisten, hstation, hcrane]

theorem wantedCondition_of_held (hdoze : s.ctl.station ≠ .doze) (h : ringHold s = true ∨ wallHold s = true) :
    wantedCondition s = .held := by
  unfold wantedCondition
  by_cases hwall : wallHold s = true
  · rw [if_pos hwall]
  · rw [if_neg hwall, if_neg hdoze, if_pos (h.resolve_right hwall)]

/-- Without ring hold, in no doze, and behind no shutter that is not OPEN, a segment runs (R129, R186). -/
theorem wantedCondition_of_running (hview : s.fire.view = 0#8) (hlisten : s.fire.listen = none)
    (hstation : s.ctl.station = .active) (hshutter : s.fire.shutter = none ∨ s.fire.shutter = some .opened) :
    wantedCondition s = .running := by
  have hwall : wallHold s = false := by
    rcases hshutter with h | h <;> simp [wallHold, h]
  simp [wantedCondition, ringHold, hwall, hview, hlisten, hstation]

end Sys2Proof.Machine
end

section
/-! PROOF. What the operations that cross the blocks leave unchanged: the dispatch, the failed fills, entry to SHUTDOWN,
the settling of conditions that do not run, and the readers of the alarm view (R74, R82, R129, R169, R176). -/

namespace Sys2Proof.Machine

-- Checked one after another: the host bounds the memory of all threads together.
set_option Elab.async false

open Sys2Proof Sys2Proof.Safety

variable {s t : State} {l k : Lane}

/-! ### The dispatch -/

/-- What no start of a job changes, a dispatch does not change. -/
theorem dispatch_keeps_of {β : Type} {g : State → β} (h : ∀ place s, g (startJob place s) = g s) (s : State) :
    g (dispatch s) = g s := by
  have hfrom : ∀ n s, g (dispatchFrom n s) = g s := by
    intro n
    induction n with
    | zero => exact fun s => rfl
    | succ n ih =>
      intro s
      unfold dispatchFrom
      split
      · split
        · rfl
        · rw [ih, h]
      · rfl
  exact hfrom _ s

/-- `dispatch` changes nothing outside the Bus Interface's slots, the notices, the Bin Table, the crane and its stands. -/
@[simp] theorem dispatch_keeps (s : State) :
    (dispatch s).pending = s.pending ∧ (dispatch s).pins = s.pins ∧ (dispatch s).bus.rx = s.bus.rx ∧
    (dispatch s).bus.offBus = s.bus.offBus ∧ (dispatch s).bus.failures = s.bus.failures ∧
    (dispatch s).bus.tx = s.bus.tx ∧ (dispatch s).bus.answer = s.bus.answer ∧
    (dispatch s).ctl.straps = s.ctl.straps ∧ (dispatch s).ctl.station = s.ctl.station ∧
    (dispatch s).ctl.setup = s.ctl.setup ∧ (dispatch s).ctl.roster = s.ctl.roster ∧
    (dispatch s).ctl.record = s.ctl.record ∧ (dispatch s).ctl.warmStart = s.ctl.warmStart ∧
    (dispatch s).ctl.joinWait = s.ctl.joinWait ∧ (dispatch s).crane.pos = s.crane.pos ∧
    (dispatch s).crane.load = s.crane.load ∧ (dispatch s).crane.carriage = s.crane.carriage ∧
    (dispatch s).crane.restartRun = s.crane.restartRun ∧ (dispatch s).est = s.est ∧
    (dispatch s).lanes.outSeg = s.lanes.outSeg ∧ (dispatch s).lanes.backSeg = s.lanes.backSeg ∧
    (dispatch s).port = s.port ∧ (dispatch s).auctions = s.auctions ∧ (dispatch s).fire = s.fire :=
  ⟨dispatch_keeps_of (by simp) s, dispatch_keeps_of (by simp) s, dispatch_keeps_of (g := fun s => s.bus.rx) (by simp) s,
    dispatch_keeps_of (g := fun s => s.bus.offBus) (by simp) s,
    dispatch_keeps_of (g := fun s => s.bus.failures) (by simp) s,
    dispatch_keeps_of (g := fun s => s.bus.tx) (by simp) s, dispatch_keeps_of (g := fun s => s.bus.answer) (by simp) s,
    dispatch_keeps_of (g := fun s => s.ctl.straps) (by simp) s,
    dispatch_keeps_of (g := fun s => s.ctl.station) (by simp) s,
    dispatch_keeps_of (g := fun s => s.ctl.setup) (by simp) s,
    dispatch_keeps_of (g := fun s => s.ctl.roster) (by simp) s,
    dispatch_keeps_of (g := fun s => s.ctl.record) (by simp) s,
    dispatch_keeps_of (g := fun s => s.ctl.warmStart) (by simp) s,
    dispatch_keeps_of (g := fun s => s.ctl.joinWait) (by simp) s,
    dispatch_keeps_of (g := fun s => s.crane.pos) (by simp) s,
    dispatch_keeps_of (g := fun s => s.crane.load) (by simp) s,
    dispatch_keeps_of (g := fun s => s.crane.carriage) (by simp) s,
    dispatch_keeps_of (g := fun s => s.crane.restartRun) (by simp) s, dispatch_keeps_of (by simp) s,
    dispatch_keeps_of (g := fun s => s.lanes.outSeg) (by simp) s,
    dispatch_keeps_of (g := fun s => s.lanes.backSeg) (by simp) s, dispatch_keeps_of (by simp) s,
    dispatch_keeps_of (by simp) s, dispatch_keeps_of (by simp) s⟩

@[simp] theorem dispatch_seg (s : State) : (dispatch s).seg k = s.seg k := seg_of_lanes (by simp) (by simp) k

/-- A station that is neither ACTIVE nor DOZE starts no job (R30, R177). -/
theorem dispatch_of_not_dispatches (h : s.ctl.station ≠ .active) (h' : s.ctl.station ≠ .doze) : dispatch s = s :=
  if_neg fun hready => by simpa [dispatches, h, h'] using hready.2

/-! ### The failed fills -/

theorem failFills_of_none (h : ∀ j ∈ s.crane.pool, failsFill j = false) : failFills s = s := by
  have hgone : s.crane.pool.filter failsFill = [] := List.filter_eq_nil_iff.2 fun j hj => by simp [h j hj]
  unfold failFills
  rw [hgone]
  rfl

/-- `failFills` changes nothing outside the Bus Interface's slots, the notices, the Bin Table, the pool with its wanted
requests and the outbound stand. -/
@[simp] theorem failFills_keeps (s : State) :
    (failFills s).pending = s.pending ∧ (failFills s).pins = s.pins ∧ (failFills s).bus.rx = s.bus.rx ∧
    (failFills s).bus.offBus = s.bus.offBus ∧ (failFills s).bus.failures = s.bus.failures ∧
    (failFills s).bus.tx = s.bus.tx ∧ (failFills s).bus.answer = s.bus.answer ∧
    (failFills s).ctl.straps = s.ctl.straps ∧ (failFills s).ctl.station = s.ctl.station ∧
    (failFills s).ctl.setup = s.ctl.setup ∧ (failFills s).ctl.roster = s.ctl.roster ∧
    (failFills s).ctl.record = s.ctl.record ∧ (failFills s).ctl.warmStart = s.ctl.warmStart ∧
    (failFills s).ctl.joinWait = s.ctl.joinWait ∧ (failFills s).crane.pos = s.crane.pos ∧
    (failFills s).crane.load = s.crane.load ∧ (failFills s).crane.carriage = s.crane.carriage ∧
    (failFills s).crane.limit = s.crane.limit ∧ (failFills s).crane.continuity = s.crane.continuity ∧
    (failFills s).est = s.est ∧ (failFills s).lanes.outSeg = s.lanes.outSeg ∧
    (failFills s).lanes.backSeg = s.lanes.backSeg ∧ (failFills s).lanes.inStand = s.lanes.inStand ∧
    (failFills s).port = s.port ∧ (failFills s).auctions = s.auctions ∧ (failFills s).fire = s.fire := by
  have hfold : ∀ {β : Type} {g : State → β} (_ : ∀ tag i (s : State), g (failFill tag i s) = g s) (l : List Job) (s : State),
      g (l.foldl (fun t (j : Job) => failFill j.tag (indexOf j.bin) t) s) = g s :=
    fun h l s => foldl_keeps _ _ (fun s j => h _ _ s) l s
  have hkeeps : ∀ {β : Type} {g : State → β}, (∀ tag i (s : State), g (failFill tag i s) = g s) →
      (∀ s, g (recordFreed s) = g s) → (∀ s, g (releaseStand s) = g s) →
      (∀ (s : State) pool, g (s.onCrane fun c => { c with pool := pool }) = g s) → g (failFills s) = g s := by
    intro β g hfail hfreed hstand hpool
    unfold failFills
    extract_lets gone s₁ s₂
    have h₂ : g s₂ = g s := by
      unfold s₂
      split
      · exact (hstand s₁).trans (hpool s _)
      · exact hpool s _
    split
    · rfl
    · rw [hfreed, hfold hfail, h₂]
  exact ⟨hkeeps (by simp) (by simp) (by simp) (by simp), hkeeps (by simp) (by simp) (by simp) (by simp),
    hkeeps (g := fun s => s.bus.rx) (by simp) (by simp) (by simp) (by simp),
    hkeeps (g := fun s => s.bus.offBus) (by simp) (by simp) (by simp) (by simp),
    hkeeps (g := fun s => s.bus.failures) (by simp) (by simp) (by simp) (by simp),
    hkeeps (g := fun s => s.bus.tx) (by simp) (by simp) (by simp) (by simp),
    hkeeps (g := fun s => s.bus.answer) (by simp) (by simp) (by simp) (by simp),
    hkeeps (g := fun s => s.ctl.straps) (by simp) (by simp) (by simp) (by simp),
    hkeeps (g := fun s => s.ctl.station) (by simp) (by simp) (by simp) (by simp),
    hkeeps (g := fun s => s.ctl.setup) (by simp) (by simp) (by simp) (by simp),
    hkeeps (g := fun s => s.ctl.roster) (by simp) (by simp) (by simp) (by simp),
    hkeeps (g := fun s => s.ctl.record) (by simp) (by simp) (by simp) (by simp),
    hkeeps (g := fun s => s.ctl.warmStart) (by simp) (by simp) (by simp) (by simp),
    hkeeps (g := fun s => s.ctl.joinWait) (by simp) (by simp) (by simp) (by simp),
    hkeeps (g := fun s => s.crane.pos) (by simp) (by simp) (by simp) (by simp),
    hkeeps (g := fun s => s.crane.load) (by simp) (by simp) (by simp) (by simp),
    hkeeps (g := fun s => s.crane.carriage) (by simp) (by simp) (by simp) (by simp),
    hkeeps (g := fun s => s.crane.limit) (by simp) (by simp) (by simp) (by simp),
    hkeeps (g := fun s => s.crane.continuity) (by simp) (by simp) (by simp) (by simp),
    hkeeps (by simp) (by simp) (by simp) (by simp),
    hkeeps (g := fun s => s.lanes.outSeg) (by simp) (by simp) (by simp) (by simp),
    hkeeps (g := fun s => s.lanes.backSeg) (by simp) (by simp) (by simp) (by simp),
    hkeeps (g := fun s => s.lanes.inStand) (by simp) (by simp) (by simp) (by simp),
    hkeeps (by simp) (by simp) (by simp) (by simp), hkeeps (by simp) (by simp) (by simp) (by simp),
    hkeeps (by simp) (by simp) (by simp) (by simp)⟩

/-! ### Entry to SHUTDOWN -/

@[simp] theorem stoppedForFire_keeps (s : State) :
    (stoppedForFire s).pending = s.pending ∧ (stoppedForFire s).pins = s.pins ∧
    (stoppedForFire s).bus.rx = s.bus.rx ∧ (stoppedForFire s).bus.offBus = s.bus.offBus ∧
    (stoppedForFire s).bus.failures = s.bus.failures ∧ (stoppedForFire s).bus.tx = s.bus.tx ∧
    (stoppedForFire s).bus.answer = s.bus.answer ∧ (stoppedForFire s).ctl.straps = s.ctl.straps ∧
    (stoppedForFire s).ctl.station = s.ctl.station ∧ (stoppedForFire s).ctl.setup = s.ctl.setup ∧
    (stoppedForFire s).ctl.roster = s.ctl.roster ∧ (stoppedForFire s).ctl.record = s.ctl.record ∧
    (stoppedForFire s).ctl.warmStart = s.ctl.warmStart ∧ (stoppedForFire s).ctl.joinWait = s.ctl.joinWait ∧
    (stoppedForFire s).est = s.est ∧ (stoppedForFire s).lanes.outSeg = s.lanes.outSeg ∧
    (stoppedForFire s).lanes.backSeg = s.lanes.backSeg ∧ (stoppedForFire s).lanes.inStand = s.lanes.inStand ∧
    (stoppedForFire s).port = s.port ∧ (stoppedForFire s).auctions = s.auctions ∧
    (stoppedForFire s).fire = { s.fire with latch := true } := by
  refine ⟨?_, ?_, ?_, ?_, ?_, ?_, ?_, ?_, ?_, ?_, ?_, ?_, ?_, ?_, ?_, ?_, ?_, ?_, ?_, ?_, ?_⟩ <;> simp [stoppedForFire]

@[simp] theorem enterShutdown_keeps (s : State) :
    (enterShutdown s).pending = s.pending ∧ (enterShutdown s).pins = s.pins ∧
    (enterShutdown s).bus.rx = s.bus.rx ∧ (enterShutdown s).bus.offBus = s.bus.offBus ∧
    (enterShutdown s).bus.failures = s.bus.failures ∧ (enterShutdown s).bus.tx = s.bus.tx ∧
    (enterShutdown s).bus.answer = s.bus.answer ∧ (enterShutdown s).ctl.straps = s.ctl.straps ∧
    (enterShutdown s).ctl.setup = s.ctl.setup ∧ (enterShutdown s).ctl.record = s.ctl.record ∧
    (enterShutdown s).ctl.warmStart = s.ctl.warmStart ∧ (enterShutdown s).ctl.joinWait = s.ctl.joinWait ∧
    (enterShutdown s).crane = (stoppedForFire s).crane ∧ (enterShutdown s).est = s.est ∧
    (enterShutdown s).lanes.outSeg = s.lanes.outSeg ∧ (enterShutdown s).lanes.backSeg = s.lanes.backSeg ∧
    (enterShutdown s).lanes.inStand = s.lanes.inStand ∧ (enterShutdown s).port = s.port ∧
    (enterShutdown s).auctions = s.auctions ∧ (enterShutdown s).fire = { s.fire with latch := true } := by
  refine ⟨?_, ?_, ?_, ?_, ?_, ?_, ?_, ?_, ?_, ?_, ?_, ?_, ?_, ?_, ?_, ?_, ?_, ?_, ?_, ?_⟩ <;> simp [enterShutdown_eq]

@[simp] theorem enterRecovery_station (s : State) : (enterRecovery s).ctl.station = .recovery := setStation_station ..

/-- An entry that is not the cleared one is read back from the table it is written into. -/
theorem tableGet_tablePut_roster {e : RosterEntry} (he : e ≠ RosterEntry.cleared) (n : Nat) (l : List (Nat × RosterEntry)) :
    tableGet RosterEntry.cleared (tablePut RosterEntry.cleared l n e) n = e := by
  induction l with
  | nil => simp [tablePut, tableGet, he]
  | cons a l ih =>
    simp only [tablePut, he, if_false]
    split_ifs with hlt heq
    · simp [tableGet]
    · simp [tableGet]
    · simpa [tableGet, heq] using ih

/-- The own roster entry follows the station state (section 2.7). -/
theorem announced_setStation {x : StationState} (hx : x ≠ .joining) (s : State) :
    (rosterOf s.num (setStation x s)).announced = x := by
  have hroster : (setStation x s).ctl.roster =
      tablePut RosterEntry.cleared s.ctl.roster s.num { rosterOf s.num s with announced := x } := by
    simp [setStation, putStation, setRoster, State.num, rosterOf]
  have he : { rosterOf s.num s with announced := x } ≠ RosterEntry.cleared := fun h =>
    hx (congrArg RosterEntry.announced h)
  rw [rosterOf, hroster, tableGet_tablePut_roster he]

theorem announced_enterShutdown (s : State) : (rosterOf s.num (enterShutdown s)).announced = .shutdown := by
  have hnum : s.num = (stoppedForFire s).num := by simp [State.num]
  rw [enterShutdown_eq, hnum]
  exact announced_setStation (by decide) _

/-! ### Conditions that do not run -/

/-- Conditions that do not run: what is changed is the conditions, and an offer cut off. -/
theorem settleConditions_of_not_running (h : wantedCondition s ≠ .running) :
    settleConditions s = onHeld .backLane (s.seg .backLane).cond
      (onHeld .outLane (s.seg .outLane).cond (withConds (wantedCondition s) s)) := by
  set u := onHeld .backLane (s.seg .backLane).cond
    (onHeld .outLane (s.seg .outLane).cond (withConds (wantedCondition s) s)) with hu
  have hcond : ∀ k, (u.seg k).cond = wantedCondition s := by
    intro k
    have hset : ((withConds (wantedCondition s) s).seg k).cond = wantedCondition s := by
      cases k
      · rfl
      · rfl
    simpa [hu] using hset
  have hopen : ∀ k was, onRunning k was u = u := fun k was => if_neg fun hr => h ((hcond k).symm.trans hr.2)
  have hacts : ∀ k was, onRunningHead k was u = u := fun k was => if_neg fun hr => h ((hcond k).symm.trans hr.2)
  show onRunningHead .backLane _ (onRunningHead .outLane _ (onRunning .backLane _ (onRunning .outLane _ u))) = _
  rw [hopen, hopen, hacts, hacts]

/-- Segments that stop, or stay as they are, leave the stands and the port as they were. -/
theorem settleConditions_keeps_of_not_running (h : wantedCondition s ≠ .running) :
    (settleConditions s).port = s.port ∧ (settleConditions s).lanes.outStand = s.lanes.outStand ∧
      (settleConditions s).lanes.inStand = s.lanes.inStand ∧ (settleConditions s).ctl.record = s.ctl.record := by
  rw [settleConditions_of_not_running h]
  refine ⟨?_, ?_, ?_, ?_⟩ <;> simp [withConds]

/-- What an offer cut off leaves of a segment `g`: its head may have gone from OFFERING to IDLE. -/
def OfferCut (g g' : Segment) : Prop :=
  ∃ x, g' = { g with head := x } ∧ (x = g.head ∨ g.head = .offering ∧ x = .idle)

theorem OfferCut.refl (g : Segment) : OfferCut g g := ⟨g.head, rfl, .inl rfl⟩

theorem OfferCut.trans {g g' g'' : Segment} (h : OfferCut g g') (h' : OfferCut g' g'') : OfferCut g g'' := by
  obtain ⟨x, rfl, hx⟩ := h
  obtain ⟨y, rfl, hy⟩ := h'
  refine ⟨y, rfl, ?_⟩
  rcases hy with hy | ⟨hoffering, hy⟩
  · rw [hy]
    exact hx
  · rcases hx with hx | ⟨hoffer, -⟩
    · exact .inr ⟨hx ▸ hoffering, hy⟩
    · exact .inr ⟨hoffer, hy⟩

theorem abortOffer_offerCut (l k : Lane) (s : State) : OfferCut (s.seg k) ((abortOffer l s).seg k) := by
  unfold abortOffer
  split
  next hoffering =>
    dsimp only
    split
    · rcases eq_or_ne k l with rfl | hne
      · rw [setHead, State.seg_onSeg, abortFrame_seg]
        exact ⟨.idle, rfl, .inr ⟨hoffering, rfl⟩⟩
      · rw [setHead, State.seg_onSeg_other hne, abortFrame_seg]
        exact .refl _
    · rw [abortFrame_seg]
      exact .refl _
  next => exact .refl _

theorem onHeld_offerCut (l k : Lane) (was : Condition) (s : State) : OfferCut (s.seg k) ((onHeld l was s).seg k) := by
  unfold onHeld
  split
  · exact abortOffer_offerCut l k s
  · exact .refl _

/-- Conditions that do not run: of a segment only the condition changes, and the head of an offer cut off. -/
theorem settleConditions_offerCut (h : wantedCondition s ≠ .running) (k : Lane) :
    OfferCut { s.seg k with cond := wantedCondition s } ((settleConditions s).seg k) := by
  rw [settleConditions_of_not_running h]
  have hset : (withConds (wantedCondition s) s).seg k = { s.seg k with cond := wantedCondition s } := by
    cases k
    · rfl
    · rfl
  rw [← hset]
  exact (onHeld_offerCut ..).trans (onHeld_offerCut ..)

/-- Whether a handoff crosses the wall does not change with conditions that do not run. -/
theorem crossing_settleConditions (h : wantedCondition s ≠ .running) : crossing (settleConditions s) = crossing s := by
  obtain ⟨x, hx, hhead⟩ := settleConditions_offerCut h .outLane
  obtain ⟨y, hy, -⟩ := settleConditions_offerCut h .backLane
  have hout : (settleConditions s).lanes.outSeg = { s.lanes.outSeg with head := x, cond := wantedCondition s } := hx
  have hback : (settleConditions s).lanes.backSeg = { s.lanes.backSeg with head := y, cond := wantedCondition s } := hy
  have hmoving : x = .moving ↔ s.lanes.outSeg.head = .moving := by
    rcases hhead with rfl | ⟨hoffer, rfl⟩
    · exact Iff.rfl
    · replace hoffer : s.lanes.outSeg.head = .offering := hoffer
      simp [hoffer]
  simp only [crossing, hout, hback, hmoving]

end Sys2Proof.Machine
end

section
/-! PROOF. Slot 0 is FIRE's: what leaves the FIRE in it, and the one that waits for it, alone (R6). -/

namespace Sys2Proof.Machine

-- Checked one after another: the host bounds the memory of all threads together.
set_option Elab.async false

open Sys2Proof Sys2Proof.Safety

variable {s t u : State} {l k : Lane} {id : SlotId}

/-- From `s` to `t` the FIRE in slot 0, or its absence, and the FIRE that waits for the slot are unchanged. -/
def FireKept (s t : State) : Prop :=
  SlotLaw s → t.bus.slots.s0 = s.bus.slots.s0 ∧ t.bus.firePending = s.bus.firePending

theorem slotLaw_of_eq (h : SlotLaw s) (heq : t.bus.slots.s0 = s.bus.slots.s0) : SlotLaw t := by
  unfold SlotLaw at *
  rwa [heq]

theorem FireKept.trans (h : FireKept s t) (k : FireKept t u) : FireKept s u := by
  intro hs
  obtain ⟨hslot, hwaiting⟩ := h hs
  obtain ⟨kslot, kwaiting⟩ := k (slotLaw_of_eq hs hslot)
  exact ⟨kslot.trans hslot, kwaiting.trans hwaiting⟩

theorem FireKept.refl : FireKept s s := fun _ => ⟨rfl, rfl⟩

theorem FireKept.of_bus (h : t.bus = s.bus) : FireKept s t := fun _ => by rw [h]; exact ⟨rfl, rfl⟩

theorem FireKept.foldl {α : Type} {f : State → α → State} (h : ∀ s a, FireKept s (f s a)) (l : List α) :
    FireKept s (l.foldl f s) := by
  induction l generalizing s with
  | nil => exact .refl
  | cons a l ih => exact (h s a).trans ih

/-! ### The Bus Interface's operations -/

theorem Slots.set_s0 (h : id ≠ .s0) (x : Slot) (t : Slots) : (t.set id x).s0 = t.s0 :=
  Slots.get_set_other (j := .s0) (Ne.symm h) x t

theorem setSlot_fireKept (h : id ≠ .s0) {x : Slot} : FireKept s (setSlot id x s) := fun _ => ⟨Slots.set_s0 h .., rfl⟩

theorem placeFrame_fireKept (h : id ≠ .s0) {f : Frame} : FireKept s (placeFrame id f s) :=
  fun _ => ⟨Slots.set_s0 h .., rfl⟩

theorem queueFrame_fireKept {f : Frame} : FireKept s (queueFrame f s) := by
  unfold queueFrame
  split
  · exact .refl
  · split
    next id hid => exact placeFrame_fireKept (Slots.freeSlot_ne_s0 hid)
    next => exact fun _ => ⟨rfl, rfl⟩

theorem setPendingKind_fireKept {n : Nat} : FireKept s (setPendingKind n s) := by
  rintro ⟨-, hfire⟩
  refine ⟨?_, rfl⟩
  show s.bus.slots.s0.mapFrame _ = _
  cases hslot : s.bus.slots.s0 with
  | free => rfl
  | granted => rfl
  | holds q =>
    obtain ⟨m, hm⟩ := hfire q hslot
    simp [Slot.mapFrame, hm]

theorem raise_fireKept {n : Notice} : FireKept s (raise n s) := by
  unfold raise
  split
  · exact setPendingKind_fireKept
  · split
    next id hid => exact placeFrame_fireKept (Slots.freeSlot_ne_s0 hid)
    next =>
      split
      · exact fun _ => ⟨rfl, rfl⟩
      · exact setPendingKind_fireKept

theorem grantSlot_fireKept (h : id ≠ .s0) : FireKept s (grantSlot id s) := by
  unfold grantSlot
  split
  · exact .refl
  · split
    next k _ =>
      exact FireKept.trans (t := s.onBus fun b => { b with claims := b.claims.filter fun x => decide (x ≠ k) })
        (fun _ => ⟨rfl, rfl⟩) (placeFrame_fireKept h)
    next w _ =>
      exact FireKept.trans (t := s.onCtl fun t => { t with notices := t.notices.tail }) (.of_bus rfl) (placeFrame_fireKept h)
    next => exact setSlot_fireKept h

theorem freeSlotThen_fireKept (h : id ≠ .s0) : FireKept s (freeSlotThen id s) := by
  unfold freeSlotThen
  cases id with
  | s0 => exact absurd rfl h
  | s1 => exact (setSlot_fireKept (by decide)).trans (grantSlot_fireKept (by decide))
  | s2 => exact (setSlot_fireKept (by decide)).trans (grantSlot_fireKept (by decide))
  | s3 => exact (setSlot_fireKept (by decide)).trans (grantSlot_fireKept (by decide))

/-- An abort of a frame that is no FIRE. -/
theorem abortFrame_fireKept {p : Frame → Bool} (hp : ∀ m, p (.fire m) = false) : FireKept s (abortFrame p s).2 := by
  intro hlaw
  unfold abortFrame
  split
  · exact ⟨rfl, rfl⟩
  · split
    next => exact ⟨rfl, rfl⟩
    next id hid =>
      obtain ⟨q, hq, hmeets⟩ := Slots.find_holds hid
      have hne : id ≠ .s0 := by
        rintro rfl
        obtain ⟨m, hm⟩ := hlaw.2 q hq
        simp [hm, hp] at hmeets
      rw [hq]
      dsimp only
      split
      · exact setSlot_fireKept hne hlaw
      · exact freeSlotThen_fireKept hne hlaw

/-! ### The blocks that ask it -/

theorem announce_fireKept : FireKept s (announce s) := by
  unfold announce
  dsimp only
  split
  · exact fun _ => ⟨rfl, rfl⟩
  · split
    next => exact queueFrame_fireKept
    next id hid =>
      intro hlaw
      obtain ⟨q, hq, hmeets⟩ := Slots.find_holds hid
      have hjoin : isJoin q.frame = true := by
        simp only [Bool.and_eq_true] at hmeets
        exact hmeets.1
      rw [hq]
      exact setSlot_fireKept (ne_s0_of_join hlaw hq hjoin) hlaw

theorem setStation_fireKept {x : StationState} : FireKept s (setStation x s) :=
  FireKept.trans (FireKept.trans (.of_bus (by simp [putStation])) announce_fireKept) raise_fireKept

theorem failFills_fireKept : FireKept s (failFills s) := by
  unfold failFills
  extract_lets gone s₁ s₂
  split
  · exact .refl
  · have h₂ : FireKept s s₂ := .of_bus (by unfold s₂; split <;> simp [s₁])
    have hfail : ∀ (t : State) (j : Job), FireKept t (failFill j.tag (indexOf j.bin) t) := fun t j =>
      FireKept.trans (.of_bus (by simp)) raise_fireKept
    exact (h₂.trans (FireKept.foldl hfail gone)).trans (.of_bus (by simp))

theorem stoppedForFire_fireKept : FireKept s (stoppedForFire s) :=
  FireKept.trans (.of_bus (by simp)) failFills_fireKept

theorem enterShutdown_fireKept : FireKept s (enterShutdown s) := by
  rw [enterShutdown_eq]
  exact stoppedForFire_fireKept.trans setStation_fireKept

theorem viewAnswered_fireKept : FireKept s (viewAnswered s) := by
  unfold viewAnswered
  split
  · split
    · exact enterShutdown_fireKept
    · exact enterShutdown_fireKept
    · exact enterShutdown_fireKept
    · exact .refl
  · split
    · exact setStation_fireKept
    · exact .refl

theorem abortOffer_fireKept : FireKept s (abortOffer l s) := by
  have habort : FireKept s (abortFrame (isPassOf l) s).2 := abortFrame_fireKept fun _ => rfl
  unfold abortOffer
  split
  · dsimp only
    split
    · exact habort.trans (.of_bus (by simp))
    · exact habort
  · exact .refl

theorem onHeld_fireKept {was : Condition} : FireKept s (onHeld l was s) := by
  unfold onHeld
  split
  · exact abortOffer_fireKept
  · exact .refl

/-- Segments that stop, or stay as they are. -/
theorem settleConditions_fireKept_of_not_running (h : wantedCondition s ≠ .running) :
    FireKept s (settleConditions s) := by
  rw [settleConditions_of_not_running h]
  have hset : FireKept s (withConds (wantedCondition s) s) := .of_bus (by simp [withConds])
  exact (hset.trans onHeld_fireKept).trans onHeld_fireKept

end Sys2Proof.Machine
end

section
/-! PROOF. The shutter sequence and the readers of the alarm view (R169, R170, R175, R179, R185 to R189). -/

namespace Sys2Proof.Machine

-- Checked one after another: the host bounds the memory of all threads together.
set_option Elab.async false

open Sys2Proof Sys2Proof.Safety

variable {s t : State} {l k : Lane} {v : BitVec 8}

/-! ### The shutter takes up its conditions -/

theorem beginClearing_shutter (s : State) :
    (beginClearing s).fire.shutter = some .clearing ∨ (beginClearing s).fire.shutter = some .closing := by
  unfold beginClearing
  dsimp only
  split
  · exact .inl rfl
  · exact .inr rfl

/-- CLEARING and CLOSING hold both segments (R186). -/
theorem wantedCondition_beginClearing (s : State) : wantedCondition (beginClearing s) = .held := by
  have hwall : wallHold (beginClearing s) = true := by
    rcases beginClearing_shutter s with h | h <;> simp [wallHold, h]
  exact if_pos hwall

theorem shutterTakeUp_of_none (h : s.fire.shutter = none) : shutterTakeUp s = s := by
  unfold shutterTakeUp
  rw [h]

theorem shutterTakeUp_of_closing (h : s.fire.shutter = some .closing) : shutterTakeUp s = s := by
  unfold shutterTakeUp
  rw [h]

theorem shutterTakeUp_of_opened (h : s.fire.shutter = some .opened) : shutterTakeUp s =
    if closeCondition s then settleConditions (beginClearing s) else s := by
  unfold shutterTakeUp
  rw [h]

theorem shutterTakeUp_of_clearing (h : s.fire.shutter = some .clearing) : shutterTakeUp s =
    if crossing s then s else beginClosing s := by
  unfold shutterTakeUp
  rw [h]

theorem shutterTakeUp_of_shut (h : s.fire.shutter = some .closed ∨ s.fire.shutter = some .failed) : shutterTakeUp s =
    if openCondition s then beginOpening s else s := by
  unfold shutterTakeUp
  rcases h with h | h
  · rw [h]
  · rw [h]

theorem shutterTakeUp_of_opening (h : s.fire.shutter = some .opening) : shutterTakeUp s =
    if openingEnds s then beginClosing s else s := by
  unfold shutterTakeUp
  rw [h]

/-- The shutter's taking up leaves the stands, the port and the counts alone. -/
@[simp] theorem shutterTakeUp_keeps_stands (s : State) :
    (shutterTakeUp s).port = s.port ∧ (shutterTakeUp s).lanes.outStand = s.lanes.outStand ∧
      (shutterTakeUp s).lanes.inStand = s.lanes.inStand ∧ (shutterTakeUp s).ctl.record = s.ctl.record := by
  unfold shutterTakeUp
  split
  · split
    · have h : wantedCondition (beginClearing s) ≠ .running := by rw [wantedCondition_beginClearing]; decide
      obtain ⟨hport, hout, hin, hrecord⟩ := settleConditions_keeps_of_not_running h
      rw [hport, hout, hin, hrecord]
      simp
    · exact ⟨rfl, rfl, rfl, rfl⟩
  · split
    · exact ⟨rfl, rfl, rfl, rfl⟩
    · simp
  · split
    · simp
    · exact ⟨rfl, rfl, rfl, rfl⟩
  · split
    · simp
    · exact ⟨rfl, rfl, rfl, rfl⟩
  · split
    · simp
    · exact ⟨rfl, rfl, rfl, rfl⟩
  · exact ⟨rfl, rfl, rfl, rfl⟩
  · exact ⟨rfl, rfl, rfl, rfl⟩

/-- Segments that are held stay held when the shutter takes up its conditions. -/
theorem shutterTakeUp_held (h : ∀ k, (s.seg k).cond = .held) (k : Lane) : ((shutterTakeUp s).seg k).cond = .held := by
  unfold shutterTakeUp
  split
  · split
    · rw [settleConditions_cond, wantedCondition_beginClearing]
    · exact h k
  · split
    · exact h k
    · simpa [beginClosing] using h k
  · split
    · simpa [beginOpening] using h k
    · exact h k
  · split
    · simpa [beginOpening] using h k
    · exact h k
  · split
    · simpa [beginClosing] using h k
    · exact h k
  · exact h k
  · exact h k

theorem shutterTakeUp_fireKept : FireKept s (shutterTakeUp s) := by
  have hclosing : ∀ t : State, FireKept t (beginClosing t) := fun t => .of_bus (by simp)
  have hopening : ∀ t : State, FireKept t (beginOpening t) := fun t => .of_bus (by simp)
  unfold shutterTakeUp
  split
  · split
    · have h : wantedCondition (beginClearing s) ≠ .running := by rw [wantedCondition_beginClearing]; decide
      exact FireKept.trans (.of_bus (by simp)) (settleConditions_fireKept_of_not_running h)
    · exact .refl
  · split
    · exact .refl
    · exact hclosing s
  · split
    · exact hopening s
    · exact .refl
  · split
    · exact hopening s
    · exact .refl
  · split
    · exact hclosing s
    · exact .refl
  · exact .refl
  · exact .refl

/-! ### The readers of the view -/

/-- The own compartment enters the view of a station that is ACTIVE, DOZE or RECOVERY (R175). -/
theorem viewAnswered_enters (hown : s.ownAlarmed = true)
    (hstation : s.ctl.station = .active ∨ s.ctl.station = .doze ∨ s.ctl.station = .recovery) :
    viewAnswered s = enterShutdown s := by
  unfold viewAnswered
  rw [if_pos hown]
  rcases hstation with h | h | h
  · rw [h]
  · rw [h]
  · rw [h]

/-- The own compartment leaves the view in SHUTDOWN (R179). -/
theorem viewAnswered_leaves (hown : s.ownAlarmed = false) (hstation : s.ctl.station = .shutdown) :
    viewAnswered s = enterRecovery s := by
  unfold viewAnswered
  rw [if_neg (by simp [hown]), if_pos hstation]

theorem viewAnswered_of_clear (hown : s.ownAlarmed = false) (hstation : s.ctl.station ≠ .shutdown) :
    viewAnswered s = s := by
  unfold viewAnswered
  rw [if_neg (by simp [hown]), if_neg hstation]

theorem viewAnswered_of_own (hown : s.ownAlarmed = true)
    (hstation : s.ctl.station ≠ .active ∧ s.ctl.station ≠ .doze ∧ s.ctl.station ≠ .recovery) : viewAnswered s = s := by
  unfold viewAnswered
  rw [if_pos hown]
  split
  next h => exact absurd h hstation.1
  next h => exact absurd h hstation.2.1
  next h => exact absurd h hstation.2.2
  next => rfl

/-- What the station does with a view that has changed, but for the segments and the shutter (R169). -/
def viewDispatched (s : State) : State :=
  if (viewAnswered s).fire.view = 0#8 then dispatch (viewAnswered s) else viewAnswered s

theorem viewReaders_eq_takeUp (s : State) :
    viewReaders s = shutterTakeUp (settleConditions (viewDispatched s)) := viewReaders_eq s

@[simp] theorem enterRecovery_keeps_all (s : State) : (enterRecovery s).crane = s.crane ∧ (enterRecovery s).fire = s.fire := by
  simp

/-- What the station's answer to a changed view does not change. -/
@[simp] theorem viewAnswered_keeps (s : State) :
    (viewAnswered s).pending = s.pending ∧ (viewAnswered s).pins = s.pins ∧ (viewAnswered s).bus.rx = s.bus.rx ∧
    (viewAnswered s).bus.offBus = s.bus.offBus ∧ (viewAnswered s).bus.failures = s.bus.failures ∧
    (viewAnswered s).bus.tx = s.bus.tx ∧ (viewAnswered s).bus.answer = s.bus.answer ∧
    (viewAnswered s).ctl.straps = s.ctl.straps ∧ (viewAnswered s).ctl.setup = s.ctl.setup ∧
    (viewAnswered s).ctl.record = s.ctl.record ∧ (viewAnswered s).ctl.warmStart = s.ctl.warmStart ∧
    (viewAnswered s).ctl.joinWait = s.ctl.joinWait ∧ (viewAnswered s).est = s.est ∧
    (viewAnswered s).lanes.outSeg = s.lanes.outSeg ∧ (viewAnswered s).lanes.backSeg = s.lanes.backSeg ∧
    (viewAnswered s).lanes.inStand = s.lanes.inStand ∧ (viewAnswered s).port = s.port ∧
    (viewAnswered s).auctions = s.auctions ∧ (viewAnswered s).fire.view = s.fire.view ∧
    (viewAnswered s).fire.listen = s.fire.listen ∧ (viewAnswered s).fire.repeatTimer = s.fire.repeatTimer ∧
    (viewAnswered s).fire.shutter = s.fire.shutter ∧ (viewAnswered s).fire.closeOut = s.fire.closeOut ∧
    (viewAnswered s).fire.openOut = s.fire.openOut ∧ (viewAnswered s).fire.clearTimer = s.fire.clearTimer ∧
    (viewAnswered s).fire.closeLimit = s.fire.closeLimit ∧ (viewAnswered s).fire.below = s.fire.below := by
  unfold viewAnswered
  split
  · split
    · simp
    · simp
    · simp
    · simp
  · split
    · simp [enterRecovery]
    · simp

theorem viewDispatched_of_view (h : s.fire.view ≠ 0#8) : viewDispatched s = viewAnswered s := if_neg (by simpa using h)

@[simp] theorem viewDispatched_keeps (s : State) :
    (viewDispatched s).pending = s.pending ∧ (viewDispatched s).pins = s.pins ∧
    (viewDispatched s).bus.offBus = s.bus.offBus ∧ (viewDispatched s).bus.answer = s.bus.answer ∧
    (viewDispatched s).ctl.straps = s.ctl.straps ∧ (viewDispatched s).ctl.setup = s.ctl.setup ∧
    (viewDispatched s).ctl.station = (viewAnswered s).ctl.station ∧
    (viewDispatched s).ctl.roster = (viewAnswered s).ctl.roster ∧
    (viewDispatched s).ctl.record = s.ctl.record ∧ (viewDispatched s).est = s.est ∧
    (viewDispatched s).lanes.outSeg = s.lanes.outSeg ∧ (viewDispatched s).lanes.backSeg = s.lanes.backSeg ∧
    (viewDispatched s).port = s.port ∧ (viewDispatched s).auctions = s.auctions ∧
    (viewDispatched s).fire = (viewAnswered s).fire := by
  unfold viewDispatched
  split
  · simp
  · simp

/-- What the readers of a changed view do not change. -/
@[simp] theorem viewReaders_keeps (s : State) :
    (viewReaders s).pending = s.pending ∧ (viewReaders s).pins = s.pins ∧ (viewReaders s).bus.offBus = s.bus.offBus ∧
    (viewReaders s).bus.answer = s.bus.answer ∧ (viewReaders s).ctl.straps = s.ctl.straps ∧
    (viewReaders s).ctl.setup = s.ctl.setup ∧ (viewReaders s).est = s.est ∧ (viewReaders s).auctions = s.auctions ∧
    (viewReaders s).ctl.station = (viewAnswered s).ctl.station ∧
    (viewReaders s).ctl.roster = (viewAnswered s).ctl.roster ∧
    (viewReaders s).crane = (viewDispatched s).crane ∧ (viewReaders s).fire.view = s.fire.view ∧
    (viewReaders s).fire.latch = (viewAnswered s).fire.latch ∧ (viewReaders s).fire.listen = s.fire.listen ∧
    (viewReaders s).fire.repeatTimer = s.fire.repeatTimer ∧ (viewReaders s).fire.below = s.fire.below := by
  simp [viewReaders_eq_takeUp]

theorem viewReaders_fireKept (h : s.fire.view ≠ 0#8) : FireKept s (viewReaders s) := by
  have hcond : wantedCondition (viewAnswered s) ≠ .running := fun hr =>
    h (by simpa using (running_of_wantedCondition hr).1)
  rw [viewReaders_eq_takeUp, viewDispatched_of_view h]
  exact (viewAnswered_fireKept.trans (settleConditions_fireKept_of_not_running hcond)).trans shutterTakeUp_fireKept

/-- Where the view has compartments the segments stop, and the port is as it was. -/
theorem viewReaders_port (h : s.fire.view ≠ 0#8) : (viewReaders s).port = s.port := by
  have hcond : wantedCondition (viewAnswered s) ≠ .running := fun hr =>
    h (by simpa using (running_of_wantedCondition hr).1)
  rw [viewReaders_eq_takeUp, viewDispatched_of_view h]
  simp [(settleConditions_keeps_of_not_running hcond).1]

/-- In a station state that holds the ring the segments are HELD, whatever the shutter (R129). -/
theorem viewReaders_held (h : (viewAnswered s).ctl.station = .shutdown ∨ (viewAnswered s).ctl.station = .recovery)
    (k : Lane) : ((viewReaders s).seg k).cond = .held := by
  rw [viewReaders_eq_takeUp]
  refine shutterTakeUp_held (fun k => ?_) k
  rw [settleConditions_cond]
  refine wantedCondition_of_held ?_ (.inl ?_)
  · rcases h with h | h <;> simp [h]
  · rcases h with h | h <;> simp [ringHold, h]

/-! ### Setting the view -/

theorem setView_of_eq (h : v = s.fire.view) : setView v s = s := if_pos h

theorem setView_of_ne (h : v ≠ s.fire.view) : setView v s = viewReaders (s.onFire fun f => { f with view := v }) := if_neg h

@[simp] theorem setView_keeps (v : BitVec 8) (s : State) :
    (setView v s).pending = s.pending ∧ (setView v s).pins = s.pins ∧ (setView v s).bus.offBus = s.bus.offBus ∧
    (setView v s).bus.answer = s.bus.answer ∧ (setView v s).ctl.straps = s.ctl.straps ∧
    (setView v s).ctl.setup = s.ctl.setup ∧ (setView v s).est = s.est ∧ (setView v s).auctions = s.auctions ∧
    (setView v s).fire.view = v ∧ (setView v s).fire.listen = s.fire.listen ∧
    (setView v s).fire.repeatTimer = s.fire.repeatTimer ∧ (setView v s).fire.below = s.fire.below := by
  unfold setView
  split
  next h => simp [h]
  next => simp

theorem setView_fireKept (h : v ≠ 0#8) : FireKept s (setView v s) := by
  unfold setView
  split
  · exact .refl
  · exact FireKept.trans (t := s.onFire fun f => { f with view := v }) (.of_bus rfl) (viewReaders_fireKept h)

end Sys2Proof.Machine
end

section
/-! PROOF. FIRE and CLEAR, the fire line, and the crane at entry to SHUTDOWN (R160, R169, R170, R174 to R176, R179). -/

namespace Sys2Proof.Machine

-- Checked one after another: the host bounds the memory of all threads together.
set_option Elab.async false

open Sys2Proof Sys2Proof.Safety

variable {s t : State} {l k : Lane} {v mask : BitVec 8} {f : RxFrame}

/-! ### The own compartment -/

theorem compartment_lt (s : State) : s.compartment < 8 := s.ctl.straps.compartment.isLt

theorem getLsbD_ownMask (s : State) (i : Nat) : s.ownMask.getLsbD i = decide (i = s.compartment) := by
  have hlt := compartment_lt s
  simp only [State.ownMask, BitVec.getLsbD_ofNat, Nat.testBit_two_pow]
  by_cases hi : s.compartment = i
  · subst hi
    simp [hlt]
  · simp [hi, Ne.symm hi]

/-- A view that holds the own compartment is not changed by its FIRE. -/
theorem view_or_ownMask_of_own (h : s.ownAlarmed = true) : s.fire.view ||| s.ownMask = s.fire.view := by
  refine BitVec.eq_of_getLsbD_eq fun i _ => ?_
  rw [BitVec.getLsbD_or, getLsbD_ownMask]
  by_cases hi : i = s.compartment
  · have hview : s.fire.view.getLsbD i = true := hi ▸ h
    simp [hview]
  · simp [hi]

/-- A view without the own compartment is cut alike with the own compartment spared and not. -/
theorem view_and_spared (h : s.ownAlarmed = false) (mask : BitVec 8) :
    s.fire.view &&& (~~~mask ||| s.ownMask) = s.fire.view &&& ~~~mask := by
  refine BitVec.eq_of_getLsbD_eq fun i _ => ?_
  simp only [BitVec.getLsbD_and, BitVec.getLsbD_or, getLsbD_ownMask]
  by_cases hi : i = s.compartment
  · have hview : s.fire.view.getLsbD i = false := hi ▸ h
    simp [hview]
  · simp [hi]

theorem ne_zero_of_getLsbD {i : Nat} (h : v.getLsbD i = true) : v ≠ 0#8 := by
  rintro rfl
  simp at h

/-- A view that grows has a compartment in it. -/
theorem grown_ne_zero (h : v ||| mask ≠ v) : v ||| mask ≠ 0#8 := by
  intro hzero
  obtain ⟨hv, -⟩ := BitVec.or_eq_zero_iff.1 hzero
  exact h (hzero.trans hv.symm)

/-! ### The void mark (R160) -/

theorem voidMark_abortBid {tag : Nat} (p : Auction → Prop)
    (hp : ∀ a, p a → p { a with phase := .lost, bidReturned := true }) (h : ∀ a ∈ s.auctions.records, p a) :
    ∀ a ∈ (abortBid tag s).auctions.records, p a := by
  have hread : (abortFrame (isBidOf tag) s).2.auctions = s.auctions := by simp
  have haborted : ∀ t : State, (∀ a ∈ t.auctions.records, p a) → ∀ a ∈ (bidAborted tag t).auctions.records, p a := by
    intro t ht
    have hmark : ∀ a ∈ (onAuction tag (fun r => { r with phase := .lost, bidReturned := true }) t).auctions.records,
        p a := by
      intro a ha
      obtain ⟨b, hb, rfl⟩ := List.mem_map.1 ha
      split
      · exact hp b (ht b hb)
      · exact ht b hb
    unfold bidAborted
    split
    · exact ht
    · split
      · dsimp only
        split
        · simpa using hmark
        · exact hmark
      · exact ht
  unfold abortBid
  dsimp only
  split
  · exact haborted _ (by rwa [hread])
  · rwa [hread]

/-- The mark of one record spares no record of that tag, and takes no mark away. -/
theorem voidAuction_marks (s : State) (tag : Nat) (p : Auction → Prop)
    (h : ∀ a ∈ s.auctions.records, a.voidMark = true ∨ p a) :
    ∀ a ∈ (voidAuction s tag).auctions.records, a.voidMark = true ∨ (a.roomTag ≠ tag ∧ ∃ b, b.roomTag = a.roomTag ∧ p b) := by
  have hset : ∀ a ∈ (onAuction tag (fun r => { r with voidMark := true }) s).auctions.records,
      a.voidMark = true ∨ (a.roomTag ≠ tag ∧ ∃ b, b.roomTag = a.roomTag ∧ p b) := by
    intro a ha
    obtain ⟨b, hb, rfl⟩ := List.mem_map.1 ha
    split
    next => exact .inl rfl
    next hne => exact (h b hb).imp_right fun hp => ⟨hne, b, rfl, hp⟩
  unfold voidAuction
  dsimp only
  split
  · split
    · exact voidMark_abortBid _ (fun a ha => ha) hset
    · exact hset
  · exact hset

/-- At a FIRE every record in use is marked void. -/
theorem voidAuctions_mark (s : State) : ∀ a ∈ (voidAuctions s).auctions.records, a.voidMark = true := by
  have hfold : ∀ (tags : List Nat) (t : State), (∀ a ∈ t.auctions.records, a.voidMark = true ∨ a.roomTag ∈ tags) →
      ∀ a ∈ (tags.foldl voidAuction t).auctions.records, a.voidMark = true := by
    intro tags
    induction tags with
    | nil => exact fun t ht a ha => (ht a ha).resolve_right (by simp)
    | cons tag tags ih =>
      intro t ht
      refine ih _ fun a ha => ?_
      rcases voidAuction_marks t tag _ ht a ha with hmark | ⟨hne, b, hb, hmem⟩
      · exact .inl hmark
      · exact .inr ((List.mem_cons.1 (hb ▸ hmem)).resolve_left hne)
  exact hfold _ s fun a ha => .inr (List.mem_map_of_mem ha)

/-! ### FIRE and CLEAR -/

theorem maskOf_of_payload (h : f.payload = [mask]) : maskOf f = mask := by simp [maskOf, h]

theorem exec_fire (h : BroadcastHere s f 1) (hmask : f.payload = [mask]) :
    exec (.fire f) s = .next (voidAuctions (setView (s.fire.view ||| mask) (answerWith silent s))) := by
  obtain ⟨hstation, hdeaf, hsender, hdest, hlen⟩ := h
  refine congrArg _ ((receive_broadcast (offBusToo := true) hstation hdeaf hsender hdest hlen rfl (Or.inr rfl)).trans ?_)
  rw [if_pos rfl, maskOf_of_payload hmask]
  rfl

theorem exec_clear (h : BroadcastHere s f 1) : exec (.clear f) s =
    .next (if f.sender.toNat = 31 then takeClear f (answerWith silent s) else answerWith silent s) := by
  obtain ⟨hstation, hdeaf, hsender, hdest, hlen⟩ := h
  refine congrArg _ ((receive_broadcast (offBusToo := true) hstation hdeaf hsender hdest hlen rfl (Or.inr rfl)).trans ?_)
  by_cases hpanel : f.sender.toNat = 31
  · rw [if_pos hpanel, if_pos (by simp [hpanel, Config.panel])]
  · rw [if_neg hpanel, if_neg (by simp [hpanel, Config.panel])]

/-- A CLEAR of the own compartment while the fire line is asserted spares it and repeats its FIRE (R170). -/
theorem takeClear_of_kept (hmask : f.payload = [mask]) (h : s.pins.fireLine = true ∧ mask.getLsbD s.compartment = true) :
    takeClear f s = (queueFire s.ownMask (setView (s.fire.view &&& (~~~mask ||| s.ownMask)) s)).onFire
      fun u => { u with repeatTimer := some 2000 } := by
  unfold takeClear
  rw [maskOf_of_payload hmask]
  dsimp only
  rw [if_pos (by simpa using h)]
  simp [State.ownMask, State.compartment]
  rfl

theorem takeClear_of_not_kept (hmask : f.payload = [mask])
    (h : ¬ (s.pins.fireLine = true ∧ mask.getLsbD s.compartment = true)) :
    takeClear f s = setView (s.fire.view &&& ~~~mask) s := by
  unfold takeClear
  rw [maskOf_of_payload hmask]
  exact if_neg (by simpa using h)

/-- The own compartment enters the view of a station that is ACTIVE, DOZE or RECOVERY (R175, R184). -/
theorem setView_enters (hown : s.ownAlarmed = false) (hin : v.getLsbD s.compartment = true)
    (hstation : s.ctl.station = .active ∨ s.ctl.station = .doze ∨ s.ctl.station = .recovery) :
    (setView v s).ctl.station = .shutdown ∧ (setView v s).fire.latch = true ∧
      (rosterOf s.num (setView v s)).announced = .shutdown ∧
      (∀ k, ((setView v s).seg k).cond = .held) ∧
      (setView v s).crane = (stoppedForFire (s.onFire fun f => { f with view := v })).crane := by
  have hne : v ≠ s.fire.view := by
    rintro rfl
    simp [State.ownAlarmed, State.alarmed, hin] at hown
  set u := s.onFire fun f => { f with view := v } with hu
  have hview : u.fire.view ≠ 0#8 := ne_zero_of_getLsbD hin
  have henter : viewAnswered u = enterShutdown u := viewAnswered_enters hin hstation
  rw [setView_of_ne hne, ← hu]
  refine ⟨by simp [henter], by simp [henter], ?_, fun k => viewReaders_held (.inl (by simp [henter])) k, ?_⟩
  · have hroster : (viewReaders u).ctl.roster = (enterShutdown u).ctl.roster := by simp [henter]
    show (tableGet RosterEntry.cleared (viewReaders u).ctl.roster s.num).announced = .shutdown
    rw [hroster]
    exact announced_enterShutdown u
  · simp [viewDispatched_of_view hview, henter]

end Sys2Proof.Machine
end

section
/-! PROOF. The obligations on FIRE and CLEAR, on the crane at entry to SHUTDOWN, and on the fire line (R169 to R179). -/

namespace Sys2Proof.Machine

-- Checked one after another: the host bounds the memory of all threads together.
set_option Elab.async false

open Sys2Proof Sys2Proof.Safety

variable {s t : State} {l k : Lane} {v mask : BitVec 8} {f : RxFrame}

/-- A view that has grown without the station's entry to SHUTDOWN leaves the crane, the station state and the latch. -/
theorem setView_grown_elsewhere (hne : v ≠ s.fire.view) (hzero : v ≠ 0#8)
    (hstays : s.ctl.station = .joining ∨ s.ctl.station = .shutdown ∧ v.getLsbD s.compartment = true ∨
      s.ctl.station ≠ .shutdown ∧ v.getLsbD s.compartment = false) :
    (setView v s).ctl.station = s.ctl.station ∧ (setView v s).fire.latch = s.fire.latch ∧
      (setView v s).crane = s.crane := by
  set u := s.onFire fun f => { f with view := v } with hu
  have hsame : viewAnswered u = u := by
    rcases hb : v.getLsbD s.compartment with _ | _
    · refine viewAnswered_of_clear hb ?_
      rcases hstays with h | ⟨-, hown⟩ | ⟨h, -⟩
      · simp [u, h]
      · simp [hb] at hown
      · exact h
    · refine viewAnswered_of_own hb ?_
      rcases hstays with h | ⟨h, -⟩ | ⟨-, hown⟩
      · simp [u, h]
      · simp [u, h]
      · simp [hb] at hown
  have hdisp : viewDispatched u = u := (viewDispatched_of_view hzero).trans hsame
  rw [setView_of_ne hne, ← hu]
  simp [hsame, hdisp]
  simp [u]

/-- The own compartment leaves the view in SHUTDOWN (R179). -/
theorem setView_leaves (hown : s.ownAlarmed = true) (hout : v.getLsbD s.compartment = false)
    (hstation : s.ctl.station = .shutdown) :
    (setView v s).ctl.station = .recovery ∧ (setView v s).crane = s.crane ∧
      (setView v s).fire.latch = s.fire.latch ∧ ∀ k, ((setView v s).seg k).cond = .held := by
  have hne : v ≠ s.fire.view := by
    rintro rfl
    simp [State.ownAlarmed, State.alarmed, hout] at hown
  set u := s.onFire fun f => { f with view := v } with hu
  have hleave : viewAnswered u = enterRecovery u := viewAnswered_leaves hout hstation
  have hdisp : viewDispatched u = enterRecovery u := by
    unfold viewDispatched
    rw [hleave]
    split
    · exact dispatch_of_not_dispatches (by simp) (by simp)
    · rfl
  rw [setView_of_ne hne, ← hu]
  refine ⟨by simp [hleave], ?_, ?_, fun k => viewReaders_held (.inr (by simp [hleave])) k⟩
  · simp [hdisp]
    simp [u]
  · simp [hleave]
    simp [u]

/-- The view empties with no shutter and no listen period: the segments of an ACTIVE station run (R129). -/
theorem setView_empties (hne : s.fire.view ≠ 0#8) (hstation : s.ctl.station = .active) (hshutter : s.fire.shutter = none)
    (hlisten : s.fire.listen = none) (k : Lane) : ((setView 0#8 s).seg k).cond = .running := by
  set u := s.onFire fun f => { f with view := 0#8 } with hu
  have hsame : viewAnswered u = u := viewAnswered_of_clear (by simp [u, State.ownAlarmed, State.alarmed])
    (by simp [u, hstation])
  have hnone : (settleConditions (viewDispatched u)).fire.shutter = none := by simp [u, hshutter]
  rw [setView_of_ne (Ne.symm hne), ← hu, viewReaders_eq_takeUp, shutterTakeUp_of_none hnone, settleConditions_cond]
  refine wantedCondition_of_running ?_ ?_ ?_ ?_
  · simp [u]
  · simp [u, hlisten]
  · simp [hsame]
    simp [u, hstation]
  · simp [u, hshutter]

/-- Settles O48: FIRE and CLEAR set the view, and what follows is read off the station's answer to it. -/
theorem fireAndClearMoveTheView : Obligations.FireAndClearMoveTheView := by
  intro s f mask hhere hmask grown shrunk kept
  set u := answerWith silent s with hu
  have hcomp : u.compartment = s.compartment := rfl
  refine ⟨?_, fun hpanel => ?_, fun hpanel => ?_⟩
  · rw [exec_fire hhere hmask]
    set t := voidAuctions (setView grown u) with ht
    refine ⟨t, rfl, ?_, by simp [t, u], by simp [t, u], ?_, by simp [t, u], by simp [t, u, answerWith],
      voidAuctions_mark _, fun heq => ?_, fun hstation hown hin => ?_, fun hstays => ?_⟩
    · simp [t, grown]
    · by_cases hne : grown = u.fire.view
      · simp [t, setView_of_eq hne, u]
      · have hport := viewReaders_port (s := u.onFire fun f => { f with view := grown }) (grown_ne_zero hne)
        simpa [t, setView_of_ne hne, u] using hport
    · have heq' : setView grown u = u := setView_of_eq heq
      simp [t, heq', u]
    · obtain ⟨hst, hlatch, hroster, hheld, -⟩ := setView_enters (s := u) (v := grown) hown hin hstation
      refine ⟨by simpa [t] using hst, by simpa [t] using hlatch, ?_, ?_, ?_⟩
      · have hsame : t.ctl.roster = (setView grown u).ctl.roster := by simp [t]
        unfold rosterOf at *
        rw [hsame]
        exact hroster
      · simpa [t, State.seg] using hheld .outLane
      · simpa [t, State.seg] using hheld .backLane
    · by_cases hne : grown = u.fire.view
      · simp [t, setView_of_eq hne, u]
      · have hstays' : u.ctl.station = .joining ∨ u.ctl.station = .shutdown ∧ grown.getLsbD u.compartment = true ∨
            u.ctl.station ≠ .shutdown ∧ grown.getLsbD u.compartment = false := by
          refine hstays.imp_right (Or.imp_left fun ⟨hst, hown⟩ => ⟨hst, ?_⟩)
          have hview : s.fire.view.getLsbD s.compartment = true := hown
          simp [grown, hcomp, hview]
        simpa [t, u] using setView_grown_elsewhere hne (grown_ne_zero hne) hstays'
  · rw [exec_clear hhere, if_pos hpanel]
    refine ⟨takeClear f u, rfl, ?_⟩
    by_cases hkept : kept
    · rw [takeClear_of_kept (s := u) hmask hkept]
      refine ⟨by simp [u], by simp [u], by simp [u], by simp [u], fun _ => ⟨by simp [u]; rfl, rfl⟩,
        fun h => absurd hkept h, fun h => absurd hkept h, fun _ _ h => absurd hkept h,
        fun hstation hown hne hzero hshutter hlisten => ?_⟩
      have hspared : u.fire.view &&& (~~~mask ||| u.ownMask) = 0#8 := (view_and_spared (s := u) hown mask).trans hzero
      rw [hspared]
      have hrun := setView_empties (s := u) hne hstation hshutter hlisten
      exact ⟨by simpa [State.seg] using hrun .outLane, by simpa [State.seg] using hrun .backLane⟩
    · rw [takeClear_of_not_kept (s := u) hmask hkept]
      have hview : u.fire.view &&& ~~~mask = shrunk := rfl
      rw [hview]
      refine ⟨by simp [u], by simp [u], by simp [u], by simp [u], fun h => absurd h hkept,
        fun _ => ⟨by simp, by simp [u]⟩, fun _ heq => setView_of_eq heq, fun hstation hown _ hin => ?_,
        fun hstation hown hne hzero hshutter hlisten => ?_⟩
      · have hout : shrunk.getLsbD u.compartment = false := by simp [shrunk, hcomp, hin]
        obtain ⟨hst, hcrane, hlatch, hheld⟩ := setView_leaves (s := u) hown hout hstation
        exact ⟨hst, hcrane, hlatch, hheld .outLane, hheld .backLane⟩
      · rw [hzero]
        have hrun := setView_empties (s := u) hne hstation hshutter hlisten
        exact ⟨hrun .outLane, hrun .backLane⟩
  · rw [exec_clear hhere, if_neg hpanel]
    rfl

/-! ### The crane at entry to SHUTDOWN -/

/-- The state of the crane after it has been stopped for fire, by the state it was in (R176). -/
theorem stoppedForFire_crane_eq (s : State) :
    (stoppedForFire s).crane.state = (stopForFire (s.onFire fun f => { f with latch := true })).crane.state ∧
      (stoppedForFire s).crane.inFlight = (stopForFire (s.onFire fun f => { f with latch := true })).crane.inFlight ∧
      (stoppedForFire s).crane.limit = (stopForFire (s.onFire fun f => { f with latch := true })).crane.limit := by
  simp [stoppedForFire]

theorem stopForFire_of_rest (h : AtRest s.crane.state) : stopForFire s = s := by
  unfold stopForFire
  rcases h with h | h | h | h
  · rw [h]
  · rw [h]
  · rw [h]
  · rw [h]

theorem stopForFire_of_homing (h : s.crane.state = .homing) :
    stopForFire s = (sendStop s).onCrane fun k => { k with state := .unreferenced } := by
  unfold stopForFire
  rw [h]

theorem stopForFire_of_working (h : s.crane.state = .idle ∨ s.crane.state = .running ∨ s.crane.state = .halting ∨
    s.crane.state = .halted) : stopForFire s = (sendStop s).onCrane fun k => { k with state := .stopped } := by
  unfold stopForFire
  rcases h with h | h | h | h
  · rw [h]
  · rw [h]
  · rw [h]
  · rw [h]

theorem stopForFire_of_waking (h : s.crane.state = .waking) :
    stopForFire s = (abandonCommand s).onCrane fun k => { k with state := .asleep } := by
  unfold stopForFire
  rw [h]

/-- A STOP that is sent runs under the limit of R71. -/
theorem sendStop_limit (h : s.crane.inFlight ≠ some .stop) : (sendStop s).crane.limit = some 5000 := by
  unfold sendStop
  split
  next hstop => exact absurd hstop h
  next => rfl

/-- The pool with the current job FROZEN (R74). -/
theorem freezeCurrent_pool (s : State) :
    (freezeCurrent s).crane.pool = s.crane.pool.map fun j => if j.state = .waiting then j else { j with state := .frozen } :=
  rfl

/-- Settles O49, by the crane state at entry. -/
theorem shutdownStopsTheCrane : Obligations.ShutdownStopsTheCrane := by
  intro s f mask hhere hmask hstation hown hin
  set u := answerWith silent s with hu
  set grown := u.fire.view ||| mask with hgrown
  have hingrown : grown.getLsbD u.compartment = true := by
    have hcomp : u.compartment = s.compartment := rfl
    simp [grown, hcomp, hin]
  obtain ⟨-, -, -, -, hcrane⟩ := setView_enters (s := u) (v := grown) hown hingrown hstation
  set w := u.onFire fun f => { f with view := grown } with hw
  set x := w.onFire fun f => { f with latch := true } with hx
  refine ⟨voidAuctions (setView grown u), exec_fire hhere hmask, ?_⟩
  have hall : (voidAuctions (setView grown u)).crane = (stoppedForFire w).crane := by simpa using hcrane
  rw [hall]
  obtain ⟨hstate, hflight, hlimit⟩ := stoppedForFire_crane_eq w
  have hpool : (freezeCurrent ((stopForFire x).onCrane fun k => { k with wakeKept := false, restartRun := false })).crane.pool =
      s.crane.pool.map fun j => if j.state = .waiting then j else { j with state := .frozen } := by
    rw [freezeCurrent_pool]
    simp [x, w, u]
  rw [hstate, hflight, hlimit]
  have hxcrane : x.crane = s.crane := rfl
  refine ⟨stoppedForFire_restartRun w, fun hrest => ?_, fun hhoming => ?_, fun hworking => ?_, fun hwaking => ?_,
    fun j hj => ?_, fun j hj hkind hpurpose => ?_, fun hnofill => ?_⟩
  · rw [stopForFire_of_rest (s := x) hrest]
    exact ⟨rfl, rfl⟩
  · rw [stopForFire_of_homing (s := x) hhoming]
    exact ⟨rfl, by simp⟩
  · rw [stopForFire_of_working (s := x) hworking]
    exact ⟨rfl, by simp, fun hne => sendStop_limit (s := x) hne⟩
  · rw [stopForFire_of_waking (s := x) hwaking]
    exact ⟨rfl, by simp⟩
  · rcases mem_pool_failFills hj with ⟨hin, -⟩ | ⟨hw, -⟩
    · rw [hpool] at hin
      obtain ⟨k, -, rfl⟩ := List.mem_map.1 hin
      split
      next hwait => exact .inl hwait
      next => exact .inr rfl
    · exact .inl hw
  · rcases mem_pool_failFills hj with ⟨hin, hfails⟩ | ⟨-, hother⟩
    · rw [hpool] at hin
      have hstates : j.state = .waiting ∨ j.state = .frozen := by
        obtain ⟨k, -, rfl⟩ := List.mem_map.1 hin
        split
        next hwait => exact .inl hwait
        next => exact .inr rfl
      simp only [failsFill, hkind, hpurpose, decide_true, Bool.true_and, Bool.or_eq_false_iff, decide_eq_false_iff_not,
        unlifted, Bool.and_eq_false_iff, Bool.not_eq_false'] at hfails
      obtain ⟨hwait, hempty, hpick⟩ := hfails
      exact ⟨hstates.resolve_left hwait, hempty, fun hstage => hpick.resolve_left fun h => h hstage⟩
    · exact absurd hkind hother
  · have hnone : stoppedForFire w = freezeCurrent ((stopForFire x).onCrane
        fun k => { k with wakeKept := false, restartRun := false }) := by
      refine failFills_of_none fun j hj => ?_
      have hj' : j ∈ s.crane.pool.map fun j => if j.state = .waiting then j else { j with state := .frozen } := hpool ▸ hj
      obtain ⟨k, hk, rfl⟩ := List.mem_map.1 hj'
      have hp := hnofill k hk
      split
      · simp [failsFill, hp]
      · simp [failsFill, hp]
    rw [hnone, hpool]

/-! ### The fire line -/

/-- The own compartment's FIRE in slot 0 (R6): a fresh one, or merged into the unstarted one there. -/
theorem queueFire_slot (m : BitVec 8) (s : State) :
    (s.bus.offBus = false → s.bus.slots.s0 = .free →
        ∃ n, (queueFire m s).bus.slots.s0 = .holds (newQueued (.fire m) n)) ∧
      (∀ q m', s.bus.offBus = false → s.bus.slots.s0 = .holds q → q.started = false → q.frame = .fire m' →
        (queueFire m s).bus.slots.s0 = .holds { q with frame := .fire (m' ||| m) }) ∧
      (s.bus.offBus = true → queueFire m s = s) := by
  refine ⟨fun hon hfree => ?_, fun q m' hon hq hstarted hframe => ?_, fun hoff => if_pos hoff⟩
  · refine ⟨s.bus.order, ?_⟩
    unfold queueFire
    rw [if_neg (by simp [hon]), hfree]
    rfl
  · unfold queueFire
    rw [if_neg (by simp [hon]), hq]
    dsimp only
    rw [if_neg (by simp [hstarted]), hframe]
    rfl

/-- The own compartment's alarm: the view with it, its FIRE in slot 0, and the repeat running (R170). -/
theorem ownFire_rings (hlaw : SlotLaw s) :
    (ownFire s).pins = s.pins ∧ (ownFire s).fire.view = s.fire.view ||| s.ownMask ∧
      (ownFire s).fire.repeatTimer = some 2000 ∧ (ownFire s).ownAlarmed = true ∧
      (s.ownAlarmed = true →
        ownFire s = { s with bus := (ownFire s).bus, fire := { s.fire with repeatTimer := some 2000 } }) ∧
      (s.bus.offBus = false → s.bus.slots.s0 = .free →
        ∃ n, (ownFire s).bus.slots.s0 = .holds (newQueued (.fire s.ownMask) n)) ∧
      (∀ q m, s.bus.offBus = false → s.bus.slots.s0 = .holds q → q.started = false → q.frame = .fire m →
        (ownFire s).bus.slots.s0 = .holds { q with frame := .fire (m ||| s.ownMask) }) ∧
      (s.bus.offBus = true →
        (ownFire s).bus.slots.s0 = s.bus.slots.s0 ∧ (ownFire s).bus.firePending = s.bus.firePending) := by
  set v := s.fire.view ||| s.ownMask with hv
  have hrun : ownFire s =
      (queueFire s.ownMask (setView v s)).onFire fun f => { f with repeatTimer := some 2000 } := rfl
  have hin : v.getLsbD s.compartment = true := by simp [v, getLsbD_ownMask]
  obtain ⟨hslot, hwaiting⟩ := setView_fireKept (s := s) (ne_zero_of_getLsbD hin) hlaw
  have hoffBus : (setView v s).bus.offBus = s.bus.offBus := by simp
  obtain ⟨hfree, hmerge, hoff⟩ := queueFire_slot s.ownMask (setView v s)
  rw [hslot, hoffBus] at hfree hmerge
  rw [hoffBus] at hoff
  rw [hrun]
  refine ⟨by simp, by simp, rfl, ?_, fun hown => ?_, hfree, hmerge, fun h => ?_⟩
  · simpa [State.ownAlarmed, State.alarmed, State.compartment] using hin
  · rw [setView_of_eq (view_or_ownMask_of_own hown)]
    apply State.eq_of_blocks <;> simp
  · rw [hoff h]
    exact ⟨hslot, hwaiting⟩

/-- Settles O50: the change of the line and the repeat both raise the own compartment's alarm. -/
theorem fireLineRaisesTheAlarm : Obligations.FireLineRaisesTheAlarm := by
  intro s hstation hlaw lit rings
  have hrings : ∀ u : State, u = lit → rings (ownFire u) := by
    rintro u rfl
    exact ownFire_rings (s := lit) hlaw
  have hun : ∀ f : State → State, unlessStrapFault f s = f s := fun f => if_neg hstation
  have hasserted : exec .fireLineAsserted s = .next (if s.pins.fireLine then s else ownFire lit) := congrArg _ (hun _)
  refine ⟨fun hline => ?_, fun hline => ?_, fun hline hrepeat => ?_, fun h => ?_, ?_⟩
  · exact ⟨ownFire lit, by rw [hasserted, if_neg (by simp [hline])], hrings lit rfl⟩
  · rw [hasserted, if_pos hline]
  · have hlit : s = lit := by
      show s = { s with pins := { s.pins with fireLine := true } }
      rw [← hline]
    exact ⟨ownFire s, congrArg _ (if_pos ⟨hrepeat, hline⟩), hrings s hlit⟩
  · refine congrArg _ (if_neg ?_)
    rintro ⟨hsome, hline⟩
    rcases h with h | h
    · simp [h] at hline
    · simp [h] at hsome
  · exact congrArg _ (hun _)

end Sys2Proof.Machine
end

section
/-! PROOF. The shutter's sequence (R185 to R190). -/

namespace Sys2Proof.Machine

-- Checked one after another: the host bounds the memory of all threads together.
set_option Elab.async false

open Sys2Proof Sys2Proof.Safety

variable {s t : State} {l k : Lane} {v mask : BitVec 8} {f : RxFrame}

/-! ### The conditions of the shutter (R185, R189) -/

theorem closeCondition_iff : closeCondition s = true ↔
    s.fire.below = none ∧ s.fire.view ≠ 0#8 ∨
      ∃ b, s.fire.below = some b ∧ b ≠ s.compartment ∧
        (s.fire.view.getLsbD s.compartment = true ∨ s.fire.view.getLsbD b = true) := by
  unfold closeCondition
  cases hb : s.fire.below with
  | none => simp
  | some b => simp [State.ownAlarmed, State.alarmed]

theorem openCondition_iff : openCondition s = true ↔
    (s.fire.below = none → s.fire.view = 0#8) ∧
      (∀ b, s.fire.below = some b → s.fire.view.getLsbD s.compartment = false ∧ s.fire.view.getLsbD b = false) ∧
      s.ctl.station = .active ∧ s.fire.listen = none := by
  unfold openCondition
  cases hb : s.fire.below with
  | none => simp [and_assoc]
  | some b => simp [State.ownAlarmed, State.alarmed, and_assoc]

theorem openingEnds_iff : openingEnds s = true ↔ closeCondition s = true ∨ s.ownAlarmed = true := by simp [openingEnds]

/-- The shutter's conditions do not meet (R185). -/
theorem closeCondition_of_openCondition (h : openCondition s = true) : closeCondition s = false := by
  obtain ⟨hnone, hsome, -, -⟩ := openCondition_iff.1 h
  refine Bool.eq_false_iff.2 fun hclose => ?_
  rcases closeCondition_iff.1 hclose with ⟨hb, hview⟩ | ⟨b, hb, -, hown | hbelow⟩
  · exact hview (hnone hb)
  · simp [(hsome b hb).1] at hown
  · simp [(hsome b hb).2] at hbelow

/-- An empty view closes no shutter. -/
theorem closeCondition_of_view (h : s.fire.view = 0#8) : closeCondition s = false := by
  refine Bool.eq_false_iff.2 fun hclose => ?_
  rcases closeCondition_iff.1 hclose with ⟨-, hview⟩ | ⟨b, -, -, hown | hbelow⟩
  · exact hview h
  · simp [h] at hown
  · simp [h] at hbelow

theorem closeCondition_congr (hview : t.fire.view = s.fire.view) (hbelow : t.fire.below = s.fire.below)
    (hstraps : t.ctl.straps = s.ctl.straps) : closeCondition t = closeCondition s := by
  rw [Bool.eq_iff_iff, closeCondition_iff, closeCondition_iff, State.compartment, State.compartment, hview, hbelow,
    hstraps]

theorem openCondition_congr (hview : t.fire.view = s.fire.view) (hbelow : t.fire.below = s.fire.below)
    (hstraps : t.ctl.straps = s.ctl.straps) (hstation : t.ctl.station = s.ctl.station)
    (hlisten : t.fire.listen = s.fire.listen) : openCondition t = openCondition s := by
  rw [Bool.eq_iff_iff, openCondition_iff, openCondition_iff, State.compartment, State.compartment, hview, hbelow,
    hstraps, hstation, hlisten]

theorem crossing_iff : crossing s = true ↔
    s.lanes.outSeg.head = .moving ∨ ∃ c, s.lanes.backSeg.reservation = some (.through .neighbour c) := by
  unfold crossing
  rw [Bool.or_eq_true, decide_eq_true_iff]
  refine or_congr_right ?_
  split
  next c hr => simp [hr]
  next hr =>
    simp only [Bool.false_eq_true, false_iff, not_exists]
    exact fun c => hr c

/-! ### Segments that do not run -/

theorem openTail_of_not_running (h : (s.seg l).cond ≠ .running) : openTail l s = s := if_neg (by simp [tailIsOpen, h])

theorem actHead_of_not_running (h : (s.seg l).cond ≠ .running) : actHead l s = s := if_neg (by simp [headReady, h])

theorem actIdleHead_of_not_running (h : (s.seg l).cond ≠ .running) : actIdleHead l s = s := by
  unfold actIdleHead
  rw [actHead_of_not_running h, ite_self]

/-! ### The view and the shutter -/

/-- A view that has grown meets an OPEN shutter (R187). -/
theorem viewReaders_opened (hview : s.fire.view ≠ 0#8) (hshutter : s.fire.shutter = some .opened)
    (hclose : closeCondition s = true) :
    (∀ k, ((viewReaders s).seg k).cond = .held) ∧
      (crossing s = false → (viewReaders s).fire.shutter = some .closing ∧ (viewReaders s).fire.closeOut = true ∧
        (viewReaders s).fire.openOut = false ∧ (viewReaders s).fire.closeLimit = some 15000) ∧
      (crossing s = true → (viewReaders s).fire.shutter = some .clearing ∧
        (viewReaders s).fire.clearTimer = some s.ctl.setup.clearTime ∧
        (viewReaders s).fire.closeOut = s.fire.closeOut ∧ (viewReaders s).fire.openOut = s.fire.openOut) := by
  set w := settleConditions (viewAnswered s) with hw
  have hcond : wantedCondition (viewAnswered s) ≠ .running := fun hr =>
    hview (by simpa using (running_of_wantedCondition hr).1)
  have hcross : crossing w = crossing s := by
    rw [hw, crossing_settleConditions hcond]
    unfold crossing
    simp
  have hclose' : closeCondition w = true := by
    rw [← hclose]
    exact closeCondition_congr (by simp [w]) (by simp [w]) (by simp [w])
  have hrun : viewReaders s = settleConditions (beginClearing w) := by
    rw [viewReaders_eq_takeUp, viewDispatched_of_view hview, shutterTakeUp_of_opened (by simpa using hshutter),
      if_pos hclose']
  rw [hrun]
  refine ⟨fun k => by rw [settleConditions_cond, wantedCondition_beginClearing], fun hno => ?_, fun hyes => ?_⟩
  · have hbegin : beginClearing w = beginClosing (w.onFire fun f =>
        { f with shutter := some .clearing, clearTimer := some w.ctl.setup.clearTime }) := by
      refine if_neg ?_
      show ¬ crossing w = true
      simp [hcross, hno]
    rw [hbegin]
    simp [beginClosing, Config.closeLimitMs]
  · have hbegin : beginClearing w = w.onFire fun f =>
        { f with shutter := some .clearing, clearTimer := some w.ctl.setup.clearTime } := by
      refine if_pos ?_
      show crossing w = true
      rw [hcross, hyes]
    rw [hbegin]
    simp [w]

/-- A view that has grown against an OPENING shutter turns it (R189). -/
theorem viewReaders_opening (hview : s.fire.view ≠ 0#8) (hshutter : s.fire.shutter = some .opening)
    (hends : openingEnds s = true) : (viewReaders s).fire.shutter = some .closing ∧
      (viewReaders s).fire.closeOut = true ∧ (viewReaders s).fire.openOut = false ∧
      (viewReaders s).fire.closeLimit = some 15000 := by
  set w := settleConditions (viewAnswered s) with hw
  have hends' : openingEnds w = true := by
    rw [openingEnds_iff] at hends ⊢
    refine hends.imp (fun h => ?_) (fun h => ?_)
    · rw [← h]
      exact closeCondition_congr (by simp [w]) (by simp [w]) (by simp [w])
    · simpa [w, State.ownAlarmed, State.alarmed, State.compartment] using h
  have hrun : viewReaders s = beginClosing w := by
    rw [viewReaders_eq_takeUp, viewDispatched_of_view hview, shutterTakeUp_of_opening (by simpa using hshutter),
      if_pos hends']
  rw [hrun]
  exact ⟨rfl, rfl, rfl, rfl⟩

/-- A view that lets a CLOSED or FAILED shutter open (R185). -/
theorem viewReaders_opens (hshutter : s.fire.shutter = some .closed ∨ s.fire.shutter = some .failed)
    (hopen : openCondition s = true) : (viewReaders s).fire.shutter = some .opening ∧
      (viewReaders s).fire.closeOut = false ∧ (viewReaders s).fire.openOut = true := by
  obtain ⟨hnone, hsome, hstation, -⟩ := openCondition_iff.1 hopen
  have hown : s.ownAlarmed = false := by
    cases hb : s.fire.below with
    | none => simp [State.ownAlarmed, State.alarmed, hnone hb]
    | some b => exact (hsome b hb).1
  have hsame : viewAnswered s = s := viewAnswered_of_clear hown (by simp [hstation])
  set w := settleConditions (viewDispatched s) with hw
  have hopen' : openCondition w = true := by
    rw [← hopen]
    exact openCondition_congr (by simp [w]) (by simp [w]) (by simp [w]) (by simp [w, hsame]) (by simp [w])
  have hrun : viewReaders s = beginOpening w := by
    rw [viewReaders_eq_takeUp, shutterTakeUp_of_shut (by simpa using hshutter), if_pos hopen']
  rw [hrun]
  exact ⟨rfl, rfl, rfl⟩

/-- A shutter CLOSING, or CLEARING with a handoff that crosses, goes on whatever the view (R187, R188). -/
theorem viewReaders_goes_on
    (hshutter : s.fire.shutter = some .closing ∨ s.fire.shutter = some .clearing ∧ crossing s = true) :
    (viewReaders s).fire.shutter = s.fire.shutter ∧ (viewReaders s).fire.closeOut = s.fire.closeOut ∧
      (viewReaders s).fire.openOut = s.fire.openOut := by
  set w := settleConditions (viewDispatched s) with hw
  have hrun : viewReaders s = w := by
    rw [viewReaders_eq_takeUp]
    rcases hshutter with h | ⟨h, hcross⟩
    · exact shutterTakeUp_of_closing (by simpa using h)
    · have hwall : wallHold (viewDispatched s) = true := by simp [wallHold, h]
      have hcond : wantedCondition (viewDispatched s) ≠ .running := by
        rw [show wantedCondition (viewDispatched s) = .held from if_pos hwall]
        decide
      have hcross' : crossing w = true := by
        rw [hw, crossing_settleConditions hcond, ← hcross]
        unfold crossing
        simp
      rw [shutterTakeUp_of_clearing (by simpa using h), if_pos hcross']
  rw [hrun]
  simp [w]

end Sys2Proof.Machine
end

section
/-! PROOF. The shutter's clear wait, its sensors, its close limit and the listen period (R187 to R190). -/

namespace Sys2Proof.Machine

-- Checked one after another: the host bounds the memory of all threads together.
set_option Elab.async false

open Sys2Proof Sys2Proof.Safety

variable {s t : State} {l k : Lane} {v mask : BitVec 8} {f : RxFrame} {c : Carry} {bin : Nat}

/-! ### What lands at a tail, and what leaves a head -/

@[simp] theorem broadcastJam_seg (l : Lane) (bin : Nat) (s : State) (k : Lane) :
    (broadcastJam l bin s).seg k = s.seg k := seg_of_lanes_eq (by simp) k

@[simp] theorem sendLanded_seg (l : Lane) (bin : Nat) (s : State) (k : Lane) :
    (sendLanded l bin s).seg k = s.seg k := seg_of_lanes_eq (by simp) k

/-- The segment with one record more, at the tail place. -/
def Segment.withTail (x : Content) (g : Segment) : Segment := { g with places := g.places ++ [{ content := x, pos := 3 }] }

theorem addAtTail_seg (x : Content) (s : State) : (addAtTail l x s).seg l = (s.seg l).withTail x :=
  State.seg_onSeg ..

theorem addAtTail_seg_other (h : k ≠ l) (x : Content) (s : State) : (addAtTail l x s).seg k = s.seg k :=
  State.seg_onSeg_other h ..

/-- A landing adds one record, at the tail place. -/
theorem placeLanded_seg (l : Lane) (c : Carry) (visits : Bool) (s : State) :
    ∃ x, (placeLanded l c visits s).seg l = (s.seg l).withTail x := by
  have hvisit : (homeVisit c s).2.seg l = s.seg l := seg_of_lanes_eq (by simp) l
  unfold placeLanded
  split
  · exact ⟨.stray, (raise_seg ..).trans (addAtTail_seg ..)⟩
  · split
    · dsimp only
      split
      · exact ⟨_, (addAtTail_seg ..).trans (by rw [hvisit])⟩
      · exact ⟨.stray, (raise_seg ..).trans ((addAtTail_seg ..).trans (by rw [hvisit]))⟩
    · exact ⟨_, addAtTail_seg ..⟩

theorem placeLanded_seg_other (h : k ≠ l) (c : Carry) (visits : Bool) (s : State) :
    (placeLanded l c visits s).seg k = s.seg k := by
  have hvisit : (homeVisit c s).2.seg k = s.seg k := seg_of_lanes_eq (by simp) k
  unfold placeLanded
  split
  · exact (raise_seg ..).trans (addAtTail_seg_other h ..)
  · split
    · dsimp only
      split
      · exact (addAtTail_seg_other h ..).trans hvisit
      · exact (raise_seg ..).trans ((addAtTail_seg_other h ..).trans hvisit)
    · exact addAtTail_seg_other h ..

/-- A head whose limit has expired is MOVING no more, and the other segment is as it was. -/
theorem headTimeout_of_not_running (h : (s.seg l).cond ≠ .running) :
    ((headTimeout l s).seg l).head ≠ .moving ∧ (headTimeout l s).seg l.other = s.seg l.other := by
  have hremoved : ((removeHead l s).seg l).cond ≠ .running := by
    rw [removeHead, State.seg_onSeg]
    exact h
  have hother : (removeHead l s).seg l.other = s.seg l.other := State.seg_onSeg_of_other ..
  have hidle : ((removeHead l s).seg l).head = .idle := by rw [removeHead, State.seg_onSeg]
  unfold headTimeout
  split
  · rw [hidle]
    exact ⟨by decide, hother⟩
  next c _ =>
    have hjam : ((broadcastJam l c.bin (removeHead l s)).seg l).cond ≠ .running := by rwa [broadcastJam_seg]
    split
    · rw [raise_seg, raise_seg, State.seg_onSeg, State.seg_onSeg_of_other]
      exact ⟨nofun, rfl⟩
    · rw [openTail_of_not_running hjam, actIdleHead_of_not_running hjam, broadcastJam_seg, broadcastJam_seg, hidle]
      exact ⟨by decide, hother⟩

/-! ### The clear wait (R187) -/

/-- The Fire Unit with the clear wait over and CLOSING begun. -/
def FireUnit.clearEnded (f : FireUnit) : FireUnit :=
  { f with shutter := some .closing, closeOut := true, openOut := false, clearTimer := none, closeLimit := some 15000 }

/-- A CLEARING shutter goes on while a handoff crosses, and closes when none does. -/
theorem shutterTakeUp_clearing_fire (h : s.fire.shutter = some .clearing) :
    (crossing s = false → (shutterTakeUp s).fire = s.fire.clearEnded) ∧
      (crossing s = true → (shutterTakeUp s).fire = s.fire) := by
  rw [shutterTakeUp_of_clearing h]
  refine ⟨fun hno => ?_, fun hyes => ?_⟩
  · rw [if_neg (by simp [hno])]
    rfl
  · rw [if_pos hyes]

/-- The clear wait of `s` as `t` takes it up, where `p` says whether a handoff still crosses. -/
theorem shutterTakeUp_clear_wait {p : Prop} (hfire : t.fire = s.fire) (h : s.fire.shutter = some .clearing)
    (hcross : crossing t = true ↔ p) :
    (¬ p → (shutterTakeUp t).fire = s.fire.clearEnded) ∧ (p → (shutterTakeUp t).fire = s.fire) := by
  obtain ⟨hends, hgoes⟩ := shutterTakeUp_clearing_fire (s := t) (by rw [hfire, h])
  rw [hfire] at hends hgoes
  exact ⟨fun hp => hends (Bool.eq_false_iff.2 fun hc => hp (hcross.1 hc)), fun hp => hgoes (hcross.2 hp)⟩

/-- The through claim of the neighbour upstream, whose bin crosses the wall on the back-lane (R187). -/
def Incoming (s : State) : Prop := ∃ c, s.lanes.backSeg.reservation = some (.through .neighbour c)

/-- A LANDED of the crossing out-lane head. -/
theorem landed_clear_wait (hclearing : s.fire.shutter = some .clearing) (hout : s.lanes.outSeg.cond = .held)
    {pos : Nat} {more : List PlaceRec} (hhere : AddressedHere s f 3) (hlane : laneOf (byteAt f.payload 2) = .outLane)
    (hbin : wordAt f.payload 0 = c.bin) (hdown : s.downstream .outLane = some f.sender.toNat)
    (hmoving : s.lanes.outSeg.head = .moving) (hplaces : s.lanes.outSeg.places = ⟨.carrying c, pos⟩ :: more) :
    ∃ t, exec (.landed f) s = .next t ∧ (¬ Incoming s → t.fire = s.fire.clearEnded) ∧ (Incoming s → t.fire = s.fire) := by
  set u := answerWith driveTaken s with hu
  have hcarry : headCarry .outLane u = some c := by
    unfold headCarry
    have hseg : (u.seg .outLane).places = ⟨.carrying c, pos⟩ :: more := hplaces
    rw [hseg]
  have hremoved : ((removeHead .outLane u).seg .outLane).cond ≠ .running := by
    rw [removeHead, State.seg_onSeg]
    show s.lanes.outSeg.cond ≠ _
    rw [hout]
    decide
  have hrun : exec (.landed f) s = .next (shutterTakeUp (removeHead .outLane u)) := by
    refine congrArg _ ((receive_addressed (offBusToo := false) (honoured := isStation) hhere rfl rfl).trans ?_)
    rw [if_pos hhere.2.2.1]
    unfold takeLanded
    dsimp only
    rw [hlane, hbin, if_pos ⟨hdown, hmoving, by rw [hcarry]; rfl⟩, openTail_of_not_running hremoved,
      actIdleHead_of_not_running hremoved]
  refine ⟨_, hrun, shutterTakeUp_clear_wait rfl hclearing ?_⟩
  have hidle : (removeHead .outLane u).lanes.outSeg.head = .idle := rfl
  rw [crossing_iff, hidle]
  simp only [reduceCtorEq, false_or]
  rfl

/-- The handoff limit of the crossing out-lane head. -/
theorem handoffLimit_clear_wait (hclearing : s.fire.shutter = some .clearing) (hout : s.lanes.outSeg.cond = .held)
    (hmoving : s.lanes.outSeg.head = .moving) (hlimit : s.lanes.outSeg.headLimit.isSome = true) :
    ∃ t, exec (.handoffLimitExpiry .outLane) s = .next t ∧ (¬ Incoming s → t.fire = s.fire.clearEnded) ∧
      (Incoming s → t.fire = s.fire) := by
  have hrun : exec (.handoffLimitExpiry .outLane) s = .next (shutterTakeUp (headTimeout .outLane s)) :=
    congrArg _ (if_pos ⟨hlimit, hmoving⟩)
  have hcond : (s.seg .outLane).cond ≠ .running := by
    show s.lanes.outSeg.cond ≠ _
    rw [hout]
    decide
  obtain ⟨hhead, hother⟩ := headTimeout_of_not_running hcond
  have hback : (headTimeout .outLane s).lanes.backSeg = s.lanes.backSeg := hother
  refine ⟨_, hrun, shutterTakeUp_clear_wait (by simp) hclearing ?_⟩
  rw [crossing_iff, hback]
  exact or_iff_right hhead

/-- The landing of the crossing back-lane bin. -/
theorem tailReport_clear_wait (hstation : s.ctl.station ≠ .strapFault) (hclearing : s.fire.shutter = some .clearing)
    (hback : s.lanes.backSeg.cond = .held) (hin : Incoming s) :
    ∃ t, exec (.tailSensorReport .backLane true) s = .next t ∧
      (¬ s.lanes.outSeg.head = .moving → t.fire = s.fire.clearEnded) ∧
      (s.lanes.outSeg.head = .moving → t.fire = s.fire) := by
  obtain ⟨c, hres⟩ := hin
  set u := setTailPin .backLane true s with hu
  obtain ⟨w, hw⟩ : ∃ w, w = placeLanded .backLane c true (sendLanded .backLane c.bin (clearReservation .backLane u)) :=
    ⟨_, rfl⟩
  obtain ⟨x, hx⟩ := placeLanded_seg .backLane c true (sendLanded .backLane c.bin (clearReservation .backLane u))
  rw [← hw, sendLanded_seg] at hx
  have hwout : w.seg .outLane = s.seg .outLane := by
    rw [hw, placeLanded_seg_other (k := .outLane) (by decide), sendLanded_seg]
    rfl
  have hcond : (w.seg .backLane).cond ≠ .running := by
    have hheld : (w.seg .backLane).cond = .held := by
      rw [hx]
      exact hback
    rw [hheld]
    decide
  have hland : landReserved .backLane (.through .neighbour c) u = w := by
    have hsteps : landReserved .backLane (.through .neighbour c) u = actIdleHead .backLane (openTail .backLane w) := by
      rw [hw]
      rfl
    rw [hsteps, openTail_of_not_running hcond, actIdleHead_of_not_running hcond]
  have hreported : tailReported .backLane s.pins.backSeg.tail u = dispatch (shutterTakeUp w) := by
    have hures : (u.seg .backLane).reservation = some (.through .neighbour c) := hres
    unfold tailReported
    rw [hures]
    dsimp only
    rw [hland]
  have hrun : exec (.tailSensorReport .backLane true) s = .next (dispatch (shutterTakeUp w)) := by
    rw [← hreported]
    exact congrArg _ (if_neg hstation)
  have hfire : w.fire = s.fire := by simp [hw, u, setTailPin]
  have hcross : crossing w = true ↔ s.lanes.outSeg.head = .moving := by
    have hout : w.lanes.outSeg = s.lanes.outSeg := hwout
    have hnone : w.lanes.backSeg.reservation = none := congrArg Segment.reservation hx
    rw [crossing_iff, hout, hnone]
    simp
  obtain ⟨hends, hgoes⟩ := shutterTakeUp_clear_wait hfire hclearing hcross
  exact ⟨_, hrun, fun h => by rw [← hends h]; simp, fun h => by rw [← hgoes h]; simp⟩

/-- The reservation limit of the crossing back-lane bin. -/
theorem reservationLimit_clear_wait (hclearing : s.fire.shutter = some .clearing) (hback : s.lanes.backSeg.cond = .held)
    (hin : Incoming s) (hlimit : s.lanes.backSeg.tailLimit.isSome = true) :
    ∃ t, exec (.reservationLimitExpiry .backLane) s = .next t ∧
      (¬ s.lanes.outSeg.head = .moving → t.fire = s.fire.clearEnded) ∧
      (s.lanes.outSeg.head = .moving → t.fire = s.fire) := by
  obtain ⟨c, hres⟩ := hin
  set w := clearReservation .backLane s with hw
  have hcond : (w.seg .backLane).cond ≠ .running := by
    show s.lanes.backSeg.cond ≠ _
    rw [hback]
    decide
  have hstands : throughStands (s.seg .backLane) = true := by
    unfold throughStands
    rw [show (s.seg .backLane).reservation = some (.through .neighbour c) from hres]
  have hrun : exec (.reservationLimitExpiry .backLane) s = .next (shutterTakeUp w) := by
    refine congrArg _ ((if_pos ⟨hlimit, hstands⟩).trans ?_)
    rw [openTail_of_not_running hcond]
  refine ⟨_, hrun, shutterTakeUp_clear_wait rfl hclearing ?_⟩
  rw [crossing_iff]
  refine or_iff_left ?_
  rintro ⟨c', hc'⟩
  exact Option.some_ne_none _ hc'.symm

/-! ### The sensors, the close limit and the listen period -/

/-- A notice neither reads nor writes the Fire Unit. -/
theorem raise_with_fire (n : Notice) (s : State) (f : FireUnit) :
    raise n { s with fire := f } = { raise n s with fire := f } := by
  unfold raise
  dsimp only
  split
  · rfl
  · split
    · rfl
    · split <;> rfl

/-- A shutter at rest, CLOSED or FAILED, as it takes up its conditions. -/
theorem shutterTakeUp_shut {f : FireUnit} (hf : f.shutter = some .closed ∨ f.shutter = some .failed)
    (hview : f.view = s.fire.view) (hbelow : f.below = s.fire.below) (hlisten : f.listen = s.fire.listen) :
    shutterTakeUp { s with fire := f } = { s with
      fire := (if openCondition s then { f with shutter := some .opening, closeOut := false, openOut := true } else f) } := by
  have hopen : openCondition { s with fire := f } = openCondition s := openCondition_congr hview hbelow rfl rfl hlisten
  rw [shutterTakeUp_of_shut (s := { s with fire := f }) hf, hopen]
  split
  · rfl
  · rfl

theorem closeLimit_expires (hshutter : s.fire.shutter = some .closing) (hlimit : s.fire.closeLimit.isSome = true) :
    exec .closeLimitExpiry s = .next
      { raise .shutterFault { s with ctl := { s.ctl with record := { s.ctl.record with shutterFault := true } } } with
        fire := (if openCondition s
          then { s.fire with shutter := some .opening, closeLimit := none, closeOut := false, openOut := true }
          else { s.fire with shutter := some .failed, closeLimit := none }) } := by
  refine congrArg _ ((if_pos ⟨hlimit, hshutter⟩).trans ?_)
  set r := { s with ctl := { s.ctl with record := { s.ctl.record with shutterFault := true } } } with hr
  have hraise : raise .shutterFault { r with fire := { s.fire with shutter := some .failed, closeLimit := none } } =
      { raise .shutterFault r with fire := { s.fire with shutter := some .failed, closeLimit := none } } :=
    raise_with_fire ..
  have hopen : openCondition (raise .shutterFault r) = openCondition s :=
    openCondition_congr (by simp [r]) (by simp [r]) (by simp [r]) (by simp [r]) (by simp [r])
  show shutterTakeUp (raise .shutterFault { r with fire := { s.fire with shutter := some .failed, closeLimit := none } }) = _
  rw [hraise, shutterTakeUp_shut (.inr rfl) (by simp [r]) (by simp [r]) (by simp [r]), hopen]

theorem closedSensor_closes (hstation : s.ctl.station ≠ .strapFault)
    (hshutter : s.fire.shutter = some .closing ∨ s.fire.shutter = some .failed) :
    exec (.closedSensorReport true) s = .next
      { s with
        pins := { s.pins with shutterClosed := true }
        fire := (if openCondition s
          then { s.fire with shutter := some .opening, closeLimit := none, closeOut := false, openOut := true }
          else { s.fire with shutter := some .closed, closeLimit := none, closeOut := false }) } := by
  refine congrArg _ ((if_neg hstation).trans ((if_pos ⟨rfl, hshutter⟩).trans ?_))
  set r := { s with pins := { s.pins with shutterClosed := true } } with hr
  have hopen : openCondition r = openCondition s := openCondition_congr rfl rfl rfl rfl rfl
  have htake := shutterTakeUp_shut (s := r)
    (f := { s.fire with shutter := some .closed, closeLimit := none, closeOut := false }) (.inl rfl) rfl rfl rfl
  rw [hopen] at htake
  exact htake

/-- The open sensor ends OPENING, where nothing closes the shutter again (R189). -/
theorem openSensor_opens (hstation : s.ctl.station ≠ .strapFault) (hshutter : s.fire.shutter = some .opening)
    (hopen : openCondition s = true) : exec (.openSensorReport true) s = .next (settleConditions
      { s with
        pins := { s.pins with shutterOpen := true }
        fire := { s.fire with shutter := some .opened, openOut := false } }) := by
  refine congrArg _ ((if_neg hstation).trans ((if_pos ⟨rfl, hshutter⟩).trans ?_))
  set r := { s with
    pins := { s.pins with shutterOpen := true }
    fire := { s.fire with shutter := some .opened, openOut := false } } with hr
  have hclose : closeCondition (settleConditions r) = false := by
    rw [← closeCondition_of_openCondition hopen]
    exact closeCondition_congr (by simp [r]) (by simp [r]) (by simp [r])
  show shutterTakeUp (settleConditions r) = _
  rw [shutterTakeUp_of_opened (by simp [r]), if_neg (by simp [hclose])]

/-- The end of the listen period with an empty view, by the shutter's state (R129, R190). -/
theorem listenEnds_of_active (hview : s.fire.view = 0#8) (hstation : s.ctl.station = .active) :
    (listenEnds s).pins = s.pins ∧ (listenEnds s).est = s.est ∧ (listenEnds s).auctions = s.auctions ∧
      (s.fire.shutter = none → (listenEnds s).fire = { s.fire with listen := none } ∧
        (listenEnds s).lanes.outSeg.cond = .running ∧ (listenEnds s).lanes.backSeg.cond = .running) ∧
      (s.fire.shutter = some .opening → (listenEnds s).fire = { s.fire with listen := none, openOut := true }) ∧
      (s.fire.shutter = some .closed → (listenEnds s).fire =
        { s.fire with listen := none, shutter := some .opening, closeOut := false, openOut := true }) := by
  set r := s.onFire fun f => { f with listen := none, openOut := f.openOut || decide (f.shutter = some .opening) } with hr
  have hrun : listenEnds s = shutterTakeUp (settleConditions r) := rfl
  have hrview : r.fire.view = 0#8 := hview
  rw [hrun]
  refine ⟨by simp [r], by simp [r], by simp [r], fun hnone => ?_, fun hopening => ?_, fun hclosed => ?_⟩
  · have hcond := settleConditions_cond r
    rw [wantedCondition_of_running hrview rfl hstation (.inl hnone)] at hcond
    rw [shutterTakeUp_of_none (by simp [r, hnone])]
    refine ⟨by simp [r, hnone], hcond .outLane, hcond .backLane⟩
  · have hends : openingEnds (settleConditions r) = false := by
      have hclose : closeCondition (settleConditions r) = false := closeCondition_of_view (by simp [hrview])
      simp [openingEnds, hclose, State.ownAlarmed, State.alarmed, hrview]
    rw [shutterTakeUp_of_opening (by simp [r, hopening]), if_neg (by simp [hends])]
    simp [r, hopening]
  · have hopen : openCondition (settleConditions r) = true := by
      refine openCondition_iff.2 ⟨fun _ => by simp [hrview], fun b _ => by simp [hrview], by simp [r, hstation], by simp [r]⟩
    rw [shutterTakeUp_of_shut (by simp [r, hclosed]), if_pos hopen]
    simp [beginOpening, r]

end Sys2Proof.Machine
end

section
/-! PROOF. The obligation on the shutter's sequence (R172, R185 to R190). -/

namespace Sys2Proof.Machine

-- Checked one after another: the host bounds the memory of all threads together.
set_option Elab.async false

open Sys2Proof Sys2Proof.Safety

variable {s t : State} {l k : Lane} {v mask : BitVec 8} {f : RxFrame}

/-- The state `s`, its answer undriven and the view `v` set, as the readers of the view find it. -/
def viewed (v : BitVec 8) (s : State) : State := (answerWith silent s).onFire fun f => { f with view := v }

/-- A FIRE that makes the view grow, seen at the shutter. -/
theorem fire_at_shutter (h : s.fire.view ||| mask ≠ s.fire.view) (hhere : BroadcastHere s f 1) (hmask : f.payload = [mask]) :
    ∃ t, exec (.fire f) s = .next t ∧ t.fire = (viewReaders (viewed (s.fire.view ||| mask) s)).fire ∧
      t.lanes = (viewReaders (viewed (s.fire.view ||| mask) s)).lanes := by
  refine ⟨_, exec_fire hhere hmask, ?_⟩
  rw [setView_of_ne (s := answerWith silent s) h]
  simp [viewed]

/-- A CLEAR that makes the view shrink, with the fire line released. -/
theorem clear_at_shutter (h : s.fire.view &&& ~~~mask ≠ s.fire.view) (hhere : BroadcastHere s f 1)
    (hmask : f.payload = [mask]) (hpanel : f.sender.toNat = 31) (hline : s.pins.fireLine = false) :
    exec (.clear f) s = .next (viewReaders (viewed (s.fire.view &&& ~~~mask) s)) := by
  have hnot : ¬ ((answerWith silent s).pins.fireLine = true ∧
      mask.getLsbD (answerWith silent s).compartment = true) := by
    rintro ⟨hlit, -⟩
    simp [hline] at hlit
  rw [exec_clear hhere, if_pos hpanel, takeClear_of_not_kept hmask hnot]
  exact congrArg _ (setView_of_ne (s := answerWith silent s) h)

/-- Settles O53, part by part: the view, the clear wait, the sensors and the limit, the listen period. -/
theorem shutterSequence : Obligations.ShutterSequence := by
  intro s hstation shut opened own closes opens mayOpen closing opening moving incoming still
  have hviewed : ∀ v, closes v ↔ closeCondition (viewed v s) = true := fun v => (closeCondition_iff (s := viewed v s)).symm
  have hopens : ∀ v, opens v ↔ openCondition (viewed v s) = true := fun v => (openCondition_iff (s := viewed v s)).symm
  have hmay : mayOpen ↔ openCondition s = true := openCondition_iff.symm
  have hcross : ∀ v, crossing (viewed v s) = true ↔ moving ∨ incoming := fun v => crossing_iff (s := viewed v s)
  refine ⟨fun f mask hhere hmask => ⟨fun hgrown => ?_, fun hpanel hline hshrunk => ?_⟩, fun hclearing htimer => ?_,
    fun hclearing ⟨hout, hback⟩ => ?_, fun hclosing hlimit => ?_, fun hshut => ?_, fun hopening hopen => ?_, ?_, ?_,
    fun hlisten hview hactive => ?_, fun hnone => ?_⟩
  · obtain ⟨t, hrun, hfire, hlanes⟩ := fire_at_shutter hgrown hhere hmask
    have hview : (viewed (s.fire.view ||| mask) s).fire.view ≠ 0#8 := grown_ne_zero hgrown
    refine ⟨t, hrun, fun hopened hcloses => ?_, fun hopening hends => ?_⟩
    · obtain ⟨hheld, hcloses, hclears⟩ := viewReaders_opened hview hopened ((hviewed _).1 hcloses)
      show t.lanes.outSeg.cond = _ ∧ t.lanes.backSeg.cond = _ ∧ _
      rw [hlanes]
      refine ⟨hheld .outLane, hheld .backLane, fun hno => ?_, fun hyes => ?_⟩
      · show t.fire.shutter = _ ∧ _
        rw [hfire]
        exact hcloses (Bool.eq_false_iff.2 fun h => hno ((hcross _).1 h))
      · rw [hfire]
        exact hclears ((hcross _).2 hyes)
    · show t.fire.shutter = _ ∧ _
      rw [hfire]
      exact viewReaders_opening hview hopening (openingEnds_iff.2 (hends.imp_left (hviewed _).1))
  · refine ⟨_, clear_at_shutter hshrunk hhere hmask hpanel hline, fun hshut hopen => ?_, fun hgoes => ?_⟩
    · exact viewReaders_opens hshut ((hopens _).1 hopen)
    · exact viewReaders_goes_on (hgoes.imp_right fun ⟨h, hc⟩ => ⟨h, (hcross _).2 hc⟩)
  · exact congrArg _ (if_pos ⟨htimer, hclearing⟩)
  · intro ended
    refine ⟨fun f c pos more hhere hlane hbin hdown hmoving hplaces =>
      landed_clear_wait hclearing hout hhere hlane hbin hdown hmoving hplaces,
      fun hmoving hlimit => handoffLimit_clear_wait hclearing hout hmoving hlimit,
      fun hin => tailReport_clear_wait hstation hclearing hback hin,
      fun hin hlimit => reservationLimit_clear_wait hclearing hback hin hlimit⟩
  · refine ⟨_, closeLimit_expires hclosing hlimit, rfl, fun hno => ?_, fun hopen => ?_⟩
    · exact if_neg fun h => hno (hmay.2 h)
    · exact if_pos (hmay.1 hopen)
  · refine ⟨fun hno => ?_, fun hopen => ?_, ?_⟩
    · rw [closedSensor_closes hstation hshut, if_neg fun h => hno (hmay.2 h)]
    · rw [closedSensor_closes hstation hshut, if_pos (hmay.1 hopen)]
    · refine congrArg _ ((if_neg hstation).trans (if_neg ?_))
      rintro ⟨-, hopening⟩
      replace hopening : s.fire.shutter = some .opening := hopening
      rcases hshut with h | h
      · simp [h] at hopening
      · simp [h] at hopening
  · have hrun := openSensor_opens hstation hopening (hmay.1 hopen)
    obtain ⟨-, -, hactive, hlisten⟩ := hopen
    set r := { s with
      pins := { s.pins with shutterOpen := true }
      fire := { s.fire with shutter := some .opened, openOut := false } } with hr
    have hcond := settleConditions_cond r
    refine ⟨_, hrun, by simp [r], fun hview => ?_, fun hview => ?_, by simp [r, opened], by simp [r], by simp [r],
      by simp [r]⟩
    · rw [wantedCondition_of_running (s := r) hview hlisten hactive (.inr rfl)] at hcond
      exact ⟨hcond .outLane, hcond .backLane⟩
    · rw [wantedCondition_of_held (s := r) (by simp [r, hactive]) (.inl (by simp [ringHold, r, hview]))] at hcond
      exact ⟨hcond .outLane, hcond .backLane⟩
  · refine congrArg _ ((if_neg hstation).trans (if_neg ?_))
    simp
  · refine congrArg _ ((if_neg hstation).trans (if_neg ?_))
    simp
  · exact ⟨listenEnds s, congrArg _ (if_pos hlisten), listenEnds_of_active hview hactive⟩
  · exact congrArg _ (if_neg (by simp [hnone]))

end Sys2Proof.Machine
end

section
/-! PROOF. What a reset with valid straps leaves (R29, R67, R132, R151, R169, R170, R190): the cleared state with the JOIN
and the notices queued, and with a fire line asserted the own compartment's alarm raised. -/

namespace Sys2Proof.Machine

-- Checked one after another: the host bounds the memory of all threads together.
set_option Elab.async false

open Sys2Proof Sys2Proof.Safety

variable {s t : State} {warm : Bool} {i : Inputs} {f : FireUnit} {v : BitVec 8}

/-! ### An alarm raised in JOINING -/

/-- The shutter states that a reset leaves (R190). -/
def resetShutter (x : Option ShutterState) : Prop :=
  x = none ∨ x = some .closed ∨ x = some .closing ∨ x = some .opened ∨ x = some .opening

/-- The Fire Unit with the view `v`, as a shutter that a reset has left takes it up: one that is OPEN or OPENING is
CLOSING. -/
def FireUnit.viewTaken (v : BitVec 8) (f : FireUnit) : FireUnit :=
  if f.shutter = some .opened ∨ f.shutter = some .opening then { f with view := v }.clearEnded else { f with view := v }

/-- The close condition with nothing crossing and the segments held (R185, R187, R189). -/
theorem shutterTakeUp_of_alarm (hstation : s.ctl.station = .joining) (hheld : ∀ k, (s.seg k).cond = .held)
    (hcross : crossing s = false) (hclose : closeCondition s = true) (hshutter : resetShutter s.fire.shutter) :
    shutterTakeUp s = { s with fire :=
      (if s.fire.shutter = some .opened ∨ s.fire.shutter = some .opening then s.fire.clearEnded else s.fire) } := by
  rcases hshutter with h | h | h | h | h
  · rw [shutterTakeUp_of_none h, if_neg (by simp [h])]
  · rw [shutterTakeUp_of_shut (.inl h), if_neg, if_neg (by simp [h])]
    intro hopen
    have hactive := (openCondition_iff.1 hopen).2.2.1
    simp [hstation] at hactive
  · rw [shutterTakeUp_of_closing h, if_neg (by simp [h])]
  · have hbegin : beginClearing s = { s with fire := s.fire.clearEnded } := by
      refine (if_neg ?_).trans rfl
      show ¬ crossing s = true
      simp [hcross]
    rw [shutterTakeUp_of_opened h, if_pos hclose, settleConditions_eq_self, hbegin, if_pos (.inl h)]
    intro k
    rw [wantedCondition_beginClearing, hbegin]
    exact hheld k
  · rw [shutterTakeUp_of_opening h, if_pos (openingEnds_iff.2 (.inl hclose)), if_pos (.inr h)]
    rfl

/-- In JOINING an alarm of the own compartment is set in the view, and the shutter closes; nothing else follows. -/
theorem setView_of_joining (hstation : s.ctl.station = .joining) (hheld : ∀ k, (s.seg k).cond = .held)
    (hcross : crossing s = false) (hbelow : s.fire.below = none) (hzero : s.fire.view = 0#8)
    (hown : v.getLsbD s.compartment = true) (hshutter : resetShutter s.fire.shutter) :
    setView v s = { s with fire := s.fire.viewTaken v } := by
  have hview : v ≠ 0#8 := ne_zero_of_getLsbD hown
  set u := s.onFire fun f => { f with view := v } with hu
  have hdispatched : viewDispatched u = u := (viewDispatched_of_view hview).trans
    (viewAnswered_of_own hown (by simp [u, hstation]))
  have hwanted : wantedCondition u = .held :=
    wantedCondition_of_held (by simp [u, hstation]) (.inl (by simp [ringHold, u, hstation]))
  have hsettled : settleConditions u = u := settleConditions_eq_self fun k => by simpa [hwanted, u] using hheld k
  rw [setView_of_ne (by rw [hzero]; exact hview), ← hu, viewReaders_eq_takeUp, hdispatched, hsettled,
    shutterTakeUp_of_alarm (s := u) hstation (fun k => by simpa [u] using hheld k) hcross
      (closeCondition_iff.2 (.inl ⟨hbelow, hview⟩)) hshutter]
  rfl

/-! ### The cleared state, announced and with its notices raised -/

/-- The reset before the fire line is looked at. -/
def announcedReset (warm : Bool) (i : Inputs) (s : State) : State :=
  (resetNotices warm i s).foldl (fun t n => raise n t) (announce (clearedState warm i s))

theorem resetEnds_of_valid (h : i.straps.valid = true) : resetEnds warm i s =
    if i.pins.fireLine = true then ownFire (announcedReset warm i s) else announcedReset warm i s := by
  simp [resetEnds, announcedReset, h]

/-- What neither a JOIN nor a notice changes is as the reset has cleared it. -/
theorem announcedReset_eq {β : Type} (g : State → β) (hraise : ∀ n (t : State), g (raise n t) = g t)
    (hannounce : ∀ t : State, g (announce t) = g t) : g (announcedReset warm i s) = g (clearedState warm i s) :=
  (foldl_raise_eq g hraise _ _).trans (hannounce _)

/-- All of the announced reset that is not of the Bus Interface, the notice list or the pending set. -/
theorem announcedReset_keeps (warm : Bool) (i : Inputs) (s : State) :
    announcedReset warm i s = { clearedState warm i s with
      bus := (announcedReset warm i s).bus
      ctl := { freshControl warm i.straps s.ctl with
        notices := (announcedReset warm i s).ctl.notices
        pendingSet := (announcedReset warm i s).ctl.pendingSet } } := by
  have hctl : (announcedReset warm i s).ctl = { freshControl warm i.straps s.ctl with
      notices := (announcedReset warm i s).ctl.notices
      pendingSet := (announcedReset warm i s).ctl.pendingSet } := by
    have hfresh : (clearedState warm i s).ctl = freshControl warm i.straps s.ctl := rfl
    rw [← hfresh]
    have hraise : ∀ n (t : State), { (raise n t).ctl with notices := [], pendingSet := 0#16 } =
        { t.ctl with notices := [], pendingSet := 0#16 } := fun n t => by simp
    have hannounce : ∀ t : State, { (announce t).ctl with notices := [], pendingSet := 0#16 } =
        { t.ctl with notices := [], pendingSet := 0#16 } := fun t => by simp
    have hrest := announcedReset_eq (warm := warm) (i := i) (s := s)
      (fun t => { t.ctl with notices := [], pendingSet := 0#16 }) hraise hannounce
    simp only [Control.mk.injEq, and_true] at hrest
    obtain ⟨h1, h2, h3, h4, h5, h6, h7⟩ := hrest
    dsimp only
    rw [← h1, ← h2, ← h3, ← h4, ← h5, ← h6, ← h7]
  apply State.eq_of_blocks
  · exact announcedReset_eq State.pending (by simp) (by simp)
  · exact announcedReset_eq State.pins (by simp) (by simp)
  · rfl
  · exact hctl
  · exact announcedReset_eq State.bins (by simp) (by simp)
  · exact announcedReset_eq State.crane (by simp) (by simp)
  · exact announcedReset_eq State.est (by simp) (by simp)
  · exact announcedReset_eq State.lanes (by simp) (by simp)
  · exact announcedReset_eq State.port (by simp) (by simp)
  · exact announcedReset_eq State.auctions (by simp) (by simp)
  · exact announcedReset_eq State.fire (by simp) (by simp)

@[simp] theorem announcedReset_bus (warm : Bool) (i : Inputs) (s : State) :
    (announcedReset warm i s).bus.rx = [] ∧ (announcedReset warm i s).bus.offBus = false ∧
      (announcedReset warm i s).bus.failures = 0 ∧ (announcedReset warm i s).bus.tx = none := by
  refine ⟨?_, ?_, ?_, ?_⟩
  · exact announcedReset_eq (·.bus.rx) (by simp) (by simp)
  · exact announcedReset_eq (·.bus.offBus) (by simp) (by simp)
  · exact announcedReset_eq (·.bus.failures) (by simp) (by simp)
  · exact announcedReset_eq (·.bus.tx) (by simp) (by simp)

/-- Slot 0 is free until a FIRE is queued. -/
theorem announcedReset_slot : (announcedReset warm i s).bus.slots.s0 = .free := by
  have hkept : FireKept (clearedState warm i s) (announcedReset warm i s) :=
    announce_fireKept.trans (FireKept.foldl (fun t n => raise_fireKept) _)
  exact (hkept clearedState_slot).1

theorem freshFire_shutter (h : i.straps.valid = true) : resetShutter (freshFire warm i f).shutter := by
  show resetShutter (shutterReset warm i f).state
  unfold shutterReset
  rw [if_neg (by simp [h])]
  split_ifs
  · exact .inl rfl
  · exact .inr (.inl rfl)
  · exact .inr (.inr (.inr (.inl rfl)))
  · exact .inr (.inr (.inr (.inr rfl)))
  · exact .inr (.inr (.inl rfl))

/-- The Fire Unit at the end of a reset (R170, R190). -/
def resetFire (warm : Bool) (i : Inputs) (f : FireUnit) : FireUnit :=
  if i.pins.fireLine = true then
    { (freshFire warm i f).viewTaken (BitVec.ofNat 8 (2 ^ i.straps.compartment.toNat)) with repeatTimer := some 2000 }
  else freshFire warm i f

theorem announcedReset_ownMask : (announcedReset warm i s).ownMask = BitVec.ofNat 8 (2 ^ i.straps.compartment.toNat) := by
  rw [State.ownMask, State.compartment, announcedReset_keeps]
  rfl

/-- The own compartment's alarm at the end of a reset with valid straps. -/
theorem setView_announcedReset (h : i.straps.valid = true) :
    setView ((announcedReset warm i s).fire.view ||| (announcedReset warm i s).ownMask) (announcedReset warm i s) =
      { announcedReset warm i s with
        fire := (freshFire warm i s.fire).viewTaken (BitVec.ofNat 8 (2 ^ i.straps.compartment.toNat)) } := by
  have hkeeps := announcedReset_keeps warm i s
  rw [announcedReset_ownMask]
  have hown : (announcedReset warm i s).ownMask.getLsbD (announcedReset warm i s).compartment = true := by
    simp [getLsbD_ownMask]
  rw [announcedReset_ownMask] at hown
  set r := announcedReset warm i s with hr
  have hfire : r.fire = freshFire warm i s.fire := by rw [hkeeps]; rfl
  have hlanes : r.lanes = freshLanes i := by rw [hkeeps]; rfl
  have hheld : ∀ k, (r.seg k).cond = .held := by
    obtain ⟨hout, hback⟩ := freshLanes_cond i
    intro k
    cases k
    · exact (congrArg (·.outSeg.cond) hlanes).trans hout
    · exact (congrArg (·.backSeg.cond) hlanes).trans hback
  have hcross : crossing r = false := by
    unfold crossing
    rw [hlanes, freshLanes, if_pos h]
    rfl
  have hstation : r.ctl.station = .joining := by
    rw [hkeeps]
    exact if_pos h
  have hzero : r.fire.view = 0#8 := by rw [hfire]; rfl
  have hset := setView_of_joining hstation hheld hcross (by rw [hfire]; rfl) hzero hown
    (by rw [hfire]; exact freshFire_shutter h)
  rw [hzero, BitVec.zero_or, hset, hfire]

/-- The end of a reset with valid straps: the announced reset, with the FIRE of a fire line asserted. -/
theorem resetEnds_eq (h : i.straps.valid = true) : resetEnds warm i s = { announcedReset warm i s with
    bus := (resetEnds warm i s).bus
    fire := resetFire warm i s.fire } := by
  rw [resetEnds_of_valid h]
  unfold resetFire
  split_ifs with hline
  · unfold ownFire
    rw [setView_announcedReset h]
    apply State.eq_of_blocks <;> simp [Config.fireRepeatMs]
  · have hfire : (announcedReset warm i s).fire = freshFire warm i s.fire := by rw [announcedReset_keeps]; rfl
    rw [← hfire]

theorem resetEnds_bus (h : i.straps.valid = true) :
    (resetEnds warm i s).bus.rx = [] ∧ (resetEnds warm i s).bus.offBus = false ∧
      (resetEnds warm i s).bus.failures = 0 ∧ (resetEnds warm i s).bus.tx = none := by
  rw [resetEnds_of_valid h]
  split_ifs
  · unfold ownFire
    rw [setView_announcedReset h]
    simp
  · simp

end Sys2Proof.Machine
end

section
/-! PROOF. The obligations on what a power-on reset and a warm reset leave (R29, R67, R132, R151, R169, R170, R190). -/

namespace Sys2Proof.Machine

-- Checked one after another: the host bounds the memory of all threads together.
set_option Elab.async false

open Sys2Proof Sys2Proof.Safety

variable {s t : State} {warm : Bool} {i : Inputs} {f : FireUnit} {v : BitVec 8}

/-! ### Places, shutter and view -/

theorem placesAfterReset_of (h : i.straps.valid = true) (hlanes : t.lanes = freshLanes i) (hport : t.port = freshPort i) :
    PlacesAfterReset i t := by
  refine ⟨?_, ?_⟩
  · rw [hlanes, freshLanes, if_pos h]
    rfl
  · rw [hport, freshPort, h]
    cases i.straps.port
    · rfl
    · rfl

/-- The table of R190 as the Fire Unit holds it after a reset. -/
theorem freshFire_eq (h : i.straps.valid = true) (warm : Bool) (f : FireUnit) :
    let fitted := i.straps.shutter = true ∧ i.straps.number.toNat ≠ 1
    let g := freshFire warm i f
    (¬ fitted → g.shutter = none ∧ g.closeOut = false ∧ g.openOut = false) ∧
      (fitted → i.pins.shutterClosed = true → g.shutter = some .closed ∧ g.closeOut = false ∧ g.openOut = false) ∧
      (fitted → i.pins.shutterClosed = false → i.pins.shutterOpen = true →
        g.shutter = some .opened ∧ g.openOut = false ∧ g.closeOut = f.closeOut) ∧
      (fitted → i.pins.shutterClosed = false → i.pins.shutterOpen = false → f.openOut = true →
        g.shutter = some .opening ∧ g.openOut = !warm) ∧
      (fitted → i.pins.shutterClosed = false → i.pins.shutterOpen = false → f.openOut = false →
        g.shutter = some .closing ∧ g.closeOut = true ∧ g.openOut = false ∧ g.closeLimit = some 15000) := by
  intro fitted g
  have hfitted : i.straps.shutterFitted = true ↔ fitted := by simp [Straps.shutterFitted, fitted]
  have hg : ∀ r, shutterReset warm i f = r →
      g.shutter = r.state ∧ g.closeOut = r.close ∧ g.openOut = r.opening ∧ g.closeLimit = r.limit := by
    rintro r rfl
    exact ⟨rfl, rfl, rfl, rfl⟩
  refine ⟨fun hnot => ?_, fun hyes hclosed => ?_, fun hyes hclosed hopen => ?_, fun hyes hclosed hopen hout => ?_,
    fun hyes hclosed hopen hout => ?_⟩
  · have hno : i.straps.shutterFitted = false := Bool.eq_false_iff.2 fun hf => hnot (hfitted.1 hf)
    obtain ⟨h1, h2, h3, -⟩ := hg _ (by rw [shutterReset, h, hno])
    exact ⟨h1, h2, h3⟩
  · obtain ⟨h1, h2, h3, -⟩ := hg _ (by rw [shutterReset, h, hfitted.2 hyes, hclosed])
    exact ⟨h1, h2, h3⟩
  · obtain ⟨h1, h2, h3, -⟩ := hg _ (by rw [shutterReset, h, hfitted.2 hyes, hclosed, hopen])
    exact ⟨h1, h3, h2⟩
  · obtain ⟨h1, -, h3, -⟩ := hg _ (by rw [shutterReset, h, hfitted.2 hyes, hclosed, hopen, hout])
    exact ⟨h1, h3⟩
  · obtain ⟨h1, h2, h3, h4⟩ := hg _ (by rw [shutterReset, h, hfitted.2 hyes, hclosed, hopen, hout])
    exact ⟨h1, h2, h3, h4⟩

/-- The shutter of a Fire Unit that takes a view in JOINING. -/
theorem viewTaken_shutter (v : BitVec 8) (f : FireUnit) :
    (f.shutter ≠ some .opened → f.shutter ≠ some .opening → f.viewTaken v = { f with view := v }) ∧
      (f.shutter = some .opened ∨ f.shutter = some .opening → f.viewTaken v = { f with view := v }.clearEnded) :=
  ⟨fun h h' => if_neg (by simp [h, h']), fun h => if_pos h⟩

theorem shutterAfterReset_of (h : i.straps.valid = true) (hfire : t.fire = resetFire warm i s.fire) :
    ShutterAfterReset warm i s t := by
  obtain ⟨hnone, hclosed, hopened, hopening, hclosing⟩ := freshFire_eq h warm s.fire
  set g := freshFire warm i s.fire with hg
  set m := BitVec.ofNat 8 (2 ^ i.straps.compartment.toNat) with hm
  obtain ⟨hkept, hturned⟩ := viewTaken_shutter m g
  unfold ShutterAfterReset
  intro fitted
  rw [hfire]
  unfold resetFire
  rw [← hg, ← hm]
  refine ⟨fun hline => ?_, fun hline => ?_⟩
  · rw [if_pos hline]
    refine ⟨fun hnot => ?_, fun hyes hshut => ?_, fun hyes hshut => ?_⟩
    · obtain ⟨hx, hc, ho⟩ := hnone hnot
      rw [hkept (by simp [hx]) (by simp [hx])]
      exact ⟨hx, hc, ho⟩
    · obtain ⟨hx, hc, ho⟩ := hclosed hyes hshut
      rw [hkept (by simp [hx]) (by simp [hx])]
      exact ⟨hx, hc, ho⟩
    · cases hopen : i.pins.shutterOpen with
      | true =>
        rw [hturned (.inl (hopened hyes hshut hopen).1)]
        exact ⟨rfl, rfl, rfl, rfl⟩
      | false =>
        cases hout : s.fire.openOut with
        | true =>
          rw [hturned (.inr (hopening hyes hshut hopen hout).1)]
          exact ⟨rfl, rfl, rfl, rfl⟩
        | false =>
          obtain ⟨hx, hc, ho, hl⟩ := hclosing hyes hshut hopen hout
          rw [hkept (by simp [hx]) (by simp [hx])]
          exact ⟨hx, hc, ho, hl⟩
  · rw [if_neg (by simp [hline])]
    refine ⟨hnone, fun hyes hshut => ?_, hopened, hopening, fun hyes hshut hopen hout => ?_⟩
    · obtain ⟨hx, hc, -⟩ := hclosed hyes hshut
      exact ⟨hx, hc⟩
    · obtain ⟨hx, hc, -, hl⟩ := hclosing hyes hshut hopen hout
      exact ⟨hx, hc, hl⟩

theorem viewTaken_keeps (v : BitVec 8) (f : FireUnit) : (f.viewTaken v).view = v ∧ (f.viewTaken v).latch = f.latch ∧
    (f.viewTaken v).listen = f.listen ∧ (f.viewTaken v).below = f.below ∧
    (f.clearTimer = none → (f.viewTaken v).clearTimer = none) := by
  unfold FireUnit.viewTaken
  split
  · exact ⟨rfl, rfl, rfl, rfl, fun _ => rfl⟩
  · exact ⟨rfl, rfl, rfl, rfl, id⟩

/-- What the Fire Unit holds after a reset besides the shutter (R169, R170, R172, R184). -/
theorem resetFire_eq (warm : Bool) (i : Inputs) (f : FireUnit) :
    (resetFire warm i f).below = none ∧ (resetFire warm i f).clearTimer = none ∧
      (resetFire warm i f).latch = (warm && f.latch) ∧
      (resetFire warm i f).listen = (if warm && i.straps.valid then some Config.listenMs else none) ∧
      (i.pins.fireLine = false → (resetFire warm i f).view = 0#8 ∧ (resetFire warm i f).repeatTimer = none) ∧
      (i.pins.fireLine = true → (resetFire warm i f).view = BitVec.ofNat 8 (2 ^ i.straps.compartment.toNat) ∧
        (resetFire warm i f).repeatTimer = some 2000) := by
  obtain ⟨hview, hlatch, hlisten, hbelow, hclear⟩ :=
    viewTaken_keeps (BitVec.ofNat 8 (2 ^ i.straps.compartment.toNat)) (freshFire warm i f)
  by_cases hline : i.pins.fireLine = true
  · have hrun : resetFire warm i f = { (freshFire warm i f).viewTaken (BitVec.ofNat 8 (2 ^ i.straps.compartment.toNat)) with
        repeatTimer := some 2000 } := if_pos hline
    rw [hrun]
    exact ⟨hbelow, hclear rfl, hlatch, hlisten, fun hno => by simp [hline] at hno, fun _ => ⟨hview, rfl⟩⟩
  · have hrun : resetFire warm i f = freshFire warm i f := if_neg hline
    rw [hrun]
    exact ⟨rfl, rfl, rfl, rfl, fun _ => ⟨rfl, rfl⟩, fun hyes => absurd hyes hline⟩

theorem viewAfterReset_of (h : i.straps.valid = true) : ViewAfterReset i (resetEnds warm i s) := by
  have hends := resetEnds_eq (warm := warm) (s := s) h
  have hfire : (resetEnds warm i s).fire = resetFire warm i s.fire := by rw [hends]
  obtain ⟨hbelow, hclear, -, -, hno, hyes⟩ := resetFire_eq warm i s.fire
  unfold ViewAfterReset
  rw [hfire]
  refine ⟨hbelow, hclear, fun hline => ?_, fun hline => ?_⟩
  · obtain ⟨hview, hrepeat⟩ := hno hline
    refine ⟨hview, hrepeat, ?_⟩
    rw [resetEnds_of_valid h, if_neg (by simp [hline])]
    exact announcedReset_slot
  · obtain ⟨hview, hrepeat⟩ := hyes hline
    refine ⟨hview, hrepeat, ?_⟩
    have hlaw : SlotLaw (announcedReset warm i s) := slotLaw_of_eq (s := clearedState warm i s) clearedState_slot announcedReset_slot
    have hon : (announcedReset warm i s).bus.offBus = false := by simp
    obtain ⟨-, -, -, -, -, hfree, -, -⟩ := ownFire_rings hlaw
    obtain ⟨n, hn⟩ := hfree hon announcedReset_slot
    rw [resetEnds_of_valid h, if_pos hline]
    exact ⟨n, by rw [hn, announcedReset_ownMask]⟩

/-! ### All but the Fire Unit -/

/-- What the end of a reset leaves of the blocks but for the notices and the Fire Unit. -/
theorem resetEnds_blocks (h : i.straps.valid = true) :
    (resetEnds warm i s).pending = s.pending ∧ (resetEnds warm i s).pins = i.pins ∧
      (resetEnds warm i s).bins = (if warm then warmBins s.bins else []) ∧
      (resetEnds warm i s).crane = Crane.cleared ∧ (resetEnds warm i s).est.time = 0 ∧
      (resetEnds warm i s).lanes = freshLanes i ∧ (resetEnds warm i s).port = freshPort i ∧
      (resetEnds warm i s).auctions.records = [] := by
  rw [resetEnds_eq h, announcedReset_keeps]
  refine ⟨rfl, rfl, rfl, ?_, rfl, rfl, rfl, rfl⟩
  exact if_pos h

theorem resetEnds_ctl (h : i.straps.valid = true) :
    (resetEnds warm i s).ctl.straps = i.straps ∧ (resetEnds warm i s).ctl.station = .joining ∧
      (resetEnds warm i s).ctl.joinWait = some 10000 ∧
      (resetEnds warm i s).ctl.setup = (if warm then s.ctl.setup else Setup.powerOn) ∧
      (resetEnds warm i s).ctl.roster = freshRoster i.straps ∧
      (resetEnds warm i s).ctl.record = (if warm then s.ctl.record.warm else FaultRecord.clear) ∧
      (resetEnds warm i s).ctl.warmStart = warm := by
  rw [resetEnds_eq h, announcedReset_keeps]
  refine ⟨rfl, ?_, ?_, rfl, rfl, rfl, rfl⟩
  · exact if_pos h
  · exact if_pos h

/-! ### The pending set -/

/-- A slot has room for one frame while it is free. -/
def Slot.room : Slot → Nat
  | .free => 1
  | _ => 0

theorem Slot.room_of_ne {x : Slot} (h : x ≠ .free) : x.room = 0 := by
  cases x with
  | free => exact absurd rfl h
  | granted => rfl
  | holds q => rfl

/-- The free slots of 1 to 3. -/
def Slots.room (t : Slots) : Nat := t.s1.room + t.s2.room + t.s3.room

theorem Slots.room_set {t : Slots} {id : SlotId} (hid : t.get id = .free) (hne : id ≠ .s0) (q : Queued) :
    (t.set id (.holds q)).room + 1 = t.room := by
  obtain ⟨s0, s1, s2, s3⟩ := t
  cases id with
  | s0 => exact absurd rfl hne
  | s1 =>
    obtain rfl : s1 = .free := hid
    show 0 + s2.room + s3.room + 1 = 1 + s2.room + s3.room
    omega
  | s2 =>
    obtain rfl : s2 = .free := hid
    show s1.room + 0 + s3.room + 1 = s1.room + 1 + s3.room
    omega
  | s3 =>
    obtain rfl : s3 = .free := hid
    show s1.room + s2.room + 0 + 1 = s1.room + s2.room + 1
    omega

theorem Slots.room_of_full {t : Slots} (h : t.freeSlot = none) : t.room = 0 := by
  unfold Slots.freeSlot at h
  split_ifs at h with h1 h2 h3
  rw [Slots.room, Slot.room_of_ne h1, Slot.room_of_ne h2, Slot.room_of_ne h3]

/-- The free slots of 1 to 3 and the places free in the notice list (R6, R19). -/
def noticeRoom (s : State) : Nat := s.bus.slots.room + (8 - s.ctl.notices.length)

/-- A notice that is not masked and finds room is queued or listed (R19): it takes one place, and the pending set stands. -/
theorem raise_in_room {n : Notice} (hmask : s.ctl.setup.noticeMask.getLsbD n.code = false) (hbus : s.bus.offBus = false)
    (hroom : 0 < noticeRoom s) :
    (raise n s).ctl.pendingSet = s.ctl.pendingSet ∧ noticeRoom s ≤ noticeRoom (raise n s) + 1 := by
  unfold raise
  rw [if_neg (by simp [hmask, hbus])]
  split
  next id hid =>
    have hset := Slots.room_set (Slots.get_of_freeSlot hid) (Slots.freeSlot_ne_s0 hid) (newQueued (.notice n) s.bus.order)
    refine ⟨rfl, ?_⟩
    show s.bus.slots.room + _ ≤ (s.bus.slots.set id _).room + (8 - s.ctl.notices.length) + 1
    omega
  next hnone =>
    have hfull := Slots.room_of_full hnone
    have hlist : s.ctl.notices.length < 8 := by
      unfold noticeRoom at hroom
      omega
    rw [if_pos hlist]
    refine ⟨rfl, ?_⟩
    show s.bus.slots.room + _ ≤ s.bus.slots.room + (8 - (s.ctl.notices ++ [_]).length) + 1
    rw [List.length_append, List.length_singleton]
    omega

/-- As many notices as there is room for leave the pending set as it was. -/
theorem foldl_raise_in_room {l : List Notice} (hmask : s.ctl.setup.noticeMask = 0#16) (hbus : s.bus.offBus = false)
    (hroom : l.length ≤ noticeRoom s) : (l.foldl (fun t n => raise n t) s).ctl.pendingSet = s.ctl.pendingSet := by
  induction l generalizing s with
  | nil => rfl
  | cons n l ih =>
    rw [List.length_cons] at hroom
    obtain ⟨hset, hless⟩ := raise_in_room (n := n) (by rw [hmask]; simp) hbus (by omega)
    rw [List.foldl_cons, ih (by simpa using hmask) (by simpa using hbus) (by omega), hset]

/-- A reset makes a stray of at most ten places. -/
theorem freshStrays_length (i : Inputs) : (freshStrays i).length ≤ 10 := by
  have hat : ∀ (b : Bool) (code : Nat), (if b then [code] else []).length ≤ 1 := by
    intro b code
    split
    · exact Nat.le_refl 1
    · exact Nat.zero_le 1
  unfold freshStrays
  dsimp only
  split
  · simp only [List.length_append]
    have h1 := hat i.pins.outSeg.head 1
    have h2 := hat i.pins.outSeg.middle 2
    have h3 := hat i.pins.outSeg.tail 3
    have h4 := hat i.pins.backSeg.head 4
    have h5 := hat i.pins.backSeg.middle 5
    have h6 := hat i.pins.backSeg.tail 6
    have h7 := hat i.pins.outStand 7
    have h8 := hat i.pins.inStand 8
    have h9 := hat i.pins.approach 9
    have h10 := hat i.pins.service 10
    have hport : (if i.straps.port = true then (if i.pins.approach = true then [9] else []) ++
        (if i.pins.service = true then [10] else []) else []).length ≤ 2 := by
      split
      · rw [List.length_append]
        omega
      · exact Nat.zero_le 2
    omega
  · exact Nat.zero_le _

/-- The JOIN of a reset takes slot 1, which leaves room for ten notices. -/
theorem noticeRoom_announce_clearedState : noticeRoom (announce (clearedState warm i s)) = 10 := by
  cases warm
  · rfl
  · rfl

/-- The setup defaults mask no notice, and the strays of a power-on reset all find room: no position is pending. -/
theorem announcedReset_pendingSet : (announcedReset false i s).ctl.pendingSet = 0#16 := by
  have hlen : (resetNotices false i s).length ≤ noticeRoom (announce (clearedState false i s)) := by
    rw [noticeRoom_announce_clearedState]
    simpa [resetNotices] using freshStrays_length i
  have hfold := foldl_raise_in_room (s := announce (clearedState false i s)) (by simp [clearedState, freshControl]; rfl)
    (by simp [clearedState, Bus.cleared]) hlen
  exact hfold.trans (by simp [clearedState, freshControl])

/-! ### The obligations -/

/-- Settles O9: the reset's blocks one by one, the places, the shutter and the view. -/
theorem powerOnResetLeaves : Obligations.PowerOnResetLeaves := by
  intro s i h
  obtain ⟨hpending, hpins, hbins, hcrane, htime, hlanes, hport, hauctions⟩ := resetEnds_blocks (warm := false) (s := s) h
  obtain ⟨hstraps, hstation, hwait, hsetup, hroster, hrecord, hwarm⟩ := resetEnds_ctl (warm := false) (s := s) h
  obtain ⟨hrx, hoff, hfailures, htx⟩ := resetEnds_bus (warm := false) (s := s) h
  have hends := resetEnds_eq (warm := false) (s := s) h
  have hfire : (resetEnds false i s).fire = resetFire false i s.fire := by rw [hends]
  obtain ⟨-, -, hlatch, hlisten, -⟩ := resetFire_eq false i s.fire
  refine ⟨resetEnds false i s, rfl, hpending, hpins, hstraps, hstation, hwait, hsetup, fun n => ?_, hrecord, ?_, ?_, hwarm,
    ?_, fun n => ?_, hcrane, htime, hauctions, hrx, hfailures, hoff, htx, placesAfterReset_of h hlanes hport,
    shutterAfterReset_of h hfire, viewAfterReset_of h⟩
  · have hnumber : 1 ≤ i.straps.number.toNat ∧ i.straps.number.toNat ≤ 24 := by
      simp only [Straps.valid, Bool.and_eq_true, decide_eq_true_eq] at h
      omega
    rw [rosterOf, hroster, tableGet_freshRoster]
    refine if_congr ⟨fun ⟨hn, _⟩ => hn, fun hn => ⟨hn, hn ▸ hnumber⟩⟩ ?_ rfl
    rw [freshStation, if_pos h]
  · rw [hfire, hlatch]
    rfl
  · rw [hfire, hlisten]
    rfl
  · rw [hends]
    exact announcedReset_pendingSet
  · rw [binAt, hbins]
    rfl

/-- A record under a warm reset, by its state (R67). -/
theorem binAt_warmBins (n : Nat) (l : List (Nat × BinRec)) :
    tableGet BinRec.blank (warmBins l) n = warmRecord (tableGet BinRec.blank l n) := by
  induction l with
  | nil => rfl
  | cons e l ih =>
    show (if n = e.1 then warmRecord e.2 else tableGet BinRec.blank (warmBins l) n) = _
    rw [ih]
    show _ = warmRecord (if n = e.1 then e.2 else tableGet BinRec.blank l n)
    split
    · rfl
    · rfl

theorem fillBehind_iff {b : BinRec} :
    fillBehind b = true ↔ (∃ k, b.call = some k ∧ k.purpose = .fill) ∨ ∃ e ∈ b.followOns, e.purpose = .fill := by
  cases hcall : b.call with
  | none => simp [fillBehind, hcall]
  | some k => simp [fillBehind, hcall]

/-- Settles O10: with straps as before the reset is warm, and else a power-on reset. -/
theorem warmResetKeeps : Obligations.WarmResetKeeps := by
  refine ⟨fun s i h hnumber htop hsides hlength => ?_, fun s i hother => ?_⟩
  · have hstays : staysWarm s.ctl.straps i.straps = true := by simp [staysWarm, hnumber, htop, hsides, hlength]
    obtain ⟨hpending, hpins, hbins, hcrane, htime, hlanes, hport, hauctions⟩ := resetEnds_blocks (warm := true) (s := s) h
    obtain ⟨hstraps, hstation, hwait, hsetup, -, hrecord, hwarm⟩ := resetEnds_ctl (warm := true) (s := s) h
    obtain ⟨hrx, hoff, hfailures, -⟩ := resetEnds_bus (warm := true) (s := s) h
    have hfire : (resetEnds true i s).fire = resetFire true i s.fire := by rw [resetEnds_eq h]
    obtain ⟨-, -, hlatch, hlisten, -⟩ := resetFire_eq true i s.fire
    refine ⟨resetEnds true i s, by rw [← hstays]; rfl, hpending, hpins, hstraps, hstation, hwait, hsetup, hrecord, ?_, ?_,
      hwarm, hbins, hcrane, htime, hauctions, hrx, hfailures, hoff, placesAfterReset_of h hlanes hport,
      shutterAfterReset_of h hfire, viewAfterReset_of h, fun n => ?_⟩
    · rw [hfire, hlatch]
      rfl
    · rw [hfire, hlisten, h]
      rfl
    · intro b filled
      have hbin : binAt n (resetEnds true i s) = warmRecord b := by
        rw [binAt, hbins]
        exact binAt_warmBins n s.bins
      have hfilled : fillBehind b = true ↔ filled := fillBehind_iff
      rw [hbin]
      unfold warmRecord
      refine ⟨fun hb => ?_, fun hb => ?_, fun hb => ?_, fun hb => ?_, fun hb hyes => ?_, fun hb hno => ?_⟩
      · rw [hb]
      · rw [hb]
      · rw [hb]
      · rw [hb]
      · rcases hb with hb | hb
        · rw [hb]
          exact if_pos (hfilled.2 hyes)
        · rw [hb]
          exact if_pos (hfilled.2 hyes)
      · rcases hb with hb | hb
        · rw [hb]
          exact if_neg fun hf => hno (hfilled.1 hf)
        · rw [hb]
          exact if_neg fun hf => hno (hfilled.1 hf)
  · have hpower : staysWarm s.ctl.straps i.straps = false := by
      simp only [staysWarm, Bool.and_eq_false_iff, decide_eq_false_iff_not]
      rcases hother with h | h | h | h
      · exact .inl (.inl (.inl (Ne.symm h)))
      · exact .inl (.inl (.inr (Ne.symm h)))
      · exact .inl (.inr (Ne.symm h))
      · exact .inr (Ne.symm h)
    refine ⟨resetEnds false i s, by rw [← hpower]; rfl, rfl, fun h => ?_⟩
    obtain ⟨-, -, hbins, -⟩ := resetEnds_blocks (warm := false) (s := s) h
    obtain ⟨-, -, -, hsetup, -, hrecord, -⟩ := resetEnds_ctl (warm := false) (s := s) h
    exact ⟨hsetup, hbins, hrecord⟩

end Sys2Proof.Machine
end

section
/-! PROOF. The setup parameters and the ends of JOINING (R30, R32 to R34, R73). -/

namespace Sys2Proof.Machine

-- Checked one after another: the host bounds the memory of all threads together.
set_option Elab.async false

open Sys2Proof Sys2Proof.Safety

variable {s t : State} {id : SlotId} {r : RxRecord} {rest : List RxRecord}

/-! ### The parameters (R34) -/

theorem byteAt_lt (p : List Byte) (k : Nat) : byteAt p k < 256 := BitVec.isLt _

theorem setupAValues_eq (p : List Byte) (u : Setup) : setupAValues p u = { u with
    hPitch := max 10 (min (byteAt p 0) 255)
    hRamp := byteAt p 1 * 10
    vPitch := max 20 (min (byteAt p 2) 255)
    vRamp := byteAt p 3 * 10
    fork := max 500 (min (byteAt p 4 * 20) 5100)
    settle := byteAt p 5 * 10
    hop := max 200 (min (byteAt p 6 * 20) 5100) } := by
  have h0 := byteAt_lt p 0
  have h2 := byteAt_lt p 2
  have h4 := byteAt_lt p 4
  have h6 := byteAt_lt p 6
  unfold setupAValues
  congr 1 <;> omega

theorem setupBValues_eq (p : List Byte) (u : Setup) : setupBValues p u = { u with
    handoffLimit := max 1 (min (byteAt p 0) 25) * 1000
    bidWindow := max 50 (min (byteAt p 1 * 10) 500)
    packWeight := byteAt p 2 / 16
    recircLimit := max 1 (byteAt p 2 % 16)
    mergeContinuity := max 1 (min (byteAt p 3 / 16) 8)
    storageContinuity := max 1 (min (byteAt p 3 % 16) 8)
    clearTime := max 2000 (min (byteAt p 4 * 1000) 30000)
    wakeLimit := max 500 (min (byteAt p 5 % 128 * 500) 8000)
    takesReturns := decide (128 ≤ byteAt p 5)
    noticeMask := BitVec.ofNat 16 (byteAt p 6 * 256 + byteAt p 7) } := by
  have h5 := byteAt_lt p 5
  have hreturns : decide (byteAt p 5 / 128 = 1) = decide (128 ≤ byteAt p 5) := decide_eq_decide.2 (by omega)
  unfold setupBValues clamp
  rw [hreturns]
  congr 1
  · omega
  · omega
  · omega

theorem setupAClamped_iff (p : List Byte) : setupAClamped p = true ↔
    byteAt p 0 < 10 ∨ byteAt p 2 < 20 ∨ byteAt p 4 < 25 ∨ byteAt p 6 < 10 := by
  simp [setupAClamped, or_assoc]

theorem setupBClamped_iff (p : List Byte) : setupBClamped p = true ↔
    byteAt p 0 < 1 ∨ 25 < byteAt p 0 ∨ byteAt p 1 < 5 ∨ 50 < byteAt p 1 ∨ byteAt p 2 % 16 < 1 ∨ byteAt p 3 / 16 < 1 ∨
      8 < byteAt p 3 / 16 ∨ byteAt p 3 % 16 < 1 ∨ 8 < byteAt p 3 % 16 ∨ byteAt p 4 < 2 ∨ 30 < byteAt p 4 ∨
      byteAt p 5 % 128 < 1 ∨ 16 < byteAt p 5 % 128 := by
  simp only [setupBClamped, Bool.or_eq_true, decide_eq_true_eq, or_assoc]
  have hzero : byteAt p 2 % 16 = 0 ↔ byteAt p 2 % 16 < 1 := by omega
  rw [hzero]

/-! ### Entry to ACTIVE and the ends of JOINING (R30) -/

/-- What follows entry to ACTIVE, seen outside the Bus Interface's slots, the lanes and the crane. -/
@[simp] theorem afterActive_keeps (s : State) :
    (afterActive s).pending = s.pending ∧ (afterActive s).pins = s.pins ∧ (afterActive s).bus.rx = s.bus.rx ∧
    (afterActive s).bus.offBus = s.bus.offBus ∧ (afterActive s).ctl.straps = s.ctl.straps ∧
    (afterActive s).ctl.station = s.ctl.station ∧ (afterActive s).ctl.setup = s.ctl.setup ∧
    (afterActive s).ctl.joinWait = s.ctl.joinWait ∧ (afterActive s).est = s.est ∧
    (afterActive s).auctions = s.auctions ∧ (afterActive s).fire.view = s.fire.view ∧
    (afterActive s).fire.latch = s.fire.latch ∧ (afterActive s).crane.load = s.crane.load ∧
    (afterActive s).crane.pos = s.crane.pos ∧ (afterActive s).crane.carriage = s.crane.carriage ∧
    (afterActive s).crane.restartRun = s.crane.restartRun := by
  simp [afterActive]

/-- A crane that is not IDLE starts nothing at the entry to ACTIVE. -/
theorem afterActive_crane (h : s.crane.state ≠ .idle) :
    (afterActive s).crane = s.crane ∧ (afterActive s).bins = s.bins := by
  unfold afterActive
  rw [dispatch_of_not_idle (by simpa using h)]
  simp

/-- The crane at the station's first entry to ACTIVE: one that is UNREFERENCED is sent HOME (R30, R73). -/
def craneSentHome (s : State) : State := if s.crane.state = .unreferenced then sendHome s else s

@[simp] theorem craneSentHome_keeps (s : State) :
    (craneSentHome s).pending = s.pending ∧ (craneSentHome s).pins = s.pins ∧ (craneSentHome s).bus = s.bus ∧
    (craneSentHome s).ctl = s.ctl ∧ (craneSentHome s).bins = s.bins ∧ (craneSentHome s).est = s.est ∧
    (craneSentHome s).lanes = s.lanes ∧ (craneSentHome s).port = s.port ∧
    (craneSentHome s).auctions = s.auctions ∧ (craneSentHome s).fire = s.fire ∧
    (craneSentHome s).crane.pool = s.crane.pool := by
  unfold craneSentHome
  split
  · simp
  · simp

/-- JOINING left, before what follows it: the join wait is over. -/
def joinWaitOver (s : State) : State := s.onCtl fun c => { c with joinWait := none }

theorem endJoining_eq (s : State) : endJoining s =
    if s.ownAlarmed = true then shutterTakeUp (settleConditions (enterShutdown (joinWaitOver s)))
    else if s.fire.latch = true then shutterTakeUp (settleConditions (enterRecovery (joinWaitOver s)))
    else afterActive (setStation .active (craneSentHome (joinWaitOver s))) := rfl

/-- However JOINING ends, this is unchanged. -/
theorem endJoining_keeps (s : State) :
    (endJoining s).pins = s.pins ∧ (endJoining s).est = s.est ∧ (endJoining s).auctions = s.auctions ∧
      (endJoining s).ctl.setup = s.ctl.setup ∧ (endJoining s).ctl.joinWait = none ∧
      (endJoining s).bus.rx = s.bus.rx := by
  rw [endJoining_eq]
  split_ifs
  · simp [joinWaitOver]
  · simp [enterRecovery, joinWaitOver]
  · simp [joinWaitOver]

/-- JOINING ends in SHUTDOWN where the own compartment is in the view. -/
theorem endJoining_own (hown : s.ownAlarmed = true) :
    (endJoining s).ctl.station = .shutdown ∧ (endJoining s).fire.latch = true ∧
      (s.crane.state = .unreferenced → s.crane.inFlight = none → s.crane.pool = [] →
        (endJoining s).crane.pool = [] ∧ (endJoining s).bins = s.bins ∧ (endJoining s).crane.state = .unreferenced ∧
          (endJoining s).crane.inFlight = none) := by
  rw [endJoining_eq, if_pos hown]
  refine ⟨by simp, by simp, fun hstate hflight hpool => ?_⟩
  have hrest : stopForFire ((joinWaitOver s).onFire fun f => { f with latch := true }) =
      (joinWaitOver s).onFire fun f => { f with latch := true } := stopForFire_of_rest (.inl hstate)
  set w := freezeCurrent (((joinWaitOver s).onFire fun f => { f with latch := true }).onCrane
    fun k => { k with wakeKept := false, restartRun := false }) with hw
  have hwpool : w.crane.pool = [] := by
    rw [hw, freezeCurrent_pool]
    simp [joinWaitOver, hpool]
  have hstopped : stoppedForFire (joinWaitOver s) = w := by
    unfold stoppedForFire
    rw [hrest]
    exact failFills_of_none fun j hj => absurd hj (by rw [← hw, hwpool]; exact List.not_mem_nil)
  have hbins : (enterShutdown (joinWaitOver s)).bins = s.bins := by
    rw [enterShutdown_eq, hstopped]
    simp [w, joinWaitOver]
  have hcrane : (enterShutdown (joinWaitOver s)).crane = w.crane := by
    rw [enterShutdown_eq, hstopped]
    simp
  simp only [shutterTakeUp_keeps, settleConditions_keeps, hbins, hcrane, hwpool]
  simp [w, joinWaitOver, hstate, hflight]

/-- JOINING ends in RECOVERY where the latch is set. -/
theorem endJoining_latched (hown : s.ownAlarmed = false) (hlatch : s.fire.latch = true) :
    (endJoining s).ctl.station = .recovery ∧ (endJoining s).crane = s.crane ∧ (endJoining s).fire.latch = true ∧
      (endJoining s).bins = s.bins := by
  rw [endJoining_eq, if_neg (by simp [hown]), if_pos hlatch]
  simp [enterRecovery, joinWaitOver, hlatch]

/-- JOINING ends in ACTIVE, the crane sent HOME where it is UNREFERENCED. -/
theorem endJoining_active (hown : s.ownAlarmed = false) (hlatch : s.fire.latch = false) :
    (endJoining s).ctl.station = .active ∧ (endJoining s).fire.latch = false ∧
      (s.crane.state = .unreferenced → (endJoining s).crane.pool = s.crane.pool ∧ (endJoining s).bins = s.bins ∧
        (endJoining s).crane.state = .homing ∧ (endJoining s).crane.inFlight = some .home ∧
        (endJoining s).crane.limit = some 60000) ∧
      (s.crane.state = .faulted → (endJoining s).crane = s.crane) := by
  have hrun : endJoining s = afterActive (setStation .active (craneSentHome (joinWaitOver s))) := by
    rw [endJoining_eq, if_neg (by simp [hown]), if_neg (by simp [hlatch])]
  rw [hrun]
  refine ⟨by simp, by simp [joinWaitOver, hlatch], fun hstate => ?_, fun hstate => ?_⟩
  · have hhome : craneSentHome (joinWaitOver s) = sendHome (joinWaitOver s) := if_pos hstate
    have hcrane : (setStation .active (sendHome (joinWaitOver s))).crane = (sendHome (joinWaitOver s)).crane := by simp
    obtain ⟨hafter, hbins⟩ := afterActive_crane (s := setStation .active (sendHome (joinWaitOver s)))
      (by rw [hcrane]; exact nofun)
    rw [hhome, hafter, hbins, hcrane]
    exact ⟨by simp [joinWaitOver], by simp [joinWaitOver], rfl, rfl, rfl⟩
  · have hstay : craneSentHome (joinWaitOver s) = joinWaitOver s := if_neg (by simp [joinWaitOver, hstate])
    have hcrane : (setStation .active (joinWaitOver s)).crane = s.crane := by simp [joinWaitOver]
    obtain ⟨hafter, -⟩ := afterActive_crane (s := setStation .active (joinWaitOver s))
      (by rw [hcrane, hstate]; exact nofun)
    rw [hstay, hafter, hcrane]

/-- However JOINING ends, an empty pool stays empty and the Bin Table is as it was. -/
theorem endJoining_calm (hstate : s.crane.state = .unreferenced) (hflight : s.crane.inFlight = none)
    (hpool : s.crane.pool = []) : (endJoining s).bins = s.bins ∧ (endJoining s).crane.pool = [] := by
  cases hown : s.ownAlarmed with
  | true =>
    obtain ⟨-, -, hrest⟩ := endJoining_own hown
    obtain ⟨hp, hb, -, -⟩ := hrest hstate hflight hpool
    exact ⟨hb, hp⟩
  | false =>
    cases hlatch : s.fire.latch with
    | true =>
      obtain ⟨-, hcrane, -, hb⟩ := endJoining_latched hown hlatch
      exact ⟨hb, by rw [hcrane, hpool]⟩
    | false =>
      obtain ⟨-, -, hhome, -⟩ := endJoining_active hown hlatch
      obtain ⟨hp, hb, -⟩ := hhome hstate
      exact ⟨hb, hp.trans hpool⟩

/-! ### The obligation -/

/-- Settles O13: the join wait, the SETUP orders in JOINING and out of it, and the values they set. -/
theorem joiningTakesSetupAndEnds : Obligations.JoiningTakesSetupAndEnds := by
  refine ⟨fun s hjoining hwait hstate hflight hpool => ?_, fun s hjoining hwait hstate hflight hown hlatch => ?_,
    fun s id r rest htakes => ?_, fun a b u => ?_⟩
  · have hrun : exec .joinWaitExpiry s = .next (endJoining s) := congrArg _ (if_pos ⟨hwait, hjoining⟩)
    obtain ⟨hpins, hest, hauctions, hsetup, hover, -⟩ := endJoining_keeps s
    obtain ⟨hbins, hpool'⟩ := endJoining_calm hstate hflight hpool
    refine ⟨endJoining s, hrun, hover, hsetup, hpins, hest, hauctions, hbins, hpool', fun hown => ?_, fun hown hlatch => ?_,
      fun hown hlatch => ?_⟩
    · obtain ⟨hst, hl, hrest⟩ := endJoining_own hown
      obtain ⟨-, -, hc, hf⟩ := hrest hstate hflight hpool
      exact ⟨hst, hc, hf, hl⟩
    · obtain ⟨hst, hcrane, hl, -⟩ := endJoining_latched hown hlatch
      exact ⟨hst, hcrane, hl⟩
    · obtain ⟨hst, hl, hhome, -⟩ := endJoining_active hown hlatch
      obtain ⟨-, -, hc, hf, hlim⟩ := hhome hstate
      exact ⟨hst, hc, hf, hlim, hl⟩
  · obtain ⟨hst, -, -, hcrane⟩ := endJoining_active hown hlatch
    obtain ⟨-, -, -, -, hover, -⟩ := endJoining_keeps s
    exact ⟨endJoining s, congrArg _ (if_pos ⟨hwait, hjoining⟩), hst, hover, hcrane hstate⟩
  · intro accepted
    have hsender : r.sender.toNat = Config.gateway := htakes.2.2.1
    have haccepted : ∀ k b, r.kind = k → (setupAnswer b).toReply r = accepted k b := by
      rintro k b rfl
      rw [Answer.toReply_eq _ hsender]
      rfl
    have hadmit : ∀ k, k = .setupA ∨ k = .setupB → refusal k s.ctl.station = none := by
      rintro k (rfl | rfl)
      · cases s.ctl.station <;> rfl
      · cases s.ctl.station <;> rfl
    refine ⟨fun hk hjoining => ?_, fun hk hjoining => ?_, fun hk hnot => ?_, fun hk hnot => ?_⟩
    · have hbody : setupABody r (beginTake id r rest s) = (setupAnswer (setupAClamped r.payload),
          (beginTake id r rest s).onCtl fun c => { c with setup := setupAValues r.payload c.setup }) := if_pos hjoining
      obtain ⟨hreplies, hstate⟩ := serve_carriesOut (p := isKind .setupA) htakes (by simp [isKind, hk])
        (by rw [hk]; exact hadmit _ (.inl rfl)) hbody rfl
      rw [haccepted _ _ hk] at hreplies
      exact ⟨_, rfl, hreplies, hstate⟩
    · set w := (beginTake id r rest s).onCtl fun c => { c with setup := setupBValues r.payload c.setup } with hw
      have hbody : setupBBody r (beginTake id r rest s) = (setupAnswer (setupBClamped r.payload), endJoining w) :=
        if_pos hjoining
      obtain ⟨hpins, hest, hauctions, hsetup, hover, hrx⟩ := endJoining_keeps w
      obtain ⟨hreplies, hstate⟩ := serve_carriesOut (p := isKind .setupB) htakes (by simp [isKind, hk])
        (by rw [hk]; exact hadmit _ (.inr rfl)) hbody hrx
      rw [haccepted _ _ hk] at hreplies
      refine ⟨serve (isKind .setupB) setupBBody s, rfl, hreplies, ?_⟩
      rw [hstate]
      refine ⟨hsetup, hover, hpins, hest, hauctions, fun hown => ?_, fun hown hlatch => ?_, fun hown hlatch => ?_,
        fun hunref hflight hpool => ?_, fun hfaulted hflight hown hlatch => ?_⟩
      · obtain ⟨hst, hl, -⟩ := endJoining_own (s := w) hown
        exact ⟨hst, hl⟩
      · obtain ⟨hst, hcrane, hl, -⟩ := endJoining_latched (s := w) hown hlatch
        exact ⟨hst, hcrane, hl⟩
      · obtain ⟨hst, hl, -⟩ := endJoining_active (s := w) hown hlatch
        exact ⟨hst, hl⟩
      · obtain ⟨hbins, hempty⟩ := endJoining_calm (s := w) hunref hflight hpool
        refine ⟨hempty, hbins, fun hown => ?_, fun hown hlatch => ?_⟩
        · obtain ⟨-, -, hrest⟩ := endJoining_own (s := w) hown
          obtain ⟨-, -, hc, hf⟩ := hrest hunref hflight hpool
          exact ⟨hc, hf⟩
        · obtain ⟨-, -, hhome, -⟩ := endJoining_active (s := w) hown hlatch
          obtain ⟨-, -, hc, hf, hlim⟩ := hhome hunref
          exact ⟨hc, hf, hlim⟩
      · obtain ⟨-, -, -, hcrane⟩ := endJoining_active (s := w) hown hlatch
        exact hcrane hfaulted
    · have hbody : setupABody r (beginTake id r rest s) = (Answer.plain .notReady 0, beginTake id r rest s) := if_neg hnot
      obtain ⟨hreplies, hstate, -⟩ := serve_answers (p := isKind .setupA) htakes (by simp [isKind, hk])
        (by rw [hk]; exact hadmit _ (.inl rfl)) hbody
      rw [Answer.toReply_plain _ _ hsender, hk] at hreplies
      exact ⟨_, rfl, hreplies, hstate⟩
    · have hbody : setupBBody r (beginTake id r rest s) = (Answer.plain .notReady 0, beginTake id r rest s) := if_neg hnot
      obtain ⟨hreplies, hstate, -⟩ := serve_answers (p := isKind .setupB) htakes (by simp [isKind, hk])
        (by rw [hk]; exact hadmit _ (.inr rfl)) hbody
      rw [Answer.toReply_plain _ _ hsender, hk] at hreplies
      exact ⟨_, rfl, hreplies, hstate⟩
  · intro low high
    exact ⟨setupAValues_eq a u, setupBValues_eq b u, setupAClamped_iff a, setupBClamped_iff b⟩

end Sys2Proof.Machine
end

section
/-! PROOF. DOZE and WAKE (R37 to R39). -/

namespace Sys2Proof.Machine

-- Checked one after another: the host bounds the memory of all threads together.
set_option Elab.async false

open Sys2Proof Sys2Proof.Safety

variable {s t : State} {id : SlotId} {r : RxRecord} {rest : List RxRecord} {l k : Lane}

/-- The take of a record changes the Bus Interface alone (R16). -/
@[simp] theorem beginTake_keeps (id : SlotId) (r : RxRecord) (rest : List RxRecord) (s : State) :
    (beginTake id r rest s).pending = s.pending ∧ (beginTake id r rest s).pins = s.pins ∧
    (beginTake id r rest s).bus.rx = rest ∧ (beginTake id r rest s).bus.offBus = s.bus.offBus ∧
    (beginTake id r rest s).bus.failures = s.bus.failures ∧ (beginTake id r rest s).bus.claims = s.bus.claims ∧
    (beginTake id r rest s).ctl = s.ctl ∧ (beginTake id r rest s).bins = s.bins ∧
    (beginTake id r rest s).crane = s.crane ∧ (beginTake id r rest s).est = s.est ∧
    (beginTake id r rest s).lanes = s.lanes ∧ (beginTake id r rest s).port = s.port ∧
    (beginTake id r rest s).auctions = s.auctions ∧ (beginTake id r rest s).fire = s.fire :=
  ⟨rfl, rfl, rfl, rfl, rfl, rfl, rfl, rfl, rfl, rfl, rfl, rfl, rfl, rfl⟩

/-! ### Conditions in DOZE -/

/-- Both segments in DOZE: HELD behind a shutter that is not OPEN, and otherwise as the crane is (R37, R38, R186). -/
theorem wantedCondition_of_doze (h : s.ctl.station = .doze) : wantedCondition s =
    if s.fire.shutter = none ∨ s.fire.shutter = some .opened then
      (if s.crane.state = .waking then .waking else .asleep) else .held := by
  unfold wantedCondition
  cases hx : s.fire.shutter with
  | none => simp [wallHold, hx, h]
  | some x => cases x <;> simp [wallHold, hx, h]

theorem wantedCondition_doze_ne_running (h : s.ctl.station = .doze) : wantedCondition s ≠ .running := by
  rw [wantedCondition_of_doze h]
  split
  · split
    · exact nofun
    · exact nofun
  · exact nofun

/-- A shutter that is not CLEARING, and against which nothing speaks, stays as it is at a station in DOZE. -/
theorem shutterTakeUp_of_doze (h : s.ctl.station = .doze)
    (hview : s.fire.shutter = some .opened ∨ s.fire.shutter = some .opening → s.fire.view = 0#8)
    (hclearing : s.fire.shutter ≠ some .clearing) : shutterTakeUp s = s := by
  have hopen : openCondition s = false := Bool.eq_false_iff.2 fun hc => by
    have := (openCondition_iff.1 hc).2.2.1
    simp [h] at this
  unfold shutterTakeUp
  split
  next hx => rw [if_neg (by simp [closeCondition_of_view (hview (.inl hx))])]
  next hx => exact absurd hx hclearing
  next => rw [if_neg (by simp [hopen])]
  next => rw [if_neg (by simp [hopen])]
  next hx =>
    have hzero := hview (.inr hx)
    rw [if_neg]
    simp [openingEnds, closeCondition_of_view hzero, State.ownAlarmed, State.alarmed, hzero]
  next => rfl
  next => rfl

/-! ### The DOZE order -/

theorem segmentEmpty_iff {g : Segment} :
    segmentEmpty g = true ↔ g.places = [] ∧ g.reservation = none ∧ g.head = .idle := by
  simp [segmentEmpty, and_assoc]

/-- The crane on its way to the mouth, or to sleep there (R37). -/
theorem parkCrane_eq (s : State) :
    let c := if s.crane.pos = some Position.mouth then DriveCmd.sleep else .move Position.mouth
    parkCrane s = { s with crane := { s.crane with
      state := .running
      inFlight := some c
      lastSent := some c
      limit := (parkCrane s).crane.limit } } := by
  intro c
  unfold parkCrane
  dsimp only
  by_cases hmouth : s.crane.pos = some Position.mouth
  · have hc : c = .sleep := if_pos hmouth
    rw [hc, if_pos (by exact hmouth)]
    rfl
  · have hc : c = .move Position.mouth := if_neg hmouth
    rw [hc, if_neg (by exact hmouth)]
    rfl

/-- Entry to DOZE with no head at work: the conditions, the announcement and the crane's park are all (R37). -/
theorem enterDoze_eq (hout : s.lanes.outSeg.head = .idle) (hback : s.lanes.backSeg.head = .idle)
    (hview : s.fire.shutter = some .opened ∨ s.fire.shutter = some .opening → s.fire.view = 0#8)
    (hclearing : s.fire.shutter ≠ some .clearing) :
    enterDoze s = parkCrane (withConds (wantedCondition (setStation .doze s)) (setStation .doze s)) := by
  set w := setStation .doze s with hw
  have hdoze : w.ctl.station = .doze := setStation_station ..
  have hwfire : w.fire = s.fire := by simp [w]
  have hheads : ∀ k, (w.seg k).head = .idle := by
    have hlanes : w.lanes = s.lanes := by simp [w]
    intro k
    cases k
    · exact (congrArg (·.outSeg.head) hlanes).trans hout
    · exact (congrArg (·.backSeg.head) hlanes).trans hback
  have hsettled : settleConditions w = withConds (wantedCondition w) w :=
    settleConditions_eq_withConds (fun k _ hoffer => by simp [hheads k] at hoffer)
      fun k hr => absurd hr (wantedCondition_doze_ne_running hdoze)
  have htake : shutterTakeUp (withConds (wantedCondition w) w) = withConds (wantedCondition w) w := by
    refine shutterTakeUp_of_doze (by simpa [withConds] using hdoze) (fun h => ?_) ?_
    · simpa [withConds, hwfire] using hview (by simpa [withConds, hwfire] using h)
    · simpa [withConds, hwfire] using hclearing
  unfold enterDoze
  rw [← hw, hsettled, htake]

/-- Settles O16: the body of the order by what it finds. -/
theorem dozeOrderParksTheCrane : Obligations.DozeOrderParksTheCrane := by
  intro s id r rest htakes hkind hactive still unseen empty
  have hsender : r.sender.toNat = Config.gateway := htakes.2.2.1
  have hadmit : refusal r.kind s.ctl.station = none := refusal_ownRule (by simp [hkind]) _
  set w := beginTake id r rest s with hw
  have hmay : mayDoze w = true ↔ empty := by
    have hport : (!s.ctl.straps.port || (!s.pins.approach && !s.pins.service)) = true ↔
        (s.ctl.straps.port = true → s.pins.approach = false ∧ s.pins.service = false) := by
      cases s.ctl.straps.port <;> simp
    simp only [mayDoze, sensorsEmpty, Bool.and_eq_true, decide_eq_true_eq, segmentEmpty_iff, List.isEmpty_iff,
      Bool.not_eq_true', empty, still, unseen]
    show (((((((((s.crane.pool = [] ∧ s.crane.state = .idle) ∧ _) ∧ _) ∧ _) ∧ _) ∧ _) ∧ _) ∧ _) ∧ _ ∧
      (!s.ctl.straps.port || (!s.pins.approach && !s.pins.service)) = true) ↔ _
    rw [hport]
    tauto
  refine ⟨fun hempty hview hclearing => ?_, fun hnot => ?_⟩
  · intro cond
    have hbody : dozeBody r w = (Answer.plain .done 0, enterDoze w) := by
      unfold dozeBody
      rw [show w.ctl.station = .active from hactive]
      exact if_pos (hmay.2 hempty)
    obtain ⟨-, hidle, -, ⟨-, -, hout⟩, ⟨-, -, hback⟩, -⟩ := hempty
    set d := setStation .doze w with hd
    have hdoze : d.ctl.station = .doze := setStation_station ..
    have henter : enterDoze w = parkCrane (withConds cond d) := by
      have hcond : wantedCondition d = cond := by
        have hstate : d.crane.state = .idle := by simpa [d, w] using hidle
        have hfire : d.fire = s.fire := by simp [d, w]
        rw [wantedCondition_of_doze hdoze, hstate, hfire]
        rfl
      rw [enterDoze_eq (s := w) hout hback hview hclearing, ← hd, hcond]
    rw [henter, parkCrane_eq] at hbody
    have hconds : (withConds cond d).lanes = { s.lanes with
        outSeg := { s.lanes.outSeg with cond := cond }
        backSeg := { s.lanes.backSeg with cond := cond } } := by
      have hlanes : d.lanes = s.lanes := by simp [d, w]
      show { d.lanes with
        outSeg := { d.lanes.outSeg with cond := cond }
        backSeg := { d.lanes.backSeg with cond := cond } } = _
      rw [hlanes]
    obtain ⟨hreplies, hstate⟩ := serve_carriesOut (p := isKind .doze) htakes (by simp [isKind, hkind]) hadmit hbody
      (by simp [withConds, d, w])
    rw [Answer.toReply_plain _ _ hsender, hkind] at hreplies
    refine ⟨serve (isKind .doze) dozeBody s, rfl, hreplies, ?_⟩
    rw [hstate]
    have hcrane : (withConds cond d).crane = s.crane := by simp [withConds, d, w]
    refine ⟨by simpa [withConds] using hdoze, congrArg Lanes.outSeg hconds, congrArg Lanes.backSeg hconds, ?_, ?_, ?_,
      by simp [withConds, d, w], by simp [withConds, d, w], by simp [withConds, d, w], by simp [withConds, d, w],
      by simp [withConds, d, w]⟩
    · simp only [hcrane]
    · simp only [hcrane]
      split
      · rfl
      · rfl
    · have hroster : (withConds cond d).ctl.roster = d.ctl.roster := by simp [withConds]
      show (tableGet RosterEntry.cleared (withConds cond d).ctl.roster s.num).announced = .doze
      rw [hroster]
      exact announced_setStation (by decide) w
  · have hbody : dozeBody r w = (Answer.plain .busy 0, w) := by
      unfold dozeBody
      rw [show w.ctl.station = .active from hactive]
      exact if_neg fun h => hnot (hmay.1 h)
    obtain ⟨hreplies, hstate, -⟩ := serve_answers (p := isKind .doze) htakes (by simp [isKind, hkind]) hadmit hbody
    rw [Answer.toReply_plain _ _ hsender, hkind] at hreplies
    exact ⟨_, rfl, hreplies, hstate⟩

end Sys2Proof.Machine
end

section
/-! PROOF. The end of a doze: what the segments' new conditions leave of the fault record, the outbound stand and the
deferred-upstream flags, and a dispatch with one job to start (R39, R82, R114). -/

namespace Sys2Proof.Machine

-- Checked one after another: the host bounds the memory of all threads together.
set_option Elab.async false

open Sys2Proof Sys2Proof.Safety

variable {s t u : State} {id : SlotId} {r : RxRecord} {rest : List RxRecord} {l k : Lane} {c : Carry}

/-! ### The fault record under the lanes' work -/

/-- From `s` to `t` nothing of the fault record but the count of recirculations has changed. -/
def RecordKept (s t : State) : Prop := ∃ n, t.ctl.record = { s.ctl.record with recircs := n }

theorem RecordKept.of_eq (h : t.ctl.record = s.ctl.record) : RecordKept s t := ⟨s.ctl.record.recircs, h⟩

theorem RecordKept.refl : RecordKept s s := .of_eq rfl

theorem RecordKept.trans (h : RecordKept s t) (k : RecordKept t u) : RecordKept s u := by
  obtain ⟨m, hm⟩ := h
  obtain ⟨n, hn⟩ := k
  exact ⟨n, by rw [hn, hm]⟩

theorem RecordKept.driveFault (h : RecordKept s t) : t.ctl.record.driveFault = s.ctl.record.driveFault := by
  obtain ⟨n, hn⟩ := h
  rw [hn]

theorem countRecirc_recordKept : RecordKept s (countRecirc s) := ⟨_, rfl⟩

theorem acceptedHead_recordKept : RecordKept s (acceptedHead l c s) := by
  unfold acceptedHead
  extract_lets old limit s₁ s₂
  have h₁ : RecordKept s s₁ := .of_eq (by simp [s₁])
  have h₂ : RecordKept s s₂ := h₁.trans countRecirc_recordKept
  clear_value old
  split
  · exact h₁
  · split
    · split
      · exact h₂.trans (.of_eq (by simp))
      · exact h₂
    · exact h₁

theorem claimTurn_recordKept : RecordKept s (claimTurn l c s) := by
  unfold claimTurn
  extract_lets t limit o s₁
  split
  · exact RecordKept.trans (.of_eq (by simp [s₁])) acceptedHead_recordKept
  · exact .of_eq (by simp)

theorem passOn_recordKept : RecordKept s (passOn l c s) := by
  unfold passOn
  split
  · split
    · exact .of_eq (by simp)
    · exact claimTurn_recordKept
  · split
    · exact .of_eq (by simp)
    · exact .of_eq (by simp)

theorem decideHead_recordKept : RecordKept s (decideHead l s) := by
  unfold decideHead
  split
  · exact .refl
  · split
    · exact .refl
    · split
      · exact .of_eq (by simp)
      · split
        · exact .of_eq (by simp)
        · exact passOn_recordKept

theorem actHead_recordKept : RecordKept s (actHead l s) := by
  unfold actHead
  split
  · exact decideHead_recordKept
  · exact .refl

theorem openTail_recordKept : RecordKept s (openTail l s) := by
  have hretry : ∀ t : State, RecordKept t (retryTurn l t) := by
    intro t
    unfold retryTurn
    dsimp only
    split
    · exact actHead_recordKept
    · exact .refl
  unfold openTail
  split
  · dsimp only
    split
    · have hopened : RecordKept s (retryTurn l (tryLocals l s)) :=
        RecordKept.trans (t := tryLocals l s) (.of_eq (by simp)) (hretry _)
      exact hopened.trans (.of_eq (by simp))
    · exact .of_eq (by simp)
  · exact .refl

theorem settleConditions_recordKept : RecordKept s (settleConditions s) := by
  have hrun : ∀ l was (t : State), RecordKept t (onRunning l was t) := by
    intro l was t
    unfold onRunning
    split
    · exact openTail_recordKept
    · exact .refl
  have hhead : ∀ l was (t : State), RecordKept t (onRunningHead l was t) := by
    intro l was t
    unfold onRunningHead
    split
    · exact RecordKept.trans (.of_eq (by simp)) actHead_recordKept
    · exact .refl
  unfold settleConditions
  extract_lets w wo wb s₁ s₂ s₃
  have h₂ : RecordKept s s₂ := .of_eq (by simp [s₂, s₁])
  exact ((h₂.trans ((hrun ..).trans (hrun ..))).trans (hhead ..)).trans (hhead ..)

/-! ### An empty outbound stand stays empty -/

theorem grantLocal_outStand_empty {src : EntryFrom} (h : s.lanes.outStand = .empty) :
    (grantLocal l src s).lanes.outStand = .empty := by
  unfold grantLocal
  extract_lets limit s₁
  have h₁ : s₁.lanes.outStand = .empty := by simpa [s₁] using h
  split
  · split
    next hholding => simp [h₁] at hholding
    next => exact h₁
  · split
    · simpa using h₁
    · exact h₁

theorem openTail_outStand_empty (h : s.lanes.outStand = .empty) : (openTail l s).lanes.outStand = .empty := by
  have htry : (tryLocals l s).lanes.outStand = .empty := by
    unfold tryLocals
    split
    · split
      · exact grantLocal_outStand_empty h
      · exact grantLocal_outStand_empty h
      · exact grantLocal_outStand_empty h
      · exact h
    · exact h
  unfold openTail
  split
  · dsimp only
    split
    · simpa using htry
    · exact htry
  · exact h

theorem settleConditions_outStand_empty (h : s.lanes.outStand = .empty) :
    (settleConditions s).lanes.outStand = .empty := by
  have hrun : ∀ l was (t : State), t.lanes.outStand = .empty → (onRunning l was t).lanes.outStand = .empty := by
    intro l was t ht
    unfold onRunning
    split
    · exact openTail_outStand_empty ht
    · exact ht
  unfold settleConditions
  simp only [onRunningHead_keeps]
  exact hrun _ _ _ (hrun _ _ _ (by simpa using h))

/-! ### The deferred-upstream flags (R114) -/

theorem sendSpace_deferredUp : ((sendSpace l s).seg l).deferredUp = false := by
  unfold sendSpace
  split
  · extract_lets s₁
    have h₁ : (s₁.seg l).deferredUp = false := by rw [State.seg_onSeg]
    split
    · rwa [queueFrame_seg]
    · exact h₁
  next h => simpa using h

theorem sendSpace_seg_other (h : k ≠ l) : (sendSpace l s).seg k = s.seg k := by
  unfold sendSpace
  split
  · extract_lets s₁
    have h₁ : s₁.seg k = s.seg k := State.seg_onSeg_other h ..
    split
    · rwa [queueFrame_seg]
    · exact h₁
  · rfl

theorem OfferCut.deferredUp {g g' : Segment} (h : OfferCut g g') : g'.deferredUp = g.deferredUp := by
  obtain ⟨x, rfl, -⟩ := h
  rfl

@[simp] theorem shutterTakeUp_deferredUp (s : State) (k : Lane) :
    ((shutterTakeUp s).seg k).deferredUp = (s.seg k).deferredUp := by
  unfold shutterTakeUp
  split
  · split
    · have h : wantedCondition (beginClearing s) ≠ .running := by rw [wantedCondition_beginClearing]; decide
      have hseg : (beginClearing s).seg k = s.seg k := seg_of_lanes_eq (by simp) k
      rw [(settleConditions_offerCut h k).deferredUp, hseg]
    · rfl
  · split
    · rfl
    · simp [beginClosing]
  · split
    · simp [beginOpening]
    · rfl
  · split
    · simp [beginOpening]
    · rfl
  · split
    · simp [beginClosing]
    · rfl
  · rfl
  · rfl

/-! ### A dispatch with one job to start -/

/-- With one eligible job, which does not go at once, a dispatch of an IDLE crane is its start (R82). -/
theorem dispatch_of_only {n : Nat} {j : Job} (hidle : s.crane.state = .idle) (hdisp : dispatches s = true)
    (hj : s.crane.pool[n]? = some j) (helig : eligible s j = true)
    (honly : ∀ m i, s.crane.pool[m]? = some i → eligible s i = true → m = n)
    (hruns : (startJob n s).crane.state ≠ .idle) : dispatch s = startJob n s := by
  obtain ⟨m, i, hi, hie, -, hstart⟩ := dispatch_starts hidle hdisp ⟨j, List.mem_of_getElem? hj, helig⟩
  obtain rfl := honly m i hi hie
  exact hstart hruns

/-- The start of the one job of the pool at a travel stage whose target is elsewhere: its MOVE (R75 to R78, R80). -/
theorem startJob_of_single {j : Job} {p : Position} (hpool : s.crane.pool = [j])
    (htarget : travelTarget { j with state := .active } = some p) (hpos : s.crane.pos ≠ some p) :
    (startJob 0 s).crane.state = .running ∧ (startJob 0 s).crane.inFlight = some (.move p) ∧
      (startJob 0 s).crane.pool = [{ j with state := .active }] ∧
      (startJob 0 s).lanes.outStand = if reservesStand j.kind then .reserved else s.lanes.outStand := by
  have hget : s.crane.pool[0]? = some j := by simp [hpool]
  unfold startJob
  rw [hget]
  dsimp only
  set w := s.onCrane fun c => { c with
    state := .running, continuity := continuityAfter j.kind c,
    pool := c.pool.set 0 { j with state := .active } } with hw
  set v := if reservesStand j.kind = true then w.setOutStand .reserved else w with hv
  have hcrane : v.crane = w.crane := by
    rw [hv]
    split <;> rfl
  have hwpool : w.crane.pool = [{ j with state := .active }] := by simp [w, hpool]
  have hcurrent : currentJob v = some { j with state := .active } := by
    rw [currentJob, hcrane, hwpool]
    rfl
  have hvpos : v.crane.pos ≠ some p := by
    rw [hcrane]
    exact hpos
  have hbegin : beginStage v = sendDrive (.move p) v := by
    unfold beginStage
    rw [hcurrent]
    dsimp only
    rw [htarget]
    exact if_neg hvpos
  rw [hbegin]
  refine ⟨?_, rfl, ?_, ?_⟩
  · show v.crane.state = _
    rw [hcrane]
    rfl
  · show v.crane.pool = _
    rw [hcrane, hwpool]
  · show v.lanes.outStand = _
    rw [hv]
    split <;> rfl

end Sys2Proof.Machine
end

section
/-! PROOF. The obligation on WAKE, WOKEN and the wake limit (R38, R39). -/

namespace Sys2Proof.Machine

-- Checked one after another: the host bounds the memory of all threads together.
set_option Elab.async false

open Sys2Proof Sys2Proof.Safety

variable {s t u : State} {id : SlotId} {r : RxRecord} {rest : List RxRecord} {l k : Lane} {c : Carry}

/-- The wake starts with the crane ASLEEP: WAKE is sent and both segments take the condition of a waking station (R38). -/
theorem wakeCause_of_asleep (hdoze : s.ctl.station = .doze) (hasleep : s.crane.state = .asleep)
    (hstill : s.lanes.outSeg.cond ≠ .running ∧ s.lanes.backSeg.cond ≠ .running) :
    wakeCause s =
      withConds (if s.fire.shutter = none ∨ s.fire.shutter = some .opened then .waking else .held) (sendWake s) := by
  have hdoze' : (sendWake s).ctl.station = .doze := hdoze
  have hwanted : wantedCondition (sendWake s) =
      if s.fire.shutter = none ∨ s.fire.shutter = some .opened then .waking else .held := by
    rw [wantedCondition_of_doze hdoze']
    rfl
  have hconds : ∀ k, ((sendWake s).seg k).cond ≠ .running := by
    intro k
    cases k
    · exact hstill.1
    · exact hstill.2
  unfold wakeCause
  rw [if_pos hdoze, hasleep]
  dsimp only
  rw [settleConditions_eq_withConds (fun k hr => absurd hr (hconds k))
    (fun k hr => absurd hr (wantedCondition_doze_ne_running hdoze')), hwanted]

theorem wakeCause_of_running (hdoze : s.ctl.station = .doze) (hrunning : s.crane.state = .running) :
    wakeCause s = s.onCrane fun k => { k with wakeKept := true } := by
  unfold wakeCause
  rw [if_pos hdoze, hrunning]

theorem wakeCause_of_waking (hwaking : s.crane.state = .waking) : wakeCause s = s := by
  unfold wakeCause
  rw [hwaking]
  exact ite_self s

/-- The state that a doze leaves before its dispatch. -/
def dozeLeft (s : State) : State :=
  tryAdvance (shutterTakeUp (sendSpace .backLane (sendSpace .outLane (settleConditions (setStation .active s)))))

theorem wakeEnds_eq (s : State) : wakeEnds s = dispatch (dozeLeft s) := rfl

@[simp] theorem dozeLeft_keeps (s : State) :
    (dozeLeft s).pins = s.pins ∧ (dozeLeft s).ctl.station = .active ∧ (dozeLeft s).ctl.setup = s.ctl.setup ∧
      (dozeLeft s).bins = s.bins ∧ (dozeLeft s).crane = s.crane ∧ (dozeLeft s).est = s.est ∧
      (dozeLeft s).auctions = s.auctions ∧ (dozeLeft s).fire.view = s.fire.view := by
  simp [dozeLeft]

@[simp] theorem tryAdvance_seg (s : State) : (tryAdvance s).seg k = s.seg k := seg_of_lanes_eq (by simp) k

/-- The end of a doze, at the deferred-upstream flags and the drive fault's flag. -/
theorem dozeLeft_flags (s : State) :
    (dozeLeft s).lanes.outSeg.deferredUp = false ∧ (dozeLeft s).lanes.backSeg.deferredUp = false ∧
      (dozeLeft s).ctl.record.driveFault = s.ctl.record.driveFault := by
  set w := settleConditions (setStation .active s) with hw
  have hflag : ∀ k, ((dozeLeft s).seg k).deferredUp = ((sendSpace .backLane (sendSpace .outLane w)).seg k).deferredUp := by
    intro k
    unfold dozeLeft
    rw [tryAdvance_seg, shutterTakeUp_deferredUp]
  have hback : ((sendSpace .backLane (sendSpace .outLane w)).seg .backLane).deferredUp = false := sendSpace_deferredUp
  have hout : ((sendSpace .backLane (sendSpace .outLane w)).seg .outLane).deferredUp = false := by
    rw [sendSpace_seg_other (by decide)]
    exact sendSpace_deferredUp
  refine ⟨(hflag .outLane).trans hout, (hflag .backLane).trans hback, ?_⟩
  have hsettled : w.ctl.record.driveFault = s.ctl.record.driveFault :=
    settleConditions_recordKept.driveFault.trans (by simp)
  simpa [dozeLeft] using hsettled

theorem dozeLeft_outStand_empty (h : s.lanes.outStand = .empty) : (dozeLeft s).lanes.outStand = .empty := by
  have hsettled := settleConditions_outStand_empty (s := setStation .active s) (by simpa using h)
  simpa [dozeLeft] using hsettled

/-- WOKEN ends the doze with the crane IDLE, and a RETRIEVE that waits starts (R39, R82). -/
theorem wakeEnds_woken (hidle : s.crane.state = .idle) :
    (wakeEnds s).ctl.station = .active ∧ (wakeEnds s).crane.pos = s.crane.pos ∧
      ((∀ j ∈ s.crane.pool, j.state ≠ .waiting) → (wakeEnds s).crane = s.crane) ∧
      (∀ j p, s.crane.pool = [j] → j.kind = .retrieve → j.state = .waiting → s.crane.pos = some p →
        p ≠ positionOf (j.bin % 2048) → j.stage = .travelEmpty → s.fire.view = 0#8 →
        (binAt (j.bin % 2048) s).state = .stored → s.lanes.outStand = .empty → s.crane.load = .empty →
        s.crane.carriage = .nothing → s.crane.continuity ≠ s.ctl.setup.storageContinuity →
        (wakeEnds s).crane.state = .running ∧
          (wakeEnds s).crane.inFlight = some (.move (positionOf (j.bin % 2048))) ∧
          (wakeEnds s).crane.pool = [{ j with state := .active }] ∧ (wakeEnds s).lanes.outStand = .reserved) := by
  rw [wakeEnds_eq]
  refine ⟨by simp, by simp, fun hnone => ?_, fun j p hpool hkind hwaiting hpos hne hstage hview hstored hstand hload
    hcarriage hcontinuity => ?_⟩
  · rw [dispatch_of_none_eligible, (dozeLeft_keeps s).2.2.2.2.1]
    intro j hj
    have hstate := hnone j (by simpa using hj)
    simp [eligible, hstate]
  · set w := dozeLeft s with hw
    have hwcrane : w.crane = s.crane := by simp [w]
    have hwpool : w.crane.pool = [j] := by rw [hwcrane, hpool]
    have helig : eligible w j = true := by
      have hbin : (binAt (indexOf j.bin) w).state = .stored := by
        have hbins : w.bins = s.bins := by simp [w]
        rw [binAt, hbins]
        exact hstored
      have hwstand : w.lanes.outStand = .empty := dozeLeft_outStand_empty hstand
      have hwview : w.fire.view = 0#8 := by simp [w, hview]
      have hwstation : w.ctl.station = .active := by simp [w]
      have hwcontinuity : w.crane.continuity ≠ w.ctl.setup.storageContinuity := by
        rw [hwcrane]
        simpa [w] using hcontinuity
      have hempty : carriageEmpty w = true := by simp [carriageEmpty, hwcrane, hload, hcarriage]
      simp [eligible, hwaiting, hkind, hwstation, hwview, hbin, hwstand, hempty, hwcontinuity]
    have htarget : travelTarget { j with state := .active } = some (positionOf (j.bin % 2048)) := by
      simp only [travelTarget, hkind, hstage]
      rfl
    obtain ⟨hrun, hmove, hactive, hreserved⟩ := startJob_of_single hwpool htarget
      (by rw [hwcrane, hpos]; exact fun h => hne (Option.some.inj h))
    have hstart : dispatch w = startJob 0 w := by
      refine dispatch_of_only (n := 0) (j := j) (by rw [hwcrane, hidle]) (by simp [dispatches, w]) (by simp [hwpool]) helig
        (fun m i hm _ => ?_) (by rw [hrun]; exact nofun)
      have hlt := (List.getElem?_eq_some_iff.1 hm).1
      rw [hwpool] at hlt
      simpa using hlt
    rw [hstart]
    refine ⟨hrun, hmove, hactive, ?_⟩
    rw [hreserved, hkind]
    rfl

/-- A wake failed leaves the crane FAULTED, and the doze is over (R39). -/
theorem wakeFailed_of_doze (hdoze : s.ctl.station = .doze) :
    (wakeFailed s).ctl.station = .active ∧ (wakeFailed s).crane.state = .faulted ∧
      (wakeFailed s).crane.inFlight = (abandonCommand s).crane.inFlight ∧
      (wakeFailed s).crane.limit = (abandonCommand s).crane.limit ∧ (wakeFailed s).crane.pool = s.crane.pool ∧
      (wakeFailed s).ctl.record.driveFault = true ∧ (wakeFailed s).lanes.outSeg.deferredUp = false ∧
      (wakeFailed s).lanes.backSeg.deferredUp = false ∧ (wakeFailed s).pins = s.pins ∧ (wakeFailed s).est = s.est ∧
      (wakeFailed s).auctions = s.auctions ∧ (wakeFailed s).ctl.setup = s.ctl.setup := by
  set w := raise (.driveFault 0 (DriveCmd.code .wake)) (((abandonCommand s).onCrane fun k =>
    { k with state := .faulted, restartRun := false, wakeKept := false }).onRecord
      fun r => { r with driveFault := true }) with hw
  have hrun : wakeFailed s = wakeEnds w := if_pos (by simpa [w] using hdoze)
  have hcrane : w.crane =
      { (abandonCommand s).crane with state := .faulted, restartRun := false, wakeKept := false } := by simp [w]
  have hrecord : w.ctl.record.driveFault = true := by simp [w]; rfl
  have hends : wakeEnds w = dozeLeft w := by
    rw [wakeEnds_eq]
    exact dispatch_of_not_idle (by simp [hcrane])
  obtain ⟨hout, hback, hfault⟩ := dozeLeft_flags w
  rw [hrun, hends]
  refine ⟨by simp, ?_, ?_, ?_, ?_, hfault.trans hrecord, hout, hback, by simp [w], by simp [w], by simp [w], by simp [w]⟩
  · rw [(dozeLeft_keeps w).2.2.2.2.1, hcrane]
  · rw [(dozeLeft_keeps w).2.2.2.2.1, hcrane]
  · rw [(dozeLeft_keeps w).2.2.2.2.1, hcrane]
  · rw [(dozeLeft_keeps w).2.2.2.2.1, hcrane]
    simp

/-- Settles O17: the order by station and crane state, and the two ends of the wake. -/
theorem wakeRuns : Obligations.WakeRuns := by
  refine ⟨fun s id r rest htakes hkind => ?_, fun s hdoze hwaking hflight hlimit hrun => ⟨?_, ?_⟩⟩
  · have hsender : r.sender.toNat = Config.gateway := htakes.2.2.1
    have hadmit : refusal r.kind s.ctl.station = none := refusal_ownRule (by simp [hkind]) _
    set w := beginTake id r rest s with hw
    have hdozing : s.ctl.station = .doze → wakeBody r w = (Answer.plain .done 0, wakeCause w) := by
      intro h
      unfold wakeBody
      rw [show w.ctl.station = .doze from h]
    have hserved : ∀ v, wakeBody r w = (Answer.plain .done 0, v) → v.bus.rx = rest →
        Replies (serve (isKind .wake) wakeBody s) id rest (plainReply .wake .done 0) ∧
          serve (isKind .wake) wakeBody s = { v with bus := (serve (isKind .wake) wakeBody s).bus } := by
      intro v hv hrx
      obtain ⟨hreplies, hstate⟩ := serve_carriesOut (p := isKind .wake) htakes (by simp [isKind, hkind]) hadmit hv hrx
      rw [Answer.toReply_plain _ _ hsender, hkind] at hreplies
      exact ⟨hreplies, hstate⟩
    refine ⟨fun hdoze hasleep => ?_, fun hdoze hrunning => ?_, fun hstay => ?_⟩
    · intro cond hwakes hholds
      have hstill : w.lanes.outSeg.cond ≠ .running ∧ w.lanes.backSeg.cond ≠ .running := by
        by_cases hopen : s.fire.shutter = none ∨ s.fire.shutter = some .opened
        · obtain ⟨ho, hb⟩ := hwakes (if_pos hopen)
          simp [w, ho, hb]
        · obtain ⟨ho, hb⟩ := hholds (if_neg hopen)
          simp [w, ho, hb]
      have hbody := hdozing hdoze
      rw [wakeCause_of_asleep (s := w) hdoze hasleep hstill] at hbody
      obtain ⟨hreplies, hstate⟩ := hserved _ hbody rfl
      exact ⟨_, rfl, hreplies, hstate⟩
    · have hbody := hdozing hdoze
      rw [wakeCause_of_running (s := w) hdoze hrunning] at hbody
      obtain ⟨hreplies, hstate⟩ := hserved _ hbody rfl
      exact ⟨_, rfl, hreplies, hstate⟩
    · have hbody : wakeBody r w = (Answer.plain .done 0, w) := by
        rcases hstay with hactive | ⟨hdoze, hwaking⟩
        · unfold wakeBody
          rw [show w.ctl.station = .active from hactive]
        · rw [hdozing hdoze, wakeCause_of_waking (s := w) hwaking]
      obtain ⟨hreplies, hstate⟩ := hserved _ hbody rfl
      exact ⟨_, rfl, hreplies, hstate⟩
  · set w := (reportTaken s).onCrane fun k => { k with state := .idle } with hw
    have hexec : exec .woken s = .next (wakeEnds w) := by
      have htaken : takeReport .woken wokenTo s = wokenTo .wake (reportTaken s) := by
        unfold takeReport
        rw [if_neg (by simp [hdoze]), if_neg (by simp [hwaking]), hflight]
        exact if_pos rfl
      have hwoken : wokenTo .wake (reportTaken s) = wakeEnds w := by
        unfold wokenTo
        rw [if_neg (by simp [hrun])]
        exact if_pos hdoze
      exact congrArg _ (htaken.trans hwoken)
    obtain ⟨hstation, hpos, hnone, hone⟩ := wakeEnds_woken (s := w) rfl
    obtain ⟨hout, hback, hfault⟩ := dozeLeft_flags w
    refine ⟨_, hexec, hstation, hpos, fun h => ?_, fun j p h1 h2 h3 h4 h5 h6 h7 h8 h9 h10 h11 h12 =>
      hone j p h1 h2 h3 h4 h5 h6 h7 h8 h9 h10 h11 h12, ?_, ?_, ?_, ?_, ?_, ?_, ?_⟩
    · rw [hnone h]
      exact ⟨rfl, rfl, rfl⟩
    · rw [wakeEnds_eq]
      simpa using hout
    · rw [wakeEnds_eq]
      simpa using hback
    · rw [wakeEnds_eq]
      simp [w]
    · rw [wakeEnds_eq]
      simp [w]
    · rw [wakeEnds_eq]
      simp [w]
    · rw [wakeEnds_eq]
      simp [w]
    · rw [wakeEnds_eq]
      simpa [w] using hfault
  · have hexec : exec .wakeLimitExpiry s = .next (wakeFailed s) := congrArg _ (if_pos ⟨hlimit, hflight⟩)
    have hgiven : (abandonCommand s).crane.inFlight = none ∧ (abandonCommand s).crane.limit = none := by
      unfold abandonCommand
      rw [hflight]
      exact ⟨rfl, rfl⟩
    obtain ⟨h1, h2, h3, h4, h5, h6, h7, h8, h9, h10, h11, h12⟩ := wakeFailed_of_doze hdoze
    exact ⟨_, hexec, h1, h2, h3.trans hgiven.1, h4.trans hgiven.2, h5, h6, h7, h8, h9, h10, h11, h12⟩

end Sys2Proof.Machine
end

section
/-! PROOF. The obligation on RESTART and on the HOMED that ends its run or the first HOME run (R73, R180 to R182). -/

namespace Sys2Proof.Machine

-- Checked one after another: the host bounds the memory of all threads together.
set_option Elab.async false

open Sys2Proof Sys2Proof.Safety

variable {s t u : State} {id : SlotId} {r : RxRecord} {rest : List RxRecord} {k : ReportKind} {x : DriveCmd}

/-! ### Reports that complete the command in flight (R72) -/

/-- A report that completes the command in flight is handed on (R70, R72). -/
theorem takeReport_completing {f : DriveCmd → State → State} (hstation : s.ctl.station ≠ .strapFault)
    (hcrane : s.crane.state ≠ .faulted) (hflight : s.crane.inFlight = some x) (hcompletes : completingReport x = k) :
    takeReport k f s = f x (reportTaken s) := by
  unfold takeReport
  rw [if_neg hstation, if_neg hcrane, hflight]
  exact if_pos hcompletes

/-! ### What a notice reads -/

/-- A notice reads the Bus Interface and Station Control alone (R19). -/
theorem raise_congr {n : Notice} (hbus : t.bus = s.bus) (hctl : t.ctl = s.ctl) :
    (raise n t).bus = (raise n s).bus ∧ (raise n t).ctl = (raise n s).ctl := by
  cases s
  cases t
  cases hbus
  cases hctl
  unfold raise
  dsimp only
  split
  · exact ⟨rfl, rfl⟩
  · split
    · exact ⟨rfl, rfl⟩
    · split
      · exact ⟨rfl, rfl⟩
      · exact ⟨rfl, rfl⟩

theorem raise_onCrane (n : Notice) (f : Crane → Crane) (s : State) : raise n (s.onCrane f) = (raise n s).onCrane f := by
  obtain ⟨hbus, hctl⟩ := raise_congr (n := n) (t := s.onCrane f) (s := s) rfl rfl
  apply State.eq_of_blocks <;> simp [hbus, hctl]

/-! ### The load that no job accounts for (R182) -/

theorem dispatch_of_no_jobs (h : s.crane.pool = []) : dispatch s = s :=
  dispatch_of_none_eligible fun j hj => by simp [h] at hj

theorem settleFrozen_of_no_jobs {loaded : Bool} (h : s.crane.pool = []) : settleFrozen loaded s = s := by
  simp [settleFrozen, currentJob, h]

theorem homedState_of_no_jobs (h : s.crane.pool = []) : homedState s = s.onCrane fun k => { k with state := .idle } := by
  simp [homedState, currentJob, h]

theorem strayCarriage_empty : strayCarriage false s = s := if_neg (by simp)

@[simp] theorem strayCarriage_keeps (loaded : Bool) (s : State) :
    (strayCarriage loaded s).ctl.station = s.ctl.station ∧ (strayCarriage loaded s).crane.pool = s.crane.pool := by
  unfold strayCarriage
  split
  · simp
  · simp

theorem strayCarriage_loaded (hpool : s.crane.pool = []) (hcarriage : s.crane.carriage ≠ .stray) :
    strayCarriage true s =
      raise (.stray 0) (s.onCrane fun k => { k with carriage := .stray, restoreWanted := false }) :=
  if_pos (by simp [carriageAccounted, currentJob, hpool, hcarriage])

/-! ### The ends of the two HOME runs (R73, R182) -/

/-- The state that a RESTART run's end settles (R182). -/
def restartEnded (s : State) : State :=
  (s.onFire fun f => { f with latch := false }).onCrane fun k => { k with restartRun := false }

theorem restartSettled_of_no_jobs {loaded : Bool} (hpool : s.crane.pool = []) :
    restartSettled loaded s = (strayCarriage loaded (restartEnded s)).onCrane fun k => { k with state := .idle } := by
  have hsettled : settleFrozen loaded (restartEnded s) = restartEnded s := settleFrozen_of_no_jobs hpool
  have hunfold : restartSettled loaded s = homedState (strayCarriage loaded (settleFrozen loaded (restartEnded s))) := rfl
  rw [hunfold, hsettled]
  exact homedState_of_no_jobs (by simpa [restartEnded] using hpool)

/-- The end of a RESTART run in RECOVERY with no job in the pool (R182). -/
theorem restartCompletes_recovery {loaded : Bool} (hstation : s.ctl.station = .recovery) (hpool : s.crane.pool = []) :
    restartCompletes loaded s =
      tryAdvance (shutterTakeUp (settleConditions (setStation .active (restartSettled loaded s)))) := by
  have hset := restartSettled_of_no_jobs (loaded := loaded) hpool
  rw [restartCompletes_eq, if_pos (by rw [hset]; simpa [restartEnded] using hstation)]
  exact dispatch_of_no_jobs (by rw [hset]; simpa [restartEnded] using hpool)

/-- What the entry to ACTIVE leaves of a state whose crane has nothing to start (R82, R182). -/
theorem active_entered {w : State} :
    let v := tryAdvance (shutterTakeUp (settleConditions (setStation .active w)))
    v.ctl.station = .active ∧ v.fire.latch = w.fire.latch ∧ v.pins = w.pins ∧ v.est = w.est ∧
      v.auctions = w.auctions ∧ v.ctl.setup = w.ctl.setup ∧ v.bins = w.bins ∧
      (rosterOf w.num v).announced = .active ∧ v.crane = w.crane := by
  have hroster : (tryAdvance (shutterTakeUp (settleConditions (setStation .active w)))).ctl.roster =
      (setStation .active w).ctl.roster := by simp
  refine ⟨by simp, by simp, by simp, by simp, by simp, by simp, by simp, ?_, by simp⟩
  rw [rosterOf, hroster]
  exact announced_setStation (by decide) w

/-- HOMED in a RESTART run of RECOVERY with no job in the pool (R182). -/
theorem exec_homed_restart {loaded : Bool} (hstation : s.ctl.station = .recovery) (hrun : s.crane.restartRun = true)
    (hstate : s.crane.state = .homing) (hflight : s.crane.inFlight = some .home) :
    exec (.homed loaded) s = .next (restartCompletes loaded ((reportTaken s).onCrane fun k =>
      { k with pos := some .mouth, load := if loaded then .loaded else .empty })) := by
  have htaken := takeReport_completing (s := s) (f := homedTo loaded) (k := .homed) (by simp [hstation]) (by simp [hstate])
    hflight rfl
  exact congrArg _ (htaken.trans (if_pos hrun))

/-- HOMED in the first HOME run after a reset (R73). -/
theorem exec_homed_first {loaded : Bool} (hstation : s.ctl.station ≠ .strapFault) (hrun : s.crane.restartRun = false)
    (hstate : s.crane.state = .homing) (hflight : s.crane.inFlight = some .home) :
    exec (.homed loaded) s = .next (firstHomed loaded ((reportTaken s).onCrane fun k =>
      { k with pos := some .mouth, load := if loaded then .loaded else .empty })) := by
  have htaken := takeReport_completing (s := s) (f := homedTo loaded) (k := .homed) hstation (by simp [hstate])
    hflight rfl
  exact congrArg _ (htaken.trans (if_neg (by simp [reportTaken, hrun])))

/-- The result of a RESTART by the station and crane states (R180). -/
theorem restartResult_done
    (h : s.ctl.station = .recovery ∧
        (s.crane.state = .unreferenced ∨ s.crane.state = .stopped ∨ s.crane.state = .faulted ∨ s.crane.state = .asleep) ∧
        ¬ (s.crane.state = .stopped ∧ s.crane.inFlight = some .stop) ∨
      s.ctl.station = .active ∧ s.crane.state = .faulted) : restartResult s = .done := by
  unfold restartResult
  rcases h with ⟨hstation, hcrane | hcrane | hcrane | hcrane, hstop⟩ | ⟨hstation, hcrane⟩
  · rw [hstation, hcrane]
  · rw [hstation, hcrane]
    exact if_neg fun h => hstop ⟨hcrane, h⟩
  · rw [hstation, hcrane]
  · rw [hstation, hcrane]
  · rw [hstation, hcrane]

theorem restartResult_busy (hstation : s.ctl.station = .recovery)
    (h : s.crane.state = .stopped ∧ s.crane.inFlight = some .stop ∨ ¬ AtRest s.crane.state) :
    restartResult s = .busy := by
  unfold restartResult
  rcases h with ⟨hcrane, hstop⟩ | hcrane
  · rw [hstation, hcrane]
    exact if_pos hstop
  · rw [hstation]
    cases hstate : s.crane.state <;> simp_all [AtRest]

theorem restartResult_notReady
    (h : s.ctl.station = .active ∧ s.crane.state ≠ .faulted ∨ s.ctl.station = .doze ∨ s.ctl.station = .joining) :
    restartResult s = .notReady := by
  unfold restartResult
  rcases h with ⟨hstation, hcrane⟩ | hstation | hstation
  · rw [hstation]
    cases hstate : s.crane.state <;> simp_all
  · rw [hstation]
  · rw [hstation]

@[simp] theorem abandonCommand_flags (s : State) :
    (abandonCommand s).crane.forkAbandoned = s.crane.forkAbandoned ∧
      (abandonCommand s).crane.storeWanted = s.crane.storeWanted ∧
      (abandonCommand s).crane.restoreWanted = s.crane.restoreWanted ∧
      (abandonCommand s).crane.wakeKept = s.crane.wakeKept := by
  unfold abandonCommand
  split
  · simp
  · simp

/-- The RESTART run of a crane that is not ASLEEP begins with HOME (R181). -/
theorem beginRestart_home (h : s.crane.state ≠ .asleep) :
    beginRestart s = s.onCrane fun k => { k with
      state := .homing, inFlight := some .home, limit := some 60000, lastSent := some .home,
      stale := (abandonCommand s).crane.stale, restartRun := true } := by
  have hstate : ((abandonCommand s).onCrane fun k => { k with restartRun := true }).crane.state ≠ .asleep := by simpa using h
  refine (if_neg hstate).trans ?_
  apply State.eq_of_blocks <;> simp [sendHome, sendDrive, driveLimit]

/-- The RESTART run of a crane ASLEEP begins with WAKE (R181). -/
theorem beginRestart_wake (h : s.crane.state = .asleep) :
    beginRestart s = s.onCrane fun k => { k with
      state := .waking, inFlight := some .wake, limit := some s.ctl.setup.wakeLimit, lastSent := some .wake,
      stale := (abandonCommand s).crane.stale, wakeKept := false, restartRun := true } := by
  have hstate : ((abandonCommand s).onCrane fun k => { k with restartRun := true }).crane.state = .asleep := by simpa using h
  refine (if_pos hstate).trans ?_
  apply State.eq_of_blocks <;> simp [sendWake, sendDrive, driveLimit]

/-- Settles O51: the order by station and crane state, WOKEN, and HOMED with no job in the pool. -/
theorem restartReferencesTheCrane : Obligations.RestartReferencesTheCrane := by
  refine ⟨fun s id r rest htakes hkind => ?_, fun s hstation hrun => ⟨fun hwaking hflight => ?_,
    fun hrec hhoming hflight hpool => ⟨fun hcarriage => ?_, fun hcarriage => ?_⟩⟩,
    fun s hstation hhoming hflight hrun hpool => ⟨fun hcarriage => ?_, fun hcarriage => ?_⟩⟩
  · intro reply stops
    have hsender : r.sender.toNat = Config.gateway := htakes.2.2.1
    set w := beginTake id r rest s with hw
    have hreply : ∀ code, ({ Answer.plain code 0 with d0 := s.crane.state.code } : Answer).toReply r = reply code := by
      intro code
      rw [Answer.toReply_eq _ hsender, hkind]
      rfl
    have hadmit : s.ctl.station ≠ .shutdown → refusal r.kind s.ctl.station = none := by
      intro h
      rw [hkind]
      cases hst : s.ctl.station <;> simp_all [refusal, ownerOrder, refusedInRecovery]
    have hserved : s.ctl.station ≠ .shutdown → ∀ code v, restartResult s = code →
        (if code = .done then beginRestart w else w) = v → v.bus.rx = rest →
        Replies (serve (isKind .restart) restartBody s) id rest (reply code) ∧
          serve (isKind .restart) restartBody s = { v with bus := (serve (isKind .restart) restartBody s).bus } := by
      intro hne code v hcode hv hrx
      have hbody : restartBody r w = ({ Answer.plain code 0 with d0 := s.crane.state.code }, v) := by
        unfold restartBody
        rw [show restartResult w = code from hcode]
        exact Prod.ext rfl hv
      obtain ⟨hreplies, hstate⟩ := serve_carriesOut (p := isKind .restart) htakes (by simp [isKind, hkind]) (hadmit hne)
        hbody hrx
      rw [hreply] at hreplies
      exact ⟨hreplies, hstate⟩
    refine ⟨fun h => ?_, fun hrec hasleep => ?_, fun hrec h => ?_, fun h => ?_, fun hshut => ?_⟩
    · have hne : s.ctl.station ≠ .shutdown := by
        rcases h with ⟨h, -⟩ | ⟨h, -⟩
        · simp [h]
        · simp [h]
      have hdone : restartResult s = .done := restartResult_done (h.imp_left fun ⟨hst, hcr, hns⟩ =>
        ⟨hst, hcr.imp_right fun h => h.imp_right .inl, hns⟩)
      have hawake : s.crane.state ≠ .asleep := by
        rcases h with ⟨-, h | h | h, -⟩ | ⟨-, h⟩
        · simp [h]
        · simp [h]
        · simp [h]
        · simp [h]
      obtain ⟨hreplies, hstate⟩ := hserved hne .done _ hdone
        ((if_pos rfl).trans (beginRestart_home (s := w) hawake)) (by simp [hw])
      refine ⟨_, rfl, hreplies, hstate.trans ?_⟩
      rw [hstate]
      apply State.eq_of_blocks <;> simp [hw]
    · have hdone : restartResult s = .done := restartResult_done (.inl ⟨hrec, .inr (.inr (.inr hasleep)), by simp [hasleep]⟩)
      obtain ⟨hreplies, hstate⟩ := hserved (by simp [hrec]) .done _ hdone
        ((if_pos rfl).trans (beginRestart_wake (s := w) hasleep)) (by simp [hw])
      refine ⟨_, rfl, hreplies, hstate.trans ?_⟩
      rw [hstate]
      apply State.eq_of_blocks <;> simp [hw]
    · obtain ⟨hreplies, hstate⟩ := hserved (by simp [hrec]) .busy w (restartResult_busy hrec h) rfl (by simp [hw])
      exact ⟨_, rfl, hreplies, hstate⟩
    · have hne : s.ctl.station ≠ .shutdown := by
        rcases h with ⟨h, -⟩ | h | h
        · simp [h]
        · simp [h]
        · simp [h]
      obtain ⟨hreplies, hstate⟩ := hserved hne .notReady w (restartResult_notReady h) rfl (by simp [hw])
      exact ⟨_, rfl, hreplies, hstate⟩
    · have hcommand : commandFor r = .restart := by simp [commandFor, hkind]
      have hnamed : namedBy r = 0 := by simp [namedBy, hkind]
      obtain ⟨t, hexec, hreplies, hstate⟩ :=
        (orderFrameIsStoredHeldOrDropped.1 s r rest id htakes.1 htakes.2.1 htakes.2.2.2).2.2.2.1 hsender hshut hkind
      rw [hcommand] at hexec
      exact ⟨t, _, hexec, hreplies, rfl, hnamed, hstate⟩
  · have htaken := takeReport_completing (s := s) (f := wokenTo) (k := .woken) hstation (by simp [hwaking]) hflight rfl
    refine congrArg _ (htaken.trans ((if_pos hrun).trans ?_))
    rfl
  · refine ⟨_, exec_homed_restart hrec hrun hhoming hflight, ?_⟩
    set v := (reportTaken s).onCrane fun k => { k with pos := some .mouth, load := if false then .loaded else .empty } with hv
    have hset : restartSettled false v = (restartEnded v).onCrane fun k => { k with state := .idle } := by
      rw [restartSettled_of_no_jobs (s := v) hpool, strayCarriage_empty]
    rw [restartCompletes_recovery (s := v) hrec hpool, hset]
    obtain ⟨h1, h2, h3, h4, h5, h6, h7, h8, h9⟩ :=
      active_entered (w := (restartEnded v).onCrane fun k => { k with state := .idle })
    refine ⟨⟨h1, h2, h3, h4, h5, h6, h7, h8, ?_⟩, ?_⟩
    · rw [h9]
      simp [restartEnded, v, reportTaken, hcarriage]
    · rw [h9]
      rfl
  · refine ⟨_, exec_homed_restart hrec hrun hhoming hflight, ?_⟩
    set v := (reportTaken s).onCrane fun k => { k with pos := some .mouth, load := if true then .loaded else .empty } with hv
    have hset : restartSettled true v = (raise (.stray 0) ((restartEnded v).onCrane fun k =>
        { k with carriage := .stray, restoreWanted := false })).onCrane fun k => { k with state := .idle } := by
      rw [restartSettled_of_no_jobs (s := v) hpool, strayCarriage_loaded (s := restartEnded v) hpool hcarriage]
    rw [restartCompletes_recovery (s := v) hrec hpool, hset]
    obtain ⟨h1, h2, h3, h4, h5, h6, h7, h8, h9⟩ :=
      active_entered (w := (raise (.stray 0) ((restartEnded v).onCrane fun k =>
        { k with carriage := .stray, restoreWanted := false })).onCrane fun k => { k with state := .idle })
    have hnum : ((raise (.stray 0) ((restartEnded v).onCrane fun k =>
        { k with carriage := .stray, restoreWanted := false })).onCrane fun k => { k with state := .idle }).num = s.num := by
      simp [State.num]
      rfl
    rw [hnum] at h8
    refine ⟨⟨h1, ?_, ?_, ?_, ?_, ?_, ?_, h8, ?_⟩, ?_⟩
    · rw [h2]
      simp [restartEnded]
    · rw [h3]
      simp [restartEnded, v, reportTaken]
    · rw [h4]
      simp [restartEnded, v, reportTaken]
    · rw [h5]
      simp [restartEnded, v, reportTaken]
    · rw [h6]
      simp [restartEnded, v, reportTaken]
    · rw [h7]
      simp [restartEnded, v, reportTaken]
    · rw [h9]
      simp [restartEnded, v, reportTaken]
    · rw [h9]
      simp
  · rw [exec_homed_first hstation hrun hhoming hflight]
    set v := (reportTaken s).onCrane fun k => { k with pos := some .mouth, load := if false then .loaded else .empty } with hv
    have hends : firstHomed false v = v.onCrane fun k => { k with state := .idle } := by
      unfold firstHomed
      rw [strayCarriage_empty, homedState_of_no_jobs (s := v) hpool]
      exact dispatch_of_no_jobs hpool
    rw [hends]
    rfl
  · refine ⟨_, exec_homed_first hstation hrun hhoming hflight, ?_⟩
    set v := (reportTaken s).onCrane fun k => { k with pos := some .mouth, load := if true then .loaded else .empty } with hv
    have hvpool : v.crane.pool = [] := hpool
    have hends : firstHomed true v = (raise (.stray 0) (v.onCrane fun k =>
        { k with carriage := .stray, restoreWanted := false })).onCrane fun k => { k with state := .idle } := by
      unfold firstHomed
      rw [strayCarriage_loaded (s := v) hpool hcarriage, homedState_of_no_jobs (by simpa using hvpool)]
      exact dispatch_of_no_jobs (by simpa using hvpool)
    rw [hends, raise_onCrane, hv, reportTaken, raise_onCrane, raise_onCrane]
    apply State.eq_of_blocks <;> simp

end Sys2Proof.Machine
end

section
/-! PROOF. The obligation on the drive fault (R37, R74). -/

namespace Sys2Proof.Machine

-- Checked one after another: the host bounds the memory of all threads together.
set_option Elab.async false

open Sys2Proof Sys2Proof.Safety

variable {s t u : State} {l : List Job} {j : Job} {n : Nat} {k : Lane}

/-! ### The jobs that a drive fault freezes and fails (R74) -/

/-- A job as a drive fault leaves it where it stays in the pool (R74). -/
def frozenJob (j : Job) : Job := if j.state = .waiting then j else { j with state := .frozen }

theorem frozenJob_keeps (j : Job) : (frozenJob j).tag = j.tag ∧ (frozenJob j).bin = j.bin ∧
    ((frozenJob j).state = .waiting ↔ j.state = .waiting) := by
  unfold frozenJob
  split
  · simp
  · simp_all

theorem failsFill_frozenJob (j : Job) : failsFill (frozenJob j) = failsFill j := by
  unfold frozenJob
  split
  · rfl
  · next hstate => simp [failsFill, hstate, unlifted]

theorem failsFill_eq (j : Job) : failsFill j = decide (j.kind = .retrieve ∧ j.purpose = .fill ∧
    (j.state = .waiting ∨ j.stage = .travelEmpty ∨ j.stage = .forkPick ∧ j.sent = false)) := by
  simp [failsFill, unlifted, Bool.and_assoc]

theorem filter_frozenJob (p : Job → Bool) (hp : ∀ j, p (frozenJob j) = p j) (l : List Job) :
    (l.map frozenJob).filter p = (l.filter p).map frozenJob := by
  rw [List.filter_map]
  exact congrArg _ (List.filter_congr fun j _ => hp j)

/-! ### Failed fills, one after another (R74) -/

theorem recordFreed_of_nothing_wanted (hrestore : s.crane.restoreWanted = false) (hstore : s.crane.storeWanted = false) :
    recordFreed s = s := by
  simp [recordFreed, hrestore, hstore]

/-- The fills of these jobs fail, one after another. -/
def fillsFailed (l : List Job) (s : State) : State := l.foldl (fun t j => failFill j.tag (indexOf j.bin) t) s

/-- The notices of the fills of these jobs, one after another. -/
def fillNotices (l : List Job) (s : State) : State := l.foldl (fun t j => raise (.fillFailed j.tag (j.bin % 2048)) t) s

theorem fillsFailed_bus (l : List Job) : ∀ {s t : State}, t.bus = s.bus → t.ctl = s.ctl →
    (fillsFailed l t).bus = (fillNotices l s).bus ∧ (fillsFailed l t).ctl = (fillNotices l s).ctl := by
  induction l with
  | nil => exact fun hbus hctl => ⟨hbus, hctl⟩
  | cons j l ih =>
    intro s t hbus hctl
    obtain ⟨h1, h2⟩ := raise_congr (n := .fillFailed j.tag (indexOf j.bin)) (t := (holdClear (indexOf j.bin) t).2) (s := s)
      hbus hctl
    exact ih h1 h2

@[simp] theorem fillsFailed_keeps (l : List Job) (s : State) :
    (fillsFailed l s).pending = s.pending ∧ (fillsFailed l s).pins = s.pins ∧ (fillsFailed l s).crane = s.crane ∧
      (fillsFailed l s).est = s.est ∧ (fillsFailed l s).lanes = s.lanes ∧ (fillsFailed l s).port = s.port ∧
      (fillsFailed l s).auctions = s.auctions ∧ (fillsFailed l s).fire = s.fire := by
  induction l generalizing s with
  | nil => simp [fillsFailed]
  | cons j l ih => simpa [fillsFailed] using ih (failFill j.tag (indexOf j.bin) s)

@[simp] theorem fillNotices_keeps (l : List Job) (s : State) :
    (fillNotices l s).pending = s.pending ∧ (fillNotices l s).pins = s.pins ∧
      (fillNotices l s).ctl.setup = s.ctl.setup ∧ (fillNotices l s).ctl.record = s.ctl.record ∧
      (fillNotices l s).crane = s.crane ∧ (fillNotices l s).bins = s.bins ∧ (fillNotices l s).est = s.est ∧ (fillNotices l s).lanes = s.lanes ∧
      (fillNotices l s).port = s.port ∧ (fillNotices l s).auctions = s.auctions ∧ (fillNotices l s).fire = s.fire := by
  induction l generalizing s with
  | nil => simp [fillNotices]
  | cons j l ih => simpa [fillNotices] using ih (raise (.fillFailed j.tag (j.bin % 2048)) s)

theorem fillNotices_frozen (l : List Job) (s : State) : fillNotices (l.map frozenJob) s = fillNotices l s := by
  unfold fillNotices
  rw [List.foldl_map]
  simp only [frozenJob_keeps]

/-- The holds of the failed fills are cleared, and no other record changes (R64, R74). -/
theorem binAt_fillsFailed (l : List Job) {s : State} (hwf : BinsWf s) (i : Nat) :
    binAt i (fillsFailed l s) =
      if i ∈ l.map (fun j => j.bin % 2048) then { binAt i s with hold := 0 } else binAt i s := by
  induction l generalizing s with
  | nil => simp [fillsFailed]
  | cons j l ih =>
    set v := failFill j.tag (indexOf j.bin) s with hv
    have hbins : v.bins = (holdClear (indexOf j.bin) s).2.bins := by simp [v, failFill]
    have hwfv : BinsWf v := by
      rw [BinsWf, hbins]
      exact holdClear_wf hwf _
    have hstep : fillsFailed (j :: l) s = fillsFailed l v := rfl
    have hread : binAt i v = binAt i (putBin (indexOf j.bin) { binAt (indexOf j.bin) s with hold := 0 } s) := by
      rw [binAt, hbins]
      rfl
    rw [hstep, ih hwfv, hread]
    by_cases hi : i = indexOf j.bin
    · have hmem : i ∈ (j :: l).map (fun j => j.bin % 2048) := by
        rw [hi]
        exact List.mem_cons_self
      rw [if_pos hmem, hi, binAt_putBin hwf]
      exact ite_self _
    · have hmem : i ∈ (j :: l).map (fun j => j.bin % 2048) ↔ i ∈ l.map (fun j => j.bin % 2048) := by
        rw [List.map_cons, List.mem_cons]
        exact or_iff_right hi
      rw [binAt_putBin_other hwf hi]
      simp only [hmem]

/-- What failing the fills leaves, where no request waits for a record (R74). -/
theorem failFills_of_nothing_wanted (hrestore : s.crane.restoreWanted = false) (hstore : s.crane.storeWanted = false) :
    failFills s = fillsFailed (s.crane.pool.filter failsFill)
      { s with
        crane := { s.crane with pool := s.crane.pool.filter fun j => !failsFill j }
        lanes := if ((s.crane.pool.filter failsFill).any fun j => decide (j.state ≠ .waiting)) = true ∧
            s.lanes.outStand = .reserved then { s.lanes with outStand := .empty } else s.lanes } := by
  have hpool : ∀ v : State, (fillsFailed (s.crane.pool.filter failsFill) v).crane = v.crane := by simp
  unfold failFills
  extract_lets gone s₁ s₂
  have hs₂ : s₂ = { s with
      crane := { s.crane with pool := s.crane.pool.filter fun j => !failsFill j }
      lanes := if (gone.any fun j => decide (j.state ≠ .waiting)) = true ∧ s.lanes.outStand = .reserved then
        { s.lanes with outStand := .empty } else s.lanes } := by
    unfold s₂ releaseStand
    by_cases hany : (gone.any fun j => decide (j.state ≠ .waiting)) = true
    · by_cases hstand : s.lanes.outStand = .reserved
      · rw [if_pos hany, if_pos (show s₁.lanes.outStand = .reserved from hstand), if_pos ⟨hany, hstand⟩]
        rfl
      · rw [if_pos hany, if_neg (show ¬ s₁.lanes.outStand = .reserved from hstand), if_neg fun h => hstand h.2]
        rfl
    · rw [if_neg hany, if_neg fun h => hany h.1]
      rfl
  by_cases hempty : gone.isEmpty = true
  · rw [if_pos hempty, ← hs₂]
    have hnone : gone = [] := List.isEmpty_iff.1 hempty
    have hkept : (s.crane.pool.filter fun j => !failsFill j) = s.crane.pool :=
      List.filter_eq_self.2 fun j hj => by simpa using List.filter_eq_nil_iff.1 hnone j hj
    have hsame : s₂ = s := by
      rw [hs₂, hkept, hnone]
      rfl
    rw [hsame, show s.crane.pool.filter failsFill = [] from hnone]
    rfl
  · rw [if_neg hempty, ← hs₂]
    have hcrane : s₂.crane = { s.crane with pool := s.crane.pool.filter fun j => !failsFill j } := by rw [hs₂]
    have hkept : (fillsFailed gone s₂).crane = s₂.crane := hpool s₂
    exact recordFreed_of_nothing_wanted (s := fillsFailed gone s₂) (by rw [hkept, hcrane]; exact hrestore)
      (by rw [hkept, hcrane]; exact hstore)

/-! ### The crane's part of the drive fault (R72, R74) -/

/-- Where a report or a limit leaves the crane whose fault it is (R72, R74): its pool apart. -/
def faultedCrane (s : State) : Crane :=
  { s.crane with
    state := .faulted
    pos := (afterFault s.crane).pos
    load := (afterFault s.crane).load
    inFlight := none
    limit := (abandonCommand s).crane.limit
    stale := (abandonCommand s).crane.stale
    restartRun := false
    wakeKept := false
    forkAbandoned := false
    pool := s.crane.pool.map frozenJob }

/-- The notice of a drive fault, at a station whose DRIVE-FAULT flag is set by it (R74). -/
def faultNoticed (n : Nat) (s : State) : State :=
  raise (.driveFault n (commandCode s.crane.inFlight))
    { s with ctl := { s.ctl with record := { s.ctl.record with driveFault := true } } }

theorem craneFault_eq (n : Nat) (s : State) :
    craneFault n s = failFills { faultNoticed n s with crane := faultedCrane s } := by
  have hgiven : ((abandonCommand (s.onCrane afterFault)).onCrane fun k =>
      { k with state := .faulted, restartRun := false, wakeKept := false, forkAbandoned := false }) =
      { s with crane := { faultedCrane s with pool := s.crane.pool } } := by
    unfold abandonCommand
    cases hflight : s.crane.inFlight with
    | none => simp [State.onCrane, afterFault, faultedCrane, abandonCommand, hflight]
    | some c => simp [State.onCrane, afterFault, faultedCrane, abandonCommand, hflight]
  unfold craneFault
  extract_lets cmd s₁ s₂
  have hs₂ : s₂ = { s with
      ctl := { s.ctl with record := { s.ctl.record with driveFault := true } }, crane := faultedCrane s } := by
    unfold s₂
    rw [show s₁ = _ from hgiven]
    rfl
  have hraise : raise (.driveFault n cmd) s₂ = { faultNoticed n s with crane := faultedCrane s } := by
    rw [hs₂]
    exact raise_onCrane _ (fun _ => faultedCrane s)
      { s with ctl := { s.ctl with record := { s.ctl.record with driveFault := true } } }
  rw [hraise]

/-- No fill waits to fail, or no request waits for a record that a failed fill would free. -/
def FillsSettle (s : State) : Prop :=
  (∀ j ∈ s.crane.pool, j.purpose ≠ .fill) ∨ s.crane.restoreWanted = false ∧ s.crane.storeWanted = false

/-- The jobs that a drive fault fails (R74). -/
def failing (s : State) : List Job := s.crane.pool.filter failsFill

/-- What a drive fault leaves (R72, R74). -/
theorem craneFault_settled (h : FillsSettle s) (n : Nat) :
    (craneFault n s).crane =
        { faultedCrane s with pool := (s.crane.pool.filter fun j => !failsFill j).map frozenJob } ∧
      (∀ i, i ∈ (failing s).map (fun j => j.bin % 2048) → BinsWf s →
        binAt i (craneFault n s) = { binAt i s with hold := 0 }) ∧
      (∀ i, i ∉ (failing s).map (fun j => j.bin % 2048) → BinsWf s → binAt i (craneFault n s) = binAt i s) ∧
      ((failing s).map (fun j => j.bin % 2048) = [] → (craneFault n s).bins = s.bins) ∧
      (craneFault n s).lanes = (if ((failing s).any fun j => decide (j.state ≠ .waiting)) = true ∧
        s.lanes.outStand = .reserved then { s.lanes with outStand := .empty } else s.lanes) ∧
      craneFault n s = { fillNotices (failing s) (faultNoticed n s) with
        bins := (craneFault n s).bins, lanes := (craneFault n s).lanes, crane := (craneFault n s).crane } := by
  set w : State := { faultNoticed n s with crane := faultedCrane s } with hw
  have hgone : w.crane.pool.filter failsFill = (failing s).map frozenJob := filter_frozenJob _ failsFill_frozenJob _
  have hkeep : (w.crane.pool.filter fun j => !failsFill j) = (s.crane.pool.filter fun j => !failsFill j).map frozenJob :=
    filter_frozenJob _ (fun j => by rw [failsFill_frozenJob]) _
  have hany : ((failing s).map frozenJob).any (fun j => decide (j.state ≠ .waiting)) =
      (failing s).any fun j => decide (j.state ≠ .waiting) := by
    rw [List.any_map]
    refine congrArg _ (funext fun j => ?_)
    simp [(frozenJob_keeps j).2.2]
  have hbins : ((failing s).map frozenJob).map (fun j => j.bin % 2048) = (failing s).map fun j => j.bin % 2048 := by
    rw [List.map_map]
    exact List.map_congr_left fun j _ => by simp [(frozenJob_keeps j).2.1]
  rw [craneFault_eq]
  rcases h with hnone | ⟨hrestore, hstore⟩
  · have hfails : ∀ j ∈ s.crane.pool, failsFill j = false := fun j hj => by simp [failsFill_eq, hnone j hj]
    have hempty : failing s = [] := List.filter_eq_nil_iff.2 fun j hj => by simp [hfails j hj]
    have hall : (s.crane.pool.filter fun j => !failsFill j) = s.crane.pool :=
      List.filter_eq_self.2 fun j hj => by simp [hfails j hj]
    have hstays : failFills w = w := failFills_of_none fun j hj => by
      obtain ⟨i, hi, rfl⟩ := List.mem_map.1 (show j ∈ s.crane.pool.map frozenJob from hj)
      rw [failsFill_frozenJob]
      exact hfails i hi
    rw [hstays, hempty, hall]
    refine ⟨rfl, fun i hi => absurd hi (by simp), fun i _ _ => ?_, fun _ => ?_, ?_, rfl⟩
    · simp [binAt, w, faultNoticed]
    · simp [w, faultNoticed]
    · simp [w, faultNoticed]
  · rw [failFills_of_nothing_wanted (s := w) hrestore hstore, hgone, hkeep, hany]
    have hwlanes : w.lanes = s.lanes := by simp [w, faultNoticed]
    obtain ⟨v, hv, hvcrane, hvlanes, hvbins⟩ : ∃ v : State, v = { w with
        crane := { w.crane with pool := (s.crane.pool.filter fun j => !failsFill j).map frozenJob }
        lanes := if ((failing s).any fun j => decide (j.state ≠ .waiting)) = true ∧
            w.lanes.outStand = .reserved then { w.lanes with outStand := .empty } else w.lanes } ∧
        v.crane = { faultedCrane s with pool := (s.crane.pool.filter fun j => !failsFill j).map frozenJob } ∧
        v.lanes = (if ((failing s).any fun j => decide (j.state ≠ .waiting)) = true ∧
          s.lanes.outStand = .reserved then { s.lanes with outStand := .empty } else s.lanes) ∧ v.bins = s.bins :=
      ⟨_, rfl, rfl, by rw [hwlanes], by simp [w, faultNoticed]⟩
    rw [← hv]
    have hread : ∀ i, BinsWf s → binAt i (fillsFailed ((failing s).map frozenJob) v) =
        if i ∈ (failing s).map (fun j => j.bin % 2048) then { binAt i s with hold := 0 } else binAt i s := by
      intro i hwf
      have hsame : binAt i v = binAt i s := by rw [binAt, hvbins, binAt]
      rw [binAt_fillsFailed _ (by rwa [BinsWf, hvbins]), hbins, hsame]
    refine ⟨by simp [hvcrane], fun i hi hwf => ?_, fun i hi hwf => ?_, fun hnone => ?_, by simp [hvlanes], ?_⟩
    · rw [hread i hwf, if_pos hi]
    · rw [hread i hwf, if_neg hi]
    · rw [List.map_eq_nil_iff.1 hnone]
      exact hvbins
    · have hnotices : (fillsFailed ((failing s).map frozenJob) v).bus = (fillNotices (failing s) (faultNoticed n s)).bus ∧
          (fillsFailed ((failing s).map frozenJob) v).ctl = (fillNotices (failing s) (faultNoticed n s)).ctl := by
        rw [← fillNotices_frozen]
        exact fillsFailed_bus _ (by rw [hv]) (by rw [hv])
      obtain ⟨h1, h2, h3, h4, h5, h6⟩ : v.pending = (faultNoticed n s).pending ∧ v.pins = (faultNoticed n s).pins ∧
          v.est = (faultNoticed n s).est ∧ v.port = (faultNoticed n s).port ∧
          v.auctions = (faultNoticed n s).auctions ∧ v.fire = (faultNoticed n s).fire := by
        rw [hv]
        exact ⟨rfl, rfl, rfl, rfl, rfl, rfl⟩
      apply State.eq_of_blocks <;> simp [hnotices, h1, h2, h3, h4, h5, h6]

/-! ### The end of a doze by a drive fault (R37) -/

/-- The conditions in which a doze leaves the segments (R37, R129, R186). -/
theorem dozeLeft_cond (s : State) :
    (s.fire.view ≠ 0#8 → ∀ k, ((dozeLeft s).seg k).cond = .held) ∧
      (s.fire.view = 0#8 → s.fire.listen = none → s.fire.shutter = none ∨ s.fire.shutter = some .opened →
        ∀ k, ((dozeLeft s).seg k).cond = .running) := by
  set w := sendSpace .backLane (sendSpace .outLane (settleConditions (setStation .active s))) with hw
  have hcond : ∀ k, (w.seg k).cond = wantedCondition (setStation .active s) := by simp [w]
  have hfire : w.fire = s.fire := by simp [w]
  have hleft : ∀ k, ((dozeLeft s).seg k).cond = ((shutterTakeUp w).seg k).cond := by
    intro k
    rw [dozeLeft, tryAdvance_seg]
  refine ⟨fun hview k => ?_, fun hview hlisten hshutter k => ?_⟩
  · have hheld : wantedCondition (setStation .active s) = .held :=
      wantedCondition_of_held (by simp) (.inl (by simp [ringHold, hview]))
    rw [hleft]
    exact shutterTakeUp_held (fun k => (hcond k).trans hheld) k
  · have hrunning : wantedCondition (setStation .active s) = .running :=
      wantedCondition_of_running (by simpa using hview) (by simpa using hlisten) (by simp) (by simpa using hshutter)
    have hstays : shutterTakeUp w = w := by
      rcases hshutter with h | h
      · exact shutterTakeUp_of_none (by rw [hfire, h])
      · rw [shutterTakeUp_of_opened (by rw [hfire, h]), closeCondition_of_view (by rw [hfire, hview])]
        rfl
    rw [hleft, hstays, hcond, hrunning]

/-- A drive fault at a station in DOZE (R37). -/
theorem driveFault_of_doze (hdoze : s.ctl.station = .doze) (h : FillsSettle s) (n : Nat) :
    driveFault n s = dozeLeft (craneFault n s) := by
  unfold driveFault
  rw [if_pos hdoze, wakeEnds_eq]
  exact dispatch_of_not_idle (by rw [(dozeLeft_keeps _).2.2.2.2.1, (craneFault_settled h n).1]; exact nofun)

theorem driveFault_of_active (hactive : s.ctl.station = .active) (n : Nat) : driveFault n s = craneFault n s :=
  if_neg (by simp [hactive])

/-- A command that is given up runs under no limit, and its report is owed (R70, R71). -/
theorem abandonCommand_wake (h : s.crane.inFlight = some .wake) :
    (abandonCommand s).crane.limit = none ∧ ReportKind.woken ∈ (abandonCommand s).crane.stale := by
  unfold abandonCommand
  rw [h]
  exact ⟨rfl, List.mem_cons_self⟩

/-- Settles O28: the FAULT and the limit run `driveFault`, whose crane part is said by `craneFault_settled`. -/
theorem driveFaultFreezesTheCrane : Obligations.DriveFaultFreezesTheCrane := by
  intro s code hstation cmd frozen fails faulted expires noticed
  have hstrap : s.ctl.station ≠ .strapFault := by
    rcases hstation with h | h
    · simp [h]
    · simp [h]
  have hfault : s.crane.state ≠ .faulted → exec (.fault code) s = .next (driveFault code s) := fun h =>
    congrArg _ ((if_neg hstrap).trans (if_neg h))
  have hlimit : expires → exec .driveLimitExpiry s = .next (driveFault 0 s) := fun h => congrArg _ (if_pos h)
  have hfails : fails = failsFill := funext fun j => (failsFill_eq j).symm
  have hfailing : s.crane.pool.filter fails = failing s := by rw [hfails]; rfl
  have hkept : frozen (s.crane.pool.filter fun j => !fails j) =
      (s.crane.pool.filter fun j => !failsFill j).map frozenJob := by
    rw [hfails]
    rfl
  have hfaulted : ∀ (pool : List Job) (t : State), t.crane = { faultedCrane s with pool := pool } → faulted pool t := by
    intro pool t h
    change t.crane = _
    rw [h]
    rfl
  have hnoticed : ∀ n, noticed n = faultNoticed n s := fun _ => rfl
  refine ⟨fun hfaulted => ⟨?_, ?_⟩, fun hcrane p hflight hstale => ?_, fun hcrane hactive hnone => ?_,
    fun hcrane hactive hrestore hstore => ?_, fun hcrane hdoze hsettle => ?_⟩
  · exact congrArg _ ((if_neg hstrap).trans (if_pos hfaulted))
  · exact congrArg _ ((if_neg hstrap).trans (if_pos hfaulted))
  · have htaken : takeReport .woken wokenTo s = driveFault 255 s := by
      unfold takeReport
      rw [if_neg hstrap, if_neg hcrane, hflight]
      exact (if_neg nofun).trans (if_neg hstale)
    have hfault : exec (.fault 255) s = .next (driveFault 255 s) := congrArg _ ((if_neg hstrap).trans (if_neg hcrane))
    rw [hfault]
    exact congrArg _ htaken
  · intro settled
    have hall : ∀ n, settled n (driveFault n s) := by
      intro n
      rw [driveFault_of_active hactive]
      have hfilter : (s.crane.pool.filter fun j => !failsFill j) = s.crane.pool :=
        List.filter_eq_self.2 fun j hj => by simp [failsFill_eq, hnone j hj]
      have hempty : failing s = [] := List.filter_eq_nil_iff.2 fun j hj => by simp [failsFill_eq, hnone j hj]
      obtain ⟨hleft, -, -, hbins, hlanes, hstate⟩ := craneFault_settled (.inl hnone) n
      rw [hempty] at hbins hlanes hstate
      rw [hfilter] at hleft
      refine ⟨?_, hstate.trans ?_⟩
      · exact hfaulted _ _ hleft
      · rw [hbins rfl, hlanes, hnoticed]
        apply State.eq_of_blocks <;> simp [fillNotices, faultNoticed]
    exact ⟨⟨_, hfault hcrane, hall code⟩, fun h => ⟨_, hlimit h, hall 0⟩⟩
  · intro failed settled
    have hall : ∀ n, settled n (driveFault n s) := by
      intro n
      rw [driveFault_of_active hactive]
      obtain ⟨hleft, hfailed, hother, -, hlanes, hstate⟩ := craneFault_settled (.inr ⟨hrestore, hstore⟩) n
      rw [← hfailing] at hfailed hother hlanes hstate
      refine ⟨hfaulted _ _ ?_, hfailed, hother, hlanes, hstate⟩
      rw [hleft, hkept]
    exact ⟨⟨_, hfault hcrane, hall code⟩, fun h => ⟨_, hlimit h, hall 0⟩⟩
  · intro failed settled
    have hall : ∀ n, settled (driveFault n s) := by
      intro n
      rw [driveFault_of_doze hdoze hsettle]
      obtain ⟨hleft, hfailed, hother, hnone, hlanes, hstate⟩ := craneFault_settled hsettle n
      rw [← hfailing] at hfailed hother hnone hlanes hstate
      have hcraneLeft : (dozeLeft (craneFault n s)).crane = (craneFault n s).crane := by simp
      have hbins : (dozeLeft (craneFault n s)).bins = (craneFault n s).bins := by simp
      obtain ⟨hout, hback, hrecord⟩ := dozeLeft_flags (craneFault n s)
      obtain ⟨hheld, hrunning⟩ := dozeLeft_cond (craneFault n s)
      have hfire : (craneFault n s).fire = s.fire := by
        rw [hstate]
        simp [faultNoticed]
      rw [hfire] at hheld hrunning
      refine ⟨?_, fun i hi hwf => ?_, fun i hi hwf => ?_, fun h => ?_, by simp, ?_, hout, hback, ?_, ?_, ?_, ?_, fun hwake => ?_,
        fun h => ⟨hheld h .outLane, hheld h .backLane⟩,
        fun h1 h2 h3 => ⟨hrunning h1 h2 h3 .outLane, hrunning h1 h2 h3 .backLane⟩⟩
      · refine hfaulted _ _ ?_
        rw [hcraneLeft, hleft, hkept]
      · rw [binAt, hbins]
        exact hfailed i hi hwf
      · rw [binAt, hbins]
        exact hother i hi hwf
      · rw [hbins]
        exact hnone h
      · rw [hrecord, hstate]
        simp [faultNoticed]
      · rw [(dozeLeft_keeps _).1, hstate]
        simp [faultNoticed]
      · rw [(dozeLeft_keeps _).2.2.2.2.2.1, hstate]
        simp [faultNoticed]
      · rw [(dozeLeft_keeps _).2.2.2.2.2.2.1, hstate]
        simp [faultNoticed]
      · rw [(dozeLeft_keeps _).2.2.1, hstate]
        simp [faultNoticed]
      · rw [hcraneLeft, hleft]
        exact abandonCommand_wake hwake
    exact ⟨⟨_, hfault hcrane, hall code⟩, fun h => ⟨_, hlimit h, hall 0⟩⟩

end Sys2Proof.Machine
end

section
/-! PROOF. The Lane Unit's operations in their plain cases, and the obligations on the PASS received and on the head that
offers again (R117 to R119). -/

namespace Sys2Proof.Machine

-- Checked one after another: the host bounds the memory of all threads together.
set_option Elab.async false

open Sys2Proof Sys2Proof.Safety

variable {s t u : State} {id : SlotId} {l k : Lane} {c : Carry} {p : PlaceRec} {more : List PlaceRec} {d : Nat}

/-! ### A change of one segment -/

theorem onlySegment_onSeg (f : Segment → Segment) (s : State) : OnlySegment l s (s.onSeg l f) :=
  ⟨State.seg_onSeg_of_other l f s, by simp, by simp⟩

theorem onSeg_eq_lanes (f : Segment → Segment) (s : State) : s.onSeg l f = { s with lanes := (s.onSeg l f).lanes } := by
  cases l
  · rfl
  · rfl

theorem onSeg_onSeg (f g : Segment → Segment) (s : State) : (s.onSeg l f).onSeg l g = s.onSeg l fun x => g (f x) := by
  cases l
  · rfl
  · rfl

theorem onSeg_self {f : Segment → Segment} (h : f (s.seg l) = s.seg l) : s.onSeg l f = s := by
  cases l
  · exact congrArg (fun g => { s with lanes := { s.lanes with outSeg := g } }) h
  · exact congrArg (fun g => { s with lanes := { s.lanes with backSeg := g } }) h

theorem onlySegment_trans (h : OnlySegment l s t) (hu : OnlySegment l t u) : OnlySegment l s u :=
  ⟨hu.1.trans h.1, hu.2.1.trans h.2.1, hu.2.2.trans h.2.2⟩

theorem onlySegment_of_lanes (h : t.lanes = s.lanes) : OnlySegment l s t :=
  ⟨seg_of_lanes_eq h _, by rw [h], by rw [h]⟩

theorem localWaits_congr (hout : t.lanes.outStand = s.lanes.outStand) (hservice : t.port.service = s.port.service) :
    localWaits l t = localWaits l s := by
  unfold localWaits standClaims serviceClaims
  rw [hout, hservice]

/-- The merge counter after a through claim admitted (R116). -/
theorem raiseMerge_eq (l : Lane) (s : State) : raiseMerge l s =
    s.onSeg l fun g => { g with merge := if localWaits l s then min 8 (g.merge + 1) else g.merge } := by
  unfold raiseMerge
  by_cases h : localWaits l s = true
  · simp only [if_pos h, saturate, Nat.min_comm]
  · simp only [if_neg h]
    exact (onSeg_self rfl).symm

/-! ### A tail that nothing waits for (R114) -/

theorem tryLocals_of_none (h : localWaits l s = false) : tryLocals l s = s := by
  obtain ⟨hstand, hservice⟩ : standClaims l s = false ∧ serviceClaims l s = false := by simpa [localWaits] using h
  unfold tryLocals
  rw [hstand, hservice]
  exact ite_self s

theorem retryTurn_of_not_deferred (h : (s.seg l.other).head ≠ .deferred) : retryTurn l s = s :=
  if_neg (by simp [h])

theorem sendSpace_of_not_deferredUp (h : (s.seg l).deferredUp = false) : sendSpace l s = s := if_neg (by simp [h])

/-- The opening of a tail that nothing waits for (R114). -/
theorem openTail_of_quiet (h : TailQuiet l s) : openTail l s = s := by
  obtain ⟨hwaits, hturn, hspace⟩ := h
  have htaken : (if takesThrough l (tryLocals l s) = true then sendSpace l (retryTurn l (tryLocals l s)) else tryLocals l s)
      = s := by
    rw [tryLocals_of_none hwaits, retryTurn_of_not_deferred hturn, sendSpace_of_not_deferredUp hspace]
    exact ite_self s
  exact (congrArg (fun t => if tailIsOpen (s.seg l) = true then t else s) htaken).trans (ite_self s)

/-! ### A head that passes its bin (R117, R123) -/

/-- A ready head (R110). -/
theorem headReady_iff : headReady l s = true ↔
    (s.seg l).places ≠ [] ∧ (s.pins.seg l).head = true ∧ ((s.seg l).head = .idle ∨ (s.seg l).head = .deferred) ∧
      (s.seg l).cond = .running := by
  simp [headReady, State.headSensor, and_assoc]

/-- The decision at a head whose bin is not diverted here (R123). -/
theorem decideHead_passes (hplaces : (s.seg l).places = p :: more) (hcarry : p.content = .carrying c) (hlow : 1 ≤ c.dest)
    (hhigh : c.dest ≤ s.top) (hpass : ¬ (c.dest = s.num ∧ targetFree (targetOf c) s = true)) :
    decideHead l s = passOn l c s := by
  unfold decideHead
  rw [hplaces]
  dsimp only
  rw [hcarry]
  exact (if_neg (by omega)).trans (if_neg hpass)

/-- A bin that passes is offered to a neighbour that may be offered one (R117). -/
theorem passOn_offers (hdown : s.downstream l = some d) (hoffer : mayOffer d s = true) : passOn l c s =
    queueFrame (.pass l d (offeredCarry c s)) (s.onSeg l fun g => { g with head := .offering, retry := none }) := by
  unfold passOn
  rw [hdown]
  refine (if_pos hoffer).trans ?_
  exact congrArg _ (onSeg_onSeg _ _ s)

theorem offBus_of_mayOffer (h : mayOffer d s = true) : s.bus.offBus = false := by
  cases hb : s.bus.offBus
  · rfl
  · simp [mayOffer, hb] at h

/-- A frame that finds a free slot (R6). -/
theorem queueFrame_of_free {f : Frame} (hbus : s.bus.offBus = false) (hfree : s.bus.slots.freeSlot = some id) :
    queueFrame f s = placeFrame id f s := by
  unfold queueFrame
  rw [if_neg (by simp [hbus]), hfree]

/-- From `s` to `t` the head of `l` has offered `o` to the neighbour `d`, in slot `id` (R117). -/
def OffersBin (l : Lane) (d : Nat) (o : Carry) (id : SlotId) (s t : State) : Prop :=
  t = { s with bus := t.bus, lanes := t.lanes } ∧ OnlySegment l s t ∧
    t.seg l = { s.seg l with head := .offering, retry := none } ∧
    t.bus.slots = s.bus.slots.set id (.holds (newQueued (.pass l d o) s.bus.order)) ∧ t.bus.answer = s.bus.answer

/-- A ready head whose bin passes offers it (R117, R123). -/
theorem actHead_offers (hready : headReady l s = true) (hplaces : (s.seg l).places = p :: more)
    (hcarry : p.content = .carrying c) (hlow : 1 ≤ c.dest) (hhigh : c.dest ≤ s.top)
    (hpass : ¬ (c.dest = s.num ∧ targetFree (targetOf c) s = true)) (hdown : s.downstream l = some d)
    (hoffer : mayOffer d s = true) (hfree : s.bus.slots.freeSlot = some id) :
    OffersBin l d (offeredCarry c s) id s (actHead l s) := by
  set v := s.onSeg l fun g => { g with head := .offering, retry := none } with hv
  have hact : actHead l s = placeFrame id (.pass l d (offeredCarry c s)) v := by
    unfold actHead
    rw [if_pos hready, decideHead_passes hplaces hcarry hlow hhigh hpass, passOn_offers hdown hoffer]
    exact queueFrame_of_free (by simpa using offBus_of_mayOffer hoffer) (by simpa using hfree)
  have hlanes : (placeFrame id (.pass l d (offeredCarry c s)) v).lanes = v.lanes := by simp
  rw [hact]
  refine ⟨?_, onlySegment_trans (onlySegment_onSeg _ s) (onlySegment_of_lanes hlanes), ?_, ?_, ?_⟩
  · apply State.eq_of_blocks <;> simp [v]
  · rw [seg_of_lanes_eq hlanes, hv, State.seg_onSeg]
  · simp [placeFrame, State.onBus, v]
  · simp [v]

/-- The DEFERRED head whose retry stops acts as the statement says (R119). -/
theorem actHead_stopRetry_offers (hhead : (s.seg l).head = .deferred) (hcond : (s.seg l).cond = .running)
    (hplaces : (s.seg l).places.head? = some p) (hcarry : p.content = .carrying c)
    (hsensor : (s.pins.seg l).head = true) (hdown : s.downstream l = some d) (hoffer : mayOffer d s = true)
    (hlow : 1 ≤ c.dest) (hhigh : c.dest ≤ s.top) (hnum : c.dest ≠ s.num) (hfree : s.bus.slots.freeSlot = some id) :
    OffersBin l d c id s (actHead l (stopRetry l s)) := by
  obtain ⟨more, hmore⟩ := List.head?_eq_some_iff.1 hplaces
  set v := stopRetry l s with hv
  have hseg : v.seg l = { s.seg l with retry := none } := by simp [v, stopRetry]
  have hctl : v.ctl = s.ctl := by simp [v]
  have hbus : v.bus = s.bus := by simp [v]
  have hpins : v.pins = s.pins := by simp [v]
  have hvnum : v.num = s.num := by rw [State.num, hctl, State.num]
  have hvtop : v.top = s.top := by rw [State.top, hctl, State.top]
  have hready : headReady l v = true := headReady_iff.2
    ⟨by rw [hseg]; simp [hmore], by rw [hpins]; exact hsensor, .inr (by rw [hseg]; exact hhead), by rw [hseg]; exact hcond⟩
  have hvdown : v.downstream l = some d := by
    rw [← hdown]
    unfold State.downstream
    rw [hvnum, hvtop]
  have hvoffer : mayOffer d v = true := by
    rw [← hoffer]
    unfold mayOffer rosterOf
    rw [hctl, hbus]
  have hoffered : offeredCarry c v = c := if_neg (by rw [hvnum]; exact hnum)
  obtain ⟨hstate, honly, hsegs, hslots, hanswer⟩ := actHead_offers hready (by rw [hseg]; exact hmore) hcarry hlow
    (by rw [hvtop]; exact hhigh) (fun h => hnum (h.1.trans hvnum)) hvdown hvoffer (by rw [hbus]; exact hfree)
  rw [hoffered, hbus] at hslots
  refine ⟨hstate.trans ?_, onlySegment_trans (onlySegment_onSeg _ s) honly, ?_, hslots, hanswer.trans (by rw [hbus])⟩
  · apply State.eq_of_blocks <;> simp [v]
  · rw [hsegs, hseg]

/-- Settles O35: the expiry and the SPACE both let the DEFERRED head act. -/
theorem deferredHeadOffersAgain : Obligations.DeferredHeadOffersAgain := by
  refine ⟨fun s l d p c id hhead hcond hplaces hcarry hsensor hdown hoffer hlow hhigh hnum hfree =>
    ⟨fun hretry => ?_, fun f hhere hfrom hlane => ?_⟩, fun s f hhere h => ?_⟩
  · have hexec : exec (.offerRetryExpiry l) s = .next (actHead l (stopRetry l s)) := congrArg _ (if_pos ⟨hretry, hhead⟩)
    obtain ⟨h1, h2, h3, h4, -⟩ :=
      actHead_stopRetry_offers hhead hcond hplaces hcarry hsensor hdown hoffer hlow hhigh hnum hfree
    exact ⟨_, hexec, h1, h2, h3, h4⟩
  · set v := answerWith driveTaken s with hv
    have hseg : v.seg l = s.seg l := State.onBus_seg l _ s
    have htake : takeSpace f v = actHead l (stopRetry l v) := by
      unfold takeSpace
      rw [hlane]
      exact if_pos ⟨hdown.trans (by rw [hfrom]), by rw [hseg]; exact hhead⟩
    have hexec : exec (.space f) s = .next (actHead l (stopRetry l v)) := by
      rw [← htake]
      exact congrArg _ ((receive_addressed hhere rfl rfl).trans (if_pos hhere.2.2.1))
    obtain ⟨h1, h2, h3, h4, h5⟩ := actHead_stopRetry_offers (s := v) (by rw [hseg]; exact hhead)
      (by rw [hseg]; exact hcond) (by rw [hseg]; exact hplaces) hcarry hsensor hdown hoffer hlow hhigh hnum hfree
    exact ⟨_, hexec, ⟨h1, ⟨h2.1.trans (State.onBus_seg _ _ s), h2.2⟩, h3.trans (by rw [hseg]), h4⟩, h5⟩
  · have htake : takeSpace f (answerWith driveTaken s) = answerWith driveTaken s := by
      refine if_neg fun hboth => ?_
      rcases h with h | h
      · exact h hboth.1
      · exact h ((congrArg Segment.head (State.onBus_seg _ _ s)).symm.trans hboth.2)
    exact congrArg _ ((receive_addressed hhere rfl rfl).trans ((if_pos hhere.2.2.1).trans htake))

/-! ### The PASS received (R118) -/

/-- The tests of a through claim (R118). -/
theorem takesThrough_iff : takesThrough l s = true ↔
    s.ctl.station = .active ∧ (s.seg l).cond = .running ∧ (s.seg l).head ≠ .jammed ∧ (s.seg l).reservation = none ∧
      (s.seg l).places.length < 3 ∧ (s.seg l).merge < s.ctl.setup.mergeContinuity := by
  simp [takesThrough, admitsThrough, and_assoc]

/-- A wake that starts with the crane ASLEEP, at what the segments' new conditions leave alone (R38). -/
theorem wakeCause_starts (hdoze : s.ctl.station = .doze) (hasleep : s.crane.state = .asleep) :
    (wakeCause s).crane = (sendWake s).crane ∧ (wakeCause s).ctl.station = .doze ∧
      (wakeCause s).bus.answer = s.bus.answer ∧ RecordKept s (wakeCause s) := by
  have hwake : wakeCause s = settleConditions (sendWake s) := by
    unfold wakeCause
    rw [if_pos hdoze, hasleep]
  have hrecord : RecordKept (sendWake s) (settleConditions (sendWake s)) := settleConditions_recordKept
  rw [hwake]
  refine ⟨by simp, ?_, by simp, hrecord⟩
  have hstation : (sendWake s).ctl.station = .doze := hdoze
  simpa using hstation

/-- A PASS taken for a lane (R118). -/
theorem takePass_eq (l : Lane) (c : Carry) (s : State) : takePass l c s = s.onSeg l fun g =>
    { g with
      reservation := some (.through .neighbour c)
      tailLimit := some s.ctl.setup.handoffLimit
      merge := if localWaits l s then min 8 (g.merge + 1) else g.merge } := by
  unfold takePass
  extract_lets limit
  have hwaits : ∀ f : Segment → Segment, localWaits l (s.onSeg l f) = localWaits l s := fun f =>
    localWaits_congr (by simp) (by simp)
  rw [raiseMerge_eq, hwaits]
  exact onSeg_onSeg _ _ s

/-- A PASS held (R118). -/
theorem holdPass_eq (l : Lane) (fed : Bool) (s : State) : holdPass l fed s =
    wakeCause ((countDeferred (answerWith driveHeld s)).onSeg l fun g => { g with deferredUp := g.deferredUp || fed }) := by
  unfold holdPass
  cases fed
  · have hself : ∀ u : State, (u.onSeg l fun g => { g with deferredUp := g.deferredUp || false }) = u := fun u =>
      onSeg_self (by rw [Bool.or_false])
    rw [hself]
    rfl
  · simp only [Bool.or_true]
    rfl

/-- Settles O34: the decision of R118, and what each answer leaves. -/
theorem passIsTakenOrHeld : Obligations.PassIsTakenOrHeld := by
  intro s f hhere l g fed takes
  set v := answerWith driveTaken s with hv
  have hseg : ∀ k, v.seg k = s.seg k := fun k => State.onBus_seg k _ s
  have hexec : exec (.pass f) s = .next (decidePass f v) :=
    congrArg _ ((receive_addressed hhere rfl rfl).trans (if_pos hhere.2.2.1))
  have htakes : (decide fed && takesThrough l v) = true ↔ takes := by
    rw [Bool.and_eq_true, decide_eq_true_eq, takesThrough_iff, hseg]
    exact Iff.rfl
  have hheld : ¬ takes → decidePass f v = holdPass l (decide fed) v := fun h => if_neg fun hboth => h (htakes.1 hboth)
  set h := (countDeferred (answerWith driveHeld v)).onSeg l fun g => { g with deferredUp := g.deferredUp || decide fed }
    with hh
  refine ⟨_, hexec, fun htake => ?_, fun hnot hdoze => ?_, fun hdoze hasleep => ?_⟩
  · have htaken : decidePass f v = takePass l (passCarry f.payload) v := if_pos (htakes.2 htake)
    rw [htaken, takePass_eq]
    refine ⟨(onSeg_eq_lanes _ v).trans rfl, ?_, ?_⟩
    · exact onlySegment_onSeg (l := l) _ v |>.imp_left fun h => h.trans (hseg _)
    · rw [State.seg_onSeg, hseg]
      rfl
  · rw [hheld hnot, holdPass_eq, ← hh, wakeCause_of_not_doze (by simpa [h, v] using hdoze)]
    refine ⟨(onSeg_eq_lanes _ _).trans ?_, ?_, ?_⟩
    · have hcount : (countDeferred (answerWith driveHeld v)).ctl =
          { s.ctl with record := { s.ctl.record with deferred := min 255 (s.ctl.record.deferred + 1) } } := by
        rw [← Nat.min_comm]
        rfl
      rw [hcount]
      rfl
    · exact onlySegment_onSeg (l := l) _ (countDeferred (answerWith driveHeld v)) |>.imp_left fun h => h.trans (hseg _)
    · rw [State.seg_onSeg]
      exact congrArg (fun g : Segment => { g with deferredUp := g.deferredUp || decide fed }) (hseg l)
  · have hnot : ¬ takes := fun h => by simp [h.2.1] at hdoze
    rw [hheld hnot, holdPass_eq, ← hh]
    have hhdoze : h.ctl.station = .doze := by simpa [h, v] using hdoze
    have hhasleep : h.crane.state = .asleep := by simpa [h, v] using hasleep
    obtain ⟨hcrane, hstation, hanswer, m, hrecord⟩ := wakeCause_starts hhdoze hhasleep
    refine ⟨?_, ?_, ?_, ?_, hstation⟩
    · rw [hanswer]
      simp [h, v]
      rfl
    · rw [hrecord]
      simp [h, v, Nat.min_comm]
      rfl
    · rw [hcrane]
      rfl
    · rw [hcrane]
      rfl

end Sys2Proof.Machine
end

section
/-! PROOF. The obligation on the sender's side of a handoff (R119, R120, R123, R124, R43). -/

namespace Sys2Proof.Machine

-- Checked one after another: the host bounds the memory of all threads together.
set_option Elab.async false

open Sys2Proof Sys2Proof.Safety

variable {s t u : State} {id : SlotId} {l k : Lane} {c old : Carry} {p : PlaceRec} {more : List PlaceRec} {d : Nat}
  {q : Queued} {o : TxOutcome} {bits : AnswerBits} {pos : Nat}

/-! ### A head that is left as it is -/

/-- From `s` to `t` the records and the head of `l` have stayed. -/
def HeadKept (l : Lane) (s t : State) : Prop :=
  (t.seg l).places = (s.seg l).places ∧ (t.seg l).head = (s.seg l).head ∧ (t.seg l).headLimit = (s.seg l).headLimit

theorem HeadKept.of_seg (h : t.seg l = s.seg l) : HeadKept l s t := by simp [HeadKept, h]

theorem HeadKept.trans (h : HeadKept l s t) (hu : HeadKept l t u) : HeadKept l s u :=
  ⟨hu.1.trans h.1, hu.2.1.trans h.2.1, hu.2.2.trans h.2.2⟩

theorem HeadKept.onSeg {f : Segment → Segment}
    (h : (f (s.seg l)).places = (s.seg l).places ∧ (f (s.seg l)).head = (s.seg l).head ∧
      (f (s.seg l)).headLimit = (s.seg l).headLimit) : HeadKept l s (s.onSeg l f) := by
  rw [HeadKept, State.seg_onSeg]
  exact h

/-- An accepted head: the Lane Unit's part (R119, R124). -/
theorem acceptedHead_lanes (l : Lane) (c : Carry) (s : State) : (acceptedHead l c s).lanes =
    (s.onSeg l fun g => { g with
      places := setHeadContent (.carrying c) g.places
      head := .moving
      headLimit := some s.ctl.setup.handoffLimit
      retry := none }).lanes := by
  unfold acceptedHead
  extract_lets old limit s₁ s₂
  clear_value old
  cases old
  · rfl
  · dsimp only
    split
    · split
      · simp [s₂, s₁, limit]
      · simp [s₂, s₁, limit]
    · rfl

theorem acceptedHead_seg_other (h : k ≠ l) : (acceptedHead l c s).seg k = s.seg k :=
  (seg_of_lanes_eq (acceptedHead_lanes l c s) k).trans (State.seg_onSeg_other h _ _)

theorem raiseMerge_headKept : HeadKept k s (raiseMerge l s) := by
  rw [raiseMerge_eq]
  rcases eq_or_ne k l with rfl | hne
  · exact .onSeg ⟨rfl, rfl, rfl⟩
  · exact .of_seg (State.seg_onSeg_other hne _ _)

theorem onSeg_headKept_other (h : k ≠ l) (f : Segment → Segment) (s : State) : HeadKept k s (s.onSeg l f) :=
  .of_seg (State.seg_onSeg_other h f s)

theorem claimTurn_headKept (h : k ≠ l) : HeadKept k s (claimTurn l c s) := by
  unfold claimTurn
  extract_lets t limit o s₁
  have hclaimed : ∀ x : Segment → Segment, (∀ g, (x g).places = g.places ∧ (x g).head = g.head ∧
      (x g).headLimit = g.headLimit) → HeadKept k s (s.onSeg t x) := by
    intro x hx
    rcases eq_or_ne k t with rfl | hne
    · exact .onSeg (hx _)
    · exact onSeg_headKept_other hne _ _
  have h₁ : HeadKept k s s₁ := by
    refine HeadKept.trans ?_ raiseMerge_headKept
    exact hclaimed _ fun g => ⟨rfl, rfl, rfl⟩
  split
  · exact h₁.trans (.of_seg (acceptedHead_seg_other h))
  · exact (onSeg_headKept_other h _ s).trans (onSeg_headKept_other h _ _)

theorem passOn_headKept (h : k ≠ l) : HeadKept k s (passOn l c s) := by
  unfold passOn
  split
  · split
    · exact onSeg_headKept_other h _ s
    · exact claimTurn_headKept h
  · split
    · exact ((onSeg_headKept_other h _ s).trans (onSeg_headKept_other h _ _)).trans (.of_seg (queueFrame_seg _ _))
    · exact (onSeg_headKept_other h _ s).trans (onSeg_headKept_other h _ _)

/-- A head's work leaves the other head as it is (R123). -/
theorem actHead_headKept (h : k ≠ l) : HeadKept k s (actHead l s) := by
  unfold actHead
  split
  · unfold decideHead
    split
    · exact .of_seg rfl
    · split
      · exact .of_seg rfl
      · split
        · exact (onSeg_headKept_other h _ s).trans (.of_seg (raise_seg _ _))
        · split
          · unfold beginDivert
            extract_lets limit s₁
            have h₁ : HeadKept k s s₁ := onSeg_headKept_other h _ s
            split
            · exact h₁.trans (.of_seg (by simp))
            · exact h₁.trans (.of_seg (by simp))
          · exact passOn_headKept h
  · exact .of_seg rfl

theorem grantLocal_headKept (src : EntryFrom) : HeadKept k s (grantLocal l src s) := by
  unfold grantLocal
  extract_lets limit s₁
  have h₁ : HeadKept k s s₁ := by
    rcases eq_or_ne k l with rfl | hne
    · exact .onSeg ⟨rfl, rfl, rfl⟩
    · exact onSeg_headKept_other hne _ _
  split
  · split
    · exact h₁.trans (.of_seg (by simp))
    · exact h₁
  · split
    · exact h₁.trans (.of_seg (by simp))
    · exact h₁

theorem tryLocals_headKept : HeadKept k s (tryLocals l s) := by
  unfold tryLocals
  split
  · split
    · exact grantLocal_headKept _
    · exact grantLocal_headKept _
    · exact grantLocal_headKept _
    · exact .of_seg rfl
  · exact .of_seg rfl

/-- The opening of a tail leaves its own head as it is (R114). -/
theorem openTail_headKept : HeadKept l s (openTail l s) := by
  have hretry : ∀ t : State, HeadKept l t (retryTurn l t) := by
    intro t
    unfold retryTurn
    extract_lets h
    split
    · exact actHead_headKept (by cases l <;> decide)
    · exact .of_seg rfl
  have hspace : ∀ t : State, HeadKept l t (sendSpace l t) := by
    intro t
    unfold sendSpace
    split
    · extract_lets s₁
      have h₁ : HeadKept l t s₁ := .onSeg ⟨rfl, rfl, rfl⟩
      split
      · exact h₁.trans (.of_seg (queueFrame_seg _ _))
      · exact h₁
    · exact .of_seg rfl
  unfold openTail
  split
  · dsimp only
    split
    · exact (tryLocals_headKept.trans (hretry _)).trans (hspace _)
    · exact tryLocals_headKept
  · exact .of_seg rfl

theorem OfferCut.kept {g g' : Segment} (h : OfferCut g g') (hhead : g.head ≠ .offering) :
    g'.places = g.places ∧ g'.head = g.head ∧ g'.headLimit = g.headLimit := by
  obtain ⟨x, rfl, hx⟩ := h
  exact ⟨rfl, hx.resolve_right fun h => hhead h.1, rfl⟩

/-- The shutter's taking up leaves a head that has no offer out (R185, R186). -/
theorem shutterTakeUp_headKept (h : (s.seg k).head ≠ .offering) : HeadKept k s (shutterTakeUp s) := by
  unfold shutterTakeUp
  split
  · split
    · have hheld : wantedCondition (beginClearing s) ≠ .running := by rw [wantedCondition_beginClearing]; decide
      have hseg : (beginClearing s).seg k = s.seg k := seg_of_lanes_eq (by simp) k
      have hcut := (settleConditions_offerCut hheld k).kept (by rw [hseg]; exact h)
      rw [hseg] at hcut
      exact hcut
    · exact .of_seg rfl
  · split
    · exact .of_seg rfl
    · exact .of_seg (by simp [beginClosing])
  · split
    · exact .of_seg (by simp [beginOpening])
    · exact .of_seg rfl
  · split
    · exact .of_seg (by simp [beginOpening])
    · exact .of_seg rfl
  · split
    · exact .of_seg (by simp [beginClosing])
    · exact .of_seg rfl
  · exact .of_seg rfl
  · exact .of_seg rfl

theorem actIdleHead_of_no_records (h : (s.seg l).places = []) : actIdleHead l s = s := by
  have hready : ¬ headReady l s = true := fun hr => (headReady_iff.1 hr).1 h
  unfold actIdleHead actHead
  rw [if_neg hready]
  exact ite_self s

/-- The last record of a segment leaves it (R120). -/
theorem removeHead_last (hplaces : (s.seg l).places = [p]) :
    let t := shutterTakeUp (actIdleHead l (openTail l (removeHead l s)))
    (t.seg l).places = [] ∧ (t.seg l).head = .idle ∧ (t.seg l).headLimit = none := by
  intro t
  have hremoved : ((removeHead l s).seg l).places = [] ∧ ((removeHead l s).seg l).head = .idle ∧
      ((removeHead l s).seg l).headLimit = none := by
    simp [removeHead, hplaces]
  have hopened : HeadKept l (removeHead l s) (openTail l (removeHead l s)) := openTail_headKept
  have hidle : actIdleHead l (openTail l (removeHead l s)) = openTail l (removeHead l s) :=
    actIdleHead_of_no_records (hopened.1.trans hremoved.1)
  have htaken : HeadKept l (openTail l (removeHead l s)) t := by
    unfold t
    rw [hidle]
    exact shutterTakeUp_headKept (by rw [hopened.2.1, hremoved.2.1]; decide)
  have hall := hopened.trans htaken
  exact ⟨hall.1.trans hremoved.1, hall.2.1.trans hremoved.2.1, hall.2.2.trans hremoved.2.2⟩

/-! ### The outcome of an own frame (R4, R8, R11) -/

/-- The started frame has left its slot, whose next claim is granted, with the failure count at 0 (R8, R11). -/
def slotFreed (id : SlotId) (s : State) : State := freeSlotThen id ((stopDriving s).onBus fun b => { b with failures := 0 })

@[simp] theorem slotFreed_keeps (id : SlotId) (s : State) :
    (slotFreed id s).pending = s.pending ∧ (slotFreed id s).pins = s.pins ∧ (slotFreed id s).bus.rx = s.bus.rx ∧
      (slotFreed id s).bus.offBus = s.bus.offBus ∧ (slotFreed id s).bus.failures = 0 ∧
      (slotFreed id s).bus.tx = none ∧ (slotFreed id s).bus.answer = s.bus.answer ∧
      (slotFreed id s).ctl.straps = s.ctl.straps ∧ (slotFreed id s).ctl.station = s.ctl.station ∧
      (slotFreed id s).ctl.setup = s.ctl.setup ∧ (slotFreed id s).ctl.roster = s.ctl.roster ∧
      (slotFreed id s).ctl.record = s.ctl.record ∧ (slotFreed id s).bins = s.bins ∧
      (slotFreed id s).crane = s.crane ∧ (slotFreed id s).est = s.est ∧ (slotFreed id s).lanes = s.lanes ∧
      (slotFreed id s).port = s.port ∧ (slotFreed id s).auctions = s.auctions ∧ (slotFreed id s).fire = s.fire := by
  simp [slotFreed, stopDriving]

/-- The outcome read in its answer slot is returned to the block that queued the frame (R4, R11). -/
theorem exec_frameOutcome (hstarted : s.bus.slots.started = some id) (hslot : s.bus.slots.get id = .holds q)
    (herrored : q.errored = false) (hout : outcomeOf (decide (q.frame.dest ≠ 0)) bits = some o) :
    exec (.frameOutcome bits) s = .next (deliverOutcome q.frame o (slotFreed id s)) := by
  have hrun : execFrameOutcome bits s = .next (deliverOutcome q.frame o (slotFreed id s)) := by
    unfold execFrameOutcome
    rw [hstarted]
    dsimp only
    rw [hslot]
    dsimp only
    rw [if_neg (by simp [herrored]), hout]
    rfl
  exact hrun

/-- A slot that no claim waits for is free after its frame (R6). -/
theorem slotFreed_of_no_claims (hid : id ≠ .s0) (hclaims : s.bus.claims = []) (hnotices : s.ctl.notices = [])
    (hrx : s.bus.rx = []) :
    slotFreed id s = { s with bus := { s.bus with slots := s.bus.slots.set id .free, tx := none, failures := 0 } } := by
  set v := setSlot id .free ((stopDriving s).onBus fun b => { b with failures := 0 }) with hv
  have hnone : grantSlot id v = v := by
    have hempty : waitingClaims v = [] := by
      simp [waitingClaims, v, setSlot, stopDriving, State.onBus, hclaims, hnotices, hrx]
    unfold grantSlot
    rw [hempty]
    rfl
  have hfreed : slotFreed id s = grantSlot id v := by
    cases id
    · exact absurd rfl hid
    · rfl
    · rfl
    · rfl
  rw [hfreed, hnone]
  rfl

/-! ### The outcomes of a PASS (R119, R124, R43) -/

/-- An accepted head, as it stands then (R119). -/
def movingHead (c : Carry) (s : State) (g : Segment) : Segment :=
  { g with
    places := setHeadContent (.carrying c) g.places
    head := .moving
    headLimit := some s.ctl.setup.handoffLimit
    retry := none }

/-- The bin accepted was bound elsewhere, or wanted a divert here (R119, R124). -/
theorem acceptedHead_eq (hplaces : (s.seg l).places = ⟨.carrying old, pos⟩ :: more) : acceptedHead l c s =
    if old.dest = s.num then
      (if old.kind = .port ∧ c.kind = .home then
        raise (.abandoned old.bin old.tag) (countRecirc (s.onSeg l (movingHead c s)))
      else countRecirc (s.onSeg l (movingHead c s)))
    else s.onSeg l (movingHead c s) := by
  have hold : headCarry l s = some old := by
    unfold headCarry
    rw [hplaces]
  have hnum : (s.onSeg l (movingHead c s)).num = s.num := by simp [State.num]
  unfold acceptedHead
  rw [hold]
  dsimp only
  rw [← hnum]
  rfl

theorem record_raise_if {x : Prop} [Decidable x] {n : Notice} : (if x then raise n s else s).ctl.record = s.ctl.record := by
  split
  · simp
  · rfl

/-- A head that becomes IDLE at a neighbour that has fallen silent (R43, R119, R123). -/
theorem actHead_of_silent (hhead : (s.seg l).head = .idle) (hplaces : (s.seg l).places = ⟨.carrying old, pos⟩ :: more)
    (hlow : 1 ≤ old.dest) (hhigh : old.dest ≤ s.top) (hretry : (s.seg l).retry = none) (hdown : s.downstream l = some d)
    (hsilent : mayOffer d s = false) :
    actHead l s =
      if headReady l s = true ∧ old.dest = s.num ∧ targetFree (targetOf old) s = true then
        beginDivert l (targetOf old) s
      else s := by
  unfold actHead
  by_cases hready : headReady l s = true
  · rw [if_pos hready]
    by_cases hhere : old.dest = s.num ∧ targetFree (targetOf old) s = true
    · rw [if_pos ⟨hready, hhere⟩]
      unfold decideHead
      rw [hplaces]
      exact (if_neg (by omega)).trans (if_pos hhere)
    · rw [if_neg fun h => hhere h.2, decideHead_passes hplaces rfl hlow hhigh hhere]
      unfold passOn
      rw [hdown]
      refine (if_neg (by simp [hsilent])).trans ?_
      refine (onSeg_onSeg _ _ s).trans (onSeg_self ?_)
      rw [← hhead, ← hretry]
  · rw [if_neg hready, if_neg fun h => hready h.1]

/-- The target that a bin wants here is free (R123, R134). -/
theorem targetFree_iff : targetFree (targetOf c) s = true ↔ c.kind = .home ∧ s.lanes.inStand = .empty ∨
    c.kind = .port ∧ s.ctl.straps.port = true ∧ s.port.approach = .empty := by
  cases hkind : c.kind
  · simp [targetFree, targetOf, hkind, approachAccepts]
  · simp [targetFree, targetOf, hkind]

theorem beginDivert_seg (x : DivertTarget) (s : State) : (beginDivert l x s).seg l =
    { s.seg l with head := .diverting x, headLimit := some s.ctl.setup.handoffLimit, retry := none } := by
  cases x
  · simp [beginDivert]
  · simp [beginDivert]

theorem beginDivert_seg_other (h : k ≠ l) (x : DivertTarget) (s : State) : (beginDivert l x s).seg k = s.seg k := by
  cases x
  · simp [beginDivert, State.seg_onSeg_other h]
  · simp [beginDivert, State.seg_onSeg_other h]

/-- A head with a downstream neighbour works on its own segment alone (R117, R123). -/
theorem actHead_seg_other (hdown : s.downstream l = some d) (h : k ≠ l) : (actHead l s).seg k = s.seg k := by
  have hpass : ∀ c : Carry, (passOn l c s).seg k = s.seg k := by
    intro c
    unfold passOn
    rw [hdown]
    dsimp only
    split
    · rw [queueFrame_seg, setHead, State.seg_onSeg_other h, stopRetry, State.seg_onSeg_other h]
    · rw [setHead, State.seg_onSeg_other h, stopRetry, State.seg_onSeg_other h]
  unfold actHead
  split
  · unfold decideHead
    split
    · rfl
    · split
      · rfl
      · split
        · rw [raise_seg, State.seg_onSeg_other h]
        · split
          · exact beginDivert_seg_other h _ _
          · exact hpass _
  · rfl

/-- The entry of a station that has fallen silent is absent, and no other changes (R43). -/
theorem rosterOf_stationSilent (hlow : 1 ≤ d) (hhigh : d ≤ 24)
    (hwf : tableWf RosterEntry.cleared s.ctl.roster = true) :
    rosterOf d (stationSilent d s) = { rosterOf d s with present := false } ∧
      ∀ n, n ≠ d → rosterOf n (stationSilent d s) = rosterOf n s := by
  set v := setRoster d { rosterOf d s with present := false } s with hv
  have hroster : (stationSilent d s).ctl.roster = v.ctl.roster := by
    unfold stationSilent
    rw [if_pos ⟨hlow, hhigh⟩]
    dsimp only
    split
    · simp [v]
    · rfl
  refine ⟨?_, fun n hn => ?_⟩
  · rw [rosterOf, hroster]
    exact tableGet_tablePut _ hwf d _
  · rw [rosterOf, hroster]
    exact tableGet_tablePut_other _ hwf hn _

/-- Settles O36: the outcome by `passOutcome`, and the LANDED by `takeLanded`. -/
theorem handoffAtTheSender : Obligations.HandoffAtTheSender := by
  refine ⟨fun s id q l d c old pos more bits hstarted hslot herrored hframe hlow hhigh hdown hhead hplaces hwf hvoid => ?_,
    fun s f hhere => ?_⟩
  · set w := slotFreed id s with hw
    have hwseg : ∀ k, w.seg k = s.seg k := fun k => seg_of_lanes_eq (by simp [w]) k
    have hexec : ∀ o, outcomeOf true bits = some o → exec (.frameOutcome bits) s = .next (passOutcome l d c o w) := by
      intro o ho
      have hdest : decide (q.frame.dest ≠ 0) = true := by
        rw [hframe]
        exact decide_eq_true (by simp only [Frame.dest]; omega)
      rw [exec_frameOutcome hstarted hslot herrored (by rw [hdest]; exact ho), hframe]
      rfl
    have hwhead : (w.seg l).head = .offering := by rw [hwseg, hhead]
    have hwplaces : (w.seg l).places = ⟨.carrying old, pos⟩ :: more := by rw [hwseg, hplaces]
    have hwnum : w.num = s.num := by simp [State.num, w]
    cases hmark : bits.answerMark with
    | true =>
      cases hkind : bits.answerKind with
      | true =>
        have hrun : passOutcome l d c .taken w = acceptedHead l c w := if_pos hwhead
        have hlanes := acceptedHead_lanes l c w
        have hsegs : (acceptedHead l c w).seg l = movingHead c w (s.seg l) := by
          rw [seg_of_lanes_eq hlanes, State.seg_onSeg, hwseg]
          rfl
        have honly : OnlySegment l s (acceptedHead l c w) :=
          onlySegment_trans (onlySegment_of_lanes (by simp [w]))
            (onlySegment_trans (onlySegment_onSeg _ w) (onlySegment_of_lanes hlanes))
        have heq := acceptedHead_eq (c := c) hwplaces
        rw [hwnum] at heq
        set y := countRecirc (w.onSeg l (movingHead c w)) with hy
        have hrecord : y.ctl.record = { s.ctl.record with recircs := min 255 (s.ctl.record.recircs + 1) } := by
          simp [y, countRecirc, State.onRecord, w, saturate, Nat.min_comm]
        refine ⟨_, (hexec .taken (by simp [outcomeOf, hvoid, hmark, hkind])).trans (congrArg _ hrun), by simp [w],
          by simp [w], by simp [w], by simp [w], by simp [w], by simp [w], honly.1, fun _ => ⟨by simp [w], honly⟩,
          fun _ _ => ?_, fun _ _ hpass => ?_, fun _ _ hwant => ⟨?_, fun hid hclaims hnotices hrx => ?_⟩, nofun, nofun,
          nofun⟩
        · rw [hsegs, movingHead, hplaces]
          simp [setHeadContent, w]
        · rw [heq, if_neg hpass]
          simp [w]
        · rw [heq, if_pos hwant, record_raise_if, hrecord]
        · rw [heq, if_pos hwant]
          intro base
          have hfreed := slotFreed_of_no_claims hid hclaims hnotices hrx
          have hbus : y.bus = base.bus := by
            have hkept : y.bus = w.bus := by simp [y]
            rw [hkept, hw, hfreed]
          have hctl : y.ctl = base.ctl := by
            have hkept : y.ctl = { s.ctl with record := y.ctl.record } := by
              simp [y, countRecirc, State.onRecord, hw, hfreed]
            rw [hkept]
            simp only [base, record_raise_if]
          obtain ⟨hbus', hctl'⟩ := raise_congr (n := .abandoned old.bin old.tag) hbus hctl
          have hrest : y.pending = base.pending ∧ y.pins = base.pins ∧ y.bins = base.bins ∧ y.crane = base.crane ∧
              y.est = base.est ∧ y.port = base.port ∧ y.auctions = base.auctions ∧ y.fire = base.fire := by
            simp [y, w, base]
          clear_value base y
          by_cases hleft : old.kind = .port ∧ c.kind = .home
          · rw [if_pos hleft, if_pos hleft]
            apply State.eq_of_blocks <;> simp [hbus', hctl', hrest]
          · rw [if_neg hleft, if_neg hleft]
            apply State.eq_of_blocks <;> simp [hbus, hctl, hrest]
      | false =>
        have hrun : passOutcome l d c .held w =
            w.onSeg l fun g => { g with head := .deferred, retry := some Config.offerRetryMs } := if_pos hwhead
        have honly : OnlySegment l s (passOutcome l d c .held w) := by
          rw [hrun]
          exact onlySegment_trans (onlySegment_of_lanes (by simp [w])) (onlySegment_onSeg _ w)
        refine ⟨_, hexec .held (by simp [outcomeOf, hvoid, hmark, hkind]), ?_, ?_, ?_, ?_, ?_, ?_, honly.1,
          fun _ => ⟨?_, honly⟩, nofun, nofun, nofun, fun _ _ => ?_, nofun, nofun⟩
        · simp [hrun, w]
        · simp [hrun, w]
        · simp [hrun, w]
        · simp [hrun, w]
        · simp [hrun, w]
        · simp [hrun, w]
        · simp [hrun, w]
        · rw [hrun, State.seg_onSeg, hwseg]
          rfl
    | false =>
      set v := stationSilent d w with hv
      set x := setHead l .idle v with hx
      have hvseg : ∀ k, v.seg k = s.seg k := fun k => (seg_of_lanes_eq (by simp [v]) k).trans (hwseg k)
      have hxseg : x.seg l = { s.seg l with head := .idle } := by rw [hx, setHead, State.seg_onSeg, hvseg]
      have honly : OnlySegment l s x :=
        onlySegment_trans (onlySegment_of_lanes (by simp [v, w])) (onlySegment_onSeg _ v)
      have hvhead : (v.seg l).head = .offering := by rw [hvseg, hhead]
      have hrun : passOutcome l d c .none w = actHead l x := if_pos hvhead
      have hxctl : x.ctl.straps = s.ctl.straps ∧ x.ctl.setup = s.ctl.setup := by simp [x, v, w, setHead]
      have hxpins : x.pins = s.pins := by simp [x, v, w, setHead]
      have hxnum : x.num = s.num := by rw [State.num, hxctl.1, State.num]
      have hxtop : x.top = s.top := by rw [State.top, hxctl.1, State.top]
      have hxdown : x.downstream l = some d := by
        rw [← hdown]
        unfold State.downstream
        rw [hxnum, hxtop]
      obtain ⟨hrosterd, hrosters⟩ := rosterOf_stationSilent (s := w) hlow hhigh (by simpa [w] using hwf)
      have hroster : ∀ n, rosterOf n x = rosterOf n v := fun n => by rw [rosterOf, rosterOf, hx]; simp [setHead]
      have hwroster : ∀ n, rosterOf n w = rosterOf n s := fun n => by simp [rosterOf, w]
      have hact : ∀ n, rosterOf n (actHead l x) = rosterOf n x := fun n => by simp [rosterOf]
      refine ⟨_, hexec .none (by simp [outcomeOf, hvoid, hmark]), ?_, ?_, ?_, ?_, ?_, ?_, ?_, nofun, nofun, nofun, nofun,
        nofun, fun _ => ⟨?_, fun n hn => ?_⟩, fun _ hfrom hto hretry => ?_⟩
      · simp [hrun, x, v, w]
      · simp [hrun, x, v, w]
      · simp [hrun, x, v, w]
      · simp [hrun, x, v, w]
      · simp [hrun, x, v, w]
      · simp [hrun, x, v, w]
      · rw [hrun, actHead_seg_other hxdown (by cases l <;> decide)]
        exact honly.1
      · rw [hrun, hact, hroster, hrosterd]
      · rw [hrun, hact, hroster, hrosters n hn, hwroster]
      · intro ready diverting home port
        have hpresent : (rosterOf d x).present = false := by rw [hroster, hrosterd]
        have hsilent : mayOffer d x = false := by simp [mayOffer, hpresent]
        have hxport : x.port = s.port := by simp [x, v, w, setHead]
        have hready : headReady l x = true ↔ ready := by
          rw [headReady_iff, hxpins, hxseg]
          simp [hplaces, ready]
        have hxin : x.lanes.inStand = s.lanes.inStand := by simp [x, v, w, setHead]
        have hfree : targetFree (targetOf old) x = true ↔ home ∨ port := by
          rw [targetFree_iff, hxin, hxctl.1, hxport]
        have hxplaces : (x.seg l).places = ⟨.carrying old, pos⟩ :: more := by rw [hxseg]; exact hplaces
        have heq := actHead_of_silent (by rw [hxseg]) hxplaces hfrom (by rw [hxtop]; exact hto) (by rw [hxseg]; exact hretry)
          hxdown hsilent
        simp only [hready, hfree, hxnum] at heq
        refine ⟨fun hnot => ?_, fun hr hwant hh => ?_, fun hr hwant hp => ?_⟩
        · rw [hrun, heq, if_neg hnot]
          exact ⟨hxseg, hxport, honly⟩
        · have htarget : targetOf old = .inStand := by rw [targetOf, hh.1]
          rw [hrun, heq, if_pos ⟨hr, hwant, .inl hh⟩, htarget, beginDivert_seg, hxseg, hxctl.2]
          refine ⟨?_, rfl, ?_, ?_⟩
          · simp [diverting, hretry]
          · rw [← honly.2.1]
            simp [beginDivert]
          · rw [← hxport]
            simp [beginDivert]
        · have htarget : targetOf old = .approach := by rw [targetOf, hp.1]
          rw [hrun, heq, if_pos ⟨hr, hwant, .inr hp⟩, htarget, beginDivert_seg, hxseg, hxctl.2]
          refine ⟨?_, ?_, ?_⟩
          · simp [diverting, hretry]
          · refine onlySegment_trans honly ⟨beginDivert_seg_other (by cases l <;> decide) _ _, ?_, ?_⟩
            · simp [beginDivert]
            · simp [beginDivert]
          · rw [← hxport]
            simp [beginDivert, State.setApproach, State.onPort]
  · intro l bin
    set v := answerWith driveTaken s with hv
    have hseg : ∀ k, v.seg k = s.seg k := fun k => State.onBus_seg k _ s
    have hcarry : headCarry l v = headCarry l s := by
      unfold headCarry
      rw [hseg]
    have hexec : exec (.landed f) s = .next (takeLanded f v) :=
      congrArg _ ((receive_addressed hhere rfl rfl).trans (if_pos hhere.2.2.1))
    refine ⟨_, hexec, ?_, ?_, ?_, ?_, ?_, fun c pos hdown hhead hplaces hbin => ?_, fun hnot => ?_⟩
    · have hanswer : v.bus.answer = driveTaken := rfl
      simp [takeLanded, apply_ite State.bus, apply_ite Bus.answer, hanswer]
    · simp [takeLanded, apply_ite State.bins, v]
    · simp [takeLanded, apply_ite State.crane, v]
    · simp [takeLanded, apply_ite State.pins, v]
    · simp [takeLanded, apply_ite State.est, v]
    · have htake : takeLanded f v = shutterTakeUp (actIdleHead l (openTail l (removeHead l v))) := by
        refine if_pos ⟨hdown, by rw [hseg]; exact hhead, ?_⟩
        rw [hcarry, headCarry, hplaces]
        exact congrArg some hbin
      rw [htake]
      exact removeHead_last (by rw [hseg, hplaces])
    · refine if_neg fun hboth => ?_
      obtain ⟨h1, h2, h3⟩ := hboth
      rcases hnot with h | h | h
      · exact h h1
      · exact h ((congrArg Segment.head (hseg l)).symm.trans h2)
      · exact h ((congrArg _ hcarry.symm).trans h3)

end Sys2Proof.Machine
end

section
/-! PROOF. The obligation on the ready head (R110, R117, R122 to R125). -/

namespace Sys2Proof.Machine

-- Checked one after another: the host bounds the memory of all threads together.
set_option Elab.async false

open Sys2Proof Sys2Proof.Safety

variable {s t u : State} {id : SlotId} {l k : Lane} {c : Carry} {p : PlaceRec} {more : List PlaceRec} {d : Nat}

/-! ### The head sensor (R110) -/

@[simp] theorem setHeadPin_keeps (l : Lane) (b : Bool) (s : State) :
    (setHeadPin l b s).pending = s.pending ∧ (setHeadPin l b s).bus = s.bus ∧ (setHeadPin l b s).ctl = s.ctl ∧
      (setHeadPin l b s).bins = s.bins ∧ (setHeadPin l b s).crane = s.crane ∧ (setHeadPin l b s).est = s.est ∧
      (setHeadPin l b s).lanes = s.lanes ∧ (setHeadPin l b s).port = s.port ∧
      (setHeadPin l b s).auctions = s.auctions ∧ (setHeadPin l b s).fire = s.fire :=
  ⟨rfl, rfl, rfl, rfl, rfl, rfl, rfl, rfl, rfl, rfl⟩

@[simp] theorem setHeadPin_seg (b : Bool) (s : State) : (setHeadPin l b s).seg k = s.seg k := seg_of_lanes_eq rfl k

theorem setHeadPin_head (b : Bool) (s : State) : ((setHeadPin l b s).pins.seg l).head = b := by
  cases l
  · rfl
  · rfl

theorem exec_headSensor_false (hstation : s.ctl.station ≠ .strapFault) :
    exec (.headSensorReport l false) s = .next (setHeadPin l false s) := congrArg _ (if_neg hstation)

theorem exec_headSensor_true (hstation : s.ctl.station ≠ .strapFault) : exec (.headSensorReport l true) s =
    .next (headBecomesReady l (headReported l (s.headSensor l) (setHeadPin l true s))) := congrArg _ (if_neg hstation)

/-- The sensor of an IDLE head shows the bin of the record at the head place, and the head decides (R110, R123). -/
theorem exec_headSensor_idle (hstation : s.ctl.station ≠ .strapFault) (hcond : (s.seg l).cond = .running)
    (hhead : (s.seg l).head = .idle) (hretry : (s.seg l).retry = none) (hplaces : (s.seg l).places = p :: more)
    (hpos : p.pos = 1) : exec (.headSensorReport l true) s = .next (decideHead l (setHeadPin l true s)) := by
  set v := setHeadPin l true s with hv
  have hseg : v.seg l = s.seg l := setHeadPin_seg true s
  have hstays : headReported l (s.headSensor l) v = v := by
    have hplace : placeReported l 1 true v = v := if_pos (by simp [hseg, hplaces, placeTaken, hpos])
    refine (if_neg ?_).trans hplace
    simp [headLeaving, hseg, hhead]
  have hready : headReady l v = true := headReady_iff.2
    ⟨by rw [hseg]; simp [hplaces], setHeadPin_head true s, .inl (by rw [hseg]; exact hhead), by rw [hseg]; exact hcond⟩
  have hacts : headBecomesReady l v = decideHead l v :=
    (if_pos (by rw [hseg, hretry]; rfl)).trans (if_pos hready)
  rw [exec_headSensor_true hstation, ← hv, hstays, hacts]

/-! ### Diverts and strays (R123) -/

theorem decideHead_diverts (hplaces : (s.seg l).places = p :: more) (hcarry : p.content = .carrying c)
    (hlow : 1 ≤ c.dest) (hhigh : c.dest ≤ s.top) (hhere : c.dest = s.num ∧ targetFree (targetOf c) s = true) :
    decideHead l s = beginDivert l (targetOf c) s := by
  unfold decideHead
  rw [hplaces]
  dsimp only
  rw [hcarry]
  exact (if_neg (by omega)).trans (if_pos hhere)

theorem decideHead_strays (hplaces : (s.seg l).places = p :: more) (hcarry : p.content = .carrying c)
    (hbad : c.dest = 0 ∨ s.top < c.dest) : decideHead l s = raise (.stray (placeCode l 1))
      (s.onSeg l fun g => { g with places := setHeadContent .stray g.places, head := .idle, retry := none }) := by
  unfold decideHead
  rw [hplaces]
  dsimp only
  rw [hcarry]
  exact if_pos hbad

theorem decideHead_of_stray (hplaces : (s.seg l).places = p :: more) (hcarry : p.content = .stray) :
    decideHead l s = s := by
  unfold decideHead
  rw [hplaces]
  dsimp only
  rw [hcarry]

/-- A notice raised on a change of the lanes (R19). -/
theorem raise_of_lanes {n : Notice} (h : t = { s with lanes := t.lanes }) :
    raise n t = { raise n s with lanes := (raise n t).lanes } := by
  obtain ⟨hbus, hctl⟩ := raise_congr (n := n) (t := t) (s := s) (by rw [h]) (by rw [h])
  apply State.eq_of_blocks <;> simp [hbus, hctl]
  all_goals rw [h]

/-! ### The turn (R122) -/

/-- A ready turn head whose bin passes has its claim admitted (R122). -/
theorem claimTurn_admitted (hplaces : (s.seg l).places = ⟨.carrying c, 1⟩ :: more) (hretry : (s.seg l).retry = none)
    (hdest : c.dest ≠ s.num) (htakes : takesThrough l.other s = true) :
    (claimTurn l c s).seg l = { s.seg l with head := .moving, headLimit := some s.ctl.setup.handoffLimit } ∧
      (claimTurn l c s).seg l.other = { s.seg l.other with
        reservation := some (.through .turn c)
        tailLimit := some s.ctl.setup.handoffLimit
        merge := if localWaits l.other s then min 8 ((s.seg l.other).merge + 1) else (s.seg l.other).merge } ∧
      claimTurn l c s = { s with lanes := (claimTurn l c s).lanes } := by
  have hoffered : offeredCarry c s = c := if_neg hdest
  set v := s.onSeg l.other fun g => { g with
    reservation := some (.through .turn c)
    tailLimit := some s.ctl.setup.handoffLimit
    merge := if localWaits l.other s then min 8 (g.merge + 1) else g.merge } with hv
  have hclaim : claimTurn l c s = acceptedHead l c v := by
    refine (if_pos htakes).trans ?_
    rw [hoffered, raiseMerge_eq, localWaits_congr (s := s) (by simp) (by simp), onSeg_onSeg]
  have hvl : v.seg l = s.seg l := State.seg_other_onSeg l _ s
  have hvnum : v.num = s.num := by simp [State.num, v]
  have haccepted : acceptedHead l c v = v.onSeg l (movingHead c v) := by
    rw [acceptedHead_eq (by rw [hvl]; exact hplaces), hvnum]
    exact if_neg hdest
  rw [hclaim, haccepted]
  refine ⟨?_, ?_, ?_⟩
  · rw [State.seg_onSeg, hvl]
    simp [movingHead, hplaces, setHeadContent, v, hretry]
  · rw [State.seg_onSeg_of_other, hv, State.seg_onSeg]
  · rw [onSeg_eq_lanes, hv, onSeg_eq_lanes]

/-- The claim of a turn that the other tail refuses (R122). -/
theorem claimTurn_refused (hretry : (s.seg l).retry = none) (htakes : takesThrough l.other s = false) :
    claimTurn l c s = s.onSeg l fun g => { g with head := .deferred } := by
  have hclaim : claimTurn l c s = setHead l .deferred (stopRetry l s) := if_neg (by simp [htakes])
  have hstop : stopRetry l s = s := onSeg_self (by rw [← hretry])
  rw [hclaim, hstop]
  rfl

/-! ### A bin that follows a moving head (R110) -/

theorem onSeg_congr {f g : Segment → Segment} (h : f (s.seg l) = g (s.seg l)) : s.onSeg l f = s.onSeg l g := by
  cases l
  · exact congrArg (fun g => { s with lanes := { s.lanes with outSeg := g } }) h
  · exact congrArg (fun g => { s with lanes := { s.lanes with backSeg := g } }) h

/-- The bin behind a MOVING head reaches the sensor (R110). -/
theorem exec_headSensor_follows {x y : Content} {pos : Nat} (hstation : s.ctl.station ≠ .strapFault)
    (hhead : (s.seg l).head = .moving) (hcond : (s.seg l).cond = .running)
    (hplaces : (s.seg l).places = ⟨x, 1⟩ :: ⟨y, pos⟩ :: more) (hpos : 1 < pos) (hbehind : ∀ p ∈ more, p.pos ≠ 1)
    (hwas : (s.pins.seg l).head = false) : exec (.headSensorReport l true) s =
      .next ((setHeadPin l true s).onSeg l fun g => { g with places := ⟨x, 1⟩ :: ⟨y, 1⟩ :: more }) := by
  set v := setHeadPin l true s with hv
  have hseg : v.seg l = s.seg l := setHeadPin_seg true s
  have hleaving : headLeaving (v.seg l) = true := by simp [headLeaving, hseg, hhead, hplaces]
  have hfree : placeTaken 1 (⟨y, pos⟩ :: more) = false := by
    simp only [placeTaken, List.any_cons, Bool.or_eq_false_iff, decide_eq_false_iff_not, List.any_eq_false,
      decide_eq_true_eq]
    exact ⟨by omega, hbehind⟩
  have hmoved : moveTo 1 (⟨y, pos⟩ :: more) = ⟨y, 1⟩ :: more := if_pos hpos
  set w := v.onSeg l fun g => { g with places := ⟨x, 1⟩ :: ⟨y, 1⟩ :: more } with hw
  have hfollows : followToHead l v = w := by
    refine onSeg_congr ?_
    rw [hseg, hplaces]
    refine (if_pos (by simp [hcond, hfree])).trans ?_
    rw [hmoved]
  have hreported : headReported l (s.headSensor l) v = w := by
    have hsensor : s.headSensor l = false := hwas
    rw [hsensor]
    exact (if_pos hleaving).trans hfollows
  have hnotReady : ¬ headReady l w = true := by
    rw [headReady_iff, hw, State.seg_onSeg, hseg]
    simp [hhead]
  have hacts : headBecomesReady l w = w := by
    unfold headBecomesReady actHead
    rw [if_neg hnotReady]
    exact ite_self w
  rw [exec_headSensor_true hstation, ← hv, hreported, hacts]

/-- The decision of a turn head whose bin passes (R122). -/
theorem turnHead_claims (hplaces : (s.seg l).places = ⟨.carrying c, 1⟩ :: more) (hlow : 1 ≤ c.dest)
    (hhigh : c.dest ≤ s.top) (hdest : c.dest ≠ s.num) (hdown : s.downstream l = none) (hbus : s.bus.offBus = false) :
    decideHead l (setHeadPin l true s) = claimTurn l c (setHeadPin l true s) := by
  rw [decideHead_passes (s := setHeadPin l true s) (by rw [setHeadPin_seg]; exact hplaces) rfl hlow hhigh
    fun h => hdest h.1]
  unfold passOn
  rw [show (setHeadPin l true s).downstream l = none from hdown]
  exact if_neg (by simp [hbus])

/-- Settles O37, by the record at the head place. -/
theorem readyHeadActs : Obligations.ReadyHeadActs := by
  refine ⟨fun s l p more hstation hcond hhead hretry hplaces hpos => ?_,
    fun s l c more hstation hbus hcond hhead hretry hplaces hdown hlow hhigh hdest => ⟨fun htakes => ?_, fun htakes => ?_⟩,
    fun s l c more d id hstation hcond hhead hretry hplaces hdown hlow hhigh hfree => ?_,
    fun s l x y pos more hstation hhead hcond hplaces hpos hbehind hwas => ?_⟩
  · intro seen diverts
    have hexec : exec (.headSensorReport l true) s = .next (decideHead l seen) :=
      exec_headSensor_idle hstation hcond hhead hretry hplaces hpos
    have hseg : ∀ k, seen.seg k = s.seg k := fun k => setHeadPin_seg true s
    have hseenPlaces : (seen.seg l).places = p :: more := by rw [hseg, hplaces]
    have hdiverts : ∀ x, diverts (beginDivert l x seen) x := fun x =>
      ⟨(beginDivert_seg x seen).trans (by rw [hseg]), (beginDivert_seg_other (by cases l <;> decide) x seen).trans (hseg _)⟩
    refine ⟨fun c hcarry hhere hkind h1 htop hstand => ?_, fun c hcarry hhere hkind h1 htop hport happroach => ?_,
      fun c hcarry hbad => ?_, fun hstray => ?_, exec_headSensor_false hstation⟩
    · have htarget : targetOf c = .inStand := by rw [targetOf, hkind]
      have hrun : decideHead l seen = beginDivert l .inStand seen := by
        rw [← htarget]
        exact decideHead_diverts hseenPlaces hcarry (by omega) (by rw [hhere]; exact htop)
          ⟨hhere, targetFree_iff.2 (.inl ⟨hkind, hstand⟩)⟩
      rw [hrun] at hexec
      refine ⟨_, hexec, hdiverts _, rfl, ?_⟩
      cases l
      · rfl
      · rfl
    · have htarget : targetOf c = .approach := by rw [targetOf, hkind]
      have hrun : decideHead l seen = beginDivert l .approach seen := by
        rw [← htarget]
        exact decideHead_diverts hseenPlaces hcarry (by omega) (by rw [hhere]; exact htop)
          ⟨hhere, targetFree_iff.2 (.inr ⟨hkind, hport, happroach⟩)⟩
      rw [hrun] at hexec
      refine ⟨_, hexec, hdiverts _, rfl, ?_⟩
      cases l
      · rfl
      · rfl
    · have hrun := decideHead_strays hseenPlaces hcarry hbad
      rw [hrun] at hexec
      refine ⟨_, hexec, ?_, ?_, ?_⟩
      · exact ⟨by rw [raise_seg, State.seg_onSeg_of_other, hseg], by simp [seen], by simp [seen]⟩
      · rw [raise_seg, State.seg_onSeg, hseg, hplaces]
        simp [setHeadContent, hpos, hhead, hretry]
      · exact raise_of_lanes (onSeg_eq_lanes _ _)
    · rw [hexec, decideHead_of_stray hseenPlaces hstray]
  · obtain ⟨hseg, hother, hstate⟩ := claimTurn_admitted (s := setHeadPin l true s) (c := c) (more := more)
      (by rw [setHeadPin_seg]; exact hplaces) (by rw [setHeadPin_seg]; exact hretry) hdest
      (by rw [takesThrough_iff, setHeadPin_seg]; exact takesThrough_iff.1 htakes)
    have hexec := exec_headSensor_idle hstation hcond hhead hretry hplaces rfl
    rw [turnHead_claims hplaces hlow hhigh hdest hdown hbus] at hexec
    rw [setHeadPin_seg] at hseg hother
    refine ⟨_, hexec, hseg, hother, hstate.trans ?_⟩
    apply State.eq_of_blocks <;> simp
  · have hclaim := claimTurn_refused (s := setHeadPin l true s) (c := c) (by rw [setHeadPin_seg]; exact hretry)
      (by rw [← htakes, Bool.eq_iff_iff, takesThrough_iff, takesThrough_iff, setHeadPin_seg]; rfl)
    have hexec := exec_headSensor_idle hstation hcond hhead hretry hplaces rfl
    rw [turnHead_claims hplaces hlow hhigh hdest hdown hbus, hclaim] at hexec
    refine ⟨_, hexec, ?_, ?_, ?_⟩
    · rw [State.seg_onSeg, setHeadPin_seg]
    · exact onlySegment_trans (onlySegment_of_lanes (t := setHeadPin l true s) rfl) (onlySegment_onSeg _ _)
    · apply State.eq_of_blocks <;> simp
  · intro seen offers
    have hexec : exec (.headSensorReport l true) s = .next (decideHead l seen) :=
      exec_headSensor_idle hstation hcond hhead hretry hplaces rfl
    have hseg : ∀ k, seen.seg k = s.seg k := fun k => setHeadPin_seg true s
    have hseenPlaces : (seen.seg l).places = ⟨.carrying c, 1⟩ :: more := by rw [hseg, hplaces]
    have hready : headReady l seen = true := headReady_iff.2 ⟨by rw [hseenPlaces]; simp, setHeadPin_head true s,
      .inl (by rw [hseg]; exact hhead), by rw [hseg]; exact hcond⟩
    have hact : decideHead l seen = actHead l seen := (if_pos hready).symm
    have hoffers : mayOffer d s = true → ¬ (c.dest = s.num ∧ targetFree (targetOf c) seen = true) →
        offers (offeredCarry c s) := by
      intro hoffer hpass
      obtain ⟨hstate, honly, hleft, hslots, -⟩ :=
        actHead_offers hready hseenPlaces rfl hlow hhigh hpass hdown hoffer hfree
      rw [← hact] at hstate honly hleft hslots
      refine ⟨_, hexec, ⟨honly.1.trans (hseg _), honly.2⟩, ?_, hslots, hstate⟩
      rw [hleft, hseg, ← hretry]
    have hnotFree : c.kind = .port → s.ctl.straps.port = false ∨ s.port.approach ≠ .empty →
        ¬ (c.dest = s.num ∧ targetFree (targetOf c) seen = true) := by
      rintro hkind hport ⟨-, h⟩
      rcases targetFree_iff.1 h with h | ⟨-, hfitted, hempty⟩
      · simp [hkind] at h
      · rcases hport with hport | hport
        · simp [show s.ctl.straps.port = true from hfitted] at hport
        · exact hport hempty
    have hwanted : c.dest = s.num → offeredCarry c s = recirculated s.ctl.setup.recircLimit c := fun h => if_pos h
    refine ⟨fun hoffer hdest => ?_, fun hoffer hdest => ?_, fun hoffer hdest hkind hstand => ?_,
      fun hoffer hdest hkind hport => ⟨fun hcount => ?_, fun hcount => ?_⟩⟩
    · have hpass : decideHead l seen = passOn l c seen :=
        decideHead_passes hseenPlaces rfl hlow hhigh fun h => hdest h.1
      have hstays : passOn l c seen = seen := by
        unfold passOn
        rw [show seen.downstream l = some d from hdown]
        have hsilent : mayOffer d seen = false := hoffer
        refine (if_neg (by simp [hsilent])).trans ((onSeg_onSeg _ _ seen).trans (onSeg_self ?_))
        rw [hseg, ← hhead, ← hretry]
      rw [hexec, hpass, hstays]
    · have hoffered : offeredCarry c s = c := if_neg hdest
      rw [← hoffered]
      exact hoffers hoffer fun h => hdest h.1
    · have hoffered : offeredCarry c s = { c with recirc := min 15 (c.recirc + 1) } := by
        rw [hwanted hdest, recirculated]
        simp [hkind, saturate, Nat.min_comm]
      rw [← hoffered]
      refine hoffers hoffer fun h => ?_
      rcases targetFree_iff.1 h.2 with h | h
      · exact hstand h.2
      · simp [hkind] at h
    · have hoffered : offeredCarry c s = { c with recirc := min 15 (c.recirc + 1) } := by
        rw [hwanted hdest, recirculated]
        simp [hkind, saturate, Nat.min_comm, Nat.not_lt.2 hcount]
      rw [← hoffered]
      exact hoffers hoffer (hnotFree hkind hport)
    · have hoffered : offeredCarry c s = { c with
          dest := c.bin / 2048, kind := .home, tag := 0, purpose := .noPurpose, recirc := min 15 (c.recirc + 1) } := by
        rw [hwanted hdest, recirculated]
        simp [hkind, saturate, Nat.min_comm, hcount, homeOf]
      rw [← hoffered]
      exact hoffers hoffer (hnotFree hkind hport)
  · refine ⟨_, exec_headSensor_follows hstation hhead hcond hplaces hpos hbehind hwas, ?_, ?_, ?_⟩
    · exact onlySegment_trans (onlySegment_of_lanes (by simp)) (onlySegment_onSeg _ _)
    · rw [State.seg_onSeg, setHeadPin_seg]
    · apply State.eq_of_blocks <;> simp

end Sys2Proof.Machine
end

section
/-! PROOF. The obligation on the middle and tail sensors (R110, R120 to R122, R127, R128, R143, R199). -/

namespace Sys2Proof.Machine

-- Checked one after another: the host bounds the memory of all threads together.
set_option Elab.async false

open Sys2Proof Sys2Proof.Safety

variable {s t u : State} {id : SlotId} {l k : Lane} {c : Carry} {p : PlaceRec} {more : List PlaceRec} {d : Nat}
  {x : Content} {i : Nat} {b : BinRec}

/-! ### The middle sensor (R110) -/

@[simp] theorem setMiddlePin_keeps (l : Lane) (b : Bool) (s : State) :
    (setMiddlePin l b s).pending = s.pending ∧ (setMiddlePin l b s).bus = s.bus ∧ (setMiddlePin l b s).ctl = s.ctl ∧
      (setMiddlePin l b s).bins = s.bins ∧ (setMiddlePin l b s).crane = s.crane ∧ (setMiddlePin l b s).est = s.est ∧
      (setMiddlePin l b s).lanes = s.lanes ∧ (setMiddlePin l b s).port = s.port ∧
      (setMiddlePin l b s).auctions = s.auctions ∧ (setMiddlePin l b s).fire = s.fire :=
  ⟨rfl, rfl, rfl, rfl, rfl, rfl, rfl, rfl, rfl, rfl⟩

@[simp] theorem setMiddlePin_seg (b : Bool) (s : State) : (setMiddlePin l b s).seg k = s.seg k := seg_of_lanes_eq rfl k

theorem exec_placeSensor_false (hstation : s.ctl.station ≠ .strapFault) :
    exec (.placeSensorReport l false) s = .next (setMiddlePin l false s) := congrArg _ (if_neg hstation)

theorem exec_placeSensor_true (hstation : s.ctl.station ≠ .strapFault) : exec (.placeSensorReport l true) s =
    .next (placeReported l 2 (s.pins.seg l).middle (setMiddlePin l true s)) := congrArg _ (if_neg hstation)

/-- A record stands upstream of the place and is carried along (R110, R193). -/
theorem mayMoveTo_iff {pos : Nat} {g : Segment} : mayMoveTo pos g = true ↔
    g.cond = .running ∧ g.head ≠ .jammed ∧ ∃ p ∈ g.places, pos < p.pos := by
  simp [mayMoveTo, and_assoc]

theorem moveTo_append {pos : Nat} {before after : List PlaceRec} (hbefore : ∀ p ∈ before, p.pos ≤ pos)
    (hp : pos < p.pos) : moveTo pos (before ++ p :: after) = before ++ { p with pos := pos } :: after := by
  induction before with
  | nil => exact if_pos hp
  | cons q before ih =>
    have hq : ¬ pos < q.pos := Nat.not_lt.2 (hbefore q List.mem_cons_self)
    refine (if_neg hq).trans (congrArg _ (ih fun p hp => hbefore p (List.mem_cons_of_mem q hp)))

/-- The nearest record upstream moves to the place reported (R110). -/
theorem placeReported_moves {pos : Nat} {was : Bool} (hmay : mayMoveTo pos (s.seg l) = true)
    (h : was = false ∨ placeTaken pos (s.seg l).places = false) :
    placeReported l pos was s = s.onSeg l fun g => { g with places := moveTo pos g.places } := by
  refine (if_neg ?_).trans (if_pos hmay)
  rcases h with h | h
  · simp [h, hmay]
  · simp [h]

/-- A stray found on a segment outside DOZE (R111, R130). -/
theorem strayAt_of_room {pos : Nat} (hroom : (s.seg l).places.length < 3) (hdoze : s.ctl.station ≠ .doze) :
    strayAt l pos s = raise (.stray (placeCode l pos))
      (s.onSeg l fun g => { g with places := insertPlace { content := .stray, pos := pos } g.places }) :=
  (if_pos hroom).trans (wakeCause_of_not_doze (by simpa using hdoze))

/-- A stray found on an empty segment outside DOZE. -/
theorem strayAt_of_none {pos : Nat} (hplaces : (s.seg l).places = []) (hdoze : s.ctl.station ≠ .doze) :
    OnlySegment l s (strayAt l pos s) ∧ (strayAt l pos s).seg l = { s.seg l with places := [⟨.stray, pos⟩] } ∧
      strayAt l pos s = { raise (.stray (3 * l.code + pos)) s with lanes := (strayAt l pos s).lanes } := by
  rw [strayAt_of_room (by simp [hplaces]) hdoze]
  refine ⟨⟨?_, by simp, by simp⟩, ?_, raise_of_lanes (onSeg_eq_lanes _ s)⟩
  · rw [raise_seg, State.seg_onSeg_of_other]
  · rw [raise_seg, State.seg_onSeg, hplaces]
    rfl

/-! ### The home visit of a bin that lands (R127) -/

theorem visitSteps_congr (i : Nat) (b : BinRec) (c : Carry) (hbins : t.bins = s.bins) (hnum : t.num = s.num) :
    (visitSteps i b c t).1 = (visitSteps i b c s).1 ∧ (visitSteps i b c t).2.bins = (visitSteps i b c s).2.bins := by
  obtain ⟨hcarry, htable, -⟩ := visitSteps_eq i b c t
  obtain ⟨hcarry', htable', -⟩ := visitSteps_eq i b c s
  rw [hcarry, htable, hcarry', htable', hnum]
  exact ⟨rfl, congrArg (fun e => tablePut BinRec.blank e i _) hbins⟩

/-- A home visit reads the Bin Table and the straps (R59, R60). -/
theorem homeVisit_congr (c : Carry) (hbins : t.bins = s.bins) (hstraps : t.ctl.straps = s.ctl.straps) :
    (homeVisit c t).1 = (homeVisit c s).1 ∧ (homeVisit c t).2.bins = (homeVisit c s).2.bins := by
  have hnum : t.num = s.num := by rw [State.num, hstraps, State.num]
  have hread : binAt (indexOf c.bin) t = binAt (indexOf c.bin) s := by rw [binAt, hbins, binAt]
  have hvisit : ∀ (n : Notice) (b : BinRec),
      (visitSteps (indexOf c.bin) b c (raise n t)).1 = (visitSteps (indexOf c.bin) b c (raise n s)).1 ∧
        (visitSteps (indexOf c.bin) b c (raise n t)).2.bins = (visitSteps (indexOf c.bin) b c (raise n s)).2.bins :=
    fun n b => visitSteps_congr _ b c (by simpa using hbins) (by simpa [State.num] using hnum)
  have hplain := visitSteps_congr (indexOf c.bin) (binAt (indexOf c.bin) s) c hbins hnum
  unfold homeVisit
  dsimp only
  rw [hstraps, hread, hnum]
  split
  · exact ⟨rfl, hbins⟩
  · cases hb : (binAt (indexOf c.bin) s).state with
    | absent => exact ⟨congrArg (fun v => some (VisitResult.mk v _)) (hvisit _ _).1, (hvisit _ _).2⟩
    | stored => exact ⟨congrArg (fun v => some (VisitResult.mk v _)) (hvisit _ _).1, (hvisit _ _).2⟩
    | lifting => exact ⟨rfl, by simpa using hbins⟩
    | storing => exact ⟨rfl, by simpa using hbins⟩
    | lost => exact ⟨congrArg (fun v => some (VisitResult.mk v _)) (hvisit _ _).1, (hvisit _ _).2⟩
    | out => exact ⟨congrArg (fun v => some (VisitResult.mk v _)) hplain.1, hplain.2⟩

/-! ### A queued frame that stays in its slot -/

/-- Slot `id` holds `q`, a frame that is no REPLY. -/
def HoldsFrame (id : SlotId) (q : Queued) (s : State) : Prop :=
  s.bus.slots.get id = .holds q ∧ ∀ r, q.frame ≠ .reply r

theorem setPendingKind_holdsFrame {q : Queued} {n : Nat} (h : HoldsFrame id q s) :
    HoldsFrame id q (setPendingKind n s) := by
  refine ⟨(Slots.get_mapFrames id _ s.bus.slots).trans ?_, h.2⟩
  rw [h.1]
  obtain ⟨frame, order, started, abortAsked, errored⟩ := q
  cases frame with
  | reply r => exact absurd rfl (h.2 r)
  | _ => rfl

/-- A notice takes a free slot, or none (R6, R19). -/
theorem raise_holdsFrame {q : Queued} {n : Notice} (h : HoldsFrame id q s) : HoldsFrame id q (raise n s) := by
  unfold raise
  split
  · exact setPendingKind_holdsFrame h
  · split
    next free hfree =>
      have hne : id ≠ free := by
        rintro rfl
        exact absurd ((Slots.get_of_freeSlot hfree).symm.trans h.1) nofun
      exact ⟨(Slots.get_set_other hne ..).trans h.1, h.2⟩
    next =>
      split
      · exact h
      · exact setPendingKind_holdsFrame h

theorem visitSteps_holdsFrame {q : Queued} (h : HoldsFrame id q s) : HoldsFrame id q (visitSteps i b c s).2 := by
  unfold visitSteps
  extract_lets fill unserved hold s₁ s₂ n
  have h₁ : HoldsFrame id q s₁ := by
    unfold s₁
    split
    · exact raise_holdsFrame h
    · exact h
  have h₂ : HoldsFrame id q s₂ := by
    unfold s₂
    split
    · exact raise_holdsFrame h₁
    · exact h₁
  exact h₂

theorem homeVisit_holdsFrame {q : Queued} (h : HoldsFrame id q s) : HoldsFrame id q (homeVisit c s).2 := by
  unfold homeVisit
  dsimp only
  split
  · exact h
  · split
    · exact visitSteps_holdsFrame (raise_holdsFrame h)
    · exact visitSteps_holdsFrame (raise_holdsFrame h)
    · exact raise_holdsFrame h
    · exact raise_holdsFrame h
    · exact visitSteps_holdsFrame (raise_holdsFrame h)
    · exact visitSteps_holdsFrame h

/-! ### What lands at a tail (R120, R127, R199) -/

/-- The carry records that a station holds depend on its places, reservations, stands, port and carriage. -/
theorem heldBins_congr (hplaces : ∀ k, (t.seg k).places = (s.seg k).places)
    (hreserved : ∀ k, reservationBins (t.seg k) = reservationBins (s.seg k))
    (hout : t.lanes.outStand = s.lanes.outStand) (hin : t.lanes.inStand = s.lanes.inStand) (hport : t.port = s.port)
    (hcrane : t.crane = s.crane) : heldBins t = heldBins s := by
  have hpo : t.lanes.outSeg.places = s.lanes.outSeg.places := hplaces .outLane
  have hpb : t.lanes.backSeg.places = s.lanes.backSeg.places := hplaces .backLane
  have hro : reservationBins t.lanes.outSeg = reservationBins s.lanes.outSeg := hreserved .outLane
  have hrb : reservationBins t.lanes.backSeg = reservationBins s.lanes.backSeg := hreserved .backLane
  unfold heldBins
  rw [hpo, hpb, hro, hrb, hout, hin, hport, hcrane]

/-- What a home visit makes of the record that lands (R127). -/
def landedContent (v : Option VisitResult) : Content :=
  match v with
  | some r => .carrying r.carry
  | none => .stray

theorem placeLanded_of_held {visits : Bool} (h : c.bin ∈ heldBins s) : placeLanded l c visits s = strayAtTail l s :=
  if_pos h

theorem placeLanded_of_passing {visits : Bool} (h : c.bin ∉ heldBins s)
    (hvisits : visits = false ∨ c.bin / 2048 ≠ s.num) : placeLanded l c visits s = addAtTail l (.carrying c) s := by
  have hhome : homeOf c.bin = c.bin / 2048 := rfl
  refine (if_neg h).trans (if_neg ?_)
  rcases hvisits with h | h
  · simp [h]
  · simp [hhome, h]

/-- An own bin that lands asks its home visit (R127). -/
theorem placeLanded_of_home (h : c.bin ∉ heldBins s) (hhome : c.bin / 2048 = s.num) :
    (placeLanded l c true s).seg l = (s.seg l).withTail (landedContent (homeVisit c s).1) ∧
      (placeLanded l c true s).bins = (homeVisit c s).2.bins ∧
      ∀ id q, HoldsFrame id q s → HoldsFrame id q (placeLanded l c true s) := by
  have hhome' : homeOf c.bin = s.num := hhome
  have hseg : (homeVisit c s).2.seg l = s.seg l := seg_of_lanes_eq (by simp) l
  have hplaced : placeLanded l c true s = match (homeVisit c s).1 with
      | some r => addAtTail l (.carrying r.carry) (homeVisit c s).2
      | none => strayAtTail l (homeVisit c s).2 := (if_neg h).trans (if_pos (by simp [hhome']))
  rw [hplaced]
  cases hv : (homeVisit c s).1 with
  | some r =>
    refine ⟨(addAtTail_seg _ _).trans (by rw [hseg]; rfl), by simp, fun id q hq => ?_⟩
    have hkept := homeVisit_holdsFrame (c := c) hq
    exact ⟨by simpa [addAtTail] using hkept.1, hkept.2⟩
  | none =>
    refine ⟨(raise_seg _ _).trans ((addAtTail_seg _ _).trans (by rw [hseg]; rfl)), by simp, fun id q hq => ?_⟩
    have hkept := homeVisit_holdsFrame (c := c) hq
    exact raise_holdsFrame ⟨by simpa [addAtTail] using hkept.1, hkept.2⟩

theorem actIdleHead_of_no_bin (hpin : (s.pins.seg l).head = false) : actIdleHead l s = s := by
  have hready : ¬ headReady l s = true := fun hr => by
    simpa [hpin] using (headReady_iff.1 hr).2.1
  unfold actIdleHead actHead
  rw [if_neg hready]
  exact ite_self s

/-- Nothing follows a landing at a quiet tail whose head sensor shows no bin (R114, R123). -/
theorem placeLanded_settles {visits : Bool} (hquiet : TailQuiet l s) (hpin : (s.pins.seg l).head = false) :
    openTail l (placeLanded l c visits s) = placeLanded l c visits s ∧
      actIdleHead l (placeLanded l c visits s) = placeLanded l c visits s := by
  obtain ⟨hwaits, hturn, hspace⟩ := hquiet
  obtain ⟨x, hx⟩ := placeLanded_seg l c visits s
  refine ⟨openTail_of_quiet ⟨?_, ?_, ?_⟩, ?_⟩
  · rw [← hwaits]
    exact localWaits_congr (by simp) (by simp)
  · rw [placeLanded_seg_other (by cases l <;> decide)]
    exact hturn
  · rw [hx]
    exact hspace
  · exact actIdleHead_of_no_bin (by simpa using hpin)

/-! ### The tail sensor (R120) -/

@[simp] theorem setTailPin_keeps (l : Lane) (b : Bool) (s : State) :
    (setTailPin l b s).pending = s.pending ∧ (setTailPin l b s).bus = s.bus ∧ (setTailPin l b s).ctl = s.ctl ∧
      (setTailPin l b s).bins = s.bins ∧ (setTailPin l b s).crane = s.crane ∧ (setTailPin l b s).est = s.est ∧
      (setTailPin l b s).lanes = s.lanes ∧ (setTailPin l b s).port = s.port ∧
      (setTailPin l b s).auctions = s.auctions ∧ (setTailPin l b s).fire = s.fire :=
  ⟨rfl, rfl, rfl, rfl, rfl, rfl, rfl, rfl, rfl, rfl⟩

@[simp] theorem setTailPin_seg (b : Bool) (s : State) : (setTailPin l b s).seg k = s.seg k := seg_of_lanes_eq rfl k

theorem setTailPin_head (b : Bool) (s : State) : ((setTailPin l b s).pins.seg k).head = (s.pins.seg k).head := by
  cases l <;> cases k <;> rfl

theorem exec_tailSensor_false (hstation : s.ctl.station ≠ .strapFault) :
    exec (.tailSensorReport l false) s = .next (setTailPin l false s) := congrArg _ (if_neg hstation)

theorem exec_tailSensor_true (hstation : s.ctl.station ≠ .strapFault) : exec (.tailSensorReport l true) s =
    .next (tailReported l (s.pins.seg l).tail (setTailPin l true s)) := congrArg _ (if_neg hstation)

/-- A landing at a station with no shutter and a crane that is not IDLE. -/
theorem tailReported_lands {r : Reservation} {was : Bool} (hcrane : s.crane.state ≠ .idle)
    (hshutter : s.fire.shutter = none) (hreserved : (s.seg l).reservation = some r) :
    tailReported l was s = landReserved l r s := by
  unfold tailReported
  rw [hreserved]
  dsimp only
  rw [shutterTakeUp_of_none (by simpa using hshutter), dispatch_of_not_idle (by simpa using hcrane)]

end Sys2Proof.Machine
end

section
/-! PROOF. The landings at a quiet tail, and the obligation on the middle and tail sensors (R110 to R143, R199). -/

namespace Sys2Proof.Machine

-- Checked one after another: the host bounds the memory of all threads together.
set_option Elab.async false

open Sys2Proof Sys2Proof.Safety

variable {s t u : State} {id : SlotId} {l k : Lane} {c : Carry} {p : PlaceRec} {more : List PlaceRec} {d : Nat}
  {x : Content} {i : Nat} {b : BinRec}

/-! ### The reservation goes (R120) -/

/-- The state whose tail sensor of `l` has shown a bin, its reservation gone (R120). -/
def tailTaken (l : Lane) (s : State) : State := clearReservation l (setTailPin l true s)

@[simp] theorem tailTaken_keeps (l : Lane) (s : State) :
    (tailTaken l s).pending = s.pending ∧ (tailTaken l s).bus = s.bus ∧ (tailTaken l s).ctl = s.ctl ∧
      (tailTaken l s).bins = s.bins ∧ (tailTaken l s).crane = s.crane ∧ (tailTaken l s).est = s.est ∧
      (tailTaken l s).lanes.outStand = s.lanes.outStand ∧ (tailTaken l s).lanes.inStand = s.lanes.inStand ∧
      (tailTaken l s).port = s.port ∧ (tailTaken l s).auctions = s.auctions ∧ (tailTaken l s).fire = s.fire := by
  simp [tailTaken, clearReservation]

theorem tailTaken_pins : (tailTaken l s).pins = (setTailPin l true s).pins := by simp [tailTaken, clearReservation]

theorem tailTaken_seg : (tailTaken l s).seg l = { s.seg l with reservation := none, tailLimit := none } := by
  rw [tailTaken, clearReservation, State.seg_onSeg, setTailPin_seg]

theorem tailTaken_seg_other (h : k ≠ l) : (tailTaken l s).seg k = s.seg k := by
  rw [tailTaken, clearReservation, State.seg_onSeg_other h, setTailPin_seg]

theorem tailTaken_head (hpin : (s.pins.seg k).head = false) : ((tailTaken l s).pins.seg k).head = false := by
  rw [tailTaken_pins, setTailPin_head]
  exact hpin

theorem lane_other_ne (l : Lane) : l.other ≠ l := by
  cases l
  · decide
  · decide

theorem eq_other_of_ne (h : k ≠ l) : k = l.other := by
  revert h
  cases k <;> cases l <;> decide

/-- A tail stays quiet when a claim that waited for neither lane goes. -/
theorem tailQuiet_of (hquiet : TailQuiet l s) (hseg : (t.seg l).deferredUp = (s.seg l).deferredUp)
    (hother : (t.seg l.other).head = (s.seg l.other).head)
    (hout : t.lanes.outStand = s.lanes.outStand ∨ t.lanes.outStand = .empty)
    (hservice : t.port.service = s.port.service ∨ t.port.service = .empty) : TailQuiet l t := by
  obtain ⟨hwaits, hturn, hspace⟩ := hquiet
  obtain ⟨hstand, hserv⟩ : standClaims l s = false ∧ serviceClaims l s = false := by simpa [localWaits] using hwaits
  refine ⟨?_, by rw [hother]; exact hturn, by rw [hseg]; exact hspace⟩
  have hstand' : standClaims l t = false := by
    unfold standClaims at hstand ⊢
    rcases hout with h | h
    · rw [h]
      exact hstand
    · rw [h]
  have hserv' : serviceClaims l t = false := by
    unfold serviceClaims at hserv ⊢
    rcases hservice with h | h
    · rw [h]
      exact hserv
    · rw [h]
  simp [localWaits, hstand', hserv']

theorem tailTaken_quiet (hquiet : TailQuiet l s) : TailQuiet l (tailTaken l s) :=
  tailQuiet_of hquiet (by rw [tailTaken_seg]) (by rw [tailTaken_seg_other (lane_other_ne l)]) (.inl (by simp))
    (.inl (by simp))

/-- The carry records held once the reservation has gone. -/
theorem heldBins_tailTaken (hsegs : ∀ k, t.seg k = (tailTaken l s).seg k) (hout : t.lanes.outStand = u.lanes.outStand)
    (hin : t.lanes.inStand = u.lanes.inStand) (hport : t.port = u.port) (hcrane : t.crane = u.crane)
    (hplaces : ∀ k, (u.seg k).places = (s.seg k).places) (hother : (u.seg l.other).reservation = (s.seg l.other).reservation)
    (hreserved : reservationBins (u.seg l) = []) : heldBins t = heldBins u := by
  refine heldBins_congr (fun k => ?_) (fun k => ?_) hout hin hport hcrane
  · rw [hsegs, hplaces]
    rcases eq_or_ne k l with rfl | hne
    · rw [tailTaken_seg]
    · rw [tailTaken_seg_other hne]
  · rw [hsegs]
    rcases eq_or_ne k l with rfl | hne
    · rw [tailTaken_seg, hreserved]
      rfl
    · rw [tailTaken_seg_other hne, eq_other_of_ne hne, reservationBins, reservationBins, hother]

/-- The record of `l` that lands is the content `x`: its reservation is gone, and the other segment is as it was. -/
def Lands (l : Lane) (x : Content) (s t : State) : Prop :=
  t.seg l = { s.seg l with reservation := none, tailLimit := none, places := (s.seg l).places ++ [⟨x, 3⟩] } ∧
    t.seg l.other = s.seg l.other

theorem lands_withTail (hseg : t.seg l = ((tailTaken l s).seg l).withTail x)
    (hother : t.seg l.other = (tailTaken l s).seg l.other) : Lands l x s t := by
  rw [tailTaken_seg] at hseg
  rw [tailTaken_seg_other (lane_other_ne l)] at hother
  exact ⟨hseg, hother⟩

/-! ### The landings by their reservation (R120, R122, R128, R143) -/

theorem landReserved_through (hquiet : TailQuiet l s) (hpin : (s.pins.seg l).head = false) :
    landReserved l (.through .neighbour c) (setTailPin l true s) =
      placeLanded l c true (sendLanded l c.bin (tailTaken l s)) := by
  have hsettles := placeLanded_settles (c := c) (visits := true) (s := sendLanded l c.bin (tailTaken l s)) (l := l)
    (tailQuiet_of (tailTaken_quiet hquiet) (by simp) (by simp) (.inl (by simp)) (.inl (by simp)))
    (by simpa using tailTaken_head hpin)
  have hrun : landReserved l (.through .neighbour c) (setTailPin l true s) =
      actIdleHead l (openTail l (placeLanded l c true (sendLanded l c.bin (tailTaken l s)))) := rfl
  rw [hrun, hsettles.1, hsettles.2]

theorem landReserved_stand {k : Lane} (hquiet : TailQuiet l s) (hpin : (s.pins.seg l).head = false)
    (hstand : s.lanes.outStand = .entering c k) :
    landReserved l (.entry .outStand) (setTailPin l true s) =
      placeLanded l c false ((tailTaken l s).setOutStand .empty) := by
  have hsettles := placeLanded_settles (c := c) (visits := false) (s := (tailTaken l s).setOutStand .empty) (l := l)
    (tailQuiet_of (tailTaken_quiet hquiet) (by simp) (by simp) (.inr (by simp)) (.inl (by simp)))
    (by simpa using tailTaken_head hpin)
  have hrun : landReserved l (.entry .outStand) (setTailPin l true s) =
      actIdleHead l (openTail l (placeLanded l c false ((tailTaken l s).setOutStand .empty))) := by
    have houtStand : (tailTaken l s).lanes.outStand = .entering c k := by simpa using hstand
    have hcase : landReserved l (.entry .outStand) (setTailPin l true s) = match (tailTaken l s).lanes.outStand with
        | .entering c _ => actIdleHead l (openTail l (placeLanded l c false ((tailTaken l s).setOutStand .empty)))
        | _ => openTail l (tailTaken l s) := rfl
    rw [hcase, houtStand]
  rw [hrun, hsettles.1, hsettles.2]

theorem landReserved_service {k : Lane} (hquiet : TailQuiet l s) (hpin : (s.pins.seg l).head = false)
    (hservice : s.port.service = .entering c k) :
    landReserved l (.entry .service) (setTailPin l true s) =
      tryAdvance (placeLanded l c true ((tailTaken l s).setService .empty)) := by
  have hsettles := placeLanded_settles (c := c) (visits := true) (s := (tailTaken l s).setService .empty) (l := l)
    (tailQuiet_of (tailTaken_quiet hquiet) (by simp) (by simp) (.inl (by simp)) (.inr rfl))
    (by simpa using tailTaken_head hpin)
  have hrun : landReserved l (.entry .service) (setTailPin l true s) =
      tryAdvance (actIdleHead l (openTail l (placeLanded l c true ((tailTaken l s).setService .empty)))) := by
    have hport : (tailTaken l s).port.service = .entering c k := by simpa using hservice
    have hcase : landReserved l (.entry .service) (setTailPin l true s) = match (tailTaken l s).port.service with
        | .entering c _ =>
          tryAdvance (actIdleHead l (openTail l (placeLanded l c true ((tailTaken l s).setService .empty))))
        | _ => openTail l (tailTaken l s) := rfl
    rw [hcase, hport]
  rw [hrun, hsettles.1, hsettles.2]

/-- The turn head's record leaves at the landing, and both tails and heads stay as they are (R122). -/
theorem landReserved_turn {e : Carry} {pos : Nat} (hquiet : TailQuiet l s) (hpin : (s.pins.seg l).head = false)
    (hhead : (s.seg l.other).head = .moving) (hplaces : (s.seg l.other).places = ⟨.carrying e, pos⟩ :: more)
    (hbin : e.bin = c.bin) (hquiet' : TailQuiet l.other s) (hpin' : (s.pins.seg l.other).head = false) :
    landReserved l (.through .turn c) (setTailPin l true s) =
      placeLanded l c true (removeHead l.other (tailTaken l s)) := by
  have hother := tailTaken_seg_other (s := s) (lane_other_ne l)
  set y := removeHead l.other (tailTaken l s) with hy
  have hyl : y.seg l = (tailTaken l s).seg l := State.seg_other_onSeg l _ _
  have hyo : (y.seg l.other).head = .idle ∧ (y.seg l.other).deferredUp = (s.seg l.other).deferredUp := by
    rw [hy, removeHead, State.seg_onSeg, hother]
    exact ⟨rfl, rfl⟩
  have hwaits : ∀ k, localWaits k y = localWaits k s := fun k =>
    localWaits_congr (by simp [y]) (by simp [y])
  have hypins : y.pins = (setTailPin l true s).pins := by simp [y, tailTaken_pins]
  have hleaves : leaveTurn l.other c.bin (tailTaken l s) = y := by
    refine if_pos ⟨by rw [hother, hhead], ?_⟩
    unfold headCarry
    rw [hother, hplaces]
    exact congrArg some hbin
  have hyquiet : TailQuiet l y := by
    refine ⟨(hwaits l).trans hquiet.1, by rw [hyo.1]; decide, ?_⟩
    rw [hyl, tailTaken_seg]
    exact hquiet.2.2
  obtain ⟨hopen, hidle⟩ := placeLanded_settles (c := c) (visits := true) hyquiet
    (by rw [hypins, setTailPin_head]; exact hpin)
  set w := placeLanded l c true y with hw
  have hwl : (w.seg l).head = (s.seg l).head := by
    obtain ⟨x, hx⟩ := placeLanded_seg l c true y
    rw [hw, hx, Segment.withTail, hyl, tailTaken_seg]
  have hwo : w.seg l.other = y.seg l.other := placeLanded_seg_other (lane_other_ne l) c true y
  have hopen' : openTail l.other w = w := by
    refine openTail_of_quiet ⟨?_, ?_, ?_⟩
    · rw [← hquiet'.1, ← hwaits]
      exact localWaits_congr (by simp [w]) (by simp [w])
    · rw [Lane.other_other, hwl, ← Lane.other_other l]
      exact hquiet'.2.1
    · rw [hwo, hyo.2]
      exact hquiet'.2.2
  have hidle' : actIdleHead l.other w = w := by
    have hpins : w.pins = y.pins := by simp [w]
    exact actIdleHead_of_no_bin (by rw [hpins, hypins, setTailPin_head]; exact hpin')
  have hrun : landReserved l (.through .turn c) (setTailPin l true s) =
      actIdleHead l.other (actIdleHead l (openTail l.other (openTail l
        (placeLanded l c true (leaveTurn l.other c.bin (tailTaken l s)))))) := rfl
  rw [hrun, hleaves, ← hw, hopen, hopen', hidle, hidle']

/-- LANDED is queued for the upstream neighbour (R120). -/
theorem sendLanded_bus {bin : Nat} (hup : s.upstream l = some d) (hbus : s.bus.offBus = false)
    (hslot : s.bus.slots.freeSlot = some id) : (sendLanded l bin (tailTaken l s)).bus = { s.bus with
      slots := s.bus.slots.set id (.holds (newQueued (.landed l d bin) s.bus.order)), order := s.bus.order + 1 } := by
  have hup' : (tailTaken l s).upstream l = some d := by
    rw [← hup]
    unfold State.upstream State.num State.top
    simp
  unfold sendLanded
  rw [hup']
  dsimp only
  rw [queueFrame_of_free (by simpa using hbus) (by simpa using hslot)]
  simp [placeFrame, State.onBus]

/-- The carry records held as a through bin lands: all but the reservation's. -/
theorem heldBins_sendLanded {bin : Nat} : heldBins (sendLanded l bin (tailTaken l s)) =
    heldBins { s with lanes := (s.onSeg l fun g => { g with reservation := none }).lanes } := by
  have hseg : ∀ k, State.seg k { s with lanes := (s.onSeg l fun g => { g with reservation := none }).lanes } =
      (s.onSeg l fun g => { g with reservation := none }).seg k := fun k => seg_of_lanes_eq rfl k
  refine heldBins_tailTaken (l := l) (s := s) (fun k => by simp) (by simp) (by simp) (by simp) (by simp) (fun k => ?_) ?_ ?_
  · rw [hseg]
    rcases eq_or_ne k l with rfl | hne
    · rw [State.seg_onSeg]
    · rw [State.seg_onSeg_other hne]
  · rw [hseg, State.seg_onSeg_of_other]
  · rw [hseg, State.seg_onSeg]
    rfl

/-! ### The advance (R136) -/

theorem tryAdvance_of_not_holding (h : ∀ a, s.port.approach ≠ .holding a) : tryAdvance s = s := by
  unfold tryAdvance
  split
  next happroach _ => exact absurd happroach (h _)
  next => rfl

theorem tryAdvance_of_holding (happroach : s.port.approach = .holding c) (hservice : s.port.service = .empty)
    (hstation : s.ctl.station = .active) : tryAdvance s =
      s.onPort fun p => { p with service := .incoming, advanceLimit := some s.ctl.setup.handoffLimit } := by
  unfold tryAdvance
  rw [happroach, hservice]
  exact if_pos hstation

/-- A bin at the middle place of an empty segment is a stray (R111). -/
theorem placeReported_strays {was : Bool} (hplaces : (s.seg l).places = []) : placeReported l 2 was s = strayAt l 2 s := by
  refine (if_neg ?_).trans (if_neg ?_)
  · simp [hplaces, placeTaken]
  · rw [mayMoveTo_iff, hplaces]
    simp

/-- Settles O38, by the place of the record at the middle sensor, and by the reservation at the tail sensor. -/
theorem segmentSensorsAreTaken : Obligations.SegmentSensorsAreTaken := by
  refine ⟨fun s l hstation => ?_, fun s l hactive hcrane hshutter hbus hpin hquiet => ?_⟩
  · intro seen
    have hseg : (setMiddlePin l true s).seg l = s.seg l := setMiddlePin_seg true s
    refine ⟨exec_placeSensor_false hstation, fun htaken hstays => ?_,
      fun before x after hplaces hbefore hwas hcond hhead => ?_, fun x hplaces hcond hhead => ?_, fun hplaces hdoze => ?_,
      fun hplaces hdoze hasleep => ?_⟩
    · rw [exec_placeSensor_true hstation]
      refine congrArg _ (if_pos ?_)
      rw [hseg, htaken, Bool.true_and, Bool.or_eq_true, Bool.not_eq_true', ← Bool.not_eq_true, mayMoveTo_iff]
      rcases hstays with h | h | h | h
      · exact .inl h
      · exact .inr fun hmay => h hmay.1
      · exact .inr fun hmay => hmay.2.1 h
      · refine .inr fun ⟨_, _, p, hp, hpos⟩ => ?_
        have := h p hp
        omega
    · have hmay : mayMoveTo 2 ((setMiddlePin l true s).seg l) = true := by
        rw [mayMoveTo_iff, hseg, hplaces]
        exact ⟨hcond, hhead, ⟨x, 3⟩, by simp, Nat.lt_succ_self 2⟩
      rw [exec_placeSensor_true hstation, placeReported_moves hmay (.inl hwas)]
      refine ⟨_, rfl, onlySegment_trans (onlySegment_of_lanes (by simp)) (onlySegment_onSeg _ _), ?_,
        (onSeg_eq_lanes _ _).trans rfl⟩
      rw [State.seg_onSeg, hseg, hplaces, moveTo_append hbefore (Nat.lt_succ_self 2)]
    · have hmay : mayMoveTo 2 ((setMiddlePin l true s).seg l) = true := by
        rw [mayMoveTo_iff, hseg, hplaces]
        exact ⟨hcond, hhead, ⟨x, 3⟩, by simp, Nat.lt_succ_self 2⟩
      rw [exec_placeSensor_true hstation, placeReported_moves hmay (.inr (by rw [hseg, hplaces]; rfl))]
      refine ⟨_, rfl, onlySegment_trans (onlySegment_of_lanes (by simp)) (onlySegment_onSeg _ _), ?_,
        (onSeg_eq_lanes _ _).trans rfl⟩
      rw [State.seg_onSeg, hseg, hplaces]
      rfl
    · obtain ⟨honly, hleft, hstate⟩ := strayAt_of_none (s := setMiddlePin l true s) (l := l) (pos := 2)
        (by rw [hseg, hplaces]) hdoze
      rw [exec_placeSensor_true hstation, placeReported_strays (by rw [hseg, hplaces])]
      exact ⟨_, rfl, onlySegment_trans (onlySegment_of_lanes (by simp)) honly, by rw [hleft, hseg], hstate⟩
    · rw [exec_placeSensor_true hstation, placeReported_strays (by rw [hseg, hplaces])]
      have hroom : ((setMiddlePin l true s).seg l).places.length < 3 := by simp [hplaces]
      have hfound : strayAt l 2 (setMiddlePin l true s) = wakeCause _ := if_pos hroom
      rw [hfound]
      refine ⟨_, rfl, ?_, ?_⟩
      · rw [(wakeCause_starts (by simpa using hdoze) (by simpa using hasleep)).1]
        rfl
      · rw [(wakeCause_starts (by simpa using hdoze) (by simpa using hasleep)).1]
        rfl
  · have hstation : s.ctl.station ≠ .strapFault := by simp [hactive]
    have hexec : ∀ r, (s.seg l).reservation = some r →
        exec (.tailSensorReport l true) s = .next (landReserved l r (setTailPin l true s)) := by
      intro r hr
      rw [exec_tailSensor_true hstation, tailReported_lands (s := setTailPin l true s) hcrane hshutter (by simpa using hr)]
    intro seen lands
    refine ⟨fun c u id hr hup hfar hnew hslot => ?_, fun c k hr hstand hnew => ?_, ⟨fun c u id hr hup hhome hnew hslot => ?_,
      fun c u id hr hup hheld hslot => ?_, fun c k hr hservice hnew => ?_⟩,
      fun c d pos more hr hhead hplaces hbin hfar hquiet' hpin' hnew => ?_, fun hr hplaces => ?_,
      exec_tailSensor_false hstation⟩
    · set y := sendLanded l c.bin (tailTaken l s) with hy
      have hynum : y.num = s.num := by simp [State.num, y]
      have hrun := hexec _ hr
      rw [landReserved_through hquiet hpin, ← hy,
        placeLanded_of_passing (by rw [hy, heldBins_sendLanded]; exact hnew) (.inr (by rw [hynum]; exact hfar))] at hrun
      have hlands : Lands l (.carrying c) s (addAtTail l (.carrying c) y) :=
        lands_withTail ((addAtTail_seg _ y).trans (by simp [y]))
          ((addAtTail_seg_other (lane_other_ne l) _ y).trans (by simp [y]))
      refine ⟨_, hrun, hlands, ⟨hlands.2, by simp [y], by simp [y]⟩, ?_, ?_⟩
      · simp [hy, sendLanded_bus hup hbus hslot]
      · apply State.eq_of_blocks <;> simp [y, seen, tailTaken_pins, setTailPin, State.onPins]
    · set y := (tailTaken l s).setOutStand .empty with hy
      have hrun := hexec _ hr
      have hfreed : c.bin ∉ heldBins y := by
        rw [heldBins_tailTaken (l := l) (s := s) (u := s.setOutStand .empty) (fun k => by simp [y]) (by simp [y])
          (by simp [y]) (by simp [y]) (by simp [y]) (fun k => by simp) (by simp) (by simp [reservationBins, hr])]
        exact hnew
      rw [landReserved_stand hquiet hpin hstand, ← hy, placeLanded_of_passing hfreed (.inl rfl)] at hrun
      have hlands : Lands l (.carrying c) s (addAtTail l (.carrying c) y) :=
        lands_withTail ((addAtTail_seg _ y).trans (by simp [y]))
          ((addAtTail_seg_other (lane_other_ne l) _ y).trans (by simp [y]))
      refine ⟨_, hrun, hlands, by simp [addAtTail, y], by simp [addAtTail, y], ?_⟩
      apply State.eq_of_blocks <;> simp [y, seen, tailTaken_pins, setTailPin, State.onPins]
    · set y := sendLanded l c.bin (tailTaken l s) with hy
      have hynum : y.num = s.num := by simp [State.num, y]
      have hrun := hexec _ hr
      rw [landReserved_through hquiet hpin, ← hy] at hrun
      obtain ⟨hseg, hbins, hkept⟩ := placeLanded_of_home (l := l) (c := c) (s := y)
        (by rw [hy, heldBins_sendLanded]; exact hnew) (by rw [hynum]; exact hhome)
      obtain ⟨hvisit, htable⟩ := homeVisit_congr (t := y) (s := s) c (by simp [y]) (by simp [y])
      have hlands : Lands l (landedContent (homeVisit c s).1) s (placeLanded l c true y) := by
        refine lands_withTail (hseg.trans ?_) ((placeLanded_seg_other (lane_other_ne l) c true y).trans (by simp [y]))
        rw [hvisit]
        simp [y]
      have hqueued : HoldsFrame id (newQueued (.landed l u c.bin) s.bus.order) y := by
        refine ⟨?_, nofun⟩
        rw [hy, sendLanded_bus hup hbus hslot]
        exact Slots.get_set ..
      refine ⟨_, hrun, hlands, ⟨hlands.2, by simp [y], by simp [y]⟩, ?_, ?_, ?_⟩
      · exact (hkept _ _ hqueued).1.trans (Slots.get_set ..).symm
      · rw [hbins, htable]
      · apply State.eq_of_blocks <;> simp [y, seen, tailTaken_pins, setTailPin, State.onPins]
    · set y := sendLanded l c.bin (tailTaken l s) with hy
      have hrun := hexec _ hr
      rw [landReserved_through hquiet hpin, ← hy,
        placeLanded_of_held (by rw [hy, heldBins_sendLanded]; exact hheld)] at hrun
      have hlands : Lands l .stray s (strayAtTail l y) :=
        lands_withTail ((raise_seg _ _).trans ((addAtTail_seg _ y).trans (by simp [y])))
          ((raise_seg _ _).trans ((addAtTail_seg_other (lane_other_ne l) _ y).trans (by simp [y])))
      refine ⟨_, hrun, hlands, ⟨hlands.2, by simp [strayAtTail, y], by simp [strayAtTail, y]⟩, raise_of_lanes ?_⟩
      apply State.eq_of_blocks <;>
        simp [hy, seen, sendLanded_bus hup hbus hslot, tailTaken_pins, setTailPin, State.onPins]
    · set y := (tailTaken l s).setService .empty with hy
      have hynum : y.num = s.num := by simp [State.num, y]
      have hrun := hexec _ hr
      rw [landReserved_service hquiet hpin hservice, ← hy] at hrun
      have hfreed : c.bin ∉ heldBins y := by
        rw [heldBins_tailTaken (l := l) (s := s) (u := s.setService .empty) (fun k => by simp [y]) (by simp [y])
          (by simp [y]) (by simp [y, State.setService, State.onPort]) (by simp [y]) (fun k => by simp) (by simp)
          (by simp [reservationBins, hr])]
        exact hnew
      obtain ⟨hvisit, htable⟩ := homeVisit_congr (t := y) (s := s) c (by simp [y]) (by simp [y])
      set z := placeLanded l c true y with hz
      have hzport : z.port = { s.port with service := .empty } := by simp [z, y, State.setService, State.onPort]
      have hzseg : z.seg l = (y.seg l).withTail
          (if c.bin / 2048 = s.num then landedContent (homeVisit c s).1 else .carrying c) ∧
          z.bins = if c.bin / 2048 = s.num then (homeVisit c s).2.bins else s.bins := by
        by_cases hhome : c.bin / 2048 = s.num
        · obtain ⟨hseg, hbins, -⟩ := placeLanded_of_home (l := l) hfreed (by rw [hynum]; exact hhome)
          rw [if_pos hhome, if_pos hhome, hz, hseg, hbins, hvisit, htable]
          exact ⟨rfl, rfl⟩
        · rw [if_neg hhome, if_neg hhome, hz, placeLanded_of_passing hfreed (.inr (by rw [hynum]; exact hhome))]
          exact ⟨addAtTail_seg _ y, by simp [y]⟩
      have hlands : Lands l (if c.bin / 2048 = s.num then landedContent (homeVisit c s).1 else .carrying c) s (tryAdvance z) :=
        lands_withTail ((tryAdvance_seg z).trans (hzseg.1.trans (by simp [y])))
          ((tryAdvance_seg z).trans ((placeLanded_seg_other (lane_other_ne l) c true y).trans (by simp [y])))
      refine ⟨_, hrun, ⟨hlands.2, by simp [z, y], by simp [z, y]⟩, hlands, ?_, fun happroach => ?_, fun a happroach => ?_⟩
      · rw [← hzseg.2]
        simp
      · rw [tryAdvance_of_not_holding (by rw [hzport, happroach]; exact nofun), hzport]
      · have hsetup : z.ctl.setup = s.ctl.setup := by simp [z, y]
        have hadvanced : (tryAdvance z).port =
            { z.port with service := .incoming, advanceLimit := some z.ctl.setup.handoffLimit } := by
          rw [tryAdvance_of_holding (c := a) (by rw [hzport, happroach]) (by rw [hzport]) (by simpa [z, y] using hactive)]
          rfl
        rw [hadvanced, hzport, hsetup]
    · set y := removeHead l.other (tailTaken l s) with hy
      have hynum : y.num = s.num := by simp [State.num, y]
      have hyl : y.seg l = (tailTaken l s).seg l := State.seg_other_onSeg l _ _
      have hyo : y.seg l.other = { s.seg l.other with places := more, head := .idle, headLimit := none, retry := none } := by
        rw [hy, removeHead, State.seg_onSeg, tailTaken_seg_other (lane_other_ne l), hplaces]
        rfl
      have hrun := hexec _ hr
      rw [landReserved_turn hquiet hpin hhead hplaces hbin hquiet' hpin', ← hy,
        placeLanded_of_passing ?_ (.inr (by rw [hynum]; exact hfar))] at hrun
      · refine ⟨_, hrun, ?_, ?_, ?_, ?_, ?_⟩
        · rw [addAtTail_seg, hyl, tailTaken_seg]
          rfl
        · rw [addAtTail_seg_other (lane_other_ne l), hyo]
        · simp [addAtTail, y]
        · simp [addAtTail, y]
        · apply State.eq_of_blocks <;> simp [y, seen, tailTaken_pins, setTailPin, State.onPins]
      · set v : State := { s with lanes := ((s.onSeg l fun g => { g with reservation := none }).onSeg l.other
          fun g => { g with places := more }).lanes } with hv
        have hvseg : ∀ k, v.seg k = ((s.onSeg l fun g => { g with reservation := none }).onSeg l.other
          fun g => { g with places := more }).seg k := fun k => seg_of_lanes_eq rfl k
        have hvl : v.seg l = { s.seg l with reservation := none } := by
          rw [hvseg, State.seg_other_onSeg, State.seg_onSeg]
        have hvo : v.seg l.other = { s.seg l.other with places := more } := by
          rw [hvseg, State.seg_onSeg, State.seg_onSeg_of_other]
        rw [heldBins_congr (s := v) (fun k => ?_) (fun k => ?_) (by simp [y, v]) (by simp [y, v]) (by simp [y, v])
          (by simp [y, v])]
        · exact hnew
        · rcases eq_or_ne k l with rfl | hne
          · rw [hyl, hvl, tailTaken_seg]
          · rw [eq_other_of_ne hne, hyo, hvo]
        · rcases eq_or_ne k l with rfl | hne
          · rw [hyl, hvl, tailTaken_seg]
            rfl
          · rw [eq_other_of_ne hne, hyo, hvo]
            rfl
    · obtain ⟨honly, hleft, hstate⟩ := strayAt_of_none (s := setTailPin l true s) (l := l) (pos := 3)
        (by rw [setTailPin_seg, hplaces]) (by simp [hactive])
      have hfound : tailReported l (s.pins.seg l).tail (setTailPin l true s) = strayAt l 3 (setTailPin l true s) := by
        unfold tailReported
        rw [setTailPin_seg, hr, hplaces]
        exact if_neg (by simp [placeTaken])
      rw [exec_tailSensor_true hstation, hfound]
      exact ⟨_, rfl, onlySegment_trans (onlySegment_of_lanes (by simp)) honly, by rw [hleft, setTailPin_seg], hstate⟩

end Sys2Proof.Machine
end

section
/-! PROOF. The obligation on the limits of the ring and the port (R121, R125, R128, R138, R143). -/

namespace Sys2Proof.Machine

-- Checked one after another: the host bounds the memory of all threads together.
set_option Elab.async false

open Sys2Proof Sys2Proof.Safety

variable {s t u : State} {id : SlotId} {l k : Lane} {c : Carry} {p : PlaceRec} {more : List PlaceRec} {bin : Nat}
  {x : DivertTarget} {pos : Nat}

/-- A notice on a state that has another's Bus Interface and Station Control (R19). -/
theorem raise_eq_with {n : Notice} (hbus : t.bus = s.bus) (hctl : t.ctl = s.ctl) :
    raise n t = { t with bus := (raise n s).bus, ctl := (raise n s).ctl } := by
  obtain ⟨hbus', hctl'⟩ := raise_congr (n := n) hbus hctl
  apply State.eq_of_blocks <;> simp [hbus', hctl']

/-! ### JAM (R61, R121) -/

theorem idIsOwn_congr (h : t.ctl.straps = s.ctl.straps) : idIsOwn t bin ↔ idIsOwn s bin := by
  unfold idIsOwn State.num
  rw [h]

/-- A JAM queued for a bin that is not an own one (R61, R121). -/
theorem broadcastJam_of_not_own (hbus : s.bus.offBus = false) (hslot : s.bus.slots.freeSlot = some id)
    (hown : ¬ idIsOwn s bin) : broadcastJam l bin s = placeFrame id (.jam l bin) s := by
  have hqueued : queueFrame (.jam l bin) s = placeFrame id (.jam l bin) s := queueFrame_of_free hbus hslot
  unfold broadcastJam
  rw [hqueued]
  refine if_neg fun h => hown ?_
  exact (idIsOwn_congr (by simp)).1 ((classify_eq_own_iff bin).1 h.1)

/-- A JAM of an own bin that is OUT (R61). -/
theorem broadcastJam_of_out (hwf : BinsWf s) (hown : idIsOwn s bin) (hout : (binAt (bin % 2048) s).state = .out) :
    binAt (bin % 2048) (broadcastJam l bin s) = { binAt (bin % 2048) s with state := .lost } := by
  set v := queueFrame (.jam l bin) s with hv
  have hbins : v.bins = s.bins := by simp [v]
  have hread : binAt (bin % 2048) v = binAt (bin % 2048) s := by rw [binAt, hbins, binAt]
  have hmark : broadcastJam l bin s =
      raise (.lost bin 1) (putBin (bin % 2048) { binAt (bin % 2048) v with state := .lost } v) := by
    refine if_pos ⟨(classify_eq_own_iff bin).2 ((idIsOwn_congr (by simp)).2 hown), ?_⟩
    rw [← hout]
    exact congrArg BinRec.state hread
  have htable : (broadcastJam l bin s).bins = (putBin (bin % 2048) { binAt (bin % 2048) v with state := .lost } v).bins := by
    rw [hmark]
    simp
  rw [binAt, htable, ← hread]
  exact binAt_putBin (by rwa [BinsWf, hbins]) _ _

/-! ### A head whose limit has expired (R121, R125) -/

/-- The bin of a head whose limit has expired still shows (R121, R125). -/
theorem headTimeout_jams (hplaces : (s.seg l).places = ⟨.carrying c, pos⟩ :: more) (hpin : (s.pins.seg l).head = true) :
    headTimeout l s = raise (.jam c.bin l)
      (s.onSeg l fun g => { g with head := .jammed, headLimit := none, retry := none }) := by
  have hcarry : headCarry l s = some c := by
    unfold headCarry
    rw [hplaces]
  unfold headTimeout
  rw [hcarry]
  exact if_pos hpin

/-- The bin of a head whose limit has expired has gone, and nothing follows at a quiet tail (R121). -/
theorem headTimeout_loses (hplaces : (s.seg l).places = [⟨.carrying c, pos⟩]) (hpin : (s.pins.seg l).head = false)
    (hquiet : TailQuiet l s) : headTimeout l s = broadcastJam l c.bin (removeHead l s) := by
  set v := broadcastJam l c.bin (removeHead l s) with hv
  have hcarry : headCarry l s = some c := by
    unfold headCarry
    rw [hplaces]
  have hvl : (v.seg l).places = [] ∧ (v.seg l).deferredUp = (s.seg l).deferredUp := by
    rw [hv, broadcastJam_seg, removeHead, State.seg_onSeg, hplaces]
    exact ⟨rfl, rfl⟩
  have hvo : v.seg l.other = s.seg l.other := by
    rw [hv, broadcastJam_seg, removeHead, State.seg_onSeg_of_other]
  have hopen : openTail l v = v :=
    openTail_of_quiet (tailQuiet_of hquiet hvl.2 (by rw [hvo]) (.inl (by simp [v])) (.inl (by simp [v])))
  have hsensor : ¬ s.headSensor l = true := by
    have h : s.headSensor l = false := hpin
    simp [h]
  unfold headTimeout
  rw [hcarry]
  refine (if_neg hsensor).trans ?_
  rw [← hv, hopen, actIdleHead_of_no_records hvl.1]

/-- A tail whose reservation has gone opens to nothing where it is quiet (R114, R121). -/
theorem openTail_clearReservation (hquiet : TailQuiet l s) :
    openTail l (clearReservation l s) = clearReservation l s := by
  refine openTail_of_quiet (tailQuiet_of hquiet ?_ ?_ (.inl (by simp)) (.inl (by simp)))
  · rw [clearReservation, State.seg_onSeg]
  · rw [clearReservation, State.seg_onSeg_of_other]

/-! ### A divert that has run out of time (R125) -/

theorem headTakesUp_of_no_carry (h : headCarry l s = none) : headTakesUp l x s = s :=
  if_neg (by simp [wantsTarget, h])

/-- A head that is neither waiting nor offering does not take up a target (R123). -/
theorem headTakesUp_of_busy (h : (s.seg l).head ≠ .idle ∧ (s.seg l).head ≠ .deferred ∧ (s.seg l).head ≠ .offering) :
    headTakesUp l x s = s := by
  have hkept : abortOffer l s = s := if_neg h.2.2
  have hready : ¬ headReady l s = true := fun hr => by
    rcases (headReady_iff.1 hr).2.2.1 with hi | hd
    · exact h.1 hi
    · exact h.2.1 hd
  unfold headTakesUp actHead
  rw [hkept, if_neg hready]
  exact ite_self s

theorem targetFreed_of_still (h : ∀ k, headTakesUp k x s = s) : targetFreed x s = s := by
  unfold targetFreed
  rw [h, h]

theorem headCarry_congr (h : t.seg l = s.seg l) : headCarry l t = headCarry l s := by
  unfold headCarry
  rw [h]

/-- The inbound stand that a divert had claimed is EMPTY again (R125). -/
theorem emptyInStand_of_diverting (hhead : (s.seg l).head = .diverting .inStand) (hother : headCarry l.other s = none) :
    emptyInStand s = (s.setInStand .empty).onCrane fun k => { k with continuity := 0 } := by
  set v := (s.setInStand .empty).onCrane fun k => { k with continuity := 0 } with hv
  have hseg : ∀ k, v.seg k = s.seg k := fun k => by simp [v]
  refine targetFreed_of_still (s := v) fun k => ?_
  rcases eq_or_ne k l with rfl | hne
  · refine headTakesUp_of_busy ?_
    rw [hseg, hhead]
    exact ⟨nofun, nofun, nofun⟩
  · rw [eq_other_of_ne hne]
    exact headTakesUp_of_no_carry ((headCarry_congr (hseg _)).trans hother)

/-- Settles O39, limit by limit. -/
theorem ringLimitsExpire : Obligations.RingLimitsExpire := by
  refine ⟨fun s l c pos hactive hshutter hbus hquiet => ⟨fun hhead hlimit hplaces => ?_, fun src hr hlimit => ?_⟩,
    fun s l c hactive hcrane => ⟨fun pos hhead hlimit hplaces hstand hpin hother => ?_,
      fun hr hlimit hstand hpin hquiet => ?_, fun hr hlimit hservice hpin hquiet => ?_,
      fun hservice hlimit happroach hpin => ?_⟩⟩
  · have hexec : exec (.handoffLimitExpiry l) s = .next (headTimeout l s) := by
      have hrun : exec (.handoffLimitExpiry l) s = .next (shutterTakeUp (headTimeout l s)) := congrArg _ (if_pos ⟨hlimit, hhead⟩)
      rw [hrun, shutterTakeUp_of_none (by simpa using hshutter)]
    refine ⟨fun hpin => ?_, fun hpin id hslot hown => ?_, fun hpin hwf hown hout => ?_⟩
    · rw [headTimeout_jams hplaces hpin] at hexec
      refine ⟨_, hexec, ⟨?_, by simp, by simp⟩, ?_, raise_of_lanes (onSeg_eq_lanes _ s)⟩
      · rw [raise_seg, State.seg_onSeg_of_other]
      · rw [raise_seg, State.seg_onSeg]
    · rw [headTimeout_loses hplaces hpin hquiet, broadcastJam_of_not_own (id := id) (by simpa using hbus) (by simpa using hslot)
        fun h => hown ((idIsOwn_congr (by simp)).1 h)] at hexec
      have hlanes : (placeFrame id (.jam l c.bin) (removeHead l s)).lanes = (removeHead l s).lanes := by simp
      refine ⟨_, hexec, ?_, ?_, ?_, ?_⟩
      · exact onlySegment_trans (onlySegment_onSeg _ s) (onlySegment_of_lanes hlanes)
      · rw [seg_of_lanes_eq hlanes, removeHead, State.seg_onSeg, hplaces]
        rfl
      · simp [placeFrame, State.onBus]
      · apply State.eq_of_blocks <;> simp
    · rw [headTimeout_loses hplaces hpin hquiet] at hexec
      have hbins : (removeHead l s).bins = s.bins := by simp
      have hread : binAt (c.bin % 2048) (removeHead l s) = binAt (c.bin % 2048) s := by rw [binAt, hbins, binAt]
      refine ⟨_, hexec, ?_, ?_⟩
      · rw [broadcastJam_of_out (by rwa [BinsWf, hbins]) ((idIsOwn_congr (by simp)).2 hown) (by rw [hread]; exact hout), hread]
      · rw [broadcastJam_seg, removeHead, State.seg_onSeg, hplaces]
        rfl
  · have hthrough : throughStands (s.seg l) = true := by simp [throughStands, hr]
    have hrun : exec (.reservationLimitExpiry l) s = .next (shutterTakeUp (openTail l (clearReservation l s))) :=
      congrArg _ (if_pos ⟨hlimit, hthrough⟩)
    rw [openTail_clearReservation hquiet, shutterTakeUp_of_none (by simpa using hshutter)] at hrun
    exact ⟨_, hrun, onlySegment_onSeg _ s, State.seg_onSeg .., onSeg_eq_lanes _ s⟩
  · obtain ⟨n, hn⟩ := Option.isSome_iff_exists.1 hlimit
    set v := (s.setInStand .empty).onCrane fun k => { k with continuity := 0 } with hv
    have hseg : ∀ k, v.seg k = s.seg k := fun k => by simp [v]
    have hreleased : releaseTarget .inStand s = v := by
      refine (if_pos hstand).trans ?_
      rw [emptyInStand_of_diverting hhead hother, ← hv]
      exact dispatch_of_not_idle hcrane
    have hexec : exec (.divertLimitExpiry l) s = .next (headTimeout l (releaseTarget .inStand s)) := by
      have hrun : execDivertLimitExpiry l s = .next (headTimeout l (releaseTarget .inStand s)) := by
        unfold execDivertLimitExpiry
        rw [hhead, hn]
      exact hrun
    rw [hreleased, headTimeout_jams (s := v) (by rw [hseg]; exact hplaces) hpin] at hexec
    refine ⟨_, hexec, ?_, ?_, ?_, ?_, ?_⟩
    · simp [v]
    · simp [v]
    · rw [raise_seg, State.seg_onSeg, hseg]
    · rw [raise_seg, State.seg_onSeg_of_other, hseg]
    · rw [raise_eq_with (s := s) (by simp [v]) (by simp [v])]
      apply State.eq_of_blocks <;> simp [v]
  · obtain ⟨n, hn⟩ := Option.isSome_iff_exists.1 hlimit
    set v := clearReservation l s with hv
    have hexec : exec (.entryLimitExpiry l) s = .next (standEntryTimedOut l (openTail l v)) := by
      have hrun : execEntryLimitExpiry l s = .next (standEntryTimedOut l (openTail l v)) := by
        unfold execEntryLimitExpiry
        rw [hr, hn]
      exact hrun
    have hout : standEntryTimedOut l v = raise (.stray 7) (v.setOutStand .stray) := by
      have hvstand : v.lanes.outStand = .entering c l := by simpa [v] using hstand
      have hvpin : v.pins.outStand = true := by simpa [v] using hpin
      unfold standEntryTimedOut
      rw [hvstand]
      exact if_pos hvpin
    rw [hv, openTail_clearReservation hquiet, ← hv, hout] at hexec
    refine ⟨_, hexec, ?_, ?_, ?_, ?_, raise_of_lanes ?_⟩
    · simp
    · simp [v]
    · rw [raise_seg, State.setOutStand_seg, hv, clearReservation, State.seg_onSeg]
    · rw [raise_seg, State.setOutStand_seg, hv, clearReservation, State.seg_onSeg_of_other]
    · apply State.eq_of_blocks <;> simp [v]
  · obtain ⟨n, hn⟩ := Option.isSome_iff_exists.1 hlimit
    set v := clearReservation l s with hv
    have hexec : exec (.entryLimitExpiry l) s = .next (serviceEntryTimedOut l (openTail l v)) := by
      have hrun : execEntryLimitExpiry l s = .next (serviceEntryTimedOut l (openTail l v)) := by
        unfold execEntryLimitExpiry
        rw [hr, hn]
      exact hrun
    have hout : serviceEntryTimedOut l v = raise (.stray 10) (v.setService .stray) := by
      have hvservice : v.port.service = .entering c l := by simpa [v] using hservice
      have hvpin : v.pins.service = true := by simpa [v] using hpin
      unfold serviceEntryTimedOut
      rw [hvservice]
      exact if_pos hvpin
    rw [hv, openTail_clearReservation hquiet, ← hv, hout] at hexec
    refine ⟨_, hexec, ⟨?_, by simp [v], by simp [v]⟩, ?_, ?_⟩
    · rw [raise_seg, hv]
      simp [clearReservation]
    · rw [raise_seg, hv]
      simp [clearReservation]
    · rw [raise_eq_with (s := s) (by simp [v]) (by simp [v])]
      apply State.eq_of_blocks <;> simp [v, State.setService, State.onPort]
  · set v := s.onPort fun p => { p with service := .empty, advanceLimit := none } with hv
    have hexec : exec .advanceLimitExpiry s = .next (advanceTimedOut s) := congrArg _ (if_pos ⟨hlimit, hservice⟩)
    have hout : advanceTimedOut s = raise (.stray 9) (v.setApproach .stray) := by
      have hvpin : v.pins.approach = true := hpin
      have hcase : advanceTimedOut s = match v.port.approach with
          | .holding c =>
            if v.pins.approach then raise (.stray 9) (v.setApproach .stray) else emptyApproach (broadcastJam .outLane c.bin v)
          | _ => v := rfl
      rw [hcase, show v.port.approach = .holding c from happroach]
      exact if_pos hvpin
    rw [hexec, hout]
    rw [raise_eq_with (s := s) (t := v.setApproach .stray) rfl rfl]
    refine congrArg _ ?_
    apply State.eq_of_blocks <;> simp [v, State.setApproach, State.onPort]

end Sys2Proof.Machine
end

section
/-! PROOF. The obligation on the sensors of the stands and the port places (R126, R128, R135 to R137, R146, R147). -/

namespace Sys2Proof.Machine

-- Checked one after another: the host bounds the memory of all threads together.
set_option Elab.async false

open Sys2Proof Sys2Proof.Safety

variable {s t u : State} {id : SlotId} {l k : Lane} {c : Carry} {p : PlaceRec} {more : List PlaceRec} {bin : Nat}
  {x : DivertTarget} {pos : Nat}

/-! ### Bins found and bins lifted off (R126, R128) -/

/-- The merge counters return to 0 with the last local claim (R116). -/
def mergesSettled (s : State) : State := settleMerge .backLane (settleMerge .outLane s)

theorem mergesSettled_places : (mergesSettled s).lanes.outSeg.places = s.lanes.outSeg.places ∧
    (mergesSettled s).lanes.backSeg.places = s.lanes.backSeg.places := by
  have hsettle : ∀ (l k : Lane) (t : State), ((settleMerge l t).seg k).places = (t.seg k).places := by
    intro l k t
    unfold settleMerge
    split
    · rfl
    · rcases eq_or_ne k l with rfl | hne
      · rw [State.seg_onSeg]
      · rw [State.seg_onSeg_other hne]
  exact ⟨(hsettle .backLane .outLane _).trans (hsettle .outLane .outLane s),
    (hsettle .backLane .backLane _).trans (hsettle .outLane .backLane s)⟩

@[simp] theorem mergesSettled_keeps (s : State) :
    (mergesSettled s).pending = s.pending ∧ (mergesSettled s).pins = s.pins ∧ (mergesSettled s).bus = s.bus ∧
      (mergesSettled s).ctl = s.ctl ∧ (mergesSettled s).bins = s.bins ∧ (mergesSettled s).crane = s.crane ∧
      (mergesSettled s).est = s.est ∧ (mergesSettled s).lanes.outStand = s.lanes.outStand ∧
      (mergesSettled s).lanes.inStand = s.lanes.inStand ∧ (mergesSettled s).port = s.port ∧
      (mergesSettled s).auctions = s.auctions ∧ (mergesSettled s).fire = s.fire := by
  simp [mergesSettled]

/-- The sensor of the outbound stand, as read (R128). -/
def outStandSeen (b : Bool) (s : State) : State := s.onPins fun p => { p with outStand := b }

/-- The sensor of the inbound stand, as read (R126). -/
def inStandSeen (b : Bool) (s : State) : State := s.onPins fun p => { p with inStand := b }

theorem exec_outStand_true (hstation : s.ctl.station ≠ .strapFault) :
    exec (.outboundStandSensor true) s = .next (outStandFound (outStandSeen true s)) := congrArg _ (if_neg hstation)

theorem exec_outStand_false (hstation : s.ctl.station ≠ .strapFault) :
    exec (.outboundStandSensor false) s = .next (outStandLifted (outStandSeen false s)) := congrArg _ (if_neg hstation)

theorem exec_inStand_true (hstation : s.ctl.station ≠ .strapFault) :
    exec (.inboundStandSensor true) s = .next (inStandFound (inStandSeen true s)) := congrArg _ (if_neg hstation)

theorem outStandFound_of_empty (hdoze : s.ctl.station ≠ .doze) (hstand : s.lanes.outStand = .empty) :
    outStandFound s = raise (.stray 7) (s.setOutStand .stray) :=
  (if_pos hstand).trans (wakeCause_of_not_doze (by simpa using hdoze))

theorem inStandFound_of_empty (hdoze : s.ctl.station ≠ .doze) (hstand : s.lanes.inStand = .empty) :
    inStandFound s = raise (.stray 8) (s.setInStand .stray) := by
  unfold inStandFound
  rw [hstand]
  exact wakeCause_of_not_doze (by simpa using hdoze)

theorem outStandLifted_of_holding {o : Option Lane} (hcrane : s.crane.state ≠ .idle) (hstand : s.lanes.outStand = .holding c o) :
    outStandLifted s = broadcastJam .outLane c.bin (mergesSettled (s.setOutStand .empty)) := by
  unfold outStandLifted
  rw [hstand]
  exact dispatch_of_not_idle (by simpa [mergesSettled] using hcrane)

/-- The last record of a quiet segment leaves for its divert target (R125). -/
theorem divertLeaves_last (hplaces : (s.seg l).places = [p]) (hquiet : TailQuiet l s) :
    divertLeaves l s = s.onSeg l fun g => { g with places := [], head := .idle, headLimit := none, retry := none } := by
  have hremoved : removeHead l s =
      s.onSeg l fun g => { g with places := [], head := .idle, headLimit := none, retry := none } :=
    onSeg_congr (by rw [hplaces]; rfl)
  have hopen : openTail l (removeHead l s) = removeHead l s := by
    refine openTail_of_quiet (tailQuiet_of hquiet ?_ ?_ (.inl (by simp)) (.inl (by simp)))
    · rw [removeHead, State.seg_onSeg]
    · rw [removeHead, State.seg_onSeg_of_other]
  unfold divertLeaves
  rw [hopen, hremoved]
  exact actIdleHead_of_no_records (by rw [State.seg_onSeg])

/-- A STORE is asked of a pool that has room for it (R69, R76). -/
theorem askStore_of_room (hpool : s.crane.pool.length < 32) : askStore bin s = s.onCrane fun k => { k with
    pool := k.pool ++ [{ storeJob bin with stamp := s.est.time, est := estOf s.ctl.setup (storeJob bin) }]
    storeWanted := false } := by
  have hoffer : offerJob (storeJob bin) s = (.entered, enterJob (storeJob bin) s) := by
    have hadmits : poolAdmits (storeJob bin).kind s = true := decide_eq_true hpool
    exact if_pos hadmits
  unfold askStore
  rw [hoffer]
  rfl

/-! ### The port (R135 to R137, R146) -/

theorem withPort_fitted {f : State → State} (hstation : s.ctl.station ≠ .strapFault) (hport : s.ctl.straps.port = true) :
    withPort f s = f s := (if_neg hstation).trans (if_pos hport)

theorem emptyApproach_of_no_heads (hout : headCarry .outLane s = none) (hback : headCarry .backLane s = none) :
    emptyApproach s = s.setApproach .empty := by
  refine targetFreed_of_still fun k => headTakesUp_of_no_carry ?_
  cases k
  · exact hout
  · exact hback

/-- A divert into the inbound stand that ends at the last record of a quiet segment asks a STORE (R125, R126). -/
theorem divertToStand_last (hhead : s.lanes.outSeg.head = .diverting .inStand)
    (hplaces : s.lanes.outSeg.places = [⟨.carrying c, pos⟩]) (hquiet : TailQuiet .outLane s)
    (hpool : s.crane.pool.length < 32) (hcrane : s.crane.state ≠ .idle) :
    divertToStand s = (((s.setInStand (.holding c)).onSeg .outLane fun g =>
      { g with places := [], head := .idle, headLimit := none, retry := none }).onCrane fun k => { k with
        pool := k.pool ++ [{ storeJob c.bin with stamp := s.est.time, est := estOf s.ctl.setup (storeJob c.bin) }]
        storeWanted := false }) := by
  have hlane : divertingLane .inStand s = some .outLane := if_pos hhead
  have hcarry : headCarry .outLane s = some c := by
    unfold headCarry
    rw [show (s.seg .outLane).places = _ from hplaces]
  unfold divertToStand
  rw [hlane]
  dsimp only
  rw [hcarry]
  dsimp only
  rw [divertLeaves_last (l := .outLane) (s := s.setInStand (.holding c)) hplaces hquiet, askStore_of_room (by simpa using hpool)]
  exact dispatch_of_not_idle (by simpa using hcrane)

/-- A divert into APPROACH that ends at the last record of a quiet segment begins its advance (R135, R136). -/
theorem divertToApproach_last (hstation : s.ctl.station = .active) (hhead : s.lanes.outSeg.head = .diverting .approach)
    (hplaces : s.lanes.outSeg.places = [⟨.carrying c, pos⟩]) (hquiet : TailQuiet .outLane s)
    (hservice : s.port.service = .empty) :
    divertToApproach s = (((s.setApproach (.holding c)).onSeg .outLane fun g =>
      { g with places := [], head := .idle, headLimit := none, retry := none }).onPort fun p => { p with
        service := .incoming, advanceLimit := some s.ctl.setup.handoffLimit }) := by
  have hlane : divertingLane .approach s = some .outLane := by
    have h : s.lanes.outSeg.head = .diverting .approach := hhead
    exact if_pos h
  have hcarry : headCarry .outLane s = some c := by
    unfold headCarry
    rw [show (s.seg .outLane).places = _ from hplaces]
  unfold divertToApproach
  rw [hlane]
  dsimp only
  rw [hcarry]
  dsimp only
  rw [divertLeaves_last (l := .outLane) (s := s.setApproach (.holding c)) hplaces hquiet]
  exact tryAdvance_of_holding (c := c) rfl hservice hstation

/-- The sensor of APPROACH, as read (R135). -/
def approachSeen (b : Bool) (s : State) : State := s.onPins fun p => { p with approach := b }

/-- The sensor of SERVICE, as read (R137). -/
def serviceSeen (b : Bool) (s : State) : State := s.onPins fun p => { p with service := b }

/-- Settles O40, sensor by sensor. -/
theorem standAndPortSensorsAreTaken : Obligations.StandAndPortSensorsAreTaken := by
  refine ⟨fun s hactive hcrane hbus => ⟨fun hstand => ?_, fun hstand => ?_, fun c k id hstand hown hslot => ?_,
      fun c pos hstand hhead hplaces hpool hquiet => ?_⟩, fun s hactive hport => ?_, fun s hactive hport hbus => ?_⟩
  · rw [exec_outStand_true (by simp [hactive]), outStandFound_of_empty (s := outStandSeen true s)
      (by simp [outStandSeen, hactive]) hstand, raise_eq_with (s := outStandSeen true s) (t := (outStandSeen true s).setOutStand .stray) rfl rfl]
    refine congrArg _ ?_
    apply State.eq_of_blocks <;> simp [outStandSeen, State.onPins, State.setOutStand, State.onLanes]
  · rw [exec_inStand_true (by simp [hactive]), inStandFound_of_empty (s := inStandSeen true s)
      (by simp [inStandSeen, hactive]) hstand, raise_eq_with (s := inStandSeen true s) (t := (inStandSeen true s).setInStand .stray) rfl rfl]
    refine congrArg _ ?_
    apply State.eq_of_blocks <;> simp [inStandSeen, State.onPins, State.setInStand, State.onLanes]
  · set v := mergesSettled ((outStandSeen false s).setOutStand .empty) with hv
    have hexec : exec (.outboundStandSensor false) s = .next (placeFrame id (.jam .outLane c.bin) v) := by
      rw [exec_outStand_false (by simp [hactive]), outStandLifted_of_holding (s := outStandSeen false s) hcrane hstand,
        ← hv, broadcastJam_of_not_own (by simpa [v, outStandSeen] using hbus) (by simpa [v, outStandSeen] using hslot)]
      rwa [idIsOwn_congr (s := s) (by simp [v, outStandSeen])]
    have hplaces := mergesSettled_places (s := (outStandSeen false s).setOutStand .empty)
    rw [← hv] at hplaces
    obtain ⟨hout, hback⟩ := hplaces
    refine ⟨_, hexec, ?_, ?_, ?_, ?_, ?_, ?_⟩
    · simp [v]
    · simp [v, outStandSeen]
    · simpa [outStandSeen] using hout
    · simpa [outStandSeen] using hback
    · simp [v, placeFrame, outStandSeen]
    · apply State.eq_of_blocks <;> simp [v, outStandSeen, State.onPins]
  · set v := inStandSeen true s with hv
    have hexec : exec (.inboundStandSensor true) s = .next (divertToStand v) := by
      rw [exec_inStand_true (by simp [hactive]), ← hv, inStandFound, show v.lanes.inStand = _ from hstand]
    rw [divertToStand_last (s := v) hhead hplaces hquiet hpool hcrane] at hexec
    refine ⟨_, hexec, ?_, ?_, ?_, ?_, ?_, ?_⟩
    · simp
    · rfl
    · rfl
    · rfl
    · rfl
    · apply State.eq_of_blocks <;> simp [v, inStandSeen, State.onPins]
  · intro seen
    have hexec : ∀ b, exec (.approachSensor b) s =
        .next (if b then approachFound (approachSeen b s) else approachLifted (approachSeen b s)) := fun b =>
      congrArg _ (withPort_fitted (by simp [hactive]) hport)
    refine ⟨fun c pos happroach hhead hplaces hservice hquiet => ?_, fun happroach => ?_, fun happroach hout hback => ?_⟩
    · have hfound : approachFound (approachSeen true s) = divertToApproach (approachSeen true s) := by
        rw [approachFound, show (approachSeen true s).port.approach = _ from happroach]
      rw [divertToApproach_last (s := approachSeen true s) hactive hhead hplaces hquiet hservice] at hfound
      refine ⟨_, (hexec true).trans (congrArg _ hfound), rfl, rfl, ?_⟩
      apply State.eq_of_blocks <;> simp [seen, approachSeen, State.onPins]
    · have hfound : approachFound (approachSeen true s) =
          raise (.stray 9) ((approachSeen true s).setApproach .stray) := by
        rw [approachFound, show (approachSeen true s).port.approach = _ from happroach]
        exact wakeCause_of_not_doze (by simp [approachSeen, hactive])
      refine (hexec true).trans (congrArg _ (hfound.trans ?_))
      rw [raise_eq_with (s := approachSeen true s) (t := (approachSeen true s).setApproach .stray) rfl rfl]
      apply State.eq_of_blocks <;> simp [seen, approachSeen, State.onPins, State.setApproach, State.onPort]
    · have hlifted : approachLifted (approachSeen false s) = (approachSeen false s).setApproach .empty := by
        rw [approachLifted, show (approachSeen false s).port.approach = _ from happroach]
        exact emptyApproach_of_no_heads hout hback
      exact (hexec false).trans (congrArg _ hlifted)
  · intro seen
    have hexec : ∀ b, exec (.serviceSensor b) s =
        .next (if b then serviceFound (serviceSeen b s) else serviceLifted (serviceSeen b s)) := fun b =>
      congrArg _ (withPort_fitted (by simp [hactive]) hport)
    refine ⟨fun c hservice happroach hkind hout hback => ?_, fun hservice => ?_,
      fun c id hservice hown happroach hslot => ?_⟩
    · set v := (serviceSeen true s).onPort fun p =>
        { approach := .empty, service := .presented c, advanceLimit := none } with hv
      have hfound : serviceFound (serviceSeen true s) = raise (.arrived c.bin c.tag) v := by
        have hends : serviceFound (serviceSeen true s) = advanceEnds (serviceSeen true s) := by
          rw [serviceFound, show (serviceSeen true s).port.service = _ from hservice]
        rw [hends, advanceEnds, show (serviceSeen true s).port.approach = _ from happroach]
        dsimp only
        rw [hkind]
        dsimp only
        rw [emptyApproach_of_no_heads (s := (serviceSeen true s).onPort fun p => { p with advanceLimit := none })
          hout hback]
        rfl
      refine ⟨_, (hexec true).trans (congrArg _ hfound), ?_, ?_⟩
      · simp [lampLit, v, serviceSeen, hactive]
      · rw [raise_eq_with (s := serviceSeen true s) (t := v) rfl rfl]
        apply State.eq_of_blocks <;> simp [v, seen, serviceSeen, State.onPins, State.onPort]
    · have hfound : serviceFound (serviceSeen true s) =
          raise (.stray 10) ((serviceSeen true s).setService .stray) := by
        rw [serviceFound, show (serviceSeen true s).port.service = _ from hservice]
        exact wakeCause_of_not_doze (by simp [serviceSeen, hactive])
      refine (hexec true).trans (congrArg _ (hfound.trans ?_))
      rw [raise_eq_with (s := serviceSeen true s) (t := (serviceSeen true s).setService .stray) rfl rfl]
      apply State.eq_of_blocks <;> simp [seen, serviceSeen, State.onPins, State.setService, State.onPort]
    · set v := mergesSettled ((serviceSeen false s).setService .empty) with hv
      have hlifted : serviceLifted (serviceSeen false s) = placeFrame id (.jam .outLane c.bin) v := by
        have htaken : serviceLifted (serviceSeen false s) = tryAdvance (broadcastJam .outLane c.bin v) := by
          rw [serviceLifted, show (serviceSeen false s).port.service = _ from hservice]
          rfl
        rw [htaken, broadcastJam_of_not_own (by simpa [v, serviceSeen] using hbus) (by simpa [v, serviceSeen] using hslot)
          (by rwa [idIsOwn_congr (s := s) (by simp [v, serviceSeen])])]
        exact tryAdvance_of_not_holding (by simp [v, serviceSeen, happroach])
      have hplaces := mergesSettled_places (s := (serviceSeen false s).setService .empty)
      rw [← hv] at hplaces
      obtain ⟨houtPlaces, hbackPlaces⟩ := hplaces
      refine ⟨_, (hexec false).trans (congrArg _ hlifted), ?_, ?_, ?_, ?_, ?_, ?_⟩
      · simp [lampLit, v, serviceSeen]
      · simp [v, serviceSeen, State.setService, State.onPort]
      · simpa [serviceSeen] using houtPlaces
      · simpa [serviceSeen] using hbackPlaces
      · simp [v, placeFrame, serviceSeen]
      · apply State.eq_of_blocks <;> simp [v, seen, serviceSeen, State.onPins]

end Sys2Proof.Machine
end

section
/-! PROOF. The obligation on RELEASE and the button (R139 to R142). -/

namespace Sys2Proof.Machine

-- Checked one after another: the host bounds the memory of all threads together.
set_option Elab.async false

open Sys2Proof Sys2Proof.Safety

variable {s t u : State} {id : SlotId} {r : RxRecord} {rest : List RxRecord} {l : Lane} {c : Carry} {bin : Nat}
  {delta : Int}

/-- A local claim of SERVICE that is granted has it ENTERING (R143). -/
theorem grantLocal_service {o : Option Lane} (h : s.port.service = .released c o) :
    (grantLocal l .service s).port.service = .entering c l := by
  unfold grantLocal
  dsimp only
  rw [show (State.onSeg l _ s).port.service = .released c o by simpa using h]
  rfl

/-- A bin released with the station on the bus has claimed an exit, or leaves at once (R143). -/
theorem releaseService_claims (hbus : s.bus.offBus = false) :
    ∃ l, (releaseService c s).port.service = .released c (some l) ∨
      (releaseService c s).port.service = .entering c l := by
  refine ⟨claimLane c.dest s, ?_⟩
  unfold releaseService
  rw [if_neg (by simp [hbus])]
  dsimp only
  split
  · exact .inr (grantLocal_service rfl)
  · exact .inl rfl

/-- A bin that has been released is turned round, and nothing outside the lanes and the port changes (R140, R143). -/
theorem releaseService_leaves (hbus : s.bus.offBus = false) :
    LeavesService c delta s (releaseService (releasedCarry delta c) s) ∧
      releaseService (releasedCarry delta c) s =
        { s with
          lanes := (releaseService (releasedCarry delta c) s).lanes
          port := (releaseService (releasedCarry delta c) s).port } := by
  obtain ⟨l, hclaims⟩ := releaseService_claims (c := releasedCarry delta c) hbus
  refine ⟨⟨⟨l, hclaims⟩, by simp, ?_⟩, ?_⟩
  · unfold lampLit
    rcases hclaims with h | h <;> rw [h]
  · apply State.eq_of_blocks <;> simp

theorem presented_of (h : s.port.service = .presented c) : presented s = some c := by
  rw [presented, h]

theorem presented_of_not (h : ∀ c, s.port.service ≠ .presented c) : presented s = none := by
  unfold presented
  split
  next c hc => exact absurd hc (h c)
  next => rfl

/-- A press with no bin PRESENTED does nothing (R141). -/
theorem pressed_of_not (h : ∀ c, s.port.service ≠ .presented c) : pressed s = s := by
  rw [pressed, presented_of_not h]

/-- The delta of a RELEASE is clamped exactly where it is out of range (R139). -/
theorem releaseClamped_eq (raw : Int) : releaseClamped raw = decide (raw < -15 ∨ 15 < raw) := by
  unfold releaseClamped
  rw [Bool.decide_or]

/-- What a RELEASE does at a station with a port, the bin named being PRESENTED (R140). -/
theorem releaseBody_named (hport : s.ctl.straps.port = true) (hservice : s.port.service = .presented c)
    (hbin : c.bin = wordAt r.payload 0) : releaseBody r s =
      (releaseDone (releaseClamped (signedAt r.payload 2)) c (clampInt (-15) 15 (signedAt r.payload 2)),
        releaseService (releasedCarry (clampInt (-15) 15 (signedAt r.payload 2)) c) s) := by
  unfold releaseBody
  rw [if_neg (by simp [hport]), presented_of hservice]
  exact if_pos hbin

/-- A RELEASE of any other bin releases nothing (R139). -/
theorem releaseBody_missed (hport : s.ctl.straps.port = true)
    (hnot : ∀ c, s.port.service = .presented c → c.bin ≠ wordAt r.payload 0) : releaseBody r s =
      (releaseMissed .unknownBin (releaseClamped (signedAt r.payload 2)) (wordAt r.payload 0) s, s) := by
  unfold releaseBody
  rw [if_neg (by simp [hport])]
  by_cases h : ∃ c, s.port.service = .presented c
  · obtain ⟨c, hc⟩ := h
    rw [presented_of hc]
    exact if_neg (hnot c hc)
  · rw [presented_of_not fun c hc => h ⟨c, hc⟩]

/-- A RELEASE that releases nothing is only answered, UNKNOWN-BIN with the state of SERVICE (R139). -/
theorem release_missed (htakes : Takes s id r rest) (hkind : r.kind = .release)
    (hadmit : refusal r.kind s.ctl.station = none) (hport : s.ctl.straps.port = true)
    (hnot : ∀ c, s.port.service = .presented c → c.bin ≠ wordAt r.payload 0) :
    ∃ t, exec .release s = .next t ∧
      Replies t id rest { plainReply .release .unknownBin (wordAt r.payload 0) with
        clampMark := decide (signedAt r.payload 2 < -15 ∨ 15 < signedAt r.payload 2), d3 := s.port.service.code } ∧
      t = { s with bus := t.bus } := by
  have ⟨_, _, hsender, _⟩ := htakes
  obtain ⟨hreplies, hstate, -⟩ := serve_answers (p := isKind .release) htakes (by simp [isKind, hkind]) hadmit
    (releaseBody_missed (s := beginTake id r rest s) hport hnot)
  rw [Answer.toReply_eq _ hsender, hkind] at hreplies
  refine ⟨_, rfl, ?_, hstate⟩
  rw [← releaseClamped_eq]
  simpa [releaseMissed, Answer.plain, plainReply, hport] using hreplies

/-- Settles O42, by the bin at SERVICE. -/
theorem releaseTurnsTheBinRound : Obligations.ReleaseTurnsTheBinRound := by
  refine ⟨fun s id r rest htakes hkind hjoining hbus => ?_, fun s hstation => ⟨fun hport hbutton hbus c hservice => ?_,
    fun hport hservice hbutton => ?_, fun hbutton => ?_, fun hport => ?_, fun hport => ?_⟩⟩
  · intro bin raw clamped within
    have ⟨_, _, hsender, _⟩ := htakes
    have hp : isKind .release r = true := by simp [isKind, hkind]
    have hadmit : refusal r.kind s.ctl.station = none := by
      rw [hkind]
      cases hst : s.ctl.station
      case joining => exact absurd hst hjoining
      all_goals rfl
    refine ⟨fun hport => ?_, fun hport c hservice => ⟨fun hbin => ?_, fun hbin => ?_⟩, fun hport hservice => ?_⟩
    · have hbody : releaseBody r (beginTake id r rest s) =
          (releaseMissed .unsupported false bin (beginTake id r rest s), beginTake id r rest s) :=
        if_pos (by simp [hport])
      obtain ⟨hreplies, hstate, -⟩ := serve_answers (p := isKind .release) htakes hp hadmit hbody
      rw [Answer.toReply_eq _ hsender, hkind] at hreplies
      exact ⟨_, rfl, by simpa [releaseMissed, Answer.plain, plainReply, hport] using hreplies, hstate⟩
    · set w := beginTake id r rest s with hw
      have hbody := releaseBody_named (s := w) (r := r) hport hservice hbin
      obtain ⟨hleaves, hframe⟩ := releaseService_leaves (s := w) (c := c) (delta := within raw) hbus
      obtain ⟨hreplies, hstate⟩ := serve_carriesOut (p := isKind .release) htakes hp hadmit hbody (by simp [w])
      rw [Answer.toReply_eq _ hsender, hkind] at hreplies
      refine ⟨_, _, rfl, ?_, hreplies, fun h => ?_, fun h => ?_, hbin, rfl, rfl, rfl, rfl, ?_⟩
      · rw [hstate]
        exact hleaves
      · have hmark : releaseClamped (signedAt r.payload 2) = true := (releaseClamped_eq raw).trans (decide_eq_true h)
        simp [releaseDone, hmark, Answer.plain]
      · have hmark : releaseClamped (signedAt r.payload 2) = false := (releaseClamped_eq raw).trans (decide_eq_false h)
        simp [releaseDone, hmark, Answer.plain]
      · rw [hstate]
        apply State.eq_of_blocks <;> simp [w]
    · obtain ⟨t, hexec, hreplies, hstate⟩ := release_missed htakes hkind hadmit hport fun d hd => by
        cases hservice.symm.trans hd
        exact hbin
      rw [hservice] at hreplies
      exact ⟨t, hexec, hreplies, hstate⟩
    · exact release_missed htakes hkind hadmit hport fun d hd => absurd hd (hservice d)
  · set v := s.onPins fun p => { p with button := true } with hv
    have hexec : exec .releaseButtonPress s = .next (releaseService (releasedCarry 0 c) v) := by
      have hpressed : pressed v = releaseService (releasedCarry 0 c) v := by
        rw [pressed, presented_of (s := v) hservice]
      have hrun : exec .releaseButtonPress s = .next (if s.pins.button then s else pressed v) :=
        congrArg _ (withPort_fitted hstation hport)
      rw [hrun, if_neg (by simp [hbutton]), hpressed]
    obtain ⟨hleaves, hframe⟩ := releaseService_leaves (s := v) (c := c) (delta := 0) hbus
    refine ⟨_, hexec, hleaves, by simp [v], ?_⟩
    apply State.eq_of_blocks <;> simp [v]
  · have hrun : exec .releaseButtonPress s =
        .next (if s.pins.button then s else pressed (s.onPins fun p => { p with button := true })) :=
      congrArg _ (withPort_fitted hstation hport)
    rw [hrun, if_neg (by simp [hbutton]), pressed_of_not (by simpa using hservice)]
    rfl
  · refine congrArg _ ((if_neg hstation).trans ?_)
    by_cases hport : s.ctl.straps.port = true
    · exact (if_pos hport).trans (if_pos hbutton)
    · exact if_neg hport
  · exact congrArg _ (withPort_fitted hstation hport)
  · have hbare : ∀ f, withPort f s = s := fun f => (if_neg hstation).trans (if_neg (by simp [hport]))
    exact ⟨congrArg _ (hbare _), congrArg _ (hbare _)⟩

end Sys2Proof.Machine
end

section
/-! PROOF. The obligation on lost arbitrations, transmit errors and the entry to off-bus (R7 to R10, R31, R158, R164). -/

namespace Sys2Proof.Machine

-- Checked one after another: the host bounds the memory of all threads together.
set_option Elab.async false

open Sys2Proof Sys2Proof.Safety

variable {s t u v w : State} {id k : SlotId} {q : Queued} {l : Lane} {tag : Nat}

/-! ### A frame that is unstarted again (R7, R31) -/

theorem unerrored_eq (h : q.errored = false) :
    ({ q with started := false, errored := false } : Queued) = { q with started := false } := by
  rw [← h]

/-- A slot that no claim waits for is free when its frame leaves it (R6). -/
theorem freeSlotThen_of_no_claims (hid : id ≠ .s0) (hclaims : s.bus.claims = []) (hnotices : s.ctl.notices = [])
    (hrx : s.bus.rx = []) : freeSlotThen id s = setSlot id .free s := by
  set v := setSlot id .free s with hv
  have hnone : grantSlot id v = v := by
    have hempty : waitingClaims v = [] := by
      simp [waitingClaims, v, setSlot, State.onBus, hclaims, hnotices, hrx]
    unfold grantSlot
    rw [hempty]
    rfl
  cases id
  · exact absurd rfl hid
  · exact hnone
  · exact hnone
  · exact hnone

/-- The only element that meets a predicate is the one found. -/
theorem find_of_only {α : Type} {p : α → Bool} {xs : List α} {x : α} (hmem : x ∈ xs) (hp : p x = true)
    (honly : ∀ y ∈ xs, p y = true → y = x) : xs.find? p = some x := by
  cases h : xs.find? p with
  | none => exact absurd hp (List.find?_eq_none.1 h x hmem)
  | some y => rw [honly y (List.mem_of_find?_eq_some h) (List.find?_some h)]

/-- A frame that is unstarted again beside no other JOIN only waits (R7, R8). -/
theorem unstart_alone (herrored : q.errored = false) (halone : isJoin q.frame = true → NoOtherJoin id s) :
    unstart id q s = setSlot id (.holds { q with started := false }) s := by
  unfold unstart
  rw [unerrored_eq herrored]
  dsimp only
  by_cases hjoin : isJoin q.frame = true
  · obtain ⟨hclaims, hslots⟩ := halone hjoin
    rw [if_pos hjoin]
    set v := setSlot id (.holds { q with started := false }) s with hv
    have hany : (v.bus.claims.any fun c => isJoin c.frame) = false := by simpa [v, setSlot] using hclaims
    have hfresh : freshJoinSlot id v = none := by
      refine List.find?_eq_none.2 fun k _ => ?_
      by_cases hk : k = id
      · simp [hk]
      · have hget : v.bus.slots.get k = s.bus.slots.get k := Slots.get_set_other hk _ _
        rw [hget]
        cases hslot : s.bus.slots.get k with
        | free => simp
        | granted => simp
        | holds p =>
          cases hp : p.started with
          | true => simp [hp]
          | false => simp [hslots k p hk hslot hp]
    unfold mergeJoins
    dsimp only
    rw [if_neg (by simp [hany]), hfresh]
  · rw [if_neg hjoin]

/-- Of two JOINs that have not started, the one unstarted again is brought up to date and the fresh one goes (R31). -/
theorem unstart_beside_join {p : Queued} (hjoin : isJoin q.frame = true) (hk : k ≠ id) (hs0 : k ≠ .s0)
    (hclaims : s.bus.claims = []) (hnotices : s.ctl.notices = []) (hrx : s.bus.rx = [])
    (hslot : s.bus.slots.get k = .holds p) (hstarted : p.started = false) (hfresh : isJoin p.frame = true)
    (honly : ∀ m p, s.bus.slots.get m = .holds p → isJoin p.frame = true → m = id ∨ m = k) :
    unstart id q s = setSlot k .free
      (setSlot id (.holds { q with frame := .join (joinBody s), started := false, errored := false }) s) := by
  unfold unstart
  dsimp only
  rw [if_pos hjoin]
  set v := setSlot id (.holds { q with started := false, errored := false }) s with hv
  have hfind : freshJoinSlot id v = some k := by
    have hnear : ∀ m, m ≠ id → v.bus.slots.get m = s.bus.slots.get m := fun m hm => Slots.get_set_other hm _ _
    refine find_of_only (by cases k <;> decide) (by simp [hk, hnear k hk, hslot, hstarted, hfresh]) fun m _ hm => ?_
    obtain ⟨hne, hm⟩ := Bool.and_eq_true_iff.1 hm
    have hne : m ≠ id := of_decide_eq_true hne
    rw [hnear m hne] at hm
    split at hm
    next p hget => exact (honly m p hget (Bool.and_eq_true_iff.1 hm).1).resolve_left hne
    next => cases hm
  unfold mergeJoins
  dsimp only
  rw [if_neg (by simp [v, setSlot, hclaims]), hfind]
  dsimp only
  have hset : setSlot id (.holds { q with frame := .join (joinBody v), started := false, errored := false }) v =
      setSlot id (.holds { q with frame := .join (joinBody s), started := false, errored := false }) s := by
    rw [hv]
    cases id <;> rfl
  rw [hset]
  exact freeSlotThen_of_no_claims hs0 hclaims hnotices hrx

/-! ### The entry to off-bus (R9, R164) -/

/-- What the entry to off-bus after the failure of slot `id` leaves of the Bus Interface, and what it does not touch. -/
def GoneOffBus (id : SlotId) (s t : State) : Prop :=
  (t.bus.offBus = true ∧ t.bus.failures = s.bus.failures ∧ t.bus.rx = [] ∧ t.bus.claims = [] ∧
      t.bus.firePending = none ∧ t.ctl.notices = [] ∧ t.ctl.record.offBusEvent = true) ∧
    ((∀ k, k ≠ id → t.bus.slots.get k = .free) ∧
      ∃ q, t.bus.slots.get id = .holds q ∧ q.started = true ∧ q.errored = true) ∧
    t.pins = s.pins ∧ t.est = s.est ∧ t.fire = s.fire ∧ t.ctl.station = s.ctl.station ∧ t.ctl.setup = s.ctl.setup

/-- No auction record is left to bid or bidding (R164). -/
def NoneBidding (s : State) : Prop := ∀ r ∈ s.auctions.records, r.phase ≠ .scanning ∧ r.phase ≠ .bidding

theorem goneOffBus_congr (h : GoneOffBus id s t) (hbus : u.bus = t.bus) (hctl : u.ctl = t.ctl) (hpins : u.pins = t.pins)
    (hest : u.est = t.est) (hfire : u.fire = t.fire) : GoneOffBus id s u := by
  unfold GoneOffBus
  rw [hbus, hctl, hpins, hest, hfire]
  exact h

theorem setPendingKind_goneOffBus {n : Nat} (h : GoneOffBus id s t) : GoneOffBus id s (setPendingKind n t) := by
  obtain ⟨⟨hoff, hfailures, hrx, hclaims, hfire, hnotices, hevent⟩, ⟨hfree, q, hslot, hstarted, herrored⟩, hrest⟩ := h
  refine ⟨⟨hoff, hfailures, hrx, hclaims, hfire, hnotices, hevent⟩, ⟨fun k hk => ?_, ?_⟩, hrest⟩
  · simp only [setPendingKind, State.onBus_bus, State.onCtl_bus, Slots.get_mapFrames, hfree k hk, Slot.mapFrame]
  · simp only [setPendingKind, State.onBus_bus, State.onCtl_bus, Slots.get_mapFrames, hslot, Slot.mapFrame]
    refine ⟨_, rfl, ?_, ?_⟩
    · split <;> exact hstarted
    · split <;> exact herrored

theorem raise_goneOffBus {n : Notice} (h : GoneOffBus id s t) : GoneOffBus id s (raise n t) := by
  have hoff : t.bus.offBus = true := h.1.1
  unfold raise
  rw [if_pos (by simp [hoff])]
  exact setPendingKind_goneOffBus h

/-- A head that decides off-bus queues nothing (R117, R122). -/
theorem passOn_goneOffBus {c : Carry} (h : GoneOffBus id s t) : GoneOffBus id s (passOn l c t) := by
  have hoff : t.bus.offBus = true := h.1.1
  have hmute : ∀ d, mayOffer d t = false := fun d => by simp [mayOffer, hoff]
  unfold passOn
  split
  · rw [if_pos hoff]
    exact goneOffBus_congr h (by simp) (by simp) (by simp) (by simp) (by simp)
  next d _ =>
    rw [if_neg (by simp [hmute d])]
    exact goneOffBus_congr h (by simp) (by simp) (by simp) (by simp) (by simp)

theorem actHead_goneOffBus (h : GoneOffBus id s t) : GoneOffBus id s (actHead l t) := by
  unfold actHead
  split
  next =>
    unfold decideHead
    split
    next => exact h
    next =>
      split
      next => exact h
      next =>
        split
        next => exact raise_goneOffBus (goneOffBus_congr h (by simp) (by simp) (by simp) (by simp) (by simp))
        next =>
          split
          next => exact goneOffBus_congr h (by simp) (by simp) (by simp) (by simp) (by simp)
          next => exact passOn_goneOffBus h
  next => exact h

/-- A BID returned ABORTED leaves no record bidding that was not. -/
theorem bidAborted_noneBidding (h : NoneBidding t) : NoneBidding (bidAborted tag t) := by
  have hlost : NoneBidding (onAuction tag (fun r => { r with phase := .lost, bidReturned := true }) t) := by
    intro r hr
    obtain ⟨a, ha, rfl⟩ := List.mem_map.1 hr
    dsimp only
    split
    · exact ⟨nofun, nofun⟩
    · exact h a ha
  unfold bidAborted
  split
  next => exact h
  next =>
    split
    · split
      · exact hlost
      · exact hlost
    · exact h

/-- The outcome ABORTED off-bus, frame by frame (R9). -/
theorem deliverOutcome_aborted {f : Frame} (h : GoneOffBus id s t) (hbids : NoneBidding t) :
    GoneOffBus id s (deliverOutcome f .aborted t) ∧ NoneBidding (deliverOutcome f .aborted t) := by
  cases f with
  | fire => exact ⟨h, hbids⟩
  | pass l d c =>
    have hout : deliverOutcome (.pass l d c) .aborted t =
        if (t.seg l).head = .offering then actHead l (setHead l .idle t) else t := rfl
    rw [hout]
    split
    · exact ⟨actHead_goneOffBus (goneOffBus_congr h (by simp) (by simp) (by simp) (by simp) (by simp)), by simpa [NoneBidding] using hbids⟩
    · exact ⟨h, hbids⟩
  | space => exact ⟨h, hbids⟩
  | landed => exact ⟨h, hbids⟩
  | jam => exact ⟨h, hbids⟩
  | bid tag v =>
    exact ⟨goneOffBus_congr h (by simp [deliverOutcome]) (by simp [deliverOutcome]) (by simp [deliverOutcome])
      (by simp [deliverOutcome]) (by simp [deliverOutcome]), bidAborted_noneBidding hbids⟩
  | join => exact ⟨h, hbids⟩
  | reply => exact ⟨h, hbids⟩
  | notice n => exact ⟨setPendingKind_goneOffBus h, hbids⟩

/-- The outcomes ABORTED of all the frames returned at the entry (R9). -/
theorem deliverAborted_goneOffBus (fs : List Frame) (h : GoneOffBus id s t) (hbids : NoneBidding t) :
    GoneOffBus id s (fs.foldl (fun t f => deliverOutcome f .aborted t) t) ∧
      NoneBidding (fs.foldl (fun t f => deliverOutcome f .aborted t) t) := by
  induction fs generalizing t with
  | nil => exact ⟨h, hbids⟩
  | cons f fs ih =>
    obtain ⟨hgone, hnone⟩ := deliverOutcome_aborted (f := f) h hbids
    exact ih hgone hnone

/-! ### The auction records at the entry (R164) -/

@[simp] theorem auctionOffBus_keeps (s : State) (tag : Nat) :
    (auctionOffBus s tag).pins = s.pins ∧ (auctionOffBus s tag).bus = s.bus ∧ (auctionOffBus s tag).ctl = s.ctl ∧
      (auctionOffBus s tag).est = s.est ∧ (auctionOffBus s tag).fire = s.fire := by
  unfold auctionOffBus
  split
  next => exact ⟨rfl, rfl, rfl, rfl, rfl⟩
  next =>
    split
    next => exact ⟨rfl, rfl, rfl, rfl, rfl⟩
    next =>
      dsimp only
      split
      · exact ⟨rfl, rfl, rfl, rfl, rfl⟩
      · exact ⟨rfl, rfl, rfl, rfl, rfl⟩
    next => exact ⟨rfl, rfl, rfl, rfl, rfl⟩

/-- The record of a room tag, of which there is but one, is settled at the entry; every other stays (R164). -/
theorem auctionOffBus_settles {r : Auction} (huniq : (s.auctions.records.map Auction.roomTag).Nodup)
    (hr : r ∈ (auctionOffBus s tag).auctions.records) :
    (r ∈ s.auctions.records ∧ r.roomTag ≠ tag) ∨ (r.phase ≠ .scanning ∧ r.phase ≠ .bidding) := by
  have hkept : auctionOf tag s = none → (r ∈ s.auctions.records → r.roomTag ≠ tag) := fun h hmem =>
    auctionOf_eq_none_iff.1 h r hmem
  have hone : ∀ a, auctionOf tag s = some a → r ∈ s.auctions.records → r.roomTag = tag → r = a := fun a ha hmem htag =>
    List.inj_on_of_nodup_map huniq hmem (List.mem_of_find?_eq_some ha) (htag.trans (auctionOf_roomTag ha).symm)
  have hlost : ∀ t : State, r ∈ t.auctions.records →
      t.auctions = (onAuction tag (fun r => { r with phase := .lost }) s).auctions →
      (r ∈ s.auctions.records ∧ r.roomTag ≠ tag) ∨ (r.phase ≠ .scanning ∧ r.phase ≠ .bidding) := by
    intro t hmem heq
    rw [heq] at hmem
    obtain ⟨a, ha, rfl⟩ := List.mem_map.1 hmem
    by_cases htag : a.roomTag = tag
    · rw [if_pos htag]
      exact .inr ⟨nofun, nofun⟩
    · rw [if_neg htag]
      exact .inl ⟨ha, htag⟩
  unfold auctionOffBus at hr
  split at hr
  next hnone => exact .inl ⟨hr, hkept hnone hr⟩
  next a ha =>
    split at hr
    next => exact hlost _ hr rfl
    next =>
      dsimp only at hr
      split at hr
      · exact hlost _ hr (by simp)
      · exact hlost _ hr rfl
    next hscan hbid =>
      by_cases htag : r.roomTag = tag
      · rw [hone a ha hr htag]
        exact .inr ⟨hscan, hbid⟩
      · exact .inl ⟨hr, htag⟩

theorem auctionOffBus_roomTags : (auctionOffBus s tag).auctions.records.map Auction.roomTag =
    s.auctions.records.map Auction.roomTag := by
  have hlost : (onAuction tag (fun r => { r with phase := .lost }) s).auctions.records.map Auction.roomTag =
      s.auctions.records.map Auction.roomTag := by
    simp only [onAuction, State.onAuctions_auctions, List.map_map]
    exact List.map_congr_left fun r _ => by dsimp only [Function.comp_apply]; split <;> rfl
  unfold auctionOffBus
  split
  next => rfl
  next =>
    split
    next => exact hlost
    next =>
      dsimp only
      split
      · exact hlost
      · exact hlost
    next => rfl

/-- The entry settles the records of the room tags it goes through (R164). -/
theorem auctionsOffBus_settle {r : Auction} (tags : List Nat) (huniq : (s.auctions.records.map Auction.roomTag).Nodup)
    (hr : r ∈ (tags.foldl auctionOffBus s).auctions.records) :
    (r ∈ s.auctions.records ∧ r.roomTag ∉ tags) ∨ (r.phase ≠ .scanning ∧ r.phase ≠ .bidding) := by
  induction tags generalizing s with
  | nil => exact .inl ⟨hr, List.not_mem_nil⟩
  | cons tag tags ih =>
    rcases ih (s := auctionOffBus s tag) (by rwa [auctionOffBus_roomTags]) hr with ⟨hmem, htags⟩ | hover
    · rcases auctionOffBus_settles huniq hmem with ⟨hmem, htag⟩ | hover
      · exact .inl ⟨hmem, by simp [htag, htags]⟩
      · exact .inr hover
    · exact .inr hover

theorem auctionsOffBus_keep (tags : List Nat) :
    (tags.foldl auctionOffBus s).pins = s.pins ∧ (tags.foldl auctionOffBus s).bus = s.bus ∧
      (tags.foldl auctionOffBus s).ctl = s.ctl ∧ (tags.foldl auctionOffBus s).est = s.est ∧
      (tags.foldl auctionOffBus s).fire = s.fire := by
  induction tags generalizing s with
  | nil => exact ⟨rfl, rfl, rfl, rfl, rfl⟩
  | cons tag tags ih =>
    have h := ih (s := auctionOffBus s tag)
    simpa using h

@[simp] theorem dropLocalClaims_keeps (s : State) :
    (dropLocalClaims s).pins = s.pins ∧ (dropLocalClaims s).bus = s.bus ∧ (dropLocalClaims s).ctl = s.ctl ∧
      (dropLocalClaims s).est = s.est ∧ (dropLocalClaims s).auctions = s.auctions ∧
      (dropLocalClaims s).fire = s.fire := by
  unfold dropLocalClaims
  extract_lets v w
  have hv : v.pins = s.pins ∧ v.bus = s.bus ∧ v.ctl = s.ctl ∧ v.est = s.est ∧ v.auctions = s.auctions ∧
      v.fire = s.fire := by
    unfold v
    split
    · exact ⟨rfl, rfl, rfl, rfl, rfl, rfl⟩
    · exact ⟨rfl, rfl, rfl, rfl, rfl, rfl⟩
  have hw : w.pins = v.pins ∧ w.bus = v.bus ∧ w.ctl = v.ctl ∧ w.est = v.est ∧ w.auctions = v.auctions ∧
      w.fire = v.fire := by
    unfold w
    split
    · exact ⟨rfl, rfl, rfl, rfl, rfl, rfl⟩
    · exact ⟨rfl, rfl, rfl, rfl, rfl, rfl⟩
  simp [hv, hw]

theorem Slots.get_atOffBus (id : SlotId) (x : Slots) :
    Slots.get id { s0 := x.s0.atOffBus, s1 := x.s1.atOffBus, s2 := x.s2.atOffBus, s3 := x.s3.atOffBus } =
      (x.get id).atOffBus := by
  cases id <;> rfl

/-- A slot whose frame has not started is free at the entry (R9). -/
theorem Slot.atOffBus_of_unstarted {x : Slot} (h : ∀ q, x = .holds q → q.started = false) : x.atOffBus = .free := by
  cases x with
  | free => rfl
  | granted => rfl
  | holds q => exact if_neg (by simp [h q rfl])

/-- The entry to off-bus with the failed frame of slot `id` still in its slot (R9, R164). -/
theorem enterOffBus_goneOffBus (hslot : s.bus.slots.get id = .holds q) (hstarted : q.started = true)
    (herrored : q.errored = true) (hothers : ∀ k p, k ≠ id → s.bus.slots.get k = .holds p → p.started = false)
    (huniq : (s.auctions.records.map Auction.roomTag).Nodup) :
    GoneOffBus id s (enterOffBus s) ∧ NoneBidding (enterOffBus s) := by
  unfold enterOffBus
  extract_lets gone s₁ s₂ s₃ s₄
  have hkeeps := auctionsOffBus_keep (s := dropLocalClaims s₃) (s₃.auctions.records.map Auction.roomTag)
  obtain ⟨hpins, hbus, hctl, hest, hfire⟩ := hkeeps
  have hgone₃ : GoneOffBus id s s₃ := by
    refine ⟨⟨rfl, rfl, rfl, rfl, rfl, rfl, rfl⟩, ⟨fun k hk => ?_, q, ?_, hstarted, herrored⟩, rfl, rfl, rfl, rfl, rfl⟩
    · exact (Slots.get_atOffBus k s.bus.slots).trans (Slot.atOffBus_of_unstarted fun p hp => hothers k p hk hp)
    · refine (Slots.get_atOffBus id s.bus.slots).trans ?_
      rw [hslot]
      exact if_pos hstarted
  have hgone₄ : GoneOffBus id s s₄ :=
    goneOffBus_congr hgone₃ (hbus.trans (by simp)) (hctl.trans (by simp)) (hpins.trans (by simp)) (hest.trans (by simp))
      (hfire.trans (by simp))
  have hnone₄ : NoneBidding s₄ := by
    intro r hr
    have hsame : (dropLocalClaims s₃).auctions = s.auctions := by simp [s₃, s₂, s₁]
    rcases auctionsOffBus_settle _ (by rw [hsame]; exact huniq) hr with ⟨hmem, hnot⟩ | hover
    · rw [hsame] at hmem
      exact absurd (List.mem_map_of_mem hmem) hnot
    · exact hover
  exact deliverAborted_goneOffBus gone hgone₄ hnone₄

/-- Lost arbitration with no abort waiting (R7). -/
theorem exec_arbitrationLost (hstarted : s.bus.slots.started = some id) (hslot : s.bus.slots.get id = .holds q)
    (herrored : q.errored = false) (habort : q.abortAsked = false) :
    exec .arbitrationLost s = .next (unstart id q (stopDriving s)) := by
  have hrun : execArbitrationLost s = .next (unstart id q (stopDriving s)) := by
    unfold execArbitrationLost
    rw [hstarted]
    dsimp only
    rw [hslot]
    dsimp only
    rw [if_neg (by simp [herrored]), if_neg (by simp [habort])]
  exact hrun

/-- Lost arbitration for which an abort was waiting (R10). -/
theorem exec_arbitrationLost_aborts (hstarted : s.bus.slots.started = some id)
    (hslot : s.bus.slots.get id = .holds q) (herrored : q.errored = false) (habort : q.abortAsked = true) :
    exec .arbitrationLost s = .next (frameReturned id q.frame .aborted (stopDriving s)) := by
  have hrun : execArbitrationLost s = .next (frameReturned id q.frame .aborted (stopDriving s)) := by
    unfold execArbitrationLost
    rw [hstarted]
    dsimp only
    rw [hslot]
    dsimp only
    rw [if_neg (by simp [herrored]), if_pos habort]
  exact hrun

/-- A transmit error (R8). -/
theorem exec_transmitError (hstarted : s.bus.slots.started = some id) (hslot : s.bus.slots.get id = .holds q)
    (herrored : q.errored = false) :
    exec .transmitError s = .next (countFailure (setSlot id (.holds { q with errored := true }) (stopDriving s))) := by
  have hrun : execTransmitError s =
      .next (countFailure (setSlot id (.holds { q with errored := true }) (stopDriving s))) := by
    unfold execTransmitError
    rw [hstarted]
    dsimp only
    rw [hslot]
    dsimp only
    rw [if_neg (by simp [herrored])]
  exact hrun

/-- The failures before the sixteenth are only counted (R8). -/
theorem countFailure_of_few (h : s.bus.failures < 15) :
    countFailure s = s.onBus fun b => { b with failures := b.failures + 1 } := by
  have hcount : saturate Config.offBusCount (s.bus.failures + 1) = s.bus.failures + 1 := Nat.min_eq_left (by
    show s.bus.failures + 1 ≤ 16
    omega)
  unfold countFailure
  dsimp only
  rw [if_neg]
  · exact congrArg (fun n => s.onBus fun b => { b with failures := n }) hcount
  · rintro ⟨h16, -⟩
    have : s.bus.failures + 1 = 16 := hcount.symm.trans h16
    omega

/-- The sixteenth failure takes the station off-bus (R8, R9). -/
theorem countFailure_sixteenth (h : s.bus.failures = 15) (hbus : s.bus.offBus = false) :
    countFailure s = enterOffBus (s.onBus fun b => { b with failures := 16 }) := by
  have hcount : saturate Config.offBusCount (s.bus.failures + 1) = 16 := by rw [h]; rfl
  have hsame : (s.onBus fun b => { b with failures := saturate Config.offBusCount (b.failures + 1) }) =
      s.onBus fun b => { b with failures := 16 } := congrArg (fun n => s.onBus fun b => { b with failures := n }) hcount
  unfold countFailure
  rw [hsame]
  have hgone : (s.onBus fun b => { b with failures := 16 }).bus.failures = Config.offBusCount ∧
      (!(s.onBus fun b => { b with failures := 16 }).bus.offBus) = true := ⟨rfl, by simp [hbus]⟩
  exact if_pos hgone

/-- Settles O2, by the loss, the error and the sixteenth failure. -/
theorem transmitFailuresLeadOffBus : Obligations.TransmitFailuresLeadOffBus := by
  refine ⟨fun s id q hstarted hslot herrored => ⟨fun habort halone => ?_, fun habort hjoin hclaims hnotices hrx k p hk
      hs0 hkslot hunstarted hfresh honly => ?_, fun habort tag v r hframe hr hphase hreturned => ?_⟩,
    fun s id q hstarted hslot herrored hfew => ?_, fun s id q hstarted hslot hone herrored hfailures hbus huniq => ?_⟩
  · exact (exec_arbitrationLost hstarted hslot herrored habort).trans
      (congrArg _ (unstart_alone (s := stopDriving s) herrored halone))
  · rw [exec_arbitrationLost hstarted hslot herrored habort,
      unstart_beside_join (s := stopDriving s) hjoin hk hs0 hclaims hnotices hrx hkslot hunstarted hfresh honly,
      ← herrored]
    rfl
  · set w := freeSlotThen id (stopDriving s) with hw
    have hread : auctionOf tag w = some r := (auctionOf_of_auctions_eq (by simp [w, stopDriving])).trans hr
    have hout : bidOut r = true := by simp [bidOut, hphase, hreturned]
    have hexec : exec .arbitrationLost s = .next (bidAborted tag w) := by
      rw [exec_arbitrationLost_aborts hstarted hslot herrored habort, hframe]
      rfl
    refine ⟨_, hexec, by simp [w, stopDriving], by simp [w, stopDriving], ?_, fun i hi => ?_⟩
    · rw [auctionOf_bidAborted, hread, Option.map_some, if_pos hout]
    · rw [bidAborted_of_out hread hout hi, holdClear_snd]
      simp [putBin, binAt, w, stopDriving]
  · exact (exec_transmitError hstarted hslot herrored).trans (congrArg _
      (countFailure_of_few (s := setSlot id (.holds { q with errored := true }) (stopDriving s)) hfew))
  · set v := (setSlot id (.holds { q with errored := true }) (stopDriving s)).onBus fun b => { b with failures := 16 }
      with hv
    have hexec : exec .transmitError s = .next (enterOffBus v) :=
      (exec_transmitError hstarted hslot herrored).trans (congrArg _
        (countFailure_sixteenth (s := setSlot id (.holds { q with errored := true }) (stopDriving s)) hfailures hbus))
    have hqstarted : q.started = true := by
      obtain ⟨p, hp, hps⟩ := Slots.find_holds hstarted
      cases hslot.symm.trans hp
      exact hps
    obtain ⟨⟨⟨hoff, hcount, hrx, hclaims, hfire, hnotices, hevent⟩, ⟨hfree, hfailed⟩, hpins, hest, hfireUnit, hstation,
        hsetup⟩, hnone⟩ :=
      enterOffBus_goneOffBus (s := v) (id := id) (q := { q with errored := true }) (Slots.get_set id _ _) hqstarted rfl
        (fun k p hk hp => by
          have hp : s.bus.slots.get k = .holds p := (Slots.get_set_other hk _ _).symm.trans hp
          cases hps : p.started with
          | true => exact absurd (hone k p hp hps) hk
          | false => rfl)
        huniq
    exact ⟨_, hexec, hoff, hcount, hrx, hclaims, hfire, hnotices, hevent, hfree, hfailed, hnone, hpins, hest, hfireUnit,
      hstation, hsetup⟩

end Sys2Proof.Machine
end

section
/-! PROOF. The obligation on the outcomes of own frames (R4, R6, R8, R11, R20, R158, R160). -/

namespace Sys2Proof.Machine

-- Checked one after another: the host bounds the memory of all threads together.
set_option Elab.async false

open Sys2Proof Sys2Proof.Safety

variable {s t u v w : State} {id k : SlotId} {q : Queued} {l : Lane} {tag : Nat} {bits : AnswerBits} {r : Auction}

/-! ### The outcomes read in the answer slot (R4) -/

/-- A frame that ends VOID and stays queued (R8). -/
theorem exec_frameOutcome_void (hstarted : s.bus.slots.started = some id) (hslot : s.bus.slots.get id = .holds q)
    (herrored : q.errored = false) (hvoid : bits.voidMark = true) :
    exec (.frameOutcome bits) s = .next (endVoid id q (stopDriving s)) := by
  have hrun : execFrameOutcome bits s = .next (endVoid id q (stopDriving s)) := by
    unfold execFrameOutcome
    rw [hstarted]
    dsimp only
    rw [hslot]
    dsimp only
    rw [if_neg (by simp [herrored]), outcomeOf, if_pos hvoid]
  exact hrun

/-- The attempt that ends VOID is counted, the frame unstarted (R8). -/
theorem endVoid_counts (herrored : q.errored = false) (habort : q.abortAsked = false) (hbus : s.bus.offBus = false)
    (hfew : s.bus.failures < 15) (halone : isJoin q.frame = true → NoOtherJoin id s) :
    endVoid id q s =
      (setSlot id (.holds { q with started := false }) s).onBus fun b => { b with failures := b.failures + 1 } := by
  set v := setSlot id (.holds { q with started := false }) s with hv
  have hstays : ¬ (q.abortAsked = true ∨ v.bus.offBus = true) := by simp [habort, v, setSlot, hbus]
  unfold endVoid
  rw [unstart_alone herrored halone]
  dsimp only
  rw [← hv, if_neg hstays, if_neg (by simp [herrored])]
  exact countFailure_of_few hfew

theorem outcomeOf_broadcast (hvoid : bits.voidMark = false) (hmark : bits.answerMark = false) :
    outcomeOf false bits = some .sent := by
  simp [outcomeOf, hvoid, hmark]

/-- An addressed frame that is not voided is TAKEN, HELD or heard by none (R4). -/
theorem outcomeOf_addressed (hvoid : bits.voidMark = false) :
    ∃ o, outcomeOf true bits = some o ∧ o ≠ .sent ∧ (o = .taken ↔ bits.answerMark = true ∧ bits.answerKind = true) := by
  unfold outcomeOf
  rw [if_neg (by simp [hvoid])]
  cases hmark : bits.answerMark with
  | false => exact ⟨.none, rfl, nofun, by simp⟩
  | true =>
    cases hkind : bits.answerKind with
    | false => exact ⟨.held, rfl, nofun, by simp⟩
    | true => exact ⟨.taken, rfl, nofun, by simp⟩

theorem outcomeOf_of_not_void (addressed : Bool) (hvoid : bits.voidMark = false) : ∃ o, outcomeOf addressed bits = some o := by
  cases addressed with
  | true =>
    obtain ⟨o, ho, -⟩ := outcomeOf_addressed hvoid
    exact ⟨o, ho⟩
  | false =>
    unfold outcomeOf
    rw [if_neg (by simp [hvoid])]
    split
    · split
      · exact ⟨_, rfl⟩
      · exact ⟨_, rfl⟩
    · exact ⟨_, rfl⟩

/-! ### A FIRE that is done (R6, R160) -/

theorem voidAuction_fireKept : FireKept s (voidAuction s tag) := by
  have hmark : FireKept s (onAuction tag (fun r => { r with voidMark := true }) s) := .of_bus rfl
  have habort : ∀ t : State, FireKept t (abortBid tag t) := by
    intro t
    have hframe : FireKept t (abortFrame (isBidOf tag) t).2 := abortFrame_fireKept fun _ => rfl
    unfold abortBid
    dsimp only
    split
    · exact hframe.trans (.of_bus (by simp))
    · exact hframe
  unfold voidAuction
  dsimp only
  split
  · split
    · exact hmark.trans (habort _)
    · exact hmark
  · exact hmark

theorem voidAuctions_fireKept : FireKept s (voidAuctions s) := FireKept.foldl (fun _ _ => voidAuction_fireKept) _

/-- Slot 0 after its FIRE: the one that waited takes it, or it is free (R6). -/
theorem slotFreed_s0 : (slotFreed .s0 s).bus.firePending = none ∧
    (s.bus.firePending = none → slotFreed .s0 s =
      { s with bus := { s.bus with slots := s.bus.slots.set .s0 .free, tx := none, failures := 0 } }) ∧
    (∀ m, s.bus.firePending = some m → (slotFreed .s0 s).bus.slots.s0 = .holds (newQueued (.fire m) s.bus.order)) ∧
    SlotLaw (slotFreed .s0 s) := by
  set v := setSlot .s0 .free ((stopDriving s).onBus fun b => { b with failures := 0 }) with hv
  cases hpending : s.bus.firePending with
  | none =>
    have hfreed : slotFreed .s0 s = v := by
      show freeSlotThen .s0 _ = v
      unfold freeSlotThen
      rw [← hv]
      dsimp only
      rw [show v.bus.firePending = none from hpending]
    rw [hfreed]
    exact ⟨hpending, fun _ => rfl, nofun, nofun, nofun⟩
  | some m =>
    have hfreed : slotFreed .s0 s = placeFrame .s0 (.fire m) (v.onBus fun b => { b with firePending := none }) := by
      show freeSlotThen .s0 _ = _
      unfold freeSlotThen
      rw [← hv]
      dsimp only
      rw [show v.bus.firePending = some m from hpending]
    rw [hfreed]
    refine ⟨rfl, nofun, fun n hn => ?_, nofun, fun q hq => ?_⟩
    · cases hn
      rfl
    · cases hq
      exact ⟨m, rfl⟩

/-! ### A BID that is done (R158) -/

/-- The own BID returned SENT is compared with the lowest seen (R157, R158). -/
theorem auctionOf_bidSent {own : Nat} (hread : auctionOf tag s = some r) (hout : bidOut r = true)
    (hown : r.own = some own) :
    auctionOf tag (bidSent tag s) =
      some { seeBid { value := own, station := s.num } r with bidReturned := true } := by
  unfold bidSent
  rw [hread]
  dsimp only
  rw [if_pos hout, hown]
  exact auctionOf_onAuction_some hread fun r => by
    show (seeBid _ r).roomTag = r.roomTag
    unfold seeBid
    split <;> rfl

theorem bidSent_of_none (h : auctionOf tag s = none) : bidSent tag s = s := by
  unfold bidSent
  rw [h]

/-- The own pair becomes the lowest seen where it is lower, by value and then by station (R156, R157). -/
theorem lowerOf_own (b : BidPair) (own n : Nat) : lowerOf (some b) ⟨own, n⟩ =
    if own < b.value ∨ (own = b.value ∧ n < b.station) then some ⟨own, n⟩ else some b := by
  have hbefore := BidPair.before_iff ⟨own, n⟩ b
  rw [lowerOf_some, apply_ite some]
  by_cases h : own < b.value ∨ (own = b.value ∧ n < b.station)
  · rw [if_pos (hbefore.2 h), if_pos h]
  · rw [if_neg (mt hbefore.1 h), if_neg h]

/-! ### NOTICE and REPLY frames that end (R11, R20) -/

/-- The pending set leaves a free slot free (R20). -/
theorem setPendingKind_get_free {n : Nat} (h : s.bus.slots.get id = .free) :
    (setPendingKind n s).bus.slots.get id = .free := by
  simp only [setPendingKind, State.onBus_bus, State.onCtl_bus, Slots.get_mapFrames, h, Slot.mapFrame]

/-- Only the Bus Interface and the notice list follow the freeing of a slot (R6, R19). -/
theorem slotFreed_frame (id : SlotId) (s : State) :
    slotFreed id s = { s with
      bus := (slotFreed id s).bus, ctl := { s.ctl with notices := (slotFreed id s).ctl.notices } } := by
  have hgrant : ∀ (k : SlotId) (t : State),
      grantSlot k t = { t with bus := (grantSlot k t).bus, ctl := { t.ctl with notices := (grantSlot k t).ctl.notices } } := by
    intro k t
    unfold grantSlot
    split
    next => rfl
    next =>
      split
      next => rfl
      next => rfl
      next => rfl
  cases id with
  | s0 =>
    show freeSlotThen .s0 _ = _
    unfold slotFreed freeSlotThen
    dsimp only
    split
    next => rfl
    next => rfl
  | s1 => exact hgrant .s1 _
  | s2 => exact hgrant .s2 _
  | s3 => exact hgrant .s3 _

/-- Settles O3, by the kind of the frame and its outcome. -/
theorem frameOutcomeEndsTheFrame : Obligations.FrameOutcomeEndsTheFrame := by
  refine ⟨fun s id q bits hstarted hslot herrored => ⟨fun hvoid habort hbus hfew halone => ?_,
      fun hvoid hframe hid hclaims hnotices hrx => ?_⟩,
    fun s id q bits hstarted hslot herrored hvoid hmark => ⟨fun ⟨m, hframe⟩ hid => ?_,
      fun tag v hframe hid hclaims hnotices hrx => ?_⟩,
    fun s id q bits hstarted hslot herrored hvoid => ?_⟩
  · exact (exec_frameOutcome_void hstarted hslot herrored hvoid).trans
      (congrArg _ (endVoid_counts (s := stopDriving s) herrored habort hbus hfew halone))
  · obtain ⟨o, hout⟩ := outcomeOf_of_not_void (decide (q.frame.dest ≠ 0)) hvoid
    rw [exec_frameOutcome hstarted hslot herrored hout, slotFreed_of_no_claims hid hclaims hnotices hrx]
    rcases hframe with ⟨l, b, hframe⟩ | ⟨b, hframe⟩ <;> rw [hframe] <;> rfl
  · subst hid
    have hout : outcomeOf (decide (q.frame.dest ≠ 0)) bits = some .sent := by
      rw [hframe]
      exact outcomeOf_broadcast hvoid hmark
    have hexec : exec (.frameOutcome bits) s = .next (voidAuctions (slotFreed .s0 s)) := by
      rw [exec_frameOutcome hstarted hslot herrored hout, hframe]
      rfl
    obtain ⟨hpending, hempty, htakes, hlaw⟩ := slotFreed_s0 (s := s)
    obtain ⟨hs0, hnone⟩ := voidAuctions_fireKept (s := slotFreed .s0 s) hlaw
    refine ⟨fun hnofire hrecords => ?_, _, hexec, ?_, ?_, hnone.trans hpending, voidAuctions_mark _, fun n hn => ?_⟩
    · have hnothing : voidAuctions (slotFreed .s0 s) = slotFreed .s0 s := by
        unfold voidAuctions
        rw [(by simp [hrecords] : (slotFreed .s0 s).auctions.records = [])]
        rfl
      rw [hexec, hnothing, hempty hnofire]
    · simp
    · simp
    · exact ⟨_, hs0.trans (htakes n hn)⟩
  · intro ended
    have hout : outcomeOf (decide (q.frame.dest ≠ 0)) bits = some .sent := by
      rw [hframe]
      exact outcomeOf_broadcast hvoid hmark
    set v : State := { s with bus := ended } with hv
    have hexec : exec (.frameOutcome bits) s = .next (bidSent tag v) := by
      rw [exec_frameOutcome hstarted hslot herrored hout, slotFreed_of_no_claims hid hclaims hnotices hrx, hframe]
      rfl
    refine ⟨fun hread => ?_, fun r own hread hphase hreturned hown => ?_⟩
    · rw [hexec, bidSent_of_none (s := v) hread]
    · have hout : bidOut r = true := by simp [bidOut, hphase, hreturned]
      refine ⟨_, _, hexec, ?_, auctionOf_bidSent (s := v) hread hout hown, ?_, ?_⟩
      · apply State.eq_of_blocks <;> simp [v]
      · rw [seeBid_eq]
      · show (seeBid ⟨own, s.num⟩ r).lowest = _
        rw [seeBid_lowest]
        cases r.lowest with
        | none => exact lowerOf_none _
        | some b => exact lowerOf_own b own s.num
  · intro taken leaves
    obtain ⟨hfailures, htx⟩ : (slotFreed id s).bus.failures = 0 ∧ (slotFreed id s).bus.tx = none := by simp
    have hfree : id ≠ .s0 → s.bus.claims = [] → s.ctl.notices = [] → s.bus.rx = [] →
        (slotFreed id s).bus.slots = s.bus.slots.set id .free := fun hid hclaims hnotices hrx => by
      rw [slotFreed_of_no_claims hid hclaims hnotices hrx]
    obtain ⟨o, hout, hsent, htaken⟩ := outcomeOf_addressed hvoid
    refine ⟨fun n hframe => ?_, fun r hframe hdest => ?_⟩
    · have hexec : exec (.frameOutcome bits) s = .next
          (if o = .taken ∨ o = .sent then slotFreed id s else setPendingKind n.code (slotFreed id s)) := by
        have hout : outcomeOf (decide (q.frame.dest ≠ 0)) bits = some o := by
          rw [hframe]
          exact hout
        rw [exec_frameOutcome hstarted hslot herrored hout, hframe]
        rfl
      by_cases h : taken
      · rw [if_pos (.inl (htaken.2 h))] at hexec
        refine ⟨_, hexec, ?_, hfailures, htx, fun hid hclaims hnotices hrx => ⟨?_, fun _ => ?_⟩⟩
        · rw [if_pos (by simpa using h)]
          exact slotFreed_frame id s
        · rw [hfree hid hclaims hnotices hrx, Slots.get_set]
        · exact hfree hid hclaims hnotices hrx
      · rw [if_neg (by simp [hsent, htaken]; simpa [taken] using h)] at hexec
        refine ⟨_, hexec, ?_, hfailures, htx, fun hid hclaims hnotices hrx => ⟨?_, fun ht => absurd ht h⟩⟩
        · rw [if_neg (by simpa [taken] using h), slotFreed_frame id s]
          rfl
        · exact setPendingKind_get_free (by rw [hfree hid hclaims hnotices hrx, Slots.get_set])
    · have hsilent : stationSilent r.dest (slotFreed id s) = slotFreed id s := by
        unfold stationSilent
        rw [if_neg (by rw [hdest]; decide)]
      have hexec : exec (.frameOutcome bits) s = .next (if o = .taken then
          (slotFreed id s).onCtl fun c => { c with pendingSet := c.pendingSet &&& ~~~r.clears } else slotFreed id s) := by
        have hout : outcomeOf (decide (q.frame.dest ≠ 0)) bits = some o := by
          rw [hframe]
          show outcomeOf (decide (r.dest ≠ 0)) bits = some o
          rw [hdest]
          exact hout
        rw [exec_frameOutcome hstarted hslot herrored hout, hframe]
        simp only [deliverOutcome, hsilent, ite_self]
      by_cases h : taken
      · rw [if_pos (htaken.2 h)] at hexec
        refine ⟨_, hexec, ?_, hfailures, htx, fun hid hclaims hnotices hrx => ⟨?_, fun _ => ?_⟩⟩
        · rw [if_pos (by simpa using h), slotFreed_frame id s]
          rfl
        · exact (congrArg _ (hfree hid hclaims hnotices hrx)).trans (Slots.get_set _ _ _)
        · exact hfree hid hclaims hnotices hrx
      · rw [if_neg (mt htaken.1 h)] at hexec
        refine ⟨_, hexec, ?_, hfailures, htx, fun hid hclaims hnotices hrx => ⟨?_, fun _ => ?_⟩⟩
        · rw [if_neg (by simpa [taken] using h)]
          exact slotFreed_frame id s
        · exact (congrArg _ (hfree hid hclaims hnotices hrx)).trans (Slots.get_set _ _ _)
        · exact hfree hid hclaims hnotices hrx

end Sys2Proof.Machine
end

section
/-! PROOF. What a decision of the ring does at the Bus Interface: it queues frames, raises notices and takes its own
offers back; a JOIN that waits stays (R6, R10, R19, R31, R119, R123). -/

namespace Sys2Proof.Machine

-- Checked one after another: the host bounds the memory of all threads together.
set_option Elab.async false

open Sys2Proof Sys2Proof.Safety

variable {s t u : State} {id k : SlotId} {l : Lane} {b : JoinBody} {c : Carry}

/-- From `s` to `t` frames are queued, notices raised and PASSes aborted, and no more is done at the Bus Interface. -/
inductive RingSends : State → State → Prop
  | same {s t : State} (h : t.bus = s.bus) : RingSends s t
  | queues (s : State) (f : Frame) : RingSends s (queueFrame f s)
  | raises (s : State) (n : Notice) : RingSends s (raise n s)
  | takesBack (s : State) (l : Lane) : RingSends s (abortFrame (isPassOf l) s).2
  | trans {s t u : State} (h : RingSends s t) (k : RingSends t u) : RingSends s u

theorem RingSends.refl : RingSends s s := .same rfl

/-- A FIRE in slot 0 is left alone. -/
theorem RingSends.fireKept (h : RingSends s t) : FireKept s t := by
  induction h with
  | same h => exact .of_bus h
  | queues => exact queueFrame_fireKept
  | raises => exact raise_fireKept
  | takesBack => exact abortFrame_fireKept fun _ => rfl
  | trans _ _ ih ih' => exact ih.trans ih'

/-! ### A JOIN that waits (R31) -/

/-- The JOIN `b` waits in a slot or with a claim, not yet started. -/
def JoinWaits (b : JoinBody) (s : State) : Prop :=
  (∃ id q, s.bus.slots.get id = .holds q ∧ q.started = false ∧ q.frame = .join b) ∨
    ∃ c ∈ s.bus.claims, c.frame = .join b

theorem joinWaits_congr (h : JoinWaits b s) (hslots : t.bus.slots = s.bus.slots) (hclaims : t.bus.claims = s.bus.claims) :
    JoinWaits b t := by
  unfold JoinWaits
  rw [hslots, hclaims]
  exact h

/-- Writing a slot that does not hold it leaves the JOIN. -/
theorem setSlot_joinWaits {x : Slot} (h : JoinWaits b s)
    (hother : ∀ q, s.bus.slots.get id = .holds q → q.started = true ∨ q.frame ≠ .join b) : JoinWaits b (setSlot id x s) := by
  rcases h with ⟨k, q, hslot, hstarted, hframe⟩ | hclaim
  · refine .inl ⟨k, q, ?_, hstarted, hframe⟩
    have hne : k ≠ id := by
      rintro rfl
      rcases hother q hslot with hs | hf
      · rw [hstarted] at hs
        cases hs
      · exact hf hframe
    exact (Slots.get_set_other hne _ _).trans hslot
  · exact .inr hclaim

theorem placeFrame_joinWaits {f : Frame} (h : JoinWaits b s)
    (hother : ∀ q, s.bus.slots.get id = .holds q → q.started = true ∨ q.frame ≠ .join b) :
    JoinWaits b (placeFrame id f s) :=
  joinWaits_congr (setSlot_joinWaits (x := .holds (newQueued f s.bus.order)) h hother) rfl rfl

theorem queueFrame_joinWaits {f : Frame} (h : JoinWaits b s) : JoinWaits b (queueFrame f s) := by
  unfold queueFrame
  split
  · exact h
  · split
    next id hid =>
      have hfree := Slots.get_of_freeSlot hid
      exact placeFrame_joinWaits h fun q hq => by rw [hfree] at hq; cases hq
    next =>
      rcases h with hslot | ⟨c, hc, hframe⟩
      · exact .inl hslot
      · exact .inr ⟨c, List.mem_append_left _ hc, hframe⟩

/-- The pending set touches queued REPLYs alone (R20). -/
theorem setPendingKind_joinWaits {n : Nat} (h : JoinWaits b s) : JoinWaits b (setPendingKind n s) := by
  rcases h with ⟨k, q, hslot, hstarted, hframe⟩ | hclaim
  · refine .inl ⟨k, q, ?_, hstarted, hframe⟩
    simp only [setPendingKind, State.onBus_bus, State.onCtl_bus, Slots.get_mapFrames, hslot, Slot.mapFrame, hframe]
  · exact .inr hclaim

theorem raise_joinWaits {n : Notice} (h : JoinWaits b s) : JoinWaits b (raise n s) := by
  unfold raise
  split
  · exact setPendingKind_joinWaits h
  · split
    next id hid =>
      have hfree := Slots.get_of_freeSlot hid
      exact placeFrame_joinWaits h fun q hq => by rw [hfree] at hq; cases hq
    next =>
      split
      · exact joinWaits_congr h rfl rfl
      · exact setPendingKind_joinWaits h

/-- The grant of a free slot moves a JOIN into it, or leaves it where it waits (R6). -/
theorem grantSlot_joinWaits (h : JoinWaits b s) (hfree : s.bus.slots.get id = .free) : JoinWaits b (grantSlot id s) := by
  have hother : ∀ q, s.bus.slots.get id = .holds q → q.started = true ∨ q.frame ≠ .join b := fun q hq => by
    rw [hfree] at hq
    cases hq
  unfold grantSlot
  split
  next => exact h
  next =>
    split
    next c _ =>
      rcases h with hslot | ⟨d, hd, hframe⟩
      · exact placeFrame_joinWaits (s := s.onBus fun b => { b with claims := _ }) (.inl hslot) hother
      · by_cases hcd : d = c
        · subst hcd
          exact .inl ⟨id, _, Slots.get_set id _ _, rfl, hframe⟩
        · exact .inr ⟨d, List.mem_filter.2 ⟨hd, by simpa using hcd⟩, hframe⟩
    next => exact placeFrame_joinWaits (s := s.onCtl fun t => { t with notices := _ }) h hother
    next => exact setSlot_joinWaits h hother

/-- The freeing of a slot that holds another frame leaves the JOIN (R6). -/
theorem freeSlotThen_joinWaits (h : JoinWaits b s)
    (hother : ∀ q, s.bus.slots.get id = .holds q → q.started = true ∨ q.frame ≠ .join b) :
    JoinWaits b (freeSlotThen id s) := by
  have hset : JoinWaits b (setSlot id .free s) := setSlot_joinWaits h hother
  have hfree : (setSlot id .free s).bus.slots.get id = .free := Slots.get_set id _ _
  unfold freeSlotThen
  cases id with
  | s0 =>
    dsimp only
    split
    next => exact hset
    next =>
      refine placeFrame_joinWaits (s := (setSlot .s0 .free s).onBus fun b => { b with firePending := none })
        (joinWaits_congr hset rfl rfl) fun q hq => ?_
      cases hq
  | s1 => exact grantSlot_joinWaits hset hfree
  | s2 => exact grantSlot_joinWaits hset hfree
  | s3 => exact grantSlot_joinWaits hset hfree

/-- The abort of a PASS leaves the JOIN (R10). -/
theorem abortPass_joinWaits (h : JoinWaits b s) : JoinWaits b (abortFrame (isPassOf l) s).2 := by
  unfold abortFrame
  split
  · rcases h with hslot | ⟨c, hc, hframe⟩
    · exact .inl hslot
    · exact .inr ⟨c, List.mem_filter.2 ⟨hc, by simp [hframe, isPassOf]⟩, hframe⟩
  · split
    next => exact h
    next id hid =>
      obtain ⟨q, hq, hpass⟩ := Slots.find_holds hid
      have hother : ∀ p, s.bus.slots.get id = .holds p → p.started = true ∨ p.frame ≠ .join b := fun p hp => by
        cases hq.symm.trans hp
        exact .inr fun hjoin => by simp [hjoin, isPassOf] at hpass
      rw [hq]
      dsimp only
      split
      · exact setSlot_joinWaits h hother
      · exact freeSlotThen_joinWaits h hother

theorem RingSends.joinWaits (h : RingSends s t) (hs : JoinWaits b s) : JoinWaits b t := by
  induction h with
  | same h => exact joinWaits_congr hs (by rw [h]) (by rw [h])
  | queues => exact queueFrame_joinWaits hs
  | raises => exact raise_joinWaits hs
  | takesBack => exact abortPass_joinWaits hs
  | trans _ _ ih ih' => exact ih' (ih hs)

/-- An announcement leaves the station's own JOIN waiting (R31, R42). -/
theorem announce_joinWaits (hbus : s.bus.offBus = false) : JoinWaits (joinBody s) (announce s) := by
  unfold announce
  dsimp only
  split
  next hany =>
    obtain ⟨c, hc, hjoin⟩ := List.any_eq_true.1 hany
    exact .inr ⟨_, List.mem_map_of_mem hc, by rw [if_pos hjoin]⟩
  next =>
    split
    next =>
      unfold queueFrame
      rw [if_neg (by simp [hbus])]
      split
      next id _ => exact .inl ⟨id, _, Slots.get_set id _ _, rfl, rfl⟩
      next => exact .inr ⟨_, List.mem_append_right _ (List.mem_singleton.2 rfl), rfl⟩
    next id hid =>
      obtain ⟨q, hq, hmeets⟩ := Slots.find_holds hid
      rw [hq]
      exact .inl ⟨id, _, Slots.get_set id _ _, by simpa using (Bool.and_eq_true_iff.1 hmeets).2, rfl⟩

/-- A FIRE queued leaves the JOIN (R6). -/
theorem queueFire_joinWaits {m : BitVec 8} (h : JoinWaits b s) : JoinWaits b (queueFire m s) := by
  unfold queueFire
  split
  · exact h
  · split
    next q hq =>
      split
      · exact joinWaits_congr h rfl rfl
      · split
        next hframe =>
          exact setSlot_joinWaits h fun p hp => by
            cases (show Slot.holds q = .holds p from hq.symm.trans hp)
            exact .inr (by rw [hframe]; exact nofun)
        next => exact h
    next hnone =>
      exact placeFrame_joinWaits h fun p hp => absurd hp (hnone p)

/-! ### The decisions of the heads (R117, R119, R122 to R124) -/

theorem acceptedHead_sends : RingSends s (acceptedHead l c s) := by
  unfold acceptedHead
  extract_lets old limit v w
  have hv : RingSends s v := .same (by simp [v])
  have hw : RingSends s w := hv.trans (.same (by simp [w]))
  clear_value old
  split
  · exact hv
  · split
    · split
      · exact hw.trans (.raises _ _)
      · exact hw
    · exact hv

theorem claimTurn_sends : RingSends s (claimTurn l c s) := by
  unfold claimTurn
  dsimp only
  split
  · exact RingSends.trans (.same (by simp)) acceptedHead_sends
  · exact .same (by simp)

theorem passOn_sends : RingSends s (passOn l c s) := by
  unfold passOn
  split
  · split
    · exact .same (by simp)
    · exact claimTurn_sends
  · split
    · exact RingSends.trans (.same (by simp)) (.queues _ _)
    · exact .same (by simp)

theorem actHead_sends : RingSends s (actHead l s) := by
  unfold actHead
  split
  next =>
    unfold decideHead
    split
    next => exact .refl
    next =>
      split
      next => exact .refl
      next =>
        split
        next => exact RingSends.trans (.same (by simp)) (.raises _ _)
        next =>
          split
          next => exact .same (by simp)
          next => exact passOn_sends
  next => exact .refl

theorem actIdleHead_sends : RingSends s (actIdleHead l s) := by
  unfold actIdleHead
  split
  · exact actHead_sends
  · exact .refl

theorem abortOffer_sends : RingSends s (abortOffer l s) := by
  unfold abortOffer
  split
  · dsimp only
    split
    · exact RingSends.trans (.takesBack s l) (.same (by simp))
    · exact .takesBack s l
  · exact .refl

/-- Segments that stop, or stay as they are. -/
theorem settleConditions_sends_of_not_running (h : wantedCondition s ≠ .running) :
    RingSends s (settleConditions s) := by
  have hheld : ∀ (l : Lane) (was : Condition) (t : State), RingSends t (onHeld l was t) := by
    intro l was t
    unfold onHeld
    split
    · exact abortOffer_sends
    · exact .refl
  rw [settleConditions_of_not_running h]
  exact (RingSends.same (by simp [withConds])).trans ((hheld _ _ _).trans (hheld _ _ _))

theorem shutterTakeUp_sends : RingSends s (shutterTakeUp s) := by
  have hclosing : ∀ t : State, RingSends t (beginClosing t) := fun t => .same (by simp)
  have hopening : ∀ t : State, RingSends t (beginOpening t) := fun t => .same (by simp)
  unfold shutterTakeUp
  split
  · split
    · have h : wantedCondition (beginClearing s) ≠ .running := by rw [wantedCondition_beginClearing]; decide
      exact RingSends.trans (.same (by simp)) (settleConditions_sends_of_not_running h)
    · exact .refl
  · split
    · exact .refl
    · exact hclosing s
  · split
    · exact hopening s
    · exact .refl
  · split
    · exact hopening s
    · exact .refl
  · split
    · exact hclosing s
    · exact .refl
  · exact .refl
  · exact .refl

end Sys2Proof.Machine
end

section
/-! PROOF. The obligation on the JOIN received (R41 to R44, R171). -/

namespace Sys2Proof.Machine

-- Checked one after another: the host bounds the memory of all threads together.
set_option Elab.async false

open Sys2Proof Sys2Proof.Safety

variable {s t u : State} {n : Nat} {e : RosterEntry} {x : StationState} {f : RxFrame}

theorem rosterOf_setRoster (hwf : tableWf RosterEntry.cleared s.ctl.roster = true) (n : Nat) (e : RosterEntry) :
    rosterOf n (setRoster n e s) = e ∧ ∀ m, m ≠ n → rosterOf m (setRoster n e s) = rosterOf m s :=
  ⟨tableGet_tablePut _ hwf n e, fun _ hm => tableGet_tablePut_other _ hwf hm e⟩

theorem rosterOf_congr {m : Nat} (h : t.ctl.roster = s.ctl.roster) : rosterOf m t = rosterOf m s := by
  unfold rosterOf
  rw [h]

theorem joinBody_congr (h : t.ctl = s.ctl) : joinBody t = joinBody s := by
  unfold joinBody State.num State.top State.compartment
  rw [h]

/-! ### The answer to a station that is joining (R42, R171) -/

theorem answerJoining_of_silent (h : x ≠ .joining ∨ s.ctl.station = .joining) : answerJoining x s = s := by
  unfold answerJoining
  refine if_neg ?_
  rcases h with h | h
  · simp [h]
  · simp [h, StationState.joined]

/-- Only the Bus Interface follows the answer. -/
theorem answerJoining_frame : answerJoining x s = { s with bus := (answerJoining x s).bus } := by
  unfold answerJoining
  dsimp only
  split
  · split
    · apply State.eq_of_blocks <;> simp
    · apply State.eq_of_blocks <;> simp
  · rfl

theorem answerJoining_view (hstation : s.ctl.station ≠ .joining ∧ s.ctl.station ≠ .strapFault) :
    answerJoining .joining s = if s.fire.view = 0#8 then announce s else queueFire s.fire.view (announce s) := by
  have hjoined : (decide (StationState.joining = .joining) && s.ctl.station.joined) = true := by
    obtain ⟨hjoining, hfault⟩ := hstation
    cases hst : s.ctl.station
    case joining => exact absurd hst hjoining
    case strapFault => exact absurd hst hfault
    all_goals rfl
  unfold answerJoining
  rw [if_pos hjoined]
  simp

/-- The answer of a station on the bus: its JOIN waits (R42). -/
theorem answerJoining_joinWaits (hstation : s.ctl.station ≠ .joining ∧ s.ctl.station ≠ .strapFault)
    (hbus : s.bus.offBus = false) : JoinWaits (joinBody s) (answerJoining .joining s) := by
  rw [answerJoining_view hstation]
  split
  · exact announce_joinWaits hbus
  · exact queueFire_joinWaits (announce_joinWaits hbus)

/-- The FIRE of the view, as the answer leaves it: queued, merged into an unstarted one, or waiting for a started one
to end (R6, R171). -/
def FireAnswered (v : BitVec 8) (s t : State) : Prop :=
  (s.bus.slots.s0 = .free → ∃ k, t.bus.slots.s0 = .holds (newQueued (.fire v) k)) ∧
    ∀ q m, s.bus.slots.s0 = .holds q → q.frame = .fire m →
      (q.started = false → t.bus.slots.s0 = .holds { q with frame := .fire (m ||| v) }) ∧
      (q.started = true → t.bus.slots.s0 = .holds q ∧ t.bus.firePending = some (s.bus.firePending.getD 0#8 ||| v))

theorem slotLaw_of_free (h : s.bus.slots.s0 = .free) : SlotLaw s := by
  unfold SlotLaw
  rw [h]
  exact ⟨nofun, nofun⟩

theorem slotLaw_of_fire {q : Queued} {m : BitVec 8} (h : s.bus.slots.s0 = .holds q) (hframe : q.frame = .fire m) :
    SlotLaw s := by
  unfold SlotLaw
  rw [h]
  exact ⟨nofun, fun p hp => by cases hp; exact ⟨m, hframe⟩⟩

theorem queueFire_answered {v : BitVec 8} (hbus : s.bus.offBus = false) : FireAnswered v s (queueFire v s) := by
  refine ⟨fun hfree => ⟨s.bus.order, ?_⟩, fun q m hslot hframe => ⟨fun hstarted => ?_, fun hstarted => ?_⟩⟩
  · unfold queueFire
    rw [if_neg (by simp [hbus]), hfree]
    rfl
  · unfold queueFire
    rw [if_neg (by simp [hbus]), hslot]
    dsimp only
    rw [if_neg (by simp [hstarted]), hframe]
    rfl
  · unfold queueFire
    rw [if_neg (by simp [hbus]), hslot]
    dsimp only
    rw [if_pos hstarted]
    exact ⟨hslot, rfl⟩

/-- What comes before and after the answer leaves slot 0 alone. -/
theorem fireAnswered_within {v : BitVec 8} {s₀ s₁ t₁ t₂ : State} (hbefore : FireKept s₀ s₁) (h : FireAnswered v s₁ t₁)
    (hafter : FireKept t₁ t₂) : FireAnswered v s₀ t₂ := by
  obtain ⟨hfree, hheld⟩ := h
  refine ⟨fun h₀ => ?_, fun q m h₀ hframe => ?_⟩
  · obtain ⟨hs0, -⟩ := hbefore (slotLaw_of_free h₀)
    obtain ⟨k, hk⟩ := hfree (hs0.trans h₀)
    exact ⟨k, (hafter (slotLaw_of_fire hk rfl)).1.trans hk⟩
  · obtain ⟨hs0, hpending⟩ := hbefore (slotLaw_of_fire h₀ hframe)
    obtain ⟨hwaiting, hrunning⟩ := hheld q m (hs0.trans h₀) hframe
    refine ⟨fun hstarted => ?_, fun hstarted => ?_⟩
    · have ht := hwaiting hstarted
      exact (hafter (slotLaw_of_fire ht rfl)).1.trans ht
    · obtain ⟨ht, hp⟩ := hrunning hstarted
      obtain ⟨hafter₀, hafterPending⟩ := hafter (slotLaw_of_fire ht hframe)
      exact ⟨hafter₀.trans ht, hafterPending.trans (by rw [hp, hpending])⟩

theorem FireAnswered.outcome {v : BitVec 8} (h : FireAnswered v s t) :
    (s.bus.slots.s0 = .free → ∃ k, t.bus.slots.s0 = .holds (newQueued (.fire v) k)) ∧
      ∀ q m, s.bus.slots.s0 = .holds q → q.frame = .fire m →
        (q.started = false → t.bus.slots.s0 = .holds { q with frame := .fire (m ||| v) }) ∧
        (q.started = true → t.bus.firePending = some (s.bus.firePending.getD 0#8 ||| v)) :=
  ⟨h.1, fun q m hslot hframe => (h.2 q m hslot hframe).imp_right fun hs hstarted => (hs hstarted).2⟩

theorem answerJoining_fire (hstation : s.ctl.station ≠ .joining ∧ s.ctl.station ≠ .strapFault)
    (hbus : s.bus.offBus = false) (hview : s.fire.view ≠ 0#8) :
    FireAnswered s.fire.view s (answerJoining .joining s) := by
  rw [answerJoining_view hstation, if_neg hview]
  exact fireAnswered_within announce_fireKept (queueFire_answered (by simpa using hbus)) .refl

/-! ### What follows a JOIN with the own T (R117, R185) -/

theorem headsFor_sends : RingSends s (headsFor n s) := by
  have hact : ∀ (l : Lane) (t : State), RingSends t (if t.downstream l = some n ∧ mayOffer n t then actIdleHead l t else t) := by
    intro l t
    split
    · exact actIdleHead_sends
    · exact .refl
  exact (hact _ _).trans (hact _ _)

@[simp] theorem headsFor_keeps (n : Nat) (s : State) :
    (headsFor n s).pins = s.pins ∧ (headsFor n s).ctl.station = s.ctl.station ∧ (headsFor n s).ctl.setup = s.ctl.setup ∧
      (headsFor n s).ctl.roster = s.ctl.roster ∧ (headsFor n s).bins = s.bins ∧ (headsFor n s).est = s.est ∧
      (headsFor n s).auctions = s.auctions := by
  unfold headsFor
  dsimp only
  split
  · split
    · simp
    · simp
  · split
    · simp
    · simp

@[simp] theorem joinRoster_keeps (n comp : Nat) (port : Bool) (x : StationState) (s : State) :
    (joinRoster n comp port x s).pins = s.pins ∧ (joinRoster n comp port x s).bus = s.bus ∧
      (joinRoster n comp port x s).ctl.straps = s.ctl.straps ∧
      (joinRoster n comp port x s).ctl.station = s.ctl.station ∧ (joinRoster n comp port x s).ctl.setup = s.ctl.setup ∧
      (joinRoster n comp port x s).ctl.warmStart = s.ctl.warmStart ∧
      (joinRoster n comp port x s).ctl.roster = tablePut RosterEntry.cleared s.ctl.roster n ⟨true, comp, port, x⟩ ∧
      (joinRoster n comp port x s).bins = s.bins ∧ (joinRoster n comp port x s).est = s.est ∧
      (joinRoster n comp port x s).auctions = s.auctions ∧ (joinRoster n comp port x s).fire.view = s.fire.view := by
  unfold joinRoster
  dsimp only
  split
  · exact ⟨rfl, rfl, rfl, rfl, rfl, rfl, rfl, rfl, rfl, rfl, rfl⟩
  · exact ⟨rfl, rfl, rfl, rfl, rfl, rfl, rfl, rfl, rfl, rfl, rfl⟩

/-- What the JOIN body is made of. -/
theorem joinBody_eq_of (hstraps : t.ctl.straps = s.ctl.straps) (hstation : t.ctl.station = s.ctl.station)
    (hwarm : t.ctl.warmStart = s.ctl.warmStart) : joinBody t = joinBody s := by
  unfold joinBody State.num State.top State.compartment
  rw [hstraps, hstation, hwarm]

theorem stationStateOf_isSome {k : Nat} (h : k ≤ 4) : ∃ x, stationStateOf k = some x ∧ (x = .joining ↔ k = 0) := by
  interval_cases k
  · exact ⟨.joining, rfl, by decide⟩
  · exact ⟨.active, rfl, by decide⟩
  · exact ⟨.doze, rfl, by decide⟩
  · exact ⟨.shutdown, rfl, by decide⟩
  · exact ⟨.recovery, rfl, by decide⟩

theorem stationStateOf_none {k : Nat} (h : 4 < k) : stationStateOf k = none := by
  obtain ⟨m, rfl⟩ := Nat.exists_eq_add_of_lt h
  rw [show 4 + m + 1 = m + 5 by omega]
  rfl

theorem takeJoin_of_bad (h : ¬ (byteAt f.payload 0 = f.sender.toNat ∧ byteAt f.payload 2 ≤ 7 ∧ byteAt f.payload 4 ≤ 4)) :
    takeJoin f s = s := by
  unfold takeJoin
  dsimp only
  split
  next hgood =>
    have hlate : 4 < byteAt f.payload 4 := by
      by_contra hle
      exact h ⟨hgood.1, hgood.2, by omega⟩
    rw [stationStateOf_none hlate]
  next => rfl

/-- A JOIN with the own T (R41). -/
theorem takeJoin_same (hnumber : byteAt f.payload 0 = f.sender.toNat) (hcomp : byteAt f.payload 2 ≤ 7)
    (hx : stationStateOf (byteAt f.payload 4) = some x) (htop : byteAt f.payload 1 = s.top) :
    takeJoin f s = headsFor f.sender.toNat (shutterTakeUp (answerJoining x
      (joinRoster f.sender.toNat (byteAt f.payload 2) (decide (byteAt f.payload 3 % 2 = 1)) x s))) := by
  unfold takeJoin
  dsimp only
  rw [if_pos ⟨hnumber, hcomp⟩, hx]
  exact if_pos htop

/-- A JOIN with another T (R44). -/
theorem takeJoin_other (hnumber : byteAt f.payload 0 = f.sender.toNat) (hcomp : byteAt f.payload 2 ≤ 7)
    (hx : stationStateOf (byteAt f.payload 4) = some x) (htop : byteAt f.payload 1 ≠ s.top) :
    takeJoin f s = answerJoining x (joinMismatch f.sender.toNat s) := by
  unfold takeJoin
  dsimp only
  rw [if_pos ⟨hnumber, hcomp⟩, hx]
  exact if_neg htop

@[simp] theorem answerJoining_keeps (x : StationState) (s : State) :
    (answerJoining x s).pins = s.pins ∧ (answerJoining x s).ctl = s.ctl ∧ (answerJoining x s).bins = s.bins ∧
      (answerJoining x s).est = s.est ∧ (answerJoining x s).auctions = s.auctions := by
  rw [answerJoining_frame]
  exact ⟨rfl, rfl, rfl, rfl, rfl⟩

/-- Settles O18, by the T that the JOIN carries. -/
theorem joinUpdatesTheRoster : Obligations.JoinUpdatesTheRoster := by
  intro s f hstation hfrom hsender hdest hlen hwf n good
  set v := answerWith silent s with hv
  have hexec : exec (.join f) s = .next (takeJoin f v) := by
    refine congrArg _ ((receive_broadcast (offBusToo := true) hstation (deafSender_of_isStation hfrom) hsender hdest hlen
      rfl (Or.inr rfl)).trans ?_)
    exact if_pos hfrom
  have hwfv : tableWf RosterEntry.cleared v.ctl.roster = true := hwf
  by_cases hgood : good
  · obtain ⟨hnumber, hcomp, hstate⟩ := id hgood
    obtain ⟨x, hx, hjoining⟩ := stationStateOf_isSome hstate
    have hanswers : byteAt f.payload 4 = 0 → x = .joining := hjoining.2
    by_cases htop : byteAt f.payload 1 = s.top
    · set w := joinRoster n (byteAt f.payload 2) (decide (byteAt f.payload 3 % 2 = 1)) x v with hw
      have htake : takeJoin f v = headsFor n (shutterTakeUp (answerJoining x w)) :=
        takeJoin_same (s := v) hnumber hcomp hx htop
      have hafter : RingSends (answerJoining x w) (takeJoin f v) := by
        rw [htake]
        exact shutterTakeUp_sends.trans headsFor_sends
      have hroster : (takeJoin f v).ctl.roster = tablePut RosterEntry.cleared s.ctl.roster n
          ⟨true, byteAt f.payload 2, decide (byteAt f.payload 3 % 2 = 1), x⟩ := by
        rw [htake]
        simp [w, v]
      refine ⟨_, hexec, ?_, ?_, ?_, ?_, ?_, ?_, fun m hm => ?_, fun _ _ => ⟨x, hx, ?_⟩, fun _ hne => absurd htop hne,
        fun _ hzero hnot hbus => ?_, fun hbad => absurd hgood hbad⟩
      · rw [htake]
        simp [w, v]
      · rw [htake]
        simp [w, v]
      · rw [htake]
        simp [w, v]
      · rw [htake]
        simp [w, v]
      · rw [htake]
        simp [w, v]
      · rw [htake]
        simp [w, v]
      · unfold rosterOf
        rw [hroster]
        exact tableGet_tablePut_other _ hwf hm _
      · unfold rosterOf
        rw [hroster]
        exact tableGet_tablePut _ hwf n _
      · obtain rfl := hanswers hzero
        have hst : w.ctl.station ≠ .joining ∧ w.ctl.station ≠ .strapFault := by
          simpa [w, v] using And.intro hnot hstation
        have hbus : w.bus.offBus = false := by simpa [w, v] using hbus
        have hbody : joinBody w = joinBody s := joinBody_eq_of (by simp [w, v]) (by simp [w, v]) (by simp [w, v])
        refine ⟨hbody ▸ hafter.joinWaits (answerJoining_joinWaits hst hbus), fun hview => ?_⟩
        have hwview : w.fire.view = s.fire.view := by simp [w, v]
        have hfire := answerJoining_fire hst hbus (by rwa [hwview])
        rw [hwview] at hfire
        have hheard : FireKept s w := fun _ => ⟨by simp [w, v, answerWith], by simp [w, v, answerWith]⟩
        exact (fireAnswered_within hheard hfire hafter.fireKept).outcome
    · set w := joinMismatch n v with hw
      have htake : takeJoin f v = answerJoining x w := takeJoin_other (s := v) hnumber hcomp hx htop
      have hroster : (takeJoin f v).ctl.roster =
          tablePut RosterEntry.cleared s.ctl.roster n { rosterOf n s with present := false } := by
        have hraised : w.ctl.roster = (setRoster n { rosterOf n v with present := false } v).ctl.roster := by
          simp [w, joinMismatch]
        rw [htake, answerJoining_frame]
        exact hraised
      have hnoted : raise (.state s.ctl.station.code n) { s with
          bus := { s.bus with answer := silent }
          ctl := { s.ctl with
            roster := (takeJoin f v).ctl.roster, record := { s.ctl.record with ringMismatch := true } } } = w := by
        rw [hroster]
        rfl
      have hstationW : w.ctl.station = s.ctl.station := by simp [w, joinMismatch, v]
      refine ⟨_, hexec, ?_, ?_, ?_, ?_, ?_, ?_, fun m hm => ?_, fun _ hsame => absurd hsame htop, fun _ _ => ?_,
        fun _ hzero hnot hbus => ?_, fun hbad => absurd hgood hbad⟩
      · rw [htake]
        simp [w, joinMismatch, v]
      · rw [htake]
        simp [w, joinMismatch, v]
      · rw [htake]
        simp [w, joinMismatch, v]
      · rw [htake]
        simp [w, joinMismatch, v]
      · rw [htake]
        simp [w, joinMismatch, v]
      · rw [htake]
        simp [w, joinMismatch, v]
      · unfold rosterOf
        rw [hroster]
        exact tableGet_tablePut_other _ hwf hm _
      · intro noted
        have hsame : noted = w := hnoted
        refine ⟨?_, ?_, fun hquiet => ?_⟩
        · unfold rosterOf
          rw [hroster]
          exact tableGet_tablePut _ hwf n _
        · rw [hsame, htake]
          exact answerJoining_frame
        · rw [hsame, htake]
          refine answerJoining_of_silent (hquiet.imp (fun h hj => h (hjoining.1 hj)) fun h => ?_)
          rw [hstationW, h]
      · obtain rfl := hanswers hzero
        have hst : w.ctl.station ≠ .joining ∧ w.ctl.station ≠ .strapFault := by
          rw [hstationW]
          exact ⟨hnot, hstation⟩
        have hbus : w.bus.offBus = false := by simpa [w, joinMismatch, v, answerWith] using hbus
        have hbody : joinBody w = joinBody s :=
          joinBody_eq_of (by simp [w, joinMismatch, v]) hstationW (by simp [w, joinMismatch, v])
        rw [htake]
        refine ⟨hbody ▸ answerJoining_joinWaits hst hbus, fun hview => ?_⟩
        have hwview : w.fire.view = s.fire.view := by simp [w, joinMismatch, v]
        have hfire := answerJoining_fire hst hbus (by rwa [hwview])
        rw [hwview] at hfire
        have hheard : FireKept s v := fun _ => ⟨rfl, rfl⟩
        have hnoticed : FireKept v w := FireKept.trans
          (t := (setRoster n { rosterOf n v with present := false } v).onRecord fun r => { r with ringMismatch := true })
          (.of_bus rfl) raise_fireKept
        exact (fireAnswered_within (hheard.trans hnoticed) hfire .refl).outcome
  · have htake : takeJoin f v = v := takeJoin_of_bad hgood
    rw [htake] at hexec
    exact ⟨v, hexec, rfl, rfl, rfl, rfl, rfl, rfl, fun _ _ => rfl, fun h => absurd h hgood, fun h => absurd h hgood,
      fun h => absurd h hgood, fun _ => rfl⟩

end Sys2Proof.Machine
end

section
/-! PROOF. The obligation on AUDIT and PROBE (R191, R192). -/

namespace Sys2Proof.Machine

-- Checked one after another: the host bounds the memory of all threads together.
set_option Elab.async false

open Sys2Proof Sys2Proof.Safety

variable {s t u : State} {id : SlotId} {r : RxRecord} {rest : List RxRecord} {i : Nat} {j : Job}

/-! ### The order (R191) -/

theorem auditNext_of_valid {p : Straps} {n : Nat} (hn : n ≠ 0) (hle : i ≤ 2047) (hvalid : validIndex p i = true) :
    auditNext p n i = some (i, n) := by
  obtain ⟨m, rfl⟩ := Nat.exists_eq_succ_of_ne_zero hn
  unfold auditNext
  rw [if_neg (by omega), if_pos hvalid]

theorem poolAdmits_audit_iff : poolAdmits .audit s = true ↔ nonStoreCount s.crane.pool < 31 ∧ s.crane.pool.length < 32 := by
  simp [poolAdmits]

/-- An AUDIT that the pool admits enters it (R69, R191). -/
theorem offerJob_audit {n : Nat} (hroom : nonStoreCount s.crane.pool < 31 ∧ s.crane.pool.length < 32) (hn : n ≠ 0)
    (hle : i ≤ 2047) (hvalid : validIndex s.ctl.straps i = true) :
    offerJob (auditJob i n) s = (.entered, s.onCrane fun k => { k with
      pool := k.pool ++ [{ auditJob i n with stamp := s.est.time, est := estOf s.ctl.setup (auditJob i n) }] }) := by
  have hoffer : offerJob (auditJob i n) s = (.entered, enterJob (auditJob i n) s) := if_pos (poolAdmits_audit_iff.2 hroom)
  rw [hoffer]
  unfold enterJob
  dsimp only [auditJob]
  rw [auditNext_of_valid hn hle hvalid]

theorem offerJob_audit_full {n : Nat} (hroom : ¬ (nonStoreCount s.crane.pool < 31 ∧ s.crane.pool.length < 32)) :
    offerJob (auditJob i n) s = (.full, s) := if_neg (mt poolAdmits_audit_iff.1 hroom)

/-- A job that enters while the crane is not IDLE and the station awake waits (R82). -/
theorem jobEntered_of_busy (hcrane : s.crane.state ≠ .idle) (hdoze : s.ctl.station ≠ .doze) : jobEntered s = s := by
  unfold jobEntered
  rw [wakeCause_of_not_doze hdoze]
  exact dispatch_of_not_idle hcrane

/-! ### The comparison (R192) -/

/-- The last location of an AUDIT has been felt: the job goes, and the crane is IDLE (R78, R79). -/
theorem auditEnds (hpool : s.crane.pool = [j]) (hactive : j.state = .active) (hlast : j.remaining = 1)
    (hcrane : s.crane.state = .running) (hrestore : s.crane.restoreWanted = false)
    (hstore : s.crane.storeWanted = false) :
    dispatch (craneRests (advanceAudit j s)) = s.onCrane fun k => { k with state := .idle, pool := [] } := by
  have hgone : removeCurrent s = s.onCrane fun k => { k with pool := [] } := by
    unfold removeCurrent State.onCrane
    dsimp only
    rw [hpool]
    simp [hactive]
  have hadvance : advanceAudit j s = s.onCrane fun k => { k with pool := [] } := by
    unfold advanceAudit
    rw [hlast, hgone]
    exact recordFreed_of_nothing_wanted hrestore hstore
  have hrests : craneRests (advanceAudit j s) = s.onCrane fun k => { k with state := .idle, pool := [] } := by
    rw [hadvance]
    unfold craneRests State.onCrane
    dsimp only
    rw [hcrane]
    rfl
  rw [hrests]
  exact dispatch_of_no_jobs rfl

/-- The audit marks no RETRIEVE's bin LOST: the AUDIT is the only job (R83). -/
theorem dropWaitingRetrieve_of_audit {bin : Nat} (hpool : s.crane.pool = [j]) (hkind : j.kind = .audit) :
    dropWaitingRetrieve bin s = s := by
  have hnone : retrieveFor bin s = none := by simp [retrieveFor, hpool, hkind]
  unfold dropWaitingRetrieve
  rw [hnone]

theorem binAt_raise (i : Nat) (n : Notice) (s : State) : binAt i (raise n s) = binAt i s := by
  simp [binAt]

theorem markFoundByAudit_of_lost (h : (binAt i s).state = .lost)
    (hfill : ∀ c, (binAt i s).call = some c → c.purpose ≠ .fill) :
    markFoundByAudit i s = raise (.found (ownBin i s) 1)
      (putBin i { binAt i s with state := .stored, hold := 0, call := none, followOns := [] } s) := by
  unfold markFoundByAudit
  dsimp only
  rw [if_pos h]
  split
  next c hc => exact if_neg (hfill c hc)
  next => rfl

/-- Whatever call it drops, the record found by an audit is STORED without hold, call or list (R62). -/
theorem binAt_markFoundByAudit (hwf : BinsWf s) (h : (binAt i s).state = .lost) :
    binAt i (markFoundByAudit i s) = { binAt i s with state := .stored, hold := 0, call := none, followOns := [] } ∧
      ∀ k, k ≠ i → binAt k (markFoundByAudit i s) = binAt k s := by
  set b := putBin i { binAt i s with state := .stored, hold := 0, call := none, followOns := [] } s with hb
  have hbins : (markFoundByAudit i s).bins = b.bins := by
    unfold markFoundByAudit
    dsimp only
    rw [if_pos h]
    split
    · split
      · simp [b]
      · simp [b]
    · simp [b]
  have hread : ∀ k, binAt k (markFoundByAudit i s) = binAt k b := fun k => by
    unfold binAt
    rw [hbins]
  exact ⟨(hread i).trans (binAt_putBin hwf i _), fun k hk => (hread k).trans (binAt_putBin_other hwf hk _)⟩

theorem compareProbe_stored (present : Bool) (h : (binAt i s).state = .stored) : compareProbe i present s =
    if present then s else dropWaitingRetrieve (ownBin i s) (markLostByAudit i s) := by
  unfold compareProbe
  rw [h]
  split
  · rfl
  · exact if_pos rfl

theorem compareProbe_lost (present : Bool) (h : (binAt i s).state = .lost) : compareProbe i present s =
    if present then markFoundByAudit i s else s := by
  unfold compareProbe
  rw [h]
  split
  · rfl
  · exact if_neg nofun

/-- A record that is neither STORED nor LOST (R192). -/
theorem compareProbe_other (present : Bool) (hstored : (binAt i s).state ≠ .stored) (hlost : (binAt i s).state ≠ .lost) :
    compareProbe i present s =
      if present then raise (.unregistered (ownBin i s) (binAt i s).state.code) s else s := by
  unfold compareProbe
  dsimp only
  split
  · split
    next h => exact absurd h hstored
    next h => exact absurd h hlost
    next => rfl
  · rfl

/-- Settles O57: the order by what the pool admits, the comparison by the record's state. -/
theorem auditAndProbe : Obligations.AuditAndProbe := by
  refine ⟨fun s id r rest htakes hkind hstation hcrane => ?_,
    fun s j side hactive hrunning hflight hpool hjob hkind hlast hrestore hstore hwf => ?_⟩
  · intro first raw room reply
    have ⟨_, _, hsender, _⟩ := htakes
    have hp : isKind .audit r = true := by simp [isKind, hkind]
    have hadmit : refusal r.kind s.ctl.station = none := by
      rcases hstation with h | h <;> rw [hkind, h] <;> rfl
    have hdoze : s.ctl.station ≠ .doze := by rcases hstation with h | h <;> simp [h]
    set w := beginTake id r rest s with hw
    have hgood : first ≤ 2047 → raw ≠ 0 → ¬ (2047 < first ∨ raw = 0) := by
      rintro hle hne (h | h)
      · omega
      · exact hne h
    refine ⟨fun hbad => ?_, fun hle hne hroom hvalid => ?_, fun hle hne hroom => ?_⟩
    · have hbody : auditBody r w = (auditAnswer .badField false first (min 64 raw) w, w) := if_pos hbad
      obtain ⟨hreplies, hstate, -⟩ := serve_answers (p := isKind .audit) htakes hp hadmit hbody
      exact ⟨_, _, rfl, hreplies, rfl, hstate⟩
    · intro job
      set v := w.onCrane fun k => { k with
        pool := k.pool ++ [{ job with stamp := w.est.time, est := estOf w.ctl.setup job }] } with hv
      have hbody : auditBody r w = (auditAnswer .accepted (decide (64 < raw)) first (min 64 raw) v, v) := by
        have hoffer : offerJob (auditJob first (min 64 raw)) w = (.entered, v) :=
          offerJob_audit (s := w) hroom (by omega) hle hvalid
        unfold auditBody
        dsimp only
        rw [if_neg (hgood hle hne), hoffer]
        dsimp only
        rw [jobEntered_of_busy (s := v) hcrane hdoze]
      obtain ⟨hreplies, hstate⟩ := serve_carriesOut (p := isKind .audit) htakes hp hadmit hbody rfl
      rw [Answer.toReply_eq _ hsender, hkind] at hreplies
      refine ⟨_, rfl, ?_, ?_⟩
      · simpa [auditAnswer, Answer.plain, plainReply, reply, hiNat, loNat, v, w] using hreplies
      · rw [hstate]
        apply State.eq_of_blocks <;> simp [v, w, job]
    · have hbody : auditBody r w = (auditAnswer .full (decide (64 < raw)) first (min 64 raw) w, w) := by
        unfold auditBody
        dsimp only
        rw [if_neg (hgood hle hne), offerJob_audit_full (s := w) hroom]
      obtain ⟨hreplies, hstate, -⟩ := serve_answers (p := isKind .audit) htakes hp hadmit hbody
      rw [Answer.toReply_eq _ hsender, hkind] at hreplies
      refine ⟨_, rfl, ?_, hstate⟩
      simpa [auditAnswer, Answer.plain, plainReply, reply, hiNat, loNat, w] using hreplies
  · intro i b ended bin
    set w := reportTaken s with hw
    have hexec : ∀ present c, compareProbe i present w = c → c.crane = w.crane →
        exec (.probe present) s = .next (c.onCrane fun _ => ended) := by
      intro present c hcompare hc
      have hcurrent : currentJob w = some j := by simp [currentJob, w, reportTaken, hpool, hjob]
      have hends := auditEnds (s := c) (j := j) (by simp [hc, w, reportTaken, hpool]) hjob hlast
        (by simp [hc, w, reportTaken, hrunning]) (by simp [hc, w, reportTaken, hrestore])
        (by simp [hc, w, reportTaken, hstore])
      have htaken : takeReport .probe (probeTo present) s = probeTo present (.fork side .probe) w :=
        takeReport_completing (by simp [hactive]) (by simp [hrunning]) hflight rfl
      have hprobe : probeTo present (.fork side .probe) w = dispatch (craneRests (advanceAudit j c)) := by
        unfold probeTo
        rw [hcurrent]
        exact congrArg (fun t => dispatch (craneRests (advanceAudit j t))) hcompare
      have hended : (c.onCrane fun k => { k with state := .idle, pool := [] }) = c.onCrane fun _ => ended := by
        unfold State.onCrane
        dsimp only
        rw [hc]
        rfl
      exact congrArg _ ((htaken.trans hprobe).trans (hends.trans hended))
    have hsame : (w.onCrane fun _ => ended) = { s with crane := ended } := rfl
    have hwfw : BinsWf w := hwf
    refine ⟨fun hstored hlost => ⟨?_, ?_⟩, fun hstored => ⟨?_, ?_⟩, fun hlost => ⟨?_, ?_⟩⟩
    · have hraise : raise (.unregistered bin b.state.code) w = (raise (.unregistered bin b.state.code) s).onCrane
          fun k => { k with inFlight := none, limit := none } := raise_onCrane _ _ s
      have hcompare : compareProbe i true w = raise (.unregistered bin b.state.code) w :=
        compareProbe_other (s := w) true hstored hlost
      refine (hexec true _ hcompare (by simp)).trans ?_
      rw [hraise]
      rfl
    · exact hexec false w (compareProbe_other (s := w) false hstored hlost) rfl
    · exact hexec true w (compareProbe_stored (s := w) true hstored) rfl
    · have hmark : markLostByAudit i w = raise (.lost bin 2) (putBin i { b with state := .lost } w) := if_pos hstored
      set v := putBin i { b with state := .lost } w with hv
      have hcompare : compareProbe i false w = raise (.lost bin 2) v := by
        refine (compareProbe_stored (s := w) false hstored).trans ?_
        rw [if_neg Bool.false_ne_true, hmark]
        exact dropWaitingRetrieve_of_audit (by simp [v, w, reportTaken, hpool]) hkind
      refine ⟨_, hexec false _ hcompare (by simp [v]), ?_, fun k hk => ?_, ?_⟩
      · show binAt i (raise _ v) = _
        rw [binAt_raise]
        exact binAt_putBin hwfw i _
      · show binAt k (raise _ v) = _
        rw [binAt_raise]
        exact binAt_putBin_other hwfw hk _
      · rw [raise_eq_with (s := s) (t := v) rfl rfl]
        apply State.eq_of_blocks <;> simp [v, w, reportTaken]
    · exact hexec false w (compareProbe_lost (s := w) false hlost) rfl
    · have hcompare : compareProbe i true w = markFoundByAudit i w := compareProbe_lost (s := w) true hlost
      obtain ⟨hread, hothers⟩ := binAt_markFoundByAudit hwfw hlost
      refine ⟨_, hexec true _ hcompare (by simp), hread, hothers, fun hfill => ?_⟩
      have hfound := markFoundByAudit_of_lost (s := w) hlost hfill
      rw [show ownBin i w = bin from rfl] at hfound
      set v := putBin i { binAt i w with state := .stored, hold := 0, call := none, followOns := [] } w with hv
      rw [hfound, raise_eq_with (s := s) (t := v) rfl rfl]
      apply State.eq_of_blocks <;> simp [v, w, reportTaken]

end Sys2Proof.Machine
end

section
/-! PROOF. How an IDENTIFY is answered: its place, its refusals, the bin it names and the strays it finds (R194 to
R197). -/

namespace Sys2Proof.Machine

-- Checked one after another: the host bounds the memory of all threads together.
set_option Elab.async false

open Sys2Proof Sys2Proof.Safety

variable {s t u v w : State} {id : SlotId} {r : RxRecord} {rest : List RxRecord} {place bin e pos i : Nat} {p : Place}
  {l : Lane} {code : ResultCode} {before after : List PlaceRec} {c : Carry}

/-! ### The REPLYs (R194) -/

/-- The IDENTIFY is refused: its REPLY names the bin and the place, and nothing else changes. -/
def IdentifyRefused (s : State) (id : SlotId) (r : RxRecord) (rest : List RxRecord) (code : ResultCode) : Prop :=
  ∃ t a, exec (commandFor r) s = .next t ∧ Replies t id rest a ∧ a.code = code ∧ a.ref = wordAt r.payload 1 ∧
    a.d0 = byteAt r.payload 0 ∧ a.d1 = 0 ∧ t = { s with bus := t.bus }

/-- The REPLY of an IDENTIFY carried out. -/
def identifiedReply (place bin e state : Nat) : Reply :=
  { plainReply .identify .done bin with d0 := place, d1 := e, d2 := state }

/-- A bin ID of another station (R47). -/
def OtherBin (s : State) (bin : Nat) : Prop := 1 ≤ bin / 2048 ∧ bin / 2048 ≤ 24 ∧ bin / 2048 ≠ s.num

/-- The record of an own bin once its bin has been named at a place (R195). -/
def namedRecord (place : Nat) (b : BinRec) : BinRec :=
  if b.state = .lost then { b with state := .out }
  else if place = 8 ∧ b.state = .absent then { BinRec.blank with state := .out }
  else if place = 8 ∧ b.state = .stored then { b with state := .out }
  else b

/-- The Bin Table and Station Control once the bin has been named (R195). -/
def BinNamed (place bin : Nat) (s t : State) : Prop :=
  (OtherBin s bin → t.bins = s.bins ∧ t.ctl = s.ctl) ∧
    (idIsOwn s bin → (∀ k, k ≠ bin % 2048 → binAt k t = binAt k s) ∧
      binAt (bin % 2048) t = namedRecord place (binAt (bin % 2048) s))

/-- The IDENTIFY names its bin: the REPLY and the bin's record (R194, R195). -/
def Identified (s : State) (id : SlotId) (r : RxRecord) (rest : List RxRecord) (t : State) (e : Nat) : Prop :=
  exec .identify s = .next t ∧ ∃ a, Replies t id rest a ∧
    a = identifiedReply (byteAt r.payload 0) (wordAt r.payload 1) e a.d2 ∧
    (OtherBin s (wordAt r.payload 1) → a.d2 = 0 ∧ t.bins = s.bins ∧ t.ctl = s.ctl) ∧
    (idIsOwn s (wordAt r.payload 1) → a.d2 = (binAt (wordAt r.payload 1 % 2048) t).state.code ∧
      (∀ k, k ≠ wordAt r.payload 1 % 2048 → binAt k t = binAt k s) ∧
      binAt (wordAt r.payload 1 % 2048) t =
        namedRecord (byteAt r.payload 0) (binAt (wordAt r.payload 1 % 2048) s))

/-- The IDENTIFY clears its place (R196, R197). -/
def IdentifyCleared (s : State) (id : SlotId) (r : RxRecord) (rest : List RxRecord) (t : State) (e : Nat) : Prop :=
  exec .identifyClear s = .next t ∧
    Replies t id rest (identifiedReply (byteAt r.payload 0) (wordAt r.payload 1) e 0) ∧ t.bins = s.bins

/-- The bin may be named at the place (R194). -/
def MayName (place bin : Nat) (s : State) : Prop :=
  bin ∉ heldBins s ∧ (OtherBin s bin ∧ place ≠ 8 ∨
    idIsOwn s bin ∧ (binAt (bin % 2048) s).state ≠ .lifting ∧ (binAt (bin % 2048) s).state ≠ .storing)

theorem classify_eq_other_iff : classify bin s = .other ↔ OtherBin s bin := by
  unfold classify OtherBin homeOf
  split
  next h =>
    simp only [reduceCtorEq, false_iff]
    omega
  next h =>
    split
    next hother => exact ⟨fun _ => ⟨by omega, by omega, hother⟩, fun _ => rfl⟩
    next hown =>
      rw [not_not] at hown
      split <;> simp [hown]

theorem classify_invalid (h : bin / 2048 = 0 ∨ 25 ≤ bin / 2048) : classify bin s = .invalid := if_pos h

/-- A bin ID of no location of this station is invalid, or invalid here (R47). -/
theorem classify_nowhere (hnum : bin / 2048 = s.num) (hown : ¬ idIsOwn s bin) :
    classify bin s = .invalid ∨ classify bin s = .invalidHere := by
  have hnot : classify bin s ≠ .own := mt (classify_eq_own_iff bin).1 hown
  have hother : classify bin s ≠ .other := fun h => (classify_eq_other_iff.1 h).2.2 hnum
  cases h : classify bin s
  case own => exact absurd h hnot
  case other => exact absurd h hother
  case invalid => exact .inl rfl
  case invalidHere => exact .inr rfl

theorem identify_admitted (hkind : r.kind = .identify) (hjoining : s.ctl.station ≠ .joining) :
    refusal r.kind s.ctl.station = none := by
  rw [hkind]
  cases h : s.ctl.station
  case joining => exact absurd h hjoining
  all_goals rfl

/-- A REPLY that is only a refusal. -/
theorem identify_refused (htakes : Takes s id r rest) (hkind : r.kind = .identify)
    (hjoining : s.ctl.station ≠ .joining)
    (hbody : bodyFor r r (beginTake id r rest s) =
      identifyRefused code (byteAt r.payload 0) (wordAt r.payload 1) (beginTake id r rest s)) :
    IdentifyRefused s id r rest code := by
  obtain ⟨p, hp, hexec⟩ := exec_commandFor r
  obtain ⟨hreplies, hstate, -⟩ := serve_answers htakes hp (identify_admitted hkind hjoining) hbody
  exact ⟨_, _, hexec s, hreplies, rfl, rfl, rfl, rfl, hstate⟩

theorem bodyFor_identify (hkind : r.kind = .identify) (hbin : wordAt r.payload 1 ≠ 0) : bodyFor r = identifyBody := by
  unfold bodyFor
  rw [hkind]
  exact if_neg hbin

theorem bodyFor_identifyClear (hkind : r.kind = .identify) (hbin : wordAt r.payload 1 = 0) :
    bodyFor r = identifyClearBody := by
  unfold bodyFor
  rw [hkind]
  exact if_pos hbin

/-- The REPLY of an IDENTIFY carried out, as the state then gives it. -/
theorem identifiedReply_eq (hsender : r.sender.toNat = Config.gateway) (hkind : r.kind = .identify) :
    (Answer.identify .done place e bin v).toReply r = identifiedReply place bin e
      (if classify bin v = .own then (binAt (indexOf bin) v).state.code else 0) := by
  rw [Answer.toReply_eq _ hsender, hkind]
  rfl

theorem classify_congr (h : t.ctl.straps = s.ctl.straps) : classify bin t = classify bin s := by
  unfold classify State.num
  rw [h]

theorem otherBin_congr (h : t.ctl.straps = s.ctl.straps) : OtherBin t bin ↔ OtherBin s bin := by
  unfold OtherBin State.num
  rw [h]

/-- The frames queued in the slots other than `id` stay in them. -/
def OthersQueued (id : SlotId) (u : State) (b : Bus) : Prop :=
  ∀ k q, k ≠ id → u.bus.slots.get k = .holds q → b.slots.get k = .holds q

/-- An order carried out, its REPLY, and the frames that its owner queued. -/
theorem serve_queues {pr : RxRecord → Bool} {body : OrderBody} {a : Answer} (h : Takes s id r rest) (hp : pr r = true)
    (hadmit : refusal r.kind s.ctl.station = none) (hbody : body r (beginTake id r rest s) = (a, u))
    (hrx : u.bus.rx = rest) :
    ∃ b, serve pr body s = { u with bus := b } ∧ Replies { u with bus := b } id rest (a.toReply r) ∧
      OthersQueued id u b := by
  obtain ⟨hreplies, hstate⟩ := serve_carriesOut h hp hadmit hbody hrx
  refine ⟨_, hstate, hstate ▸ hreplies, fun k q hk hslot => ?_⟩
  rw [serve_of_takes h hp hadmit, hbody]
  exact wishGoesOn_get_of_holds ((Slots.get_set_other hk _ _).trans hslot)

/-- An IDENTIFY carried out: its REPLY and the frames it queued. -/
theorem identify_replies (htakes : Takes s id r rest) (hkind : r.kind = .identify)
    (hjoining : s.ctl.station ≠ .joining) (hbin : wordAt r.payload 1 ≠ 0)
    (hbody : identifyBody r (beginTake id r rest s) =
      (Answer.identify .done (byteAt r.payload 0) e (wordAt r.payload 1) v, u))
    (hstraps : v.ctl.straps = s.ctl.straps) (hrx : u.bus.rx = rest) :
    ∃ b, exec .identify s = .next { u with bus := b } ∧
      Replies { u with bus := b } id rest (identifiedReply (byteAt r.payload 0) (wordAt r.payload 1) e
        (if classify (wordAt r.payload 1) s = .own then (binAt (indexOf (wordAt r.payload 1)) v).state.code else 0)) ∧
      OthersQueued id u b := by
  have ⟨_, _, hsender, _⟩ := htakes
  obtain ⟨b, hserve, hreplies, hqueued⟩ := serve_queues
    (pr := fun r => decide (r.kind = .identify) && !isIdentifyClear r) htakes (by simp [isIdentifyClear, hkind, hbin])
    (identify_admitted hkind hjoining) hbody hrx
  rw [identifiedReply_eq hsender hkind, classify_congr hstraps] at hreplies
  exact ⟨b, congrArg _ hserve, hreplies, hqueued⟩

/-- An IDENTIFY whose body names the bin: the REPLY and the records, as the body leaves them. -/
theorem identify_names (htakes : Takes s id r rest) (hkind : r.kind = .identify) (hjoining : s.ctl.station ≠ .joining)
    (hbin : wordAt r.payload 1 ≠ 0)
    (hbody : identifyBody r (beginTake id r rest s) =
      (Answer.identify .done (byteAt r.payload 0) e (wordAt r.payload 1) v, u))
    (hv : v.bins = u.bins) (hstraps : v.ctl.straps = s.ctl.straps) (hrx : u.bus.rx = rest)
    (hnamed : BinNamed (byteAt r.payload 0) (wordAt r.payload 1) s u) :
    ∃ b, Identified s id r rest { u with bus := b } e ∧ OthersQueued id u b := by
  obtain ⟨b, hexec, hreplies, hqueued⟩ := identify_replies htakes hkind hjoining hbin hbody hstraps hrx
  obtain ⟨hother, hown⟩ := hnamed
  refine ⟨b, ⟨hexec, _, hreplies, rfl, fun ho => ⟨?_, hother ho⟩, fun ho => ⟨?_, hown ho⟩⟩, hqueued⟩
  · refine if_neg ?_
    rw [classify_eq_other_iff.2 ho]
    exact nofun
  · refine (if_pos ((classify_eq_own_iff _).2 ho)).trans ?_
    unfold binAt
    rw [hv]
    rfl

/-- An IDENTIFY of bin ID 0 whose body clears its place. -/
theorem identify_clears (htakes : Takes s id r rest) (hkind : r.kind = .identify) (hjoining : s.ctl.station ≠ .joining)
    (hbin : wordAt r.payload 1 = 0)
    (hbody : identifyClearBody r (beginTake id r rest s) = (Answer.identify .done (byteAt r.payload 0) e 0 u, u))
    (hbins : u.bins = s.bins) (hrx : u.bus.rx = rest) :
    ∃ b, IdentifyCleared s id r rest { u with bus := b } e ∧ OthersQueued id u b := by
  have ⟨_, _, hsender, _⟩ := htakes
  obtain ⟨b, hserve, hreplies, hqueued⟩ := serve_queues (pr := isIdentifyClear) htakes
    (by simp [isIdentifyClear, hkind, hbin]) (identify_admitted hkind hjoining) hbody hrx
  have hzero : classify 0 u ≠ .own := by
    rw [classify_invalid (.inl rfl)]
    exact nofun
  rw [identifiedReply_eq hsender hkind, if_neg hzero] at hreplies
  refine ⟨b, ⟨congrArg _ hserve, ?_, hbins⟩, hqueued⟩
  rw [hbin]
  exact hreplies

/-! ### The places (R194) -/

theorem placeOf_segment (l : Lane) (hlow : 1 ≤ pos) (hhigh : pos ≤ 3) :
    placeOf (3 * l.code + pos) = some (.segment l pos) := by
  cases l <;> interval_cases pos <;> rfl

theorem placeOf_none (h : 10 < place) : placeOf place = none := by
  obtain ⟨m, rfl⟩ := Nat.exists_eq_add_of_lt h
  rw [show 10 + m + 1 = m + 11 by omega]
  rfl

theorem identifyPlace_of (hplace : placeOf place = some p) (hport : p.atPort = true → s.ctl.straps.port = true) :
    identifyPlace place s = .inl p := by
  unfold identifyPlace
  rw [hplace]
  refine if_neg ?_
  cases hp : p.atPort with
  | false => simp
  | true => simp [hport hp]

/-- A stray place is named (R194). -/
theorem identifyBody_stray (hplace : placeOf (byteAt r.payload 0) = some p)
    (hport : p.atPort = true → s.ctl.straps.port = true) (hjam : jammedLane p s = none) :
    identifyBody r s = identifyStray (byteAt r.payload 0) p (wordAt r.payload 1) s := by
  unfold identifyBody
  dsimp only
  rw [identifyPlace_of hplace hport]
  dsimp only
  rw [hjam]

/-- A stray place is cleared (R196). -/
theorem identifyClearBody_stray (hplace : placeOf (byteAt r.payload 0) = some p)
    (hport : p.atPort = true → s.ctl.straps.port = true) (hjam : jammedLane p s = none) :
    identifyClearBody r s = clearStray (byteAt r.payload 0) p s := by
  unfold identifyClearBody
  dsimp only
  rw [identifyPlace_of hplace hport]
  dsimp only
  rw [hjam]

theorem jammedLane_of_jam (h : (s.seg l).head = .jammed) : jammedLane (.segment l 1) s = some l := if_pos h

/-- A JAMMED head is named (R197). -/
theorem identifyBody_jam (hplace : byteAt r.payload 0 = 3 * l.code + 1) (hjam : (s.seg l).head = .jammed) :
    identifyBody r s = identifyJam (byteAt r.payload 0) l (wordAt r.payload 1) s := by
  have hpl : placeOf (byteAt r.payload 0) = some (.segment l 1) := by
    rw [hplace]
    exact placeOf_segment l le_rfl (by omega)
  unfold identifyBody
  dsimp only
  rw [identifyPlace_of hpl nofun]
  dsimp only
  rw [jammedLane_of_jam hjam]

/-- A JAMMED head whose bin has been removed (R197). -/
theorem identifyClearBody_jam (hplace : byteAt r.payload 0 = 3 * l.code + 1) (hjam : (s.seg l).head = .jammed) :
    identifyClearBody r s = clearJam (byteAt r.payload 0) l s := by
  have hpl : placeOf (byteAt r.payload 0) = some (.segment l 1) := by
    rw [hplace]
    exact placeOf_segment l le_rfl (by omega)
  unfold identifyClearBody
  dsimp only
  rw [identifyPlace_of hpl nofun]
  dsimp only
  rw [jammedLane_of_jam hjam]

/-! ### The tests of the bin (R194) -/

theorem namingRefusal_invalid (h : bin / 2048 = 0 ∨ 25 ≤ bin / 2048) : namingRefusal p bin s = some .unknownBin := by
  unfold namingRefusal
  rw [classify_invalid h]

theorem namingRefusal_nowhere (hnum : bin / 2048 = s.num) (hown : ¬ idIsOwn s bin) :
    namingRefusal p bin s = some .unknownBin := by
  unfold namingRefusal
  rcases classify_nowhere hnum hown with h | h <;> rw [h]

/-- The tests of a bin ID of a station (R194). -/
theorem namingRefusal_of (h : OtherBin s bin ∨ idIsOwn s bin) : namingRefusal p bin s =
    if bin ∈ heldBins s then some .conflict
    else if p = .inStand ∧ classify bin s = .other then some .conflict
    else if classify bin s = .own ∧
      ((binAt (bin % 2048) s).state = .lifting ∨ (binAt (bin % 2048) s).state = .storing) then some .conflict
    else none := by
  unfold namingRefusal
  rcases h with h | h
  · rw [classify_eq_other_iff.2 h]
    rfl
  · rw [(classify_eq_own_iff bin).2 h]
    rfl

/-- A bin already held (R194 test 6). -/
theorem namingRefusal_held (h : OtherBin s bin ∨ idIsOwn s bin) (hheld : bin ∈ heldBins s) :
    namingRefusal p bin s = some .conflict := by
  rw [namingRefusal_of h, if_pos hheld]

/-- Another station's bin at the inbound stand (R194 test 7). -/
theorem namingRefusal_foreign (h : OtherBin s bin) : namingRefusal .inStand bin s = some .conflict := by
  rw [namingRefusal_of (.inl h)]
  split
  · rfl
  · exact if_pos ⟨rfl, classify_eq_other_iff.2 h⟩

/-- A bin being lifted or stored (R194 test 8). -/
theorem namingRefusal_handled (h : idIsOwn s bin)
    (hstate : (binAt (bin % 2048) s).state = .lifting ∨ (binAt (bin % 2048) s).state = .storing) :
    namingRefusal p bin s = some .conflict := by
  rw [namingRefusal_of (.inr h)]
  split
  · rfl
  · split
    · rfl
    · exact if_pos ⟨(classify_eq_own_iff bin).2 h, hstate⟩

/-- A bin that may be named is not refused. -/
theorem namingRefusal_of_mayName (hplace : p = .inStand → place = 8) (h : MayName place bin s) :
    namingRefusal p bin s = none := by
  obtain ⟨hheld, hwhose⟩ := h
  rw [namingRefusal_of (hwhose.imp And.left And.left), if_neg hheld]
  rcases hwhose with ⟨hother, hnot⟩ | ⟨hown, hlifting, hstoring⟩
  · have hclass := classify_eq_other_iff.2 hother
    rw [if_neg fun hin => hnot (hplace hin.1), if_neg]
    rintro ⟨hmine, -⟩
    rw [hclass] at hmine
    cases hmine
  · have hclass := (classify_eq_own_iff bin).2 hown
    rw [if_neg, if_neg]
    · rintro ⟨-, h | h⟩
      · exact hlifting h
      · exact hstoring h
    · rintro ⟨-, hforeign⟩
      rw [hclass] at hforeign
      cases hforeign

/-- A bin that may be named is not bin ID 0. -/
theorem ne_zero_of_mayName (h : MayName place bin s) : bin ≠ 0 := by
  rintro rfl
  rcases h.2 with ⟨⟨hlow, -⟩, -⟩ | ⟨⟨hlow, -, hnum, -⟩, -⟩ <;> omega

/-! ### Strays in a place list (R194; assumption log 74) -/

theorem strayAtPos_iff {q : PlaceRec} : strayAtPos pos q = true ↔ q = ⟨.stray, pos⟩ := by
  obtain ⟨content, k⟩ := q
  simp [strayAtPos, and_comm]

theorem nameStray_eq (hfirst : (⟨.stray, pos⟩ : PlaceRec) ∉ before) :
    nameStray pos c (before ++ ⟨.stray, pos⟩ :: after) = before ++ ⟨.carrying c, pos⟩ :: after := by
  induction before with
  | nil => exact if_pos (strayAtPos_iff.2 rfl)
  | cons q before ih =>
    obtain ⟨hq, hbefore⟩ : (⟨.stray, pos⟩ : PlaceRec) ≠ q ∧ (⟨.stray, pos⟩ : PlaceRec) ∉ before := by
      simpa using hfirst
    exact (if_neg fun h => hq (strayAtPos_iff.1 h).symm).trans (congrArg (q :: ·) (ih hbefore))

theorem dropStray_eq (hfirst : (⟨.stray, pos⟩ : PlaceRec) ∉ before) :
    dropStray pos (before ++ ⟨.stray, pos⟩ :: after) = before ++ after := by
  induction before with
  | nil => exact if_pos (strayAtPos_iff.2 rfl)
  | cons q before ih =>
    obtain ⟨hq, hbefore⟩ : (⟨.stray, pos⟩ : PlaceRec) ≠ q ∧ (⟨.stray, pos⟩ : PlaceRec) ∉ before := by
      simpa using hfirst
    exact (if_neg fun h => hq (strayAtPos_iff.1 h).symm).trans (congrArg (q :: ·) (ih hbefore))

theorem holdsStray_segment_iff :
    holdsStray (.segment l pos) s = true ↔ (⟨.stray, pos⟩ : PlaceRec) ∈ (s.seg l).places := by
  simp [holdsStray, strayAtPos_iff]

/-! ### The record of the bin named (R195) -/

theorem nameOwn_of_other (h : OtherBin s bin) : nameOwn p bin s = s := if_neg (by
  rw [classify_eq_other_iff.2 h]
  exact nofun)

theorem namedRecord_lost {b : BinRec} (h : b.state = .lost) : namedRecord place b = { b with state := .out } := if_pos h

theorem namedRecord_absent {b : BinRec} (hplace : place = 8) (h : b.state = .absent) :
    namedRecord place b = { BinRec.blank with state := .out } :=
  (if_neg (by rw [h]; exact nofun)).trans (if_pos ⟨hplace, h⟩)

theorem namedRecord_stored {b : BinRec} (hplace : place = 8) (h : b.state = .stored) :
    namedRecord place b = { b with state := .out } :=
  (if_neg (by rw [h]; exact nofun)).trans
    ((if_neg fun ha => by rw [h] at ha; cases ha.2).trans (if_pos ⟨hplace, h⟩))

/-- A record that naming leaves alone. -/
theorem namedRecord_same {b : BinRec} (hlost : b.state ≠ .lost)
    (h : place = 8 → b.state ≠ .absent ∧ b.state ≠ .stored) : namedRecord place b = b :=
  (if_neg hlost).trans ((if_neg fun ha => (h ha.1).1 ha.2).trans (if_neg fun hs => (h hs.1).2 hs.2))

/-- The record of an own bin that is named, written by its state (R62, R195). -/
theorem nameOwn_of_own (hown : idIsOwn s bin) (hplace : p = .inStand ↔ place = 8) :
    nameOwn p bin s = s ∧ namedRecord place (binAt (bin % 2048) s) = binAt (bin % 2048) s ∨
      ∃ n, nameOwn p bin s = raise n (putBin (bin % 2048) (namedRecord place (binAt (bin % 2048) s)) s) := by
  have hclass := (classify_eq_own_iff bin).2 hown
  have hnot : p ≠ .inStand → place ≠ 8 := fun h h8 => h (hplace.2 h8)
  unfold nameOwn
  rw [if_pos hclass]
  dsimp only [indexOf]
  split
  next hstate =>
    refine .inr ⟨.found (ownBin (bin % 2048) s) 3, ?_⟩
    rw [namedRecord_lost hstate]
    exact if_pos hstate
  next hstate =>
    by_cases hin : p = .inStand
    · refine .inr ⟨.unregistered bin BinState.absent.code, ?_⟩
      rw [namedRecord_absent (hplace.1 hin) hstate]
      exact if_pos hin
    · exact .inl ⟨if_neg hin, namedRecord_same (by rw [hstate]; exact nofun) fun h8 => absurd h8 (hnot hin)⟩
  next hstate =>
    by_cases hin : p = .inStand
    · refine .inr ⟨.unregistered bin BinState.stored.code, ?_⟩
      rw [namedRecord_stored (hplace.1 hin) hstate]
      exact if_pos hin
    · exact .inl ⟨if_neg hin, namedRecord_same (by rw [hstate]; exact nofun) fun h8 => absurd h8 (hnot hin)⟩
  next hlost habsent hstored => exact .inl ⟨rfl, namedRecord_same hlost fun _ => ⟨habsent, hstored⟩⟩

/-- Naming writes one record at most, with a notice. -/
theorem nameOwn_cases (p : Place) (bin : Nat) (s : State) :
    nameOwn p bin s = s ∨ ∃ n b, nameOwn p bin s = raise n (putBin (bin % 2048) b s) := by
  by_cases hown : idIsOwn s bin
  · have hplace : p = .inStand ↔ (if p = .inStand then 8 else 0) = 8 := by split <;> simp_all
    rcases nameOwn_of_own hown hplace with ⟨h, -⟩ | ⟨n, h⟩
    · exact .inl h
    · exact .inr ⟨n, _, h⟩
  · exact .inl (if_neg (mt (classify_eq_own_iff bin).1 hown))

@[simp] theorem nameOwn_keeps (p : Place) (bin : Nat) (s : State) :
    (nameOwn p bin s).pending = s.pending ∧ (nameOwn p bin s).pins = s.pins ∧ (nameOwn p bin s).bus.rx = s.bus.rx ∧
      (nameOwn p bin s).bus.offBus = s.bus.offBus ∧ (nameOwn p bin s).ctl.straps = s.ctl.straps ∧
      (nameOwn p bin s).ctl.station = s.ctl.station ∧ (nameOwn p bin s).ctl.setup = s.ctl.setup ∧
      (nameOwn p bin s).crane = s.crane ∧ (nameOwn p bin s).est = s.est ∧ (nameOwn p bin s).lanes = s.lanes ∧
      (nameOwn p bin s).port = s.port ∧ (nameOwn p bin s).auctions = s.auctions ∧
      (nameOwn p bin s).fire = s.fire := by
  rcases nameOwn_cases p bin s with h | ⟨n, b, h⟩ <;> rw [h] <;> simp

theorem nameOwn_frame : nameOwn p bin s = { s with
    bus := (nameOwn p bin s).bus, ctl := (nameOwn p bin s).ctl, bins := (nameOwn p bin s).bins } := by
  apply State.eq_of_blocks <;> simp

/-- A frame queued stays queued while the bin is named. -/
theorem nameOwn_holdsFrame {k : SlotId} {q : Queued} (h : HoldsFrame k q s) : HoldsFrame k q (nameOwn p bin s) := by
  rcases nameOwn_cases p bin s with hname | ⟨n, b, hname⟩
  · rwa [hname]
  · rw [hname]
    exact raise_holdsFrame h

/-- The record of the bin named, at the inbound stand and elsewhere (R62, R195). -/
theorem nameOwn_named (hwf : BinsWf s) (hplace : p = .inStand ↔ place = 8) : BinNamed place bin s (nameOwn p bin s) := by
  refine ⟨fun hother => ?_, fun hown => ?_⟩
  · rw [nameOwn_of_other hother]
    exact ⟨rfl, rfl⟩
  · rcases nameOwn_of_own hown hplace with ⟨hname, hsame⟩ | ⟨n, hname⟩
    · rw [hname, hsame]
      exact ⟨fun _ _ => rfl, rfl⟩
    · rw [hname]
      refine ⟨fun k hk => ?_, ?_⟩
      · rw [binAt_raise]
        exact binAt_putBin_other hwf hk _
      · rw [binAt_raise]
        exact binAt_putBin hwf _ _

theorem binNamed_congr (h : BinNamed place bin s t) (hbins : u.bins = t.bins) (hctl : u.ctl = t.ctl) :
    BinNamed place bin s u := by
  unfold BinNamed binAt at h ⊢
  rw [hbins, hctl]
  exact h

theorem binNamed_before (h : BinNamed place bin u t) (hbins : u.bins = s.bins) (hctl : u.ctl = s.ctl) :
    BinNamed place bin s t := by
  have hnum : u.num = s.num := by rw [State.num, hctl, State.num]
  unfold BinNamed OtherBin idIsOwn binAt at h ⊢
  rw [hnum, hbins, hctl] at h
  exact h

end Sys2Proof.Machine
end

section
/-! PROOF. What an IDENTIFY finds at its place, and when it is refused (R194). -/

namespace Sys2Proof.Machine

-- Checked one after another: the host bounds the memory of all threads together.
set_option Elab.async false

open Sys2Proof Sys2Proof.Safety

variable {s t u v w : State} {id : SlotId} {r : RxRecord} {rest : List RxRecord} {place bin pos : Nat} {p : Place}
  {l : Lane} {code : ResultCode}

/-! ### What stands at the place -/

/-- The place code is that of a JAMMED head (R194 test 2). -/
def JamHere (place : Nat) (s : State) (l : Lane) : Prop := place = 3 * l.code + 1 ∧ (s.seg l).head = .jammed

/-- A stray stands at the place (R194 test 3). -/
def StrayHere (place : Nat) (s : State) : Prop :=
  place = 0 ∧ s.crane.carriage = .stray ∨ place = 7 ∧ s.lanes.outStand = .stray ∨
    place = 8 ∧ s.lanes.inStand = .stray ∨ place = 9 ∧ s.ctl.straps.port = true ∧ s.port.approach = .stray ∨
    place = 10 ∧ s.ctl.straps.port = true ∧ s.port.service = .stray ∨
    ∃ l, (s.seg l).head ≠ .jammed ∧ place = 3 * l.code + 1 ∧ (⟨.stray, 1⟩ : PlaceRec) ∈ (s.seg l).places ∨
      place = 3 * l.code + 2 ∧ (⟨.stray, 2⟩ : PlaceRec) ∈ (s.seg l).places ∨
      place = 3 * l.code + 3 ∧ (⟨.stray, 3⟩ : PlaceRec) ∈ (s.seg l).places

/-- `p` is the place of the code, of a port that is fitted, and holds no JAMMED head. -/
def PlaceMet (place : Nat) (p : Place) (s : State) : Prop :=
  placeOf place = some p ∧ (p.atPort = true → s.ctl.straps.port = true) ∧ jammedLane p s = none ∧
    (p = .inStand ↔ place = 8)

theorem code_segment_ne (l : Lane) (hhigh : pos ≤ 3) : 3 * l.code + pos ≠ 8 := by
  cases l
  · show 3 * 0 + pos ≠ 8
    omega
  · show 3 * 1 + pos ≠ 8
    omega

theorem placeMet_segment (hlow : 1 ≤ pos) (hhigh : pos ≤ 3) (hjam : pos = 1 → (s.seg l).head ≠ .jammed) :
    PlaceMet (3 * l.code + pos) (.segment l pos) s := by
  refine ⟨placeOf_segment l hlow hhigh, nofun, ?_, nofun, fun h => absurd h (code_segment_ne l hhigh)⟩
  unfold jammedLane
  split
  next k hk =>
    cases hk
    exact if_neg (hjam rfl)
  next => rfl

theorem placeMet_carriage : PlaceMet 0 .carriage s := ⟨rfl, nofun, rfl, nofun, nofun⟩
theorem placeMet_outStand : PlaceMet 7 .outStand s := ⟨rfl, nofun, rfl, nofun, nofun⟩
theorem placeMet_inStand : PlaceMet 8 .inStand s := ⟨rfl, nofun, rfl, fun _ => rfl, fun _ => rfl⟩
theorem placeMet_approach (h : s.ctl.straps.port = true) : PlaceMet 9 .approach s := ⟨rfl, fun _ => h, rfl, nofun, nofun⟩
theorem placeMet_service (h : s.ctl.straps.port = true) : PlaceMet 10 .service s := ⟨rfl, fun _ => h, rfl, nofun, nofun⟩

/-- A stray at the place is what the IDENTIFY finds. -/
theorem holdsStray_of_strayHere (h : StrayHere place s) : ∃ p, PlaceMet place p s ∧ holdsStray p s = true := by
  rcases h with ⟨rfl, h⟩ | ⟨rfl, h⟩ | ⟨rfl, h⟩ | ⟨rfl, hport, h⟩ | ⟨rfl, hport, h⟩ | ⟨l, ⟨hjam, rfl, h⟩ | ⟨rfl, h⟩ | ⟨rfl, h⟩⟩
  · exact ⟨_, placeMet_carriage, decide_eq_true h⟩
  · exact ⟨_, placeMet_outStand, decide_eq_true h⟩
  · exact ⟨_, placeMet_inStand, decide_eq_true h⟩
  · exact ⟨_, placeMet_approach hport, decide_eq_true h⟩
  · exact ⟨_, placeMet_service hport, decide_eq_true h⟩
  · exact ⟨_, placeMet_segment le_rfl (by omega) fun _ => hjam, holdsStray_segment_iff.2 h⟩
  · exact ⟨_, placeMet_segment (by omega) (by omega) nofun, holdsStray_segment_iff.2 h⟩
  · exact ⟨_, placeMet_segment (by omega) le_rfl nofun, holdsStray_segment_iff.2 h⟩

/-- A place with neither jam nor stray is found to hold no stray. -/
theorem not_holdsStray (hplace : place < 9 ∨ place ≤ 10 ∧ s.ctl.straps.port = true) (hjam : ∀ l, ¬ JamHere place s l)
    (hstray : ¬ StrayHere place s) : ∃ p, PlaceMet place p s ∧ holdsStray p s = false := by
  have hsegment : ∀ (l : Lane) (pos : Nat), place = 3 * l.code + pos → 1 ≤ pos → pos ≤ 3 →
      ∃ p, PlaceMet place p s ∧ holdsStray p s = false := by
    rintro l pos rfl hlow hhigh
    have hfree : pos = 1 → (s.seg l).head ≠ .jammed := by
      rintro rfl hj
      exact hjam l ⟨rfl, hj⟩
    refine ⟨_, placeMet_segment hlow hhigh hfree, Bool.eq_false_iff.2 fun h => hstray ?_⟩
    have hmem := holdsStray_segment_iff.1 h
    obtain rfl | rfl | rfl : pos = 1 ∨ pos = 2 ∨ pos = 3 := by omega
    · exact .inr (.inr (.inr (.inr (.inr ⟨l, .inl ⟨hfree rfl, rfl, hmem⟩⟩))))
    · exact .inr (.inr (.inr (.inr (.inr ⟨l, .inr (.inl ⟨rfl, hmem⟩)⟩))))
    · exact .inr (.inr (.inr (.inr (.inr ⟨l, .inr (.inr ⟨rfl, hmem⟩)⟩))))
  have hcases : place = 0 ∨ place = 7 ∨ place = 8 ∨ place = 9 ∨ place = 10 ∨
      ∃ (l : Lane) (pos : Nat), place = 3 * l.code + pos ∧ 1 ≤ pos ∧ pos ≤ 3 := by
    by_cases hlow : place = 0 ∨ 7 ≤ place
    · omega
    · by_cases hout : place ≤ 3
      · refine .inr (.inr (.inr (.inr (.inr ⟨.outLane, place, ?_, by omega, hout⟩))))
        show place = 3 * 0 + place
        omega
      · refine .inr (.inr (.inr (.inr (.inr ⟨.backLane, place - 3, ?_, by omega, by omega⟩))))
        show place = 3 * 1 + (place - 3)
        omega
  rcases hcases with rfl | rfl | rfl | rfl | rfl | ⟨l, pos, heq, hlow, hhigh⟩
  · exact ⟨_, placeMet_carriage, decide_eq_false fun h => hstray (.inl ⟨rfl, h⟩)⟩
  · exact ⟨_, placeMet_outStand, decide_eq_false fun h => hstray (.inr (.inl ⟨rfl, h⟩))⟩
  · exact ⟨_, placeMet_inStand, decide_eq_false fun h => hstray (.inr (.inr (.inl ⟨rfl, h⟩)))⟩
  · have hport : s.ctl.straps.port = true := (hplace.resolve_left (by omega)).2
    exact ⟨_, placeMet_approach hport, decide_eq_false fun h => hstray (.inr (.inr (.inr (.inl ⟨rfl, hport, h⟩))))⟩
  · have hport : s.ctl.straps.port = true := (hplace.resolve_left (by omega)).2
    exact ⟨_, placeMet_service hport,
      decide_eq_false fun h => hstray (.inr (.inr (.inr (.inr (.inl ⟨rfl, hport, h⟩)))))⟩
  · exact hsegment l pos heq hlow hhigh

/-! ### Refusals of the place -/

theorem bodyFor_of_badPlace (hkind : r.kind = .identify) (h : identifyPlace (byteAt r.payload 0) s = .inr code) :
    bodyFor r r s = identifyRefused code (byteAt r.payload 0) (wordAt r.payload 1) s := by
  by_cases hbin : wordAt r.payload 1 = 0
  · rw [bodyFor_identifyClear hkind hbin, identifyClearBody, h, hbin]
  · rw [bodyFor_identify hkind hbin, identifyBody, h]

theorem bodyFor_of_no_stray (hkind : r.kind = .identify) (hplace : PlaceMet (byteAt r.payload 0) p s)
    (h : holdsStray p s = false) :
    bodyFor r r s = identifyRefused .conflict (byteAt r.payload 0) (wordAt r.payload 1) s := by
  obtain ⟨hcode, hport, hjam, -⟩ := hplace
  by_cases hbin : wordAt r.payload 1 = 0
  · rw [bodyFor_identifyClear hkind hbin, identifyClearBody_stray hcode hport hjam, hbin]
    exact if_neg (by simp [h])
  · rw [bodyFor_identify hkind hbin, identifyBody_stray hcode hport hjam]
    exact if_neg (by simp [h])

/-- A bin ID that fails its tests at a stray place, or at a JAMMED head that holds another bin. -/
theorem identifyBody_refused
    (h : StrayHere (byteAt r.payload 0) s ∨
      ∃ l, JamHere (byteAt r.payload 0) s l ∧ (headCarry l s).map Carry.bin ≠ some (wordAt r.payload 1)) :
    ∃ p : Place, (p = .inStand ↔ byteAt r.payload 0 = 8) ∧ ∀ code, namingRefusal p (wordAt r.payload 1) s = some code →
      identifyBody r s = identifyRefused code (byteAt r.payload 0) (wordAt r.payload 1) s := by
  rcases h with hstray | ⟨l, ⟨hplace, hjam⟩, hcarry⟩
  · obtain ⟨p, ⟨hcode, hport, hjam, hstand⟩, hholds⟩ := holdsStray_of_strayHere hstray
    refine ⟨p, hstand, fun code hcode' => ?_⟩
    rw [identifyBody_stray hcode hport hjam, identifyStray, if_pos hholds, hcode']
  · refine ⟨.segment l 1, ⟨nofun, fun h => ?_⟩, fun code hcode => ?_⟩
    · exact absurd (hplace.symm.trans h) (code_segment_ne l (by omega))
    · rw [identifyBody_jam hplace hjam, identifyJam, if_neg hcarry, hcode]

/-! ### A stray that is named or cleared -/

theorem identifyBody_named (hplace : PlaceMet (byteAt r.payload 0) p s) (hholds : holdsStray p s = true)
    (hname : MayName (byteAt r.payload 0) (wordAt r.payload 1) s) :
    identifyBody r s = (Answer.identify .done (byteAt r.payload 0) 1 (wordAt r.payload 1)
        (nameOwn p (wordAt r.payload 1) s),
      placeNamed p (namedCarry (wordAt r.payload 1)) (nameOwn p (wordAt r.payload 1) s)) := by
  obtain ⟨hcode, hport, hjam, hstand⟩ := hplace
  rw [identifyBody_stray hcode hport hjam, identifyStray, if_pos hholds, namingRefusal_of_mayName hstand.1 hname]

theorem identifyClearBody_seen (hplace : PlaceMet (byteAt r.payload 0) p s) (hholds : holdsStray p s = true)
    (hseen : sensorAt p s = true) :
    identifyClearBody r s = identifyRefused .busy (byteAt r.payload 0) 0 s := by
  obtain ⟨hcode, hport, hjam, -⟩ := hplace
  rw [identifyClearBody_stray hcode hport hjam, clearStray, if_pos hholds, if_pos hseen]

theorem identifyClearBody_cleared (hplace : PlaceMet (byteAt r.payload 0) p s) (hholds : holdsStray p s = true)
    (hseen : sensorAt p s = false) :
    identifyClearBody r s = (Answer.identify .done (byteAt r.payload 0) 2 0 (placeCleared p s), placeCleared p s) := by
  obtain ⟨hcode, hport, hjam, -⟩ := hplace
  rw [identifyClearBody_stray hcode hport hjam, clearStray, if_pos hholds, if_neg (by simp [hseen])]
  rfl

/-- A stray that its sensor still shows is not cleared (R196). -/
theorem identify_busy (htakes : Takes s id r rest) (hkind : r.kind = .identify) (hjoining : s.ctl.station ≠ .joining)
    (hplace : PlaceMet (byteAt r.payload 0) p s) (hholds : holdsStray p s = true) (hbin : wordAt r.payload 1 = 0)
    (hseen : sensorAt p s = true) : IdentifyRefused s id r rest .busy := by
  refine identify_refused htakes hkind hjoining ?_
  rw [bodyFor_identifyClear hkind hbin, hbin]
  exact identifyClearBody_seen (s := beginTake id r rest s) hplace hholds hseen

/-- A stray that is named: the bin's record, and the place goes on (R195). -/
theorem identify_named (htakes : Takes s id r rest) (hkind : r.kind = .identify) (hjoining : s.ctl.station ≠ .joining)
    (hwf : BinsWf s) (hplace : PlaceMet (byteAt r.payload 0) p s) (hholds : holdsStray p s = true)
    (hname : MayName (byteAt r.payload 0) (wordAt r.payload 1) s)
    (hgoes : let v := nameOwn p (wordAt r.payload 1) (beginTake id r rest s)
      placeNamed p (namedCarry (wordAt r.payload 1)) v = u ∧ u.bins = v.bins ∧
        (OtherBin s (wordAt r.payload 1) → u.ctl = v.ctl) ∧ u.bus.rx = v.bus.rx) :
    ∃ b, Identified s id r rest { u with bus := b } 1 ∧ OthersQueued id u b := by
  set w := beginTake id r rest s with hw
  set v := nameOwn p (wordAt r.payload 1) w with hv
  obtain ⟨hu, hbins, hctl, hrx⟩ := hgoes
  have hbody := identifyBody_named (s := w) (r := r) hplace hholds hname
  rw [← hv, hu] at hbody
  have hnamed : BinNamed (byteAt r.payload 0) (wordAt r.payload 1) w v := nameOwn_named hwf hplace.2.2.2
  refine identify_names htakes hkind hjoining (ne_zero_of_mayName hname) hbody hbins.symm (by simp [v, w]) (by
    rw [hrx]
    simp [v, w]) ⟨fun ho => ?_, fun ho => ?_⟩
  · exact ⟨hbins.trans (hnamed.1 ho).1, (hctl ho).trans (hnamed.1 ho).2⟩
  · have hread : ∀ k, binAt k u = binAt k v := fun k => by
      unfold binAt
      rw [hbins]
    exact ⟨fun k hk => (hread k).trans ((hnamed.2 ho).1 k hk), (hread _).trans (hnamed.2 ho).2⟩

/-- A stray that is cleared (R196). -/
theorem identify_cleared (htakes : Takes s id r rest) (hkind : r.kind = .identify) (hjoining : s.ctl.station ≠ .joining)
    (hplace : PlaceMet (byteAt r.payload 0) p s) (hholds : holdsStray p s = true) (hbin : wordAt r.payload 1 = 0)
    (hseen : sensorAt p s = false)
    (hgoes : placeCleared p (beginTake id r rest s) = u ∧ u.bins = s.bins ∧ u.bus.rx = rest) :
    ∃ b, IdentifyCleared s id r rest { u with bus := b } 2 ∧ OthersQueued id u b := by
  obtain ⟨hu, hbins, hrx⟩ := hgoes
  have hbody := identifyClearBody_cleared (s := beginTake id r rest s) (r := r) hplace hholds hseen
  rw [hu] at hbody
  exact identify_clears htakes hkind hjoining hbin hbody hbins hrx

end Sys2Proof.Machine
end

section
/-! PROOF. How a place goes on once its stray has been named or cleared (R135, R150, R195 to R197). -/

namespace Sys2Proof.Machine

-- Checked one after another: the host bounds the memory of all threads together.
set_option Elab.async false

open Sys2Proof Sys2Proof.Safety

variable {s t u v w : State} {id k : SlotId} {r : RxRecord} {rest : List RxRecord} {bin : Nat} {x : DivertTarget}
  {l : Lane} {c : Carry}

/-! ### Still segments -/

theorem actIdleHead_of_still (h : (s.seg l).cond ≠ .running ∨ (s.pins.seg l).head = false) : actIdleHead l s = s :=
  h.elim actIdleHead_of_not_running actIdleHead_of_no_bin

theorem tailIsOpen_of_not_running {g : Segment} (h : g.cond ≠ .running) : tailIsOpen g = false := by
  simp [tailIsOpen, h]

/-- A jam released on a segment that does not run leaves the head IDLE, and no more (R197). -/
theorem releaseJam_of_not_running (h : (s.seg l).cond ≠ .running) : releaseJam l s = setHead l .idle s := by
  have hcond : ((setHead l .idle s).seg l).cond ≠ .running := by rwa [setHead_cond]
  unfold releaseJam
  rw [openTail_of_not_running hcond, actIdleHead_of_not_running hcond]

/-! ### Free slots and the order's own slot -/

/-- Writing a slot that was taken, and stays taken, leaves the free slots as they are. -/
theorem Slots.freeSlot_set {z : Slot} {y : Slots} (hold : y.get id ≠ .free) (hnew : z ≠ .free) :
    (y.set id z).freeSlot = y.freeSlot := by
  unfold Slots.freeSlot
  cases id with
  | s0 => rfl
  | s1 =>
    have hold : y.s1 ≠ .free := hold
    rw [if_neg (show (y.set .s1 z).s1 ≠ .free from hnew), if_neg hold]
    rfl
  | s2 =>
    have hold : y.s2 ≠ .free := hold
    rw [if_neg (show (y.set .s2 z).s2 ≠ .free from hnew), if_neg hold]
    rfl
  | s3 =>
    have hold : y.s3 ≠ .free := hold
    rw [if_neg (show (y.set .s3 z).s3 ≠ .free from hnew), if_neg hold]
    rfl

theorem Slots.get_of_grantedSlot {y : Slots} (h : y.grantedSlot = some id) : y.get id = .granted := by
  unfold Slots.grantedSlot at h
  split at h
  next h1 =>
    cases h
    exact h1
  next =>
    split at h
    next h2 =>
      cases h
      exact h2
    next =>
      split at h
      next h3 =>
        cases h
        exact h3
      next => cases h

/-- The take of an order leaves the other slots as they are: the free ones stay free (R16). -/
theorem freeSlot_beginTake (h : Takes s id r rest) : (beginTake id r rest s).bus.slots.freeSlot = s.bus.slots.freeSlot := by
  obtain ⟨-, hgranted, -, -⟩ := h
  have hslot : s.bus.slots.get id ≠ .free := by
    rw [Slots.get_of_grantedSlot hgranted]
    exact nofun
  exact Slots.freeSlot_set hslot nofun

theorem freeSlot_ne_taken (h : Takes s id r rest) (hfree : s.bus.slots.freeSlot = some k) : k ≠ id := by
  rintro rfl
  have hgranted := Slots.get_of_grantedSlot h.2.1
  rw [Slots.get_of_freeSlot hfree] at hgranted
  cases hgranted

/-! ### Offers taken back (R119) -/

/-- Where every offer has started, taking one back only marks its PASS (R10, R119). -/
theorem abortOffer_of_started (hoffers : OffersStarted s) :
    ∃ b, abortOffer l s = { s with bus := b } ∧ b.rx = s.bus.rx ∧ OffersStarted { s with bus := b } := by
  by_cases hhead : (s.seg l).head = .offering
  · obtain ⟨hclaims, hslots⟩ := hoffers l hhead
    have hany : (s.bus.claims.any fun c => isPassOf l c.frame) = false := by simpa using hclaims
    unfold abortOffer abortFrame
    rw [if_pos hhead, if_neg (by simp [hany])]
    cases hfind : s.bus.slots.find fun q => isPassOf l q.frame with
    | none => exact ⟨s.bus, rfl, rfl, hoffers⟩
    | some k =>
      obtain ⟨q, hq, hpass⟩ := Slots.find_holds hfind
      have hstarted : q.started = true := hslots k q hq hpass
      dsimp only
      rw [hq]
      dsimp only
      rw [if_pos hstarted]
      refine ⟨_, rfl, rfl, fun m hm => ⟨(hoffers m hm).1, fun j p hp hpm => ?_⟩⟩
      by_cases hj : j = k
      · subst hj
        rw [Slots.get_set] at hp
        cases hp
        exact hstarted
      · rw [Slots.get_set_other hj] at hp
        exact (hoffers m hm).2 j p hp hpm
  · exact ⟨s.bus, if_neg hhead, rfl, hoffers⟩

/-- A target that becomes free while both segments stand still moves no bin (R123, R129). -/
theorem targetFreed_of_stopped (hstopped : s.lanes.outSeg.cond ≠ .running ∧ s.lanes.backSeg.cond ≠ .running)
    (hoffers : OffersStarted s) : ∃ b, targetFreed x s = { s with bus := b } ∧ b.rx = s.bus.rx := by
  have hhead : ∀ (l : Lane) (t : State), (∀ k, (t.seg k).cond ≠ .running) → OffersStarted t →
      ∃ b, headTakesUp l x t = { t with bus := b } ∧ b.rx = t.bus.rx ∧ OffersStarted { t with bus := b } := by
    intro l t hstill hstarted
    unfold headTakesUp
    split
    · obtain ⟨b, habort, hrx, hkept⟩ := abortOffer_of_started (l := l) hstarted
      rw [habort]
      exact ⟨b, actHead_of_not_running (s := { t with bus := b }) (hstill l), hrx, hkept⟩
    · exact ⟨t.bus, rfl, rfl, hstarted⟩
  have hstill : ∀ k, (s.seg k).cond ≠ .running := fun k => by
    cases k
    · exact hstopped.1
    · exact hstopped.2
  obtain ⟨b, hout, hrx, hkept⟩ := hhead .outLane s hstill hoffers
  obtain ⟨b', hback, hrx', -⟩ := hhead .backLane { s with bus := b } hstill hkept
  unfold targetFreed
  rw [hout, hback]
  exact ⟨b', rfl, hrx'.trans hrx⟩

/-! ### The stands (R76, R128) -/

/-- The outbound stand's bin claims its entry, or enters at once (R128). -/
theorem holdOutStand_claims (hbus : s.bus.offBus = false) :
    ∃ l, ((holdOutStand c s).lanes.outStand = .holding c (some l) ∨ (holdOutStand c s).lanes.outStand = .entering c l) ∧
      (s.lanes.outSeg.cond ≠ .running ∧ s.lanes.backSeg.cond ≠ .running →
        holdOutStand c s = s.setOutStand (.holding c (some l))) := by
  refine ⟨claimLane c.dest s, ?_, fun hstopped => ?_⟩
  · unfold holdOutStand
    rw [if_neg (by simp [hbus])]
    dsimp only
    split
    · refine .inr ?_
      unfold grantLocal
      dsimp only
      rw [show (State.onSeg (claimLane c.dest s) _ (s.setOutStand (.holding c (some (claimLane c.dest s))))).lanes.outStand =
        .holding c (some (claimLane c.dest s)) by simp]
      rfl
    · exact .inl rfl
  · have hclosed : ∀ k, tailIsOpen (s.seg k) = false := fun k => tailIsOpen_of_not_running (by
      cases k
      · exact hstopped.1
      · exact hstopped.2)
    unfold holdOutStand
    rw [if_neg (by simp [hbus])]
    exact if_neg (by simp [hclosed])

theorem grantLocal_outStand_port : (grantLocal l .outStand s).port = s.port := by
  unfold grantLocal
  dsimp only
  split <;> simp

@[simp] theorem holdOutStand_port (c : Carry) (s : State) : (holdOutStand c s).port = s.port := by
  unfold holdOutStand
  split
  · rfl
  · dsimp only
    split
    · rw [grantLocal_outStand_port]
      rfl
    · rfl

/-- With the segments at rest SERVICE's bin claims its exit and waits (R143). -/
theorem releaseService_of_stopped (hbus : s.bus.offBus = false)
    (hstopped : s.lanes.outSeg.cond ≠ .running ∧ s.lanes.backSeg.cond ≠ .running) :
    releaseService c s = s.setService (.released c (some (claimLane c.dest s))) := by
  have hclosed : ∀ k, tailIsOpen (s.seg k) = false := fun k => tailIsOpen_of_not_running (by
    cases k
    · exact hstopped.1
    · exact hstopped.2)
  unfold releaseService
  rw [if_neg (by simp [hbus])]
  exact if_neg (by simp [hclosed])

/-- A STORE that the full pool refuses stays wanted (R69, R76). -/
theorem askStore_of_full (hpool : 32 ≤ s.crane.pool.length) :
    askStore bin s = s.onCrane fun k => { k with storeWanted := true } := by
  have hoffer : offerJob (storeJob bin) s = (.full, s) := by
    have hfull : ¬ poolAdmits (storeJob bin).kind s = true := by
      refine mt of_decide_eq_true ?_
      omega
    exact if_neg hfull
  unfold askStore
  rw [hoffer]

/-! ### The JAM of the bin that stood at a JAMMED head (R61, R197) -/

theorem broadcastJam_of_foreign (hown : ¬ idIsOwn s bin) : broadcastJam l bin s = queueFrame (.jam l bin) s := by
  refine if_neg fun h => hown ?_
  exact (idIsOwn_congr (by simp)).1 ((classify_eq_own_iff bin).1 h.1)

/-- The JAM takes a free slot, and stays in it (R6, R197). -/
theorem broadcastJam_holdsFrame (hbus : s.bus.offBus = false) (hfree : s.bus.slots.freeSlot = some k) :
    HoldsFrame k (newQueued (.jam l bin) s.bus.order) (broadcastJam l bin s) := by
  have hqueued : HoldsFrame k (newQueued (.jam l bin) s.bus.order) (queueFrame (.jam l bin) s) := by
    rw [queueFrame_of_free hbus hfree]
    exact ⟨Slots.get_set .., nofun⟩
  unfold broadcastJam markLostByJam
  dsimp only
  split
  · exact raise_holdsFrame hqueued
  · exact hqueued

/-! ### The carriage (R77) -/

theorem poolAdmits_restore_iff : poolAdmits (restoreJob bin).kind s = true ↔
    nonStoreCount s.crane.pool < 31 ∧ s.crane.pool.length < 32 := by
  simp [poolAdmits, restoreJob]

/-- A RESTORE is asked of a pool that has room for it (R69, R77). -/
theorem askRestore_of_room (hcount : nonStoreCount s.crane.pool < 31) (hroom : s.crane.pool.length < 32) :
    askRestore bin s = s.onCrane fun k => { k with
      pool := k.pool ++ [{ restoreJob bin with stamp := s.est.time, est := estOf s.ctl.setup (restoreJob bin) }]
      restoreWanted := false } := by
  have hoffer : offerJob (restoreJob bin) s = (.entered, enterJob (restoreJob bin) s) :=
    if_pos (poolAdmits_restore_iff.2 ⟨hcount, hroom⟩)
  unfold askRestore
  rw [hoffer]
  rfl

/-- A RESTORE that the pool refuses stays wanted (R77). -/
theorem askRestore_of_full (h : ¬ (nonStoreCount s.crane.pool < 31 ∧ s.crane.pool.length < 32)) :
    askRestore bin s = s.onCrane fun k => { k with restoreWanted := true } := by
  have hoffer : offerJob (restoreJob bin) s = (.full, s) := if_neg (mt poolAdmits_restore_iff.1 h)
  unfold askRestore
  rw [hoffer]

end Sys2Proof.Machine
end

section
/-! PROOF. Strays at the segment places, named and cleared (R195, R196). -/

namespace Sys2Proof.Machine

-- Checked one after another: the host bounds the memory of all threads together.
set_option Elab.async false

open Sys2Proof Sys2Proof.Safety

variable {s t u v w : State} {id k : SlotId} {r : RxRecord} {rest : List RxRecord} {bin pos d : Nat}
  {l : Lane} {c : Carry} {before after more : List PlaceRec}

/-- A stray at a segment place is named while its head stands (R195). -/
theorem identify_segment_named (htakes : Takes s id r rest) (hkind : r.kind = .identify)
    (hjoining : s.ctl.station ≠ .joining) (hwf : BinsWf s) (hcode : byteAt r.payload 0 = 3 * l.code + pos)
    (hlow : 1 ≤ pos) (hhigh : pos ≤ 3) (hjam : pos = 1 → (s.seg l).head ≠ .jammed)
    (hplaces : (s.seg l).places = before ++ ⟨.stray, pos⟩ :: after) (hfirst : (⟨.stray, pos⟩ : PlaceRec) ∉ before)
    (hname : MayName (byteAt r.payload 0) (wordAt r.payload 1) s)
    (hstill : (s.seg l).cond ≠ .running ∨ (s.pins.seg l).head = false) :
    ∃ t, Identified s id r rest t 1 ∧ OnlySegment l s t ∧
      t.seg l = { s.seg l with places := before ++ ⟨.carrying (namedCarry (wordAt r.payload 1)), pos⟩ :: after } ∧
      t = { s with bus := t.bus, ctl := t.ctl, bins := t.bins, lanes := t.lanes } := by
  set v := nameOwn (.segment l pos) (wordAt r.payload 1) (beginTake id r rest s) with hv
  have hseg : v.seg l = s.seg l := seg_of_lanes_eq (by simp [v]) l
  set u := v.onSeg l fun g =>
    { g with places := before ++ ⟨.carrying (namedCarry (wordAt r.payload 1)), pos⟩ :: after } with hu
  have hgoes : placeNamed (.segment l pos) (namedCarry (wordAt r.payload 1)) v = u := by
    have hwritten : (v.onSeg l fun g => { g with places := nameStray pos (namedCarry (wordAt r.payload 1)) g.places }) = u :=
      onSeg_congr (by rw [hseg, hplaces, nameStray_eq hfirst])
    unfold placeNamed
    dsimp only
    rw [hwritten]
    refine actIdleHead_of_still (hstill.imp (fun h => ?_) fun h => ?_)
    · simpa [u, hseg] using h
    · simpa [u, v] using h
  have hplace : PlaceMet (byteAt r.payload 0) (.segment l pos) s := hcode ▸ placeMet_segment hlow hhigh hjam
  have hholds : holdsStray (.segment l pos) s = true := holdsStray_segment_iff.2 (by simp [hplaces])
  obtain ⟨b, hnames, -⟩ := identify_named htakes hkind hjoining hwf hplace hholds hname
    ⟨hgoes, State.onSeg_bins l _ v, fun _ => State.onSeg_ctl l _ v, congrArg Bus.rx (State.onSeg_bus l _ v)⟩
  refine ⟨_, hnames, ?_, ?_, ?_⟩
  · exact onlySegment_trans (onlySegment_of_lanes (t := v) (by simp [v])) (onlySegment_onSeg _ v)
  · exact (State.seg_onSeg l _ v).trans (by rw [hseg])
  · apply State.eq_of_blocks <;> simp [u, v]

/-- A stray named at a ready head passes on at once (R117, R195). -/
theorem identify_head_passes (htakes : Takes s id r rest) (hkind : r.kind = .identify)
    (hjoining : s.ctl.station ≠ .joining) (hwf : BinsWf s) (hcode : byteAt r.payload 0 = 3 * l.code + 1)
    (hplaces : (s.seg l).places = ⟨.stray, 1⟩ :: after)
    (hname : MayName (byteAt r.payload 0) (wordAt r.payload 1) s) (hother : OtherBin s (wordAt r.payload 1))
    (hcond : (s.seg l).cond = .running) (hhead : (s.seg l).head = .idle) (hpin : (s.pins.seg l).head = true)
    (htop : wordAt r.payload 1 / 2048 ≤ s.top) (hdown : s.downstream l = some d) (hoffer : mayOffer d s = true)
    (hfree : s.bus.slots.freeSlot = some k) :
    ∃ t n, Identified s id r rest t 1 ∧ OnlySegment l s t ∧
      t.seg l = { s.seg l with
        places := ⟨.carrying (namedCarry (wordAt r.payload 1)), 1⟩ :: after, head := .offering, retry := none } ∧
      t.bus.slots.get k = .holds (newQueued (.pass l d (namedCarry (wordAt r.payload 1))) n) ∧
      t = { s with bus := t.bus, lanes := t.lanes } := by
  set c := namedCarry (wordAt r.payload 1) with hc
  set w := beginTake id r rest s with hw
  have hname' : nameOwn (.segment l 1) (wordAt r.payload 1) w = w := nameOwn_of_other hother
  set u := w.onSeg l fun g => { g with places := ⟨.carrying c, 1⟩ :: after } with hu
  have huseg : u.seg l = { s.seg l with places := ⟨.carrying c, 1⟩ :: after } := by
    rw [hu, State.seg_onSeg, seg_of_lanes_eq (t := w) (s := s) (by simp [w])]
  have hctl : u.ctl = s.ctl := by simp [u, w]
  have hunum : u.num = s.num := by rw [State.num, hctl, State.num]
  have hutop : u.top = s.top := by rw [State.top, hctl, State.top]
  have hready : headReady l u = true := headReady_iff.2
    ⟨by simp [huseg], by simpa [u, w] using hpin, .inl (by rw [huseg]; exact hhead), by rw [huseg]; exact hcond⟩
  have hforeign : c.dest ≠ u.num := by
    rw [hunum]
    exact hother.2.2
  have hudown : u.downstream l = some d := by
    rw [← hdown]
    unfold State.downstream
    rw [hunum, hutop]
  have huoffer : mayOffer d u = true := by
    rw [← hoffer]
    unfold mayOffer rosterOf
    rw [hctl]
    simp [u, w]
  have hufree : u.bus.slots.freeSlot = some k := by
    rw [hu, State.onSeg_bus, freeSlot_beginTake htakes]
    exact hfree
  obtain ⟨hstate, honly, hactseg, hslots, -⟩ := actHead_offers hready (p := ⟨.carrying c, 1⟩) (c := c)
    (by rw [huseg]) rfl hother.1 (by rw [hutop]; exact htop) (fun h => hforeign h.1) hudown huoffer hufree
  rw [offeredCarry, if_neg hforeign] at hslots
  have hgoes : placeNamed (.segment l 1) c (nameOwn (.segment l 1) (wordAt r.payload 1) w) = actHead l u := by
    have hwritten : (w.onSeg l fun g => { g with places := nameStray 1 c g.places }) = u :=
      onSeg_congr (by
        rw [seg_of_lanes_eq (t := w) (s := s) (by simp [w]), hplaces]
        rfl)
    rw [hname']
    unfold placeNamed
    dsimp only
    rw [hwritten]
    exact if_pos (by rw [huseg]; exact hhead)
  have hplace : PlaceMet (byteAt r.payload 0) (.segment l 1) s :=
    hcode ▸ placeMet_segment le_rfl (by omega) fun _ => by rw [hhead]; exact nofun
  have hholds : holdsStray (.segment l 1) s = true := holdsStray_segment_iff.2 (by simp [hplaces])
  obtain ⟨b, hnames, hqueued⟩ := identify_named htakes hkind hjoining hwf hplace hholds hname
    ⟨hgoes, by rw [hstate, hname']; simp [u], fun _ => by rw [hstate, hname']; simp [u], by rw [hname']; simp [u]⟩
  refine ⟨_, u.bus.order, hnames, ?_, hactseg.trans (by rw [huseg]), ?_, ?_⟩
  · exact onlySegment_trans (onlySegment_trans (onlySegment_of_lanes (t := w) (by simp [w])) (onlySegment_onSeg _ w)) honly
  · exact hqueued k _ (freeSlot_ne_taken htakes hfree) (by rw [hslots, Slots.get_set])
  · refine (congrArg (fun x : State => { x with bus := b }) hstate).trans ?_
    apply State.eq_of_blocks <;> simp [u, w]

/-- A stray is cleared from a segment place (R196). -/
theorem identify_segment_cleared (htakes : Takes s id r rest) (hkind : r.kind = .identify)
    (hjoining : s.ctl.station ≠ .joining) (hcode : byteAt r.payload 0 = 3 * l.code + pos)
    (hlow : 1 ≤ pos) (hhigh : pos ≤ 3) (hjam : pos = 1 → (s.seg l).head ≠ .jammed)
    (hplaces : (s.seg l).places = before ++ ⟨.stray, pos⟩ :: after) (hfirst : (⟨.stray, pos⟩ : PlaceRec) ∉ before)
    (hbin : wordAt r.payload 1 = 0) (hseen : sensorAt (.segment l pos) s = false)
    (hstill : (s.seg l).cond ≠ .running ∨ (s.pins.seg l).head = false)
    (hquiet : (s.seg l).cond ≠ .running ∨ TailQuiet l s) :
    ∃ t, IdentifyCleared s id r rest t 2 ∧ OnlySegment l s t ∧
      t.seg l = { s.seg l with places := before ++ after } ∧ t = { s with bus := t.bus, lanes := t.lanes } := by
  set w := beginTake id r rest s with hw
  have hseg : w.seg l = s.seg l := seg_of_lanes_eq (by simp [w]) l
  set u := w.onSeg l fun g => { g with places := before ++ after } with hu
  have hopen : openTail l u = u := by
    rcases hquiet with hrun | hquiet
    · exact openTail_of_not_running (by simpa [u, hseg] using hrun)
    · exact openTail_of_quiet (tailQuiet_of hquiet (by simp [u, hseg])
        (by rw [hu, State.seg_onSeg_of_other, seg_of_lanes_eq (t := w) (s := s) (by simp [w])])
        (.inl (by simp [u, w])) (.inl (by simp [u, w])))
  have hgoes : placeCleared (.segment l pos) w = u := by
    have hwritten : (w.onSeg l fun g => { g with places := dropStray pos g.places }) = u :=
      onSeg_congr (by rw [hseg, hplaces, dropStray_eq hfirst])
    unfold placeCleared
    dsimp only
    rw [hwritten, hopen]
    refine actIdleHead_of_still (hstill.imp (fun h => ?_) fun h => ?_)
    · simpa [u, hseg] using h
    · simpa [u, w] using h
  have hplace : PlaceMet (byteAt r.payload 0) (.segment l pos) s := hcode ▸ placeMet_segment hlow hhigh hjam
  have hholds : holdsStray (.segment l pos) s = true := holdsStray_segment_iff.2 (by simp [hplaces])
  obtain ⟨b, hclears, -⟩ := identify_cleared htakes hkind hjoining hplace hholds hbin hseen
    ⟨hgoes, by simp [u, w], by simp [u, w]⟩
  refine ⟨_, hclears, ?_, ?_, ?_⟩
  · exact onlySegment_trans (onlySegment_of_lanes (t := w) (by simp [w])) (onlySegment_onSeg _ w)
  · exact (State.seg_onSeg l _ w).trans (by rw [hseg])
  · apply State.eq_of_blocks <;> simp [u, w]

end Sys2Proof.Machine
end

section
/-! PROOF. Strays on the carriage and on the stands, named and cleared (R77, R128, R195, R196). -/

namespace Sys2Proof.Machine

-- Checked one after another: the host bounds the memory of all threads together.
set_option Elab.async false

open Sys2Proof Sys2Proof.Safety

variable {s t u v w : State} {id k : SlotId} {r : RxRecord} {rest : List RxRecord} {bin pos d : Nat}
  {l : Lane} {c : Carry} {j : Job}

/-- The take of an order starts no offer and takes none back. -/
theorem offersStarted_beginTake (h : OffersStarted s) : OffersStarted (beginTake id r rest s) := by
  intro l hhead
  obtain ⟨hclaims, hslots⟩ := h l (by simpa [State.seg] using hhead)
  refine ⟨hclaims, fun k q hq hpass => ?_⟩
  by_cases hk : k = id
  · subst hk
    cases (Slots.get_set ..).symm.trans hq
    cases hpass
  · exact hslots k q ((Slots.get_set_other hk ..).symm.trans hq) hpass

/-! ### The start of a RESTORE at the mouth (R77, R80) -/

/-- A RESTORE to the outbound stand, alone in the pool with the crane at the mouth, places at once (R72, R77, R80). -/
theorem startJob_restore_at_mouth (hpool : s.crane.pool = [j]) (hkind : j.kind = .restore .outStand)
    (hstage : j.stage = .travelLoaded) (hpos : s.crane.pos = some Position.mouth) :
    (startJob 0 s).crane.state = .running ∧ (startJob 0 s).crane.inFlight = some (.fork 0 .place) ∧
      (startJob 0 s).lanes.outStand = .reserved ∧ (startJob 0 s).bins = s.bins ∧ (startJob 0 s).ctl = s.ctl := by
  have hget : s.crane.pool[0]? = some j := by simp [hpool]
  set w := s.onCrane fun c => { c with
    state := .running, continuity := continuityAfter j.kind c, pool := c.pool.set 0 { j with state := .active } } with hw
  have hstart : startJob 0 s = beginStage (w.setOutStand .reserved) := by
    unfold startJob
    rw [hget]
    dsimp only
    rw [if_pos (by rw [hkind]; rfl)]
  set v := w.setOutStand .reserved with hv
  have hvpool : v.crane.pool = [{ j with state := .active }] := by simp [v, w, hpool]
  have hcurrent : currentJob v = some { j with state := .active } := by
    rw [currentJob, hvpool]
    rfl
  have htarget : travelTarget { j with state := .active } = some Position.mouth := by
    unfold travelTarget
    dsimp only
    rw [hkind, hstage]
  have hadvanced : currentJob (advanceStage v) = some { j with state := .active, stage := .forkPlace, sent := false } := by
    rw [currentJob, advanceStage, onCurrent, State.onCrane_crane]
    dsimp only
    rw [hvpool]
    simp [hstage, stageAfter]
  have hfork : beginFork (advanceStage v) = sendFork 0 .place (advanceStage v) := by
    unfold beginFork
    rw [hadvanced]
    dsimp only
    rw [hkind]
  have hbegin : beginStage v = sendFork 0 .place (advanceStage v) := by
    unfold beginStage
    rw [hcurrent]
    dsimp only
    rw [htarget]
    exact (if_pos hpos).trans hfork
  rw [hstart, hbegin]
  exact ⟨by simp [advanceStage, v, w], rfl, by simp [advanceStage, v, w], by simp [advanceStage, v, w],
    by simp [advanceStage, v, w]⟩

/-! ### The carriage -/

/-- The RESTORE of a bin named on the carriage enters the pool, or stays wanted, and the crane is busy (R77, R195). -/
theorem placeNamed_carriage_of_busy (hcrane : v.crane.state ≠ .idle) (hdoze : v.ctl.station ≠ .doze) :
    placeNamed .carriage c v =
      askRestore c.bin (v.onCrane fun k => { k with carriage := .carrying c, load := .loaded }) := by
  unfold placeNamed
  dsimp only
  split
  · rfl
  · exact jobEntered_of_busy (by simpa using hcrane) (by simpa using hdoze)

/-- The RESTORE of a bin named on the carriage enters a pool with room (R77, R195). -/
theorem placeNamed_carriage_of_room (hcount : nonStoreCount v.crane.pool < 31) (hroom : v.crane.pool.length < 32) :
    placeNamed .carriage c v = jobEntered (v.onCrane fun k => { k with
      carriage := .carrying c, load := .loaded, restoreWanted := false
      pool := k.pool ++ [{ restoreJob c.bin with stamp := v.est.time, est := estOf v.ctl.setup (restoreJob c.bin) }] }) := by
  have hask := askRestore_of_room (bin := c.bin)
    (s := v.onCrane fun k => { k with carriage := .carrying c, load := .loaded }) hcount hroom
  unfold placeNamed
  dsimp only
  rw [hask]
  rfl

/-- A stray on the carriage of a busy crane is named (R195). -/
theorem identify_carriage_named (htakes : Takes s id r rest) (hkind : r.kind = .identify)
    (hjoining : s.ctl.station ≠ .joining) (hwf : BinsWf s) (hcode : byteAt r.payload 0 = 0)
    (hstray : s.crane.carriage = .stray) (hname : MayName (byteAt r.payload 0) (wordAt r.payload 1) s)
    (hcrane : s.crane.state ≠ .idle) (hdoze : s.ctl.station ≠ .doze) :
    ∃ t, Identified s id r rest t 1 ∧
      t = { s with bus := t.bus, ctl := t.ctl, bins := t.bins, crane := t.crane } ∧
      (nonStoreCount s.crane.pool < 31 → s.crane.pool.length < 32 → t.crane = { s.crane with
        carriage := .carrying (namedCarry (wordAt r.payload 1)), load := .loaded, restoreWanted := false
        pool := s.crane.pool ++ [{ restoreJob (wordAt r.payload 1) with
          stamp := s.est.time, est := estOf s.ctl.setup (restoreJob (wordAt r.payload 1)) }] }) ∧
      (31 ≤ nonStoreCount s.crane.pool → t.crane = { s.crane with
        carriage := .carrying (namedCarry (wordAt r.payload 1)), load := .loaded, restoreWanted := true }) := by
  set c := namedCarry (wordAt r.payload 1) with hc
  set v := nameOwn .carriage (wordAt r.payload 1) (beginTake id r rest s) with hv
  set z := v.onCrane fun k => { k with carriage := .carrying c, load := .loaded } with hz
  have hgoes : placeNamed .carriage c v = askRestore c.bin z :=
    placeNamed_carriage_of_busy (by simpa [v] using hcrane) (by simpa [v] using hdoze)
  have hplace : PlaceMet (byteAt r.payload 0) .carriage s := by
    rw [hcode]
    exact placeMet_carriage
  have hpool : z.crane.pool = s.crane.pool := by simp [z, v]
  have hloaded : z.crane = { s.crane with carriage := .carrying c, load := .loaded } := by simp [z, v]
  have hbins : (askRestore c.bin z).bins = v.bins := by
    by_cases hroom : nonStoreCount z.crane.pool < 31 ∧ z.crane.pool.length < 32
    · rw [askRestore_of_room hroom.1 hroom.2]
      rfl
    · rw [askRestore_of_full hroom]
      rfl
  have hctl : (askRestore c.bin z).ctl = v.ctl := by simp [z]
  have hrx : (askRestore c.bin z).bus = v.bus := by simp [z]
  obtain ⟨b, hnames, -⟩ := identify_named htakes hkind hjoining hwf hplace (decide_eq_true hstray) hname
    ⟨hgoes, hbins, fun _ => hctl, congrArg Bus.rx hrx⟩
  refine ⟨_, hnames, ?_, fun hcount hroom => ?_, fun hfull => ?_⟩
  · apply State.eq_of_blocks <;> simp [z, v]
  · show (askRestore c.bin z).crane = _
    rw [askRestore_of_room (by rwa [hpool]) (by rwa [hpool]), State.onCrane_crane, hloaded]
    simp [z, v, c, namedCarry]
  · show (askRestore c.bin z).crane = _
    rw [askRestore_of_full (by rw [hpool]; omega), State.onCrane_crane, hloaded]

/-- A stray on the carriage of an IDLE crane at the mouth is named, and its RESTORE places it at once (R77, R195). -/
theorem identify_carriage_restores (htakes : Takes s id r rest) (hkind : r.kind = .identify) (hwf : BinsWf s)
    (hcode : byteAt r.payload 0 = 0) (hstray : s.crane.carriage = .stray)
    (hname : MayName (byteAt r.payload 0) (wordAt r.payload 1) s) (hactive : s.ctl.station = .active)
    (hidle : s.crane.state = .idle) (hpool : s.crane.pool = []) (hstand : s.lanes.outStand = .empty)
    (hpos : s.crane.pos = some Position.mouth) :
    ∃ t, Identified s id r rest t 1 ∧ t.crane.state = .running ∧ t.crane.inFlight = some (.fork 0 .place) ∧
      t.lanes.outStand = .reserved ∧ t.crane.carriage = .carrying (namedCarry (wordAt r.payload 1)) := by
  set c := namedCarry (wordAt r.payload 1) with hc
  set v := nameOwn .carriage (wordAt r.payload 1) (beginTake id r rest s) with hv
  have hvpool : v.crane.pool = [] := by simpa [v] using hpool
  set j : Job := { restoreJob c.bin with stamp := v.est.time, est := estOf v.ctl.setup (restoreJob c.bin) } with hj
  set z := v.onCrane fun k => { k with
    carriage := .carrying c, load := .loaded, restoreWanted := false, pool := k.pool ++ [j] } with hz
  have hzpool : z.crane.pool = [j] := by simp [z, hvpool]
  have hstation : z.ctl.station = .active := by simpa [z, v] using hactive
  obtain ⟨hrunning, hflight, hreserved, hbins, hctl⟩ := startJob_restore_at_mouth (s := z) hzpool rfl rfl (by simpa [z, v] using hpos)
  have helig : eligible z j = true := by
    have hout : v.lanes.outStand = .empty := by simpa [v] using hstand
    simp [eligible, hj, restoreJob, hout, hz]
  have hdispatch : dispatch z = startJob 0 z := by
    refine dispatch_of_only (by simpa [z, v] using hidle) (by simp [dispatches, hstation])
      (by simp [hzpool]) helig (fun m i hm _ => ?_) (by rw [hrunning]; exact nofun)
    rw [hzpool] at hm
    simpa using (List.getElem?_eq_some_iff.1 hm).1
  have hgoes : placeNamed .carriage c v = startJob 0 z := by
    rw [placeNamed_carriage_of_room (by simp [hvpool, nonStoreCount]) (by simp [hvpool]), jobEntered,
      wakeCause_of_not_doze (by rw [← hz, hstation]; exact nofun)]
    exact hdispatch
  have hplace : PlaceMet (byteAt r.payload 0) .carriage s := by
    rw [hcode]
    exact placeMet_carriage
  obtain ⟨b, hnames, -⟩ := identify_named htakes hkind (by rw [hactive]; exact nofun) hwf hplace (decide_eq_true hstray) hname
    ⟨hgoes, hbins.trans rfl, fun _ => hctl.trans rfl, by simp [← hdispatch, z, v]⟩
  exact ⟨_, hnames, hrunning, hflight, hreserved, by simp [← hdispatch, z]⟩

/-- A stray on the carriage of a crane ASLEEP is named: its RESTORE wakes the station (R38, R77, R195). -/
theorem identify_carriage_wakes (htakes : Takes s id r rest) (hkind : r.kind = .identify) (hwf : BinsWf s)
    (hcode : byteAt r.payload 0 = 0) (hstray : s.crane.carriage = .stray)
    (hname : MayName (byteAt r.payload 0) (wordAt r.payload 1) s) (hdoze : s.ctl.station = .doze)
    (hasleep : s.crane.state = .asleep) (hpool : s.crane.pool = []) (hring : RingHoldLaw s) :
    ∃ t, Identified s id r rest t 1 ∧ t.crane.state = .waking ∧ t.crane.inFlight = some .wake ∧
      t.crane.pool = [{ restoreJob (wordAt r.payload 1) with
        stamp := s.est.time, est := estOf s.ctl.setup (restoreJob (wordAt r.payload 1)) }] := by
  set c := namedCarry (wordAt r.payload 1) with hc
  set v := nameOwn .carriage (wordAt r.payload 1) (beginTake id r rest s) with hv
  have hvpool : v.crane.pool = [] := by simpa [v] using hpool
  set j : Job := { restoreJob c.bin with stamp := v.est.time, est := estOf v.ctl.setup (restoreJob c.bin) } with hj
  set z := v.onCrane fun k => { k with
    carriage := .carrying c, load := .loaded, restoreWanted := false, pool := k.pool ++ [j] } with hz
  have hstill : s.lanes.outSeg.cond ≠ .running ∧ s.lanes.backSeg.cond ≠ .running :=
    not_or.1 fun hrun => (hring hrun).2.2.2.1 hdoze
  set x := if z.fire.shutter = none ∨ z.fire.shutter = some .opened then Condition.waking else .held with hx
  have hwake : wakeCause z = withConds x (sendWake z) :=
    wakeCause_of_asleep (by simpa [z, v] using hdoze) (by simpa [z, v] using hasleep) (by simpa [z, v] using hstill)
  have hcrane : (withConds x (sendWake z)).crane = (sendWake z).crane := by simp [withConds, setCond]
  have hgoes : placeNamed .carriage c v = withConds x (sendWake z) := by
    rw [placeNamed_carriage_of_room (by simp [hvpool, nonStoreCount]) (by simp [hvpool]), jobEntered]
    exact (congrArg dispatch hwake).trans (dispatch_of_not_idle (by rw [hcrane]; exact nofun))
  have hplace : PlaceMet (byteAt r.payload 0) .carriage s := by
    rw [hcode]
    exact placeMet_carriage
  obtain ⟨b, hnames, -⟩ := identify_named htakes hkind (by rw [hdoze]; exact nofun) hwf hplace (decide_eq_true hstray) hname
    ⟨hgoes, by simp [withConds, setCond]; rfl, fun _ => by simp [withConds, setCond]; rfl,
      by simp [withConds, setCond, z, v]⟩
  refine ⟨_, hnames, ?_, ?_, ?_⟩
  · exact congrArg Crane.state hcrane
  · exact congrArg Crane.inFlight hcrane
  · refine (congrArg Crane.pool hcrane).trans ?_
    show v.crane.pool ++ [j] = _
    rw [hvpool]
    simp [hj, v, c, namedCarry]

/-- A stray on the carriage of a busy crane is cleared (R196). -/
theorem identify_carriage_cleared (htakes : Takes s id r rest) (hkind : r.kind = .identify)
    (hjoining : s.ctl.station ≠ .joining) (hcode : byteAt r.payload 0 = 0) (hstray : s.crane.carriage = .stray)
    (hbin : wordAt r.payload 1 = 0) (hcrane : s.crane.state ≠ .idle) :
    ∃ t, IdentifyCleared s id r rest t 2 ∧
      t = { s with bus := t.bus, crane := { s.crane with carriage := .nothing, load := .empty } } := by
  set w := beginTake id r rest s with hw
  set u := w.onCrane fun k => { k with carriage := .nothing, load := .empty } with hu
  have hgoes : placeCleared .carriage w = u := dispatch_of_not_idle (by simpa [u, w] using hcrane)
  have hplace : PlaceMet (byteAt r.payload 0) .carriage s := by
    rw [hcode]
    exact placeMet_carriage
  obtain ⟨b, hclears, -⟩ := identify_cleared htakes hkind hjoining hplace (decide_eq_true hstray) hbin rfl
    ⟨hgoes, by simp [u, w], by simp [u, w]⟩
  refine ⟨_, hclears, ?_⟩
  apply State.eq_of_blocks <;> simp [u, w]

/-! ### The outbound stand -/

/-- A stray on the outbound stand is named (R128, R195). -/
theorem identify_outStand_named (htakes : Takes s id r rest) (hkind : r.kind = .identify)
    (hjoining : s.ctl.station ≠ .joining) (hwf : BinsWf s) (hcode : byteAt r.payload 0 = 7)
    (hstray : s.lanes.outStand = .stray) (hname : MayName (byteAt r.payload 0) (wordAt r.payload 1) s)
    (hbus : s.bus.offBus = false) :
    ∃ t l, Identified s id r rest t 1 ∧
      (t.lanes.outStand = .holding (namedCarry (wordAt r.payload 1)) (some l) ∨
        t.lanes.outStand = .entering (namedCarry (wordAt r.payload 1)) l) ∧
      (s.lanes.outSeg.cond ≠ .running ∧ s.lanes.backSeg.cond ≠ .running →
        t.lanes = { s.lanes with outStand := .holding (namedCarry (wordAt r.payload 1)) (some l) }) ∧
      t = { s with bus := t.bus, ctl := t.ctl, bins := t.bins, lanes := t.lanes } := by
  set c := namedCarry (wordAt r.payload 1) with hc
  set v := nameOwn .outStand (wordAt r.payload 1) (beginTake id r rest s) with hv
  have hlanes : v.lanes = s.lanes := by simp [v]
  obtain ⟨l, hclaims, hstopped⟩ := holdOutStand_claims (s := v) (c := c) (by simpa [v] using hbus)
  have hplace : PlaceMet (byteAt r.payload 0) .outStand s := by
    rw [hcode]
    exact placeMet_outStand
  have hkept : (holdOutStand c v).bins = v.bins ∧ (holdOutStand c v).ctl = v.ctl ∧ (holdOutStand c v).bus = v.bus := by
    simp
  obtain ⟨hbins, hctl, hvbus⟩ := hkept
  obtain ⟨b, hnames, -⟩ := identify_named htakes hkind hjoining hwf hplace (decide_eq_true hstray) hname
    ⟨rfl, hbins, fun _ => hctl, congrArg Bus.rx hvbus⟩
  refine ⟨_, l, hnames, hclaims, fun hstill => ?_, ?_⟩
  · have hheld := hstopped (by rwa [hlanes])
    exact (congrArg State.lanes hheld).trans (by rw [← hlanes]; rfl)
  · apply State.eq_of_blocks <;> simp [placeNamed]

/-- A stray on the outbound stand is cleared while no dispatch can follow (R196). -/
theorem identify_outStand_cleared (htakes : Takes s id r rest) (hkind : r.kind = .identify)
    (hjoining : s.ctl.station ≠ .joining) (hcode : byteAt r.payload 0 = 7) (hstray : s.lanes.outStand = .stray)
    (hbin : wordAt r.payload 1 = 0) (hpin : s.pins.outStand = false)
    (hcrane : s.crane.state ≠ .idle ∨ s.ctl.station = .shutdown) :
    ∃ t, IdentifyCleared s id r rest t 2 ∧ t = { s with bus := t.bus, lanes := { s.lanes with outStand := .empty } } := by
  set w := beginTake id r rest s with hw
  have hgoes : placeCleared .outStand w = w.setOutStand .empty := by
    rcases hcrane with hcrane | hshut
    · exact dispatch_of_not_idle (by simpa [w] using hcrane)
    · have hstation : (w.setOutStand .empty).ctl.station = .shutdown := by simpa [w] using hshut
      exact dispatch_of_not_dispatches (by rw [hstation]; exact nofun) (by rw [hstation]; exact nofun)
  have hplace : PlaceMet (byteAt r.payload 0) .outStand s := by
    rw [hcode]
    exact placeMet_outStand
  obtain ⟨b, hclears, -⟩ := identify_cleared htakes hkind hjoining hplace (decide_eq_true hstray) hbin hpin
    ⟨hgoes, by simp [w], by simp [w]⟩
  refine ⟨_, hclears, ?_⟩
  apply State.eq_of_blocks <;> simp [w, State.setOutStand]

/-! ### The inbound stand -/

/-- The STORE of a bin named on the inbound stand enters the pool, or stays wanted, and the crane is busy (R76, R195). -/
theorem placeNamed_inStand_of_busy (hcrane : v.crane.state ≠ .idle) (hdoze : v.ctl.station ≠ .doze) :
    placeNamed .inStand c v = askStore c.bin (v.setInStand (.holding c)) := by
  set z := askStore c.bin (v.setInStand (.holding c)) with hz
  have hstill : dispatch z = z := dispatch_of_not_idle (by simpa [z] using hcrane)
  have hwake : wakeCause z = z := wakeCause_of_not_doze (by simpa [z] using hdoze)
  unfold placeNamed
  dsimp only
  rw [← hz, hwake, ite_self]
  exact hstill

/-- A stray on the inbound stand is named while the crane is busy (R76, R195). -/
theorem identify_inStand_named (htakes : Takes s id r rest) (hkind : r.kind = .identify)
    (hjoining : s.ctl.station ≠ .joining) (hwf : BinsWf s) (hcode : byteAt r.payload 0 = 8)
    (hstray : s.lanes.inStand = .stray) (hname : MayName (byteAt r.payload 0) (wordAt r.payload 1) s)
    (hcrane : s.crane.state ≠ .idle) (hdoze : s.ctl.station ≠ .doze) :
    ∃ t, Identified s id r rest t 1 ∧
      t = { s with bus := t.bus, ctl := t.ctl, bins := t.bins, crane := t.crane,
                   lanes := { s.lanes with inStand := .holding (namedCarry (wordAt r.payload 1)) } } ∧
      (s.crane.pool.length < 32 → t.crane = { s.crane with
        storeWanted := false
        pool := s.crane.pool ++ [{ storeJob (wordAt r.payload 1) with
          stamp := s.est.time, est := estOf s.ctl.setup (storeJob (wordAt r.payload 1)) }] }) ∧
      (32 ≤ s.crane.pool.length → t.crane = { s.crane with storeWanted := true }) := by
  set c := namedCarry (wordAt r.payload 1) with hc
  set v := nameOwn .inStand (wordAt r.payload 1) (beginTake id r rest s) with hv
  set z := v.setInStand (.holding c) with hz
  have hcrane' : z.crane = s.crane := by simp [z, v]
  have hgoes : placeNamed .inStand c v = askStore c.bin z :=
    placeNamed_inStand_of_busy (by simpa [v] using hcrane) (by simpa [v] using hdoze)
  have hplace : PlaceMet (byteAt r.payload 0) .inStand s := by
    rw [hcode]
    exact placeMet_inStand
  have hkept : (askStore c.bin z).ctl = v.ctl ∧ (askStore c.bin z).bus = v.bus := by simp [z]
  have hbins : (askStore c.bin z).bins = v.bins := by
    by_cases hroom : z.crane.pool.length < 32
    · rw [askStore_of_room hroom]
      rfl
    · rw [askStore_of_full (by omega)]
      rfl
  obtain ⟨b, hnames, -⟩ := identify_named htakes hkind hjoining hwf hplace (decide_eq_true hstray) hname
    ⟨hgoes, hbins, fun _ => hkept.1, congrArg Bus.rx hkept.2⟩
  refine ⟨_, hnames, ?_, fun hroom => ?_, fun hfull => ?_⟩
  · apply State.eq_of_blocks <;> simp [z, v, State.setInStand]
  · show (askStore c.bin z).crane = _
    rw [askStore_of_room (by rwa [hcrane']), State.onCrane_crane, hcrane']
    simp [z, v, c, namedCarry]
  · show (askStore c.bin z).crane = _
    rw [askStore_of_full (by rwa [hcrane']), State.onCrane_crane, hcrane']

/-- A stray on the inbound stand is cleared while the segments stand and the crane is busy (R81, R196). -/
theorem identify_inStand_cleared (htakes : Takes s id r rest) (hkind : r.kind = .identify)
    (hjoining : s.ctl.station ≠ .joining) (hcode : byteAt r.payload 0 = 8) (hstray : s.lanes.inStand = .stray)
    (hbin : wordAt r.payload 1 = 0) (hpin : s.pins.inStand = false)
    (hstopped : s.lanes.outSeg.cond ≠ .running ∧ s.lanes.backSeg.cond ≠ .running) (hoffers : OffersStarted s)
    (hcrane : s.crane.state ≠ .idle) :
    ∃ t, IdentifyCleared s id r rest t 2 ∧ t = { s with
      bus := t.bus, lanes := { s.lanes with inStand := .empty }, crane := { s.crane with continuity := 0 } } := by
  set w := beginTake id r rest s with hw
  set z := (w.setInStand .empty).onCrane fun k => { k with continuity := 0 } with hz
  obtain ⟨b', hfreed, hrx⟩ := targetFreed_of_stopped (s := z) (x := .inStand) (by simpa [z, w] using hstopped)
    (offersStarted_beginTake hoffers)
  have hgoes : placeCleared .inStand w = { z with bus := b' } := by
    have hempty : emptyInStand w = { z with bus := b' } := hfreed
    exact (congrArg dispatch hempty).trans (dispatch_of_not_idle (by simpa [z, w] using hcrane))
  have hplace : PlaceMet (byteAt r.payload 0) .inStand s := by
    rw [hcode]
    exact placeMet_inStand
  obtain ⟨b, hclears, -⟩ := identify_cleared htakes hkind hjoining hplace (decide_eq_true hstray) hbin hpin
    ⟨hgoes, by simp [z, w], hrx.trans (by simp [z, w])⟩
  refine ⟨_, hclears, ?_⟩
  apply State.eq_of_blocks <;> simp [z, w, State.setInStand]

end Sys2Proof.Machine
end

section
/-! PROOF. Strays at the port places, and the JAMMED head (R136, R143, R195 to R197). -/

namespace Sys2Proof.Machine

-- Checked one after another: the host bounds the memory of all threads together.
set_option Elab.async false

open Sys2Proof Sys2Proof.Safety

variable {s t u v w : State} {id k : SlotId} {r : RxRecord} {rest : List RxRecord} {place bin pos : Nat}
  {l : Lane} {c : Carry} {more : List PlaceRec}

/-! ### APPROACH -/

theorem tryAdvance_of_waits (h : ¬ (s.port.service = .empty ∧ s.ctl.station = .active)) : tryAdvance s = s := by
  unfold tryAdvance
  split
  next _ hservice => exact if_neg fun hactive => h ⟨hservice, hactive⟩
  next => rfl

/-- The port once its bin has been named at APPROACH (R136). -/
theorem placeNamed_approach_port : (placeNamed .approach c v).port =
    if v.port.service = .empty ∧ v.ctl.station = .active
      then ⟨.holding c, .incoming, some v.ctl.setup.handoffLimit⟩ else { v.port with approach := .holding c } := by
  have hnamed : placeNamed .approach c v = tryAdvance (v.setApproach (.holding c)) := rfl
  rw [hnamed]
  split
  next h =>
    rw [tryAdvance_of_holding (s := v.setApproach (.holding c)) rfl h.1 h.2]
    rfl
  next h =>
    rw [tryAdvance_of_waits (s := v.setApproach (.holding c)) h]
    rfl

/-- A stray in APPROACH is named, and advances where SERVICE is EMPTY (R136, R195). -/
theorem identify_approach_named (htakes : Takes s id r rest) (hkind : r.kind = .identify)
    (hjoining : s.ctl.station ≠ .joining) (hwf : BinsWf s) (hcode : byteAt r.payload 0 = 9)
    (hport : s.ctl.straps.port = true) (hstray : s.port.approach = .stray)
    (hname : MayName (byteAt r.payload 0) (wordAt r.payload 1) s) :
    ∃ t, Identified s id r rest t 1 ∧ t = { s with bus := t.bus, ctl := t.ctl, bins := t.bins, port := t.port } ∧
      t.port = (if s.port.service = .empty ∧ s.ctl.station = .active
        then ⟨.holding (namedCarry (wordAt r.payload 1)), .incoming, some s.ctl.setup.handoffLimit⟩
        else { s.port with approach := .holding (namedCarry (wordAt r.payload 1)) }) := by
  set c := namedCarry (wordAt r.payload 1) with hc
  set v := nameOwn .approach (wordAt r.payload 1) (beginTake id r rest s) with hv
  have hplace : PlaceMet (byteAt r.payload 0) .approach s := by
    rw [hcode]
    exact placeMet_approach hport
  have hkept : (tryAdvance (v.setApproach (.holding c))).bins = v.bins ∧
      (tryAdvance (v.setApproach (.holding c))).ctl = v.ctl ∧
      (tryAdvance (v.setApproach (.holding c))).bus = v.bus := by simp
  obtain ⟨b, hnames, -⟩ := identify_named htakes hkind hjoining hwf hplace (decide_eq_true hstray) hname
    ⟨rfl, hkept.1, fun _ => hkept.2.1, congrArg Bus.rx hkept.2.2⟩
  refine ⟨_, hnames, ?_, placeNamed_approach_port.trans (by simp [hc])⟩
  apply State.eq_of_blocks <;> simp [placeNamed]

/-- A stray in APPROACH is cleared while the segments stand (R196). -/
theorem identify_approach_cleared (htakes : Takes s id r rest) (hkind : r.kind = .identify)
    (hjoining : s.ctl.station ≠ .joining) (hcode : byteAt r.payload 0 = 9) (hport : s.ctl.straps.port = true)
    (hstray : s.port.approach = .stray) (hbin : wordAt r.payload 1 = 0) (hpin : s.pins.approach = false)
    (hstopped : s.lanes.outSeg.cond ≠ .running ∧ s.lanes.backSeg.cond ≠ .running) (hoffers : OffersStarted s) :
    ∃ t, IdentifyCleared s id r rest t 2 ∧ t = { s with bus := t.bus, port := { s.port with approach := .empty } } := by
  set w := beginTake id r rest s with hw
  set z := w.setApproach .empty with hz
  obtain ⟨b', hfreed, hrx⟩ := targetFreed_of_stopped (s := z) (x := .approach) (by simpa [z, w] using hstopped)
    (offersStarted_beginTake hoffers)
  have hplace : PlaceMet (byteAt r.payload 0) .approach s := by
    rw [hcode]
    exact placeMet_approach hport
  obtain ⟨b, hclears, -⟩ := identify_cleared htakes hkind hjoining hplace (decide_eq_true hstray) hbin hpin
    ⟨hfreed, by simp [z, w], hrx.trans (by simp [z, w])⟩
  refine ⟨_, hclears, ?_⟩
  apply State.eq_of_blocks <;> simp [z, w, State.setApproach]

/-! ### SERVICE -/

/-- A stray at SERVICE is named, and its exit is claimed (R143, R195). -/
theorem identify_service_named (htakes : Takes s id r rest) (hkind : r.kind = .identify)
    (hjoining : s.ctl.station ≠ .joining) (hwf : BinsWf s) (hcode : byteAt r.payload 0 = 10)
    (hport : s.ctl.straps.port = true) (hstray : s.port.service = .stray)
    (hname : MayName (byteAt r.payload 0) (wordAt r.payload 1) s) (hbus : s.bus.offBus = false) :
    ∃ t l, Identified s id r rest t 1 ∧ t.port.approach = s.port.approach ∧
      (t.port.service = .released (namedCarry (wordAt r.payload 1)) (some l) ∨
        t.port.service = .entering (namedCarry (wordAt r.payload 1)) l) ∧
      (s.lanes.outSeg.cond ≠ .running ∧ s.lanes.backSeg.cond ≠ .running →
        t.port.service = .released (namedCarry (wordAt r.payload 1)) (some l) ∧ t.lanes = s.lanes) ∧
      t = { s with bus := t.bus, ctl := t.ctl, bins := t.bins, lanes := t.lanes, port := t.port } := by
  set c := namedCarry (wordAt r.payload 1) with hc
  set v := nameOwn .service (wordAt r.payload 1) (beginTake id r rest s) with hv
  have hlanes : v.lanes = s.lanes := by simp [v]
  have hvbus : v.bus.offBus = false := by simpa [v] using hbus
  have hplace : PlaceMet (byteAt r.payload 0) .service s := by
    rw [hcode]
    exact placeMet_service hport
  have hkept : (releaseService c v).bins = v.bins ∧ (releaseService c v).ctl = v.ctl ∧
      (releaseService c v).bus = v.bus := by simp
  obtain ⟨b, hnames, -⟩ := identify_named htakes hkind hjoining hwf hplace (decide_eq_true hstray) hname
    ⟨rfl, hkept.1, fun _ => hkept.2.1, congrArg Bus.rx hkept.2.2⟩
  have hframe : ∀ x : State, x = { placeNamed .service c v with bus := b } →
      x = { s with bus := x.bus, ctl := x.ctl, bins := x.bins, lanes := x.lanes, port := x.port } := by
    rintro x rfl
    apply State.eq_of_blocks <;> simp [placeNamed, v]
  have happroach : (releaseService c v).port.approach = s.port.approach := by simp [v]
  by_cases hstopped : s.lanes.outSeg.cond ≠ .running ∧ s.lanes.backSeg.cond ≠ .running
  · have hreleased := releaseService_of_stopped (c := c) hvbus (by rwa [hlanes])
    have hservice : (releaseService c v).port.service = .released c (some (claimLane c.dest v)) := by
      rw [hreleased]
      rfl
    have hlanes' : (releaseService c v).lanes = s.lanes := by
      rw [hreleased]
      exact hlanes
    exact ⟨_, claimLane c.dest v, hnames, happroach, .inl hservice, fun _ => ⟨hservice, hlanes'⟩, hframe _ rfl⟩
  · obtain ⟨l, hclaims⟩ := releaseService_claims (c := c) hvbus
    exact ⟨_, l, hnames, happroach, hclaims, fun hs => absurd hs hstopped, hframe _ rfl⟩

/-- A stray at SERVICE is cleared, and a bin in APPROACH advances (R136, R196). -/
theorem identify_service_cleared (htakes : Takes s id r rest) (hkind : r.kind = .identify)
    (hjoining : s.ctl.station ≠ .joining) (hcode : byteAt r.payload 0 = 10) (hport : s.ctl.straps.port = true)
    (hstray : s.port.service = .stray) (hbin : wordAt r.payload 1 = 0) (hpin : s.pins.service = false) :
    ∃ t, IdentifyCleared s id r rest t 2 ∧ t = { s with bus := t.bus, port := t.port } ∧
      (∀ c, s.port.approach = .holding c → s.ctl.station = .active →
        t.port = { s.port with service := .incoming, advanceLimit := some s.ctl.setup.handoffLimit }) ∧
      ((∀ c, s.port.approach ≠ .holding c) ∨ s.ctl.station ≠ .active →
        t.port = { s.port with service := .empty }) := by
  set w := beginTake id r rest s with hw
  set z := w.setService .empty with hz
  have hplace : PlaceMet (byteAt r.payload 0) .service s := by
    rw [hcode]
    exact placeMet_service hport
  have hkept : (tryAdvance z).bins = s.bins ∧ (tryAdvance z).bus.rx = rest := by simp [z, w]
  obtain ⟨b, hclears, -⟩ := identify_cleared htakes hkind hjoining hplace (decide_eq_true hstray) hbin hpin
    ⟨rfl, hkept.1, hkept.2⟩
  refine ⟨_, hclears, ?_, fun c happroach hactive => ?_, fun hstays => ?_⟩
  · apply State.eq_of_blocks <;> simp [placeCleared]
  · show (tryAdvance z).port = _
    rw [tryAdvance_of_holding (s := z) (c := c) happroach rfl hactive]
    rfl
  · show (tryAdvance z).port = _
    have hstill : tryAdvance z = z := by
      rcases hstays with hempty | hstation
      · exact tryAdvance_of_not_holding (s := z) hempty
      · exact tryAdvance_of_waits (s := z) fun h => hstation h.2
    rw [hstill]
    rfl

/-! ### A JAMMED head (R197) -/

theorem headCarry_of_places (h : (s.seg l).places = ⟨.carrying c, pos⟩ :: more) : headCarry l s = some c := by
  unfold headCarry
  rw [h]

/-- The bin of a JAMMED head is named: the jam is released (R197). -/
theorem identify_jam_own (htakes : Takes s id r rest) (hkind : r.kind = .identify)
    (hjoining : s.ctl.station ≠ .joining) (hjam : JamHere (byteAt r.payload 0) s l)
    (hplaces : (s.seg l).places = ⟨.carrying c, pos⟩ :: more) (hcond : (s.seg l).cond ≠ .running)
    (hbin : wordAt r.payload 1 ≠ 0) (hsame : wordAt r.payload 1 = c.bin) :
    ∃ t a, exec .identify s = .next t ∧ Replies t id rest a ∧
      a = identifiedReply (byteAt r.payload 0) (wordAt r.payload 1) 3 a.d2 ∧ OnlySegment l s t ∧
      t.seg l = { s.seg l with head := .idle } ∧ t = { s with bus := t.bus, lanes := t.lanes } := by
  set w := beginTake id r rest s with hw
  have hseg : w.seg l = s.seg l := seg_of_lanes_eq (by simp [w]) l
  have hbody : identifyBody r w = (Answer.identify .done (byteAt r.payload 0) 3 (wordAt r.payload 1) (setHead l .idle w),
      setHead l .idle w) := by
    rw [identifyBody_jam hjam.1 (by rw [hseg]; exact hjam.2), identifyJam,
      if_pos (by rw [headCarry_of_places (s := w) (by rw [hseg]; exact hplaces), hsame]; rfl),
      releaseJam_of_not_running (by rw [hseg]; exact hcond), identifyDone]
  obtain ⟨b, hexec, hreplies, -⟩ := identify_replies htakes hkind hjoining hbin hbody (by simp [w]) (by simp [w])
  refine ⟨_, _, hexec, hreplies, rfl, ?_, ?_, ?_⟩
  · exact onlySegment_trans (onlySegment_of_lanes (t := w) (by simp [w])) (onlySegment_onSeg _ w)
  · exact (State.seg_onSeg l _ w).trans (by rw [hseg])
  · apply State.eq_of_blocks <;> simp [w]

/-- Another bin is named at a JAMMED head on a segment that does not run: what the body leaves (R197). -/
theorem identifyJam_of_other (hjam : JamHere (byteAt r.payload 0) s l)
    (hplaces : (s.seg l).places = ⟨.carrying c, pos⟩ :: more) (hcond : (s.seg l).cond ≠ .running)
    (hdiffers : wordAt r.payload 1 ≠ c.bin) (hname : MayName (byteAt r.payload 0) (wordAt r.payload 1) s) :
    let u := (nameOwn (.segment l 1) (wordAt r.payload 1) (broadcastJam l c.bin s)).onSeg l fun g =>
      { g with places := ⟨.carrying (namedCarry (wordAt r.payload 1)), pos⟩ :: more, head := .idle }
    identifyBody r s = (Answer.identify .done (byteAt r.payload 0) 3 (wordAt r.payload 1) u, u) := by
  intro u
  have hcarry := headCarry_of_places hplaces
  set v := nameOwn (.segment l 1) (wordAt r.payload 1) (broadcastJam l c.bin s) with hv
  have hseg : v.seg l = s.seg l := seg_of_lanes_eq (by simp [v]) l
  set x := v.onSeg l fun g =>
    { g with places := setHeadContent (.carrying (namedCarry (wordAt r.payload 1))) g.places } with hx
  have hreleased : releaseJam l x = u := by
    rw [releaseJam_of_not_running (by rw [hx, State.seg_onSeg, hseg]; exact hcond)]
    refine (onSeg_onSeg _ _ v).trans (onSeg_congr ?_)
    rw [hseg, hplaces]
    rfl
  rw [identifyBody_jam hjam.1 hjam.2, identifyJam, if_neg (by rw [hcarry]; simpa using hdiffers.symm),
    namingRefusal_of_mayName (p := .segment l 1) nofun hname]
  dsimp only
  rw [jamOldHead, hcarry]
  exact congrArg (identifyDone _ 3 _) hreleased

/-- Another bin is named at a JAMMED head whose own bin is another station's (R197). -/
theorem identify_jam_named (htakes : Takes s id r rest) (hkind : r.kind = .identify)
    (hjoining : s.ctl.station ≠ .joining) (hwf : BinsWf s) (hjam : JamHere (byteAt r.payload 0) s l)
    (hplaces : (s.seg l).places = ⟨.carrying c, pos⟩ :: more) (hcond : (s.seg l).cond ≠ .running)
    (hdiffers : wordAt r.payload 1 ≠ c.bin) (hname : MayName (byteAt r.payload 0) (wordAt r.payload 1) s)
    (hforeign : ¬ idIsOwn s c.bin) :
    ∃ t, Identified s id r rest t 3 ∧ OnlySegment l s t ∧
      (s.bus.offBus = false → s.bus.slots.freeSlot.isSome = true →
        ∃ k n, t.bus.slots.get k = .holds (newQueued (.jam l c.bin) n)) ∧
      t.seg l = { s.seg l with places := ⟨.carrying (namedCarry (wordAt r.payload 1)), pos⟩ :: more, head := .idle } ∧
      t = { s with bus := t.bus, ctl := t.ctl, bins := t.bins, lanes := t.lanes } := by
  set w := beginTake id r rest s with hw
  set v := nameOwn (.segment l 1) (wordAt r.payload 1) (broadcastJam l c.bin w) with hv
  have hseg : v.seg l = s.seg l := seg_of_lanes_eq (by simp [v, w]) l
  have hbody := identifyJam_of_other (s := w) (r := r) hjam hplaces hcond hdiffers hname
  dsimp only at hbody
  set u := v.onSeg l fun g =>
    { g with places := ⟨.carrying (namedCarry (wordAt r.payload 1)), pos⟩ :: more, head := .idle } with hu
  have hqueue : broadcastJam l c.bin w = queueFrame (.jam l c.bin) w := broadcastJam_of_foreign hforeign
  have hnotEight : byteAt r.payload 0 ≠ 8 := hjam.1 ▸ code_segment_ne l (by omega)
  have hnamed : BinNamed (byteAt r.payload 0) (wordAt r.payload 1) (queueFrame (.jam l c.bin) w) v := by
    rw [hv, hqueue]
    exact nameOwn_named (by rw [BinsWf, (queueFrame_keeps _ w).2.2.2.2.2.2.2.2.1]; exact hwf)
      ⟨nofun, fun h => absurd h hnotEight⟩
  obtain ⟨b, hnames, hqueued⟩ := identify_names htakes hkind hjoining (ne_zero_of_mayName hname) hbody rfl
    (by simp [u, v, w]) (by simp [u, v, w])
    (binNamed_congr (binNamed_before hnamed (by simp [w]) (by simp [w])) (by simp [u]) (by simp [u]))
  refine ⟨_, hnames, ?_, fun hbus hfree => ?_, ?_, ?_⟩
  · exact onlySegment_trans (onlySegment_of_lanes (t := v) (by simp [v, w])) (onlySegment_onSeg _ v)
  · obtain ⟨k, hk⟩ := Option.isSome_iff_exists.1 hfree
    have hholds : HoldsFrame k (newQueued (.jam l c.bin) w.bus.order) v :=
      nameOwn_holdsFrame (broadcastJam_holdsFrame (by simpa [w] using hbus) ((freeSlot_beginTake htakes).trans hk))
    exact ⟨k, w.bus.order, hqueued k _ (freeSlot_ne_taken htakes hk) (by rw [hu, State.onSeg_bus]; exact hholds.1)⟩
  · exact (State.seg_onSeg l _ v).trans (by rw [hseg])
  · apply State.eq_of_blocks <;> simp [u, v, w]

/-- Another station's bin is named at a JAMMED head whose own bin is OUT: that one is LOST (R61, R197). -/
theorem identify_jam_lost (htakes : Takes s id r rest) (hkind : r.kind = .identify)
    (hjoining : s.ctl.station ≠ .joining) (hwf : BinsWf s) (hjam : JamHere (byteAt r.payload 0) s l)
    (hplaces : (s.seg l).places = ⟨.carrying c, pos⟩ :: more) (hcond : (s.seg l).cond ≠ .running)
    (hdiffers : wordAt r.payload 1 ≠ c.bin) (hname : MayName (byteAt r.payload 0) (wordAt r.payload 1) s)
    (hother : OtherBin s (wordAt r.payload 1)) (hown : idIsOwn s c.bin)
    (hout : (binAt (c.bin % 2048) s).state = .out) :
    ∃ t a, exec .identify s = .next t ∧ Replies t id rest a ∧
      a = identifiedReply (byteAt r.payload 0) (wordAt r.payload 1) 3 0 ∧ OnlySegment l s t ∧
      (s.bus.offBus = false → s.bus.slots.freeSlot.isSome = true →
        ∃ k n, t.bus.slots.get k = .holds (newQueued (.jam l c.bin) n)) ∧
      binAt (c.bin % 2048) t = { binAt (c.bin % 2048) s with state := .lost } := by
  set w := beginTake id r rest s with hw
  set v := broadcastJam l c.bin w with hv
  have hbody := identifyJam_of_other (s := w) (r := r) hjam hplaces hcond hdiffers hname
  have hname' : nameOwn (.segment l 1) (wordAt r.payload 1) v = v :=
    nameOwn_of_other ((otherBin_congr (by simp [v, w])).2 hother)
  dsimp only at hbody
  rw [← hv, hname'] at hbody
  set u := v.onSeg l fun g =>
    { g with places := ⟨.carrying (namedCarry (wordAt r.payload 1)), pos⟩ :: more, head := .idle } with hu
  obtain ⟨b, hexec, hreplies, hqueued⟩ := identify_replies htakes hkind hjoining (ne_zero_of_mayName hname) hbody
    (by simp [u, v, w]) (by simp [u, v, w])
  have hzero : classify (wordAt r.payload 1) s ≠ .own := by
    rw [classify_eq_other_iff.2 hother]
    exact nofun
  rw [if_neg hzero] at hreplies
  refine ⟨_, _, hexec, hreplies, rfl, ?_, fun hbus hfree => ?_, ?_⟩
  · exact onlySegment_trans (onlySegment_of_lanes (t := v) (by simp [v, w])) (onlySegment_onSeg _ v)
  · obtain ⟨k, hk⟩ := Option.isSome_iff_exists.1 hfree
    have hholds : HoldsFrame k (newQueued (.jam l c.bin) w.bus.order) v :=
      broadcastJam_holdsFrame (by simpa [w] using hbus) ((freeSlot_beginTake htakes).trans hk)
    exact ⟨k, w.bus.order, hqueued k _ (freeSlot_ne_taken htakes hk) (by rw [hu, State.onSeg_bus]; exact hholds.1)⟩
  · have hlost := broadcastJam_of_out (s := w) (l := l) hwf hown hout
    rw [← hv] at hlost
    unfold binAt at hlost ⊢
    simpa [u, w] using hlost

/-- A JAMMED head whose sensor still shows its bin is not cleared (R197). -/
theorem identify_jam_busy (htakes : Takes s id r rest) (hkind : r.kind = .identify)
    (hjoining : s.ctl.station ≠ .joining) (hjam : JamHere (byteAt r.payload 0) s l) (hbin : wordAt r.payload 1 = 0)
    (hpin : (s.pins.seg l).head = true) : IdentifyRefused s id r rest .busy := by
  refine identify_refused htakes hkind hjoining ?_
  rw [bodyFor_identifyClear hkind hbin, hbin,
    identifyClearBody_jam (s := beginTake id r rest s) hjam.1 hjam.2]
  exact if_pos hpin

/-- A JAMMED head is cleared once its bin has gone: JAM names the bin, another station's (R197). -/
theorem identify_jam_cleared (htakes : Takes s id r rest) (hkind : r.kind = .identify)
    (hjoining : s.ctl.station ≠ .joining) (hjam : JamHere (byteAt r.payload 0) s l)
    (hplaces : (s.seg l).places = ⟨.carrying c, pos⟩ :: more) (hcond : (s.seg l).cond ≠ .running)
    (hbin : wordAt r.payload 1 = 0) (hpin : (s.pins.seg l).head = false) (hforeign : ¬ idIsOwn s c.bin) :
    ∃ t, IdentifyCleared s id r rest t 3 ∧ OnlySegment l s t ∧
      (s.bus.offBus = false → s.bus.slots.freeSlot.isSome = true →
        ∃ k n, t.bus.slots.get k = .holds (newQueued (.jam l c.bin) n)) ∧
      t.seg l = { s.seg l with places := more, head := .idle, headLimit := none, retry := none } ∧
      t = { s with bus := t.bus, ctl := t.ctl, lanes := t.lanes } := by
  set w := beginTake id r rest s with hw
  set v := broadcastJam l c.bin w with hv
  have hseg : v.seg l = s.seg l := seg_of_lanes_eq (by simp [v, w]) l
  set u := v.onSeg l fun g => { g with places := more, head := .idle, headLimit := none, retry := none } with hu
  have hbody : identifyClearBody r w = (Answer.identify .done (byteAt r.payload 0) 3 0 u, u) := by
    have hreleased : releaseJam l (removeHead l v) = u := by
      rw [releaseJam_of_not_running (by rw [removeHead, State.seg_onSeg, hseg]; exact hcond)]
      refine (onSeg_onSeg _ _ v).trans (onSeg_congr ?_)
      rw [hseg, hplaces]
      rfl
    rw [identifyClearBody_jam (s := w) hjam.1 hjam.2, clearJam, if_neg (by simp [State.headSensor, w, hpin]),
      jamOldHead, headCarry_of_places (s := w) hplaces]
    exact congrArg (identifyDone _ 3 0) hreleased
  have hqueue : v = queueFrame (.jam l c.bin) w := broadcastJam_of_foreign hforeign
  have hbins : v.bins = s.bins := by
    rw [hqueue]
    simp [w]
  obtain ⟨b, hclears, hqueued⟩ := identify_clears htakes hkind hjoining hbin hbody (by rw [hu, State.onSeg_bins, hbins])
    (by simp [u, v, w])
  refine ⟨_, hclears, ?_, fun hbus hfree => ?_, ?_, ?_⟩
  · exact onlySegment_trans (onlySegment_of_lanes (t := v) (by simp [v, w])) (onlySegment_onSeg _ v)
  · obtain ⟨k, hk⟩ := Option.isSome_iff_exists.1 hfree
    have hholds : HoldsFrame k (newQueued (.jam l c.bin) w.bus.order) v :=
      broadcastJam_holdsFrame (by simpa [w] using hbus) ((freeSlot_beginTake htakes).trans hk)
    exact ⟨k, w.bus.order, hqueued k _ (freeSlot_ne_taken htakes hk) (by rw [hu, State.onSeg_bus]; exact hholds.1)⟩
  · exact (State.seg_onSeg l _ v).trans (by rw [hseg])
  · apply State.eq_of_blocks <;> simp [u, v, w, hbins]

end Sys2Proof.Machine
end

section
/-! PROOF. The obligation on IDENTIFY (R194 to R197). -/

namespace Sys2Proof.Machine

-- Checked one after another: the host bounds the memory of all threads together.
set_option Elab.async false

open Sys2Proof Sys2Proof.Safety

variable {s : State} {id : SlotId} {r : RxRecord} {rest : List RxRecord} {code : ResultCode} {l : Lane}

/-- A place code that names no place of the station is refused (R194 test 1). -/
theorem identify_badPlace (htakes : Takes s id r rest) (hkind : r.kind = .identify) (hjoining : s.ctl.station ≠ .joining)
    (hplace : identifyPlace (byteAt r.payload 0) s = .inr code) : IdentifyRefused s id r rest code :=
  identify_refused htakes hkind hjoining (bodyFor_of_badPlace (s := beginTake id r rest s) hkind hplace)

theorem identifyPlace_above (h : 10 < byteAt r.payload 0) : identifyPlace (byteAt r.payload 0) s = .inr .badField := by
  unfold identifyPlace
  rw [placeOf_none h]

theorem identifyPlace_without_port (h : byteAt r.payload 0 = 9 ∨ byteAt r.payload 0 = 10)
    (hport : s.ctl.straps.port = false) : identifyPlace (byteAt r.payload 0) s = .inr .unsupported := by
  unfold identifyPlace
  rcases h with h | h
  · rw [h]
    exact if_pos (by simp [hport, Place.atPort])
  · rw [h]
    exact if_pos (by simp [hport, Place.atPort])

/-- A place with neither jam nor stray is refused (R194 test 3). -/
theorem identify_no_stray (htakes : Takes s id r rest) (hkind : r.kind = .identify) (hjoining : s.ctl.station ≠ .joining)
    (hplace : byteAt r.payload 0 < 9 ∨ byteAt r.payload 0 ≤ 10 ∧ s.ctl.straps.port = true)
    (hjam : ∀ l, ¬ JamHere (byteAt r.payload 0) s l) (hstray : ¬ StrayHere (byteAt r.payload 0) s) :
    IdentifyRefused s id r rest .conflict := by
  obtain ⟨p, hmet, hholds⟩ := not_holdsStray hplace hjam hstray
  exact identify_refused htakes hkind hjoining (bodyFor_of_no_stray (s := beginTake id r rest s) hkind hmet hholds)

/-- A bin ID that fails its tests is refused, at a stray and at a JAMMED head with another bin (R194 tests 5 to 8). -/
theorem identify_bad_bin (htakes : Takes s id r rest) (hkind : r.kind = .identify) (hjoining : s.ctl.station ≠ .joining)
    (hbin : wordAt r.payload 1 ≠ 0)
    (hhere : StrayHere (byteAt r.payload 0) s ∨
      ∃ l, JamHere (byteAt r.payload 0) s l ∧ (headCarry l s).map Carry.bin ≠ some (wordAt r.payload 1)) :
    ∃ p : Place, (p = .inStand ↔ byteAt r.payload 0 = 8) ∧ ∀ code, namingRefusal p (wordAt r.payload 1) s = some code →
      IdentifyRefused s id r rest code := by
  obtain ⟨p, hstand, hrefused⟩ := identifyBody_refused (s := beginTake id r rest s) hhere
  refine ⟨p, hstand, fun code hcode => identify_refused htakes hkind hjoining ?_⟩
  rw [bodyFor_identify hkind hbin]
  exact hrefused code hcode

/-- Settles O58: the refusals, and each place by its own lemmas. -/
theorem identifyNamesOrClears : Obligations.IdentifyNamesOrClears := by
  intro s id r rest htakes hkind hjoining hwf
  dsimp only
  refine ⟨fun hplace => ?_, fun hplace hport => ?_, fun hplace hjam hstray => ?_, fun hhere hbin => ?_,
    fun l pos before after hcode hlow hhigh hjam hplaces hfirst => ?_, fun hcode hstray => ?_, fun hcode hstray => ?_,
    fun hcode hstray => ?_, fun hcode hport hstray => ?_, fun hcode hport hstray => ?_,
    fun l c pos more hjam hplaces hcond => ?_⟩
  case refine_1 => exact identify_badPlace htakes hkind hjoining (identifyPlace_above hplace)
  case refine_2 => exact identify_badPlace htakes hkind hjoining (identifyPlace_without_port hplace hport)
  case refine_3 => exact identify_no_stray htakes hkind hjoining hplace hjam hstray
  case refine_4 =>
    obtain ⟨p, hstand, hrefused⟩ := identify_bad_bin htakes hkind hjoining hbin hhere
    refine ⟨fun hnone => hrefused _ (namingRefusal_invalid hnone),
      fun hnum hnot => hrefused _ (namingRefusal_nowhere hnum hnot),
      fun hwhose hheld => hrefused _ (namingRefusal_held hwhose hheld), fun h8 hother => hrefused _ ?_,
      fun hown hstate => hrefused _ (namingRefusal_handled hown hstate)⟩
    rw [hstand.2 h8]
    exact namingRefusal_foreign hother
  case refine_5 =>
    have hplace : PlaceMet (byteAt r.payload 0) (.segment l pos) s := hcode ▸ placeMet_segment hlow hhigh hjam
    have hholds : holdsStray (.segment l pos) s = true := holdsStray_segment_iff.2 (by simp [hplaces])
    refine ⟨fun hname hstill => identify_segment_named htakes hkind hjoining hwf hcode hlow hhigh hjam hplaces hfirst hname
        hstill, fun hname hother hpos hbefore hcond hhead hpin htop d k hdown hoffer hfree => ?_,
      fun hbin hseen => identify_busy htakes hkind hjoining hplace hholds hbin hseen,
      fun hbin hseen hstill hquiet => identify_segment_cleared htakes hkind hjoining hcode hlow hhigh hjam hplaces hfirst
        hbin hseen hstill hquiet⟩
    subst hpos hbefore
    exact identify_head_passes htakes hkind hjoining hwf hcode hplaces hname hother hcond hhead hpin htop hdown hoffer hfree
  case refine_6 =>
    exact ⟨fun hname hcalm => identify_carriage_named htakes hkind hjoining hwf hcode hstray hname hcalm.1 hcalm.2,
      fun hname => identify_carriage_restores htakes hkind hwf hcode hstray hname,
      fun hname => identify_carriage_wakes htakes hkind hwf hcode hstray hname,
      fun hbin hcalm => identify_carriage_cleared htakes hkind hjoining hcode hstray hbin hcalm.1⟩
  case refine_7 =>
    have hplace : PlaceMet (byteAt r.payload 0) .outStand s := by
      rw [hcode]
      exact placeMet_outStand
    exact ⟨fun hname hbus => identify_outStand_named htakes hkind hjoining hwf hcode hstray hname hbus,
      fun hbin hpin => identify_busy htakes hkind hjoining hplace (decide_eq_true hstray) hbin hpin,
      fun hbin hpin hcrane => identify_outStand_cleared htakes hkind hjoining hcode hstray hbin hpin hcrane⟩
  case refine_8 =>
    have hplace : PlaceMet (byteAt r.payload 0) .inStand s := by
      rw [hcode]
      exact placeMet_inStand
    exact ⟨fun hname hcalm => identify_inStand_named htakes hkind hjoining hwf hcode hstray hname hcalm.1 hcalm.2,
      fun hbin hpin => identify_busy htakes hkind hjoining hplace (decide_eq_true hstray) hbin hpin,
      fun hbin hpin hstopped hoffers hcrane => identify_inStand_cleared htakes hkind hjoining hcode hstray hbin hpin
        hstopped hoffers hcrane⟩
  case refine_9 =>
    have hplace : PlaceMet (byteAt r.payload 0) .approach s := by
      rw [hcode]
      exact placeMet_approach hport
    exact ⟨fun hname => identify_approach_named htakes hkind hjoining hwf hcode hport hstray hname,
      fun hbin hpin => identify_busy htakes hkind hjoining hplace (decide_eq_true hstray) hbin hpin,
      fun hbin hpin hstopped hoffers => identify_approach_cleared htakes hkind hjoining hcode hport hstray hbin hpin
        hstopped hoffers⟩
  case refine_10 =>
    have hplace : PlaceMet (byteAt r.payload 0) .service s := by
      rw [hcode]
      exact placeMet_service hport
    exact ⟨fun hname hbus => identify_service_named htakes hkind hjoining hwf hcode hport hstray hname hbus,
      fun hbin hpin => identify_busy htakes hkind hjoining hplace (decide_eq_true hstray) hbin hpin,
      fun hbin hpin => identify_service_cleared htakes hkind hjoining hcode hport hstray hbin hpin⟩
  case refine_11 =>
    exact ⟨fun hbin hsame => identify_jam_own htakes hkind hjoining hjam hplaces hcond hbin hsame,
      fun hdiffers hname hforeign => identify_jam_named htakes hkind hjoining hwf hjam hplaces hcond hdiffers hname hforeign,
      fun hdiffers hname hother hown hout => identify_jam_lost htakes hkind hjoining hwf hjam hplaces hcond hdiffers hname
        hother hown hout,
      fun hbin hpin => identify_jam_busy htakes hkind hjoining hjam hbin hpin,
      fun hbin hpin hforeign => identify_jam_cleared htakes hkind hjoining hjam hplaces hcond hbin hpin hforeign⟩

end Sys2Proof.Machine
end

section
/-! PROOF. The current job and the stages it goes through (R68, R72, R75 to R78). -/

namespace Sys2Proof.Machine

-- Checked one after another: the host bounds the memory of all threads together.
set_option Elab.async false

open Sys2Proof Sys2Proof.Safety

variable {s t : State} {j : Job} {f : Job → Job} {p q : Position} {side : Nat} {x : DriveCmd}

/-! ### The current job (R68) -/

theorem currentJob_congr (h : t.crane.pool = s.crane.pool) : currentJob t = currentJob s := by
  unfold currentJob
  rw [h]

theorem state_of_currentJob (h : currentJob s = some j) : j.state ≠ .waiting := by
  unfold currentJob at h
  simpa using List.find?_some h

/-- The current job once it has been changed. -/
theorem currentJob_onCurrent (h : currentJob s = some j) (hf : (f j).state ≠ .waiting) :
    currentJob (onCurrent f s) = some (f j) := by
  unfold currentJob onCurrent at *
  rw [State.onCrane_crane]
  dsimp only
  generalize s.crane.pool = pool at h
  induction pool with
  | nil => cases h
  | cons k pool ih =>
    by_cases hk : k.state = .waiting
    · rw [List.find?_cons_of_neg (by simp [hk])] at h
      rw [List.map_cons, List.find?_cons_of_neg (by simp [hk])]
      exact ih h
    · rw [List.find?_cons_of_pos (by simp [hk])] at h
      cases h
      rw [List.map_cons, if_neg hk, List.find?_cons_of_pos (by simp [hf])]

theorem currentJob_advanceStage (h : currentJob s = some j) :
    currentJob (advanceStage s) = some { j with stage := stageAfter j.stage, sent := false } :=
  currentJob_onCurrent h (state_of_currentJob h : j.state ≠ .waiting)

/-- The FORK of the current job's stage is sent (R70). -/
theorem currentJob_sendFork {op : ForkOp} (h : currentJob s = some j) :
    currentJob (sendFork side op s) = some { j with sent := true } :=
  (currentJob_congr (s := onCurrent (fun j => { j with sent := true }) s) rfl).trans
    (currentJob_onCurrent h (state_of_currentJob h : j.state ≠ .waiting))

theorem currentJob_of_only (hpool : s.crane.pool = [j]) (hj : j.state ≠ .waiting) : currentJob s = some j := by
  rw [currentJob, hpool]
  exact List.find?_cons_of_pos (decide_eq_true hj)

theorem currentJob_of_no_jobs (hpool : s.crane.pool = []) : currentJob s = none := by
  rw [currentJob, hpool]
  rfl

theorem onCurrent_of_only (hpool : s.crane.pool = [j]) (hj : j.state ≠ .waiting) :
    onCurrent f s = s.onCrane fun k => { k with pool := [f j] } := by
  unfold onCurrent State.onCrane
  dsimp only
  rw [hpool]
  simp [hj]

theorem onCurrent_of_no_jobs (hpool : s.crane.pool = []) : onCurrent f s = s := by
  unfold onCurrent State.onCrane
  dsimp only
  rw [hpool]
  simp only [List.map_nil]
  rw [← hpool]

theorem removeCurrent_of_only (hpool : s.crane.pool = [j]) (hj : j.state ≠ .waiting) :
    removeCurrent s = s.onCrane fun k => { k with pool := [] } := by
  unfold removeCurrent State.onCrane
  dsimp only
  rw [hpool]
  simp [hj]

/-! ### Commands (R70, R71) -/

/-- A MOVE from a recorded position (R71). -/
theorem sendDrive_move (hpos : s.crane.pos = some q) :
    sendDrive (.move p) s = s.onCrane fun k => { k with
      inFlight := some (.move p), limit := some (2 * moveTime s.ctl.setup q p + 2000), lastSent := some (.move p) } := by
  have hat : craneAt s = q := by simp [craneAt, hpos]
  unfold sendDrive driveLimit
  dsimp only
  rw [hat]

/-! ### Stages (R72, R75 to R78) -/

/-- A travel stage begins with its MOVE. -/
theorem beginStage_moves (hcurrent : currentJob s = some j) (htarget : travelTarget j = some p)
    (hpos : s.crane.pos ≠ some p) : beginStage s = sendDrive (.move p) s := by
  unfold beginStage
  rw [hcurrent]
  dsimp only
  rw [htarget]
  exact if_neg hpos

/-- A travel whose target has been reached completes at once (R72). -/
theorem beginStage_arrives (hcurrent : currentJob s = some j) (htarget : travelTarget j = some p)
    (hpos : s.crane.pos = some p) : beginStage s = beginFork (advanceStage s) := by
  unfold beginStage
  rw [hcurrent]
  dsimp only
  rw [htarget]
  exact if_pos hpos

theorem beginStage_forks (hcurrent : currentJob s = some j) (htarget : travelTarget j = none) :
    beginStage s = beginFork s := by
  unfold beginStage
  rw [hcurrent]
  dsimp only
  rw [htarget]

/-- The pick of a RETRIEVE whose lift begin is granted (R75). -/
theorem beginFork_retrieve_picks (hcurrent : currentJob s = some j) (hkind : j.kind = .retrieve)
    (hstage : j.stage = .forkPick)
    (hgranted : (liftBegin (indexOf j.bin) { tag := j.tag, port := j.port, purpose := j.purpose } s).1 = true) :
    beginFork s = sendFork (sideOf (indexOf j.bin)) .pick
      (liftBegin (indexOf j.bin) { tag := j.tag, port := j.port, purpose := j.purpose } s).2 := by
  unfold beginFork
  rw [hcurrent]
  dsimp only
  rw [hkind, hstage]
  exact if_pos hgranted

theorem beginFork_retrieve_places (hcurrent : currentJob s = some j) (hkind : j.kind = .retrieve)
    (hstage : j.stage = .forkPlace) : beginFork s = sendFork 0 .place s := by
  unfold beginFork
  rw [hcurrent]
  dsimp only
  rw [hkind, hstage]

theorem beginFork_restore_places (hcurrent : currentJob s = some j) (hkind : j.kind = .restore .rack)
    (hstage : j.stage = .forkPlace) : beginFork s = sendFork (sideOf (indexOf j.bin)) .place s := by
  unfold beginFork
  rw [hcurrent]
  dsimp only
  rw [hkind, hstage]

/-- A stage completed goes on to the next one, unless the crane is HALTING (R89). -/
theorem goOn_of_running (h : s.crane.state = .running) : goOn s = beginStage s := if_neg (by simp [h])

/-- A stage completed under a HALT leaves the job HALTED (R89). -/
theorem goOn_of_halting (h : s.crane.state = .halting) (hpool : s.crane.pool = [j]) (hj : j.state ≠ .waiting) :
    goOn s = s.onCrane fun k => { k with state := .halted, pool := [{ j with state := .halted }] } := by
  refine (if_pos h).trans ?_
  rw [onCurrent_of_only hpool hj]
  rfl

end Sys2Proof.Machine
end

section
/-! PROOF. HALT and RESUME (R88 to R91). -/

namespace Sys2Proof.Machine

-- Checked one after another: the host bounds the memory of all threads together.
set_option Elab.async false

open Sys2Proof Sys2Proof.Safety

variable {s t u : State} {id : SlotId} {r : RxRecord} {rest : List RxRecord} {j : Job} {p q : Position} {side : Nat}
  {op : ForkOp}

/-! ### HALT (R89, R91) -/

theorem stopMove_of_no_move (h : moveInFlight s = false) : stopMove s = s := if_neg (by simp [h])

theorem haltCrane_of_idle (h : s.crane.state = .idle) :
    haltCrane s = (.done, s.onCrane fun k => { k with state := .halted }) := by
  unfold haltCrane
  rw [h]

/-- HALT stops a MOVE (R88, R89). -/
theorem haltCrane_of_move (h : s.crane.state = .running) (hcurrent : currentJob s = some j)
    (hflight : s.crane.inFlight = some (.move p)) :
    haltCrane s = (.done, (sendStop s).onCrane fun k => { k with state := .halting }) := by
  have hmoving : moveInFlight s = true := by simp [moveInFlight, hflight]
  have hpark : dozePark s = false := by simp [dozePark, hflight, hcurrent]
  unfold haltCrane stopMove
  rw [h]
  dsimp only
  rw [if_neg (by simp [hpark]), if_pos hmoving]

/-- HALT lets a FORK end, and a STOP in flight serves (R88, R89; assumption log 18). -/
theorem haltCrane_of_fork_or_stop (h : s.crane.state = .running)
    (hflight : s.crane.inFlight = some (.fork side op) ∨ s.crane.inFlight = some .stop) :
    haltCrane s = (.done, s.onCrane fun k => { k with state := .halting }) := by
  have hmoving : moveInFlight s = false := by rcases hflight with hf | hf <;> simp [moveInFlight, hf]
  have hpark : dozePark s = false := by rcases hflight with hf | hf <;> simp [dozePark, hmoving, hf]
  unfold haltCrane
  rw [h]
  dsimp only
  rw [if_neg (by simp [hpark]), stopMove_of_no_move hmoving]

/-- HALT is BUSY in the doze park (R37, R89). -/
theorem haltCrane_of_park (h : s.crane.state = .running) (hpark : dozePark s = true) : haltCrane s = (.busy, s) := by
  unfold haltCrane
  rw [h]
  exact if_pos hpark

theorem dozePark_of_move (hcurrent : currentJob s = none) (hflight : s.crane.inFlight = some (.move p)) :
    dozePark s = true := by
  simp [dozePark, moveInFlight, hcurrent, hflight]

theorem dozePark_of_sleep (hflight : s.crane.inFlight = some .sleep) : dozePark s = true := by simp [dozePark, hflight]

theorem haltCrane_of_halted (h : s.crane.state = .halting ∨ s.crane.state = .halted) : haltCrane s = (.done, s) := by
  unfold haltCrane
  rcases h with h | h <;> rw [h]

/-- The crane states with no motion to halt (R89). -/
theorem haltCrane_of_no_motion (h : s.crane.state = .unreferenced ∨ s.crane.state = .homing ∨ s.crane.state = .stopped ∨
    s.crane.state = .faulted ∨ s.crane.state = .asleep ∨ s.crane.state = .waking) : haltCrane s = (.busy, s) := by
  unfold haltCrane
  rcases h with h | h | h | h | h | h <;> rw [h]

theorem haltCrane_frame (s : State) : (haltCrane s).2 = { s with crane := (haltCrane s).2.crane } := by
  unfold haltCrane
  split
  next => rfl
  next =>
    split
    · rfl
    · unfold stopMove
      split
      · apply State.eq_of_blocks <;> simp
      · rfl
  next => rfl
  next => rfl
  next => rfl

/-! ### RESUME (R90) -/

/-- A halted job goes on with its travel from the recorded position (R90). -/
theorem resumeHalted_moves (hcurrent : currentJob s = some j) (htarget : travelTarget j = some p)
    (hpos : s.crane.pos = some q) (hne : q ≠ p) :
    resumeHalted s =
      (onCurrent (fun j => { j with state := .active }) s).onCrane fun k => { k with
        state := .running, inFlight := some (.move p), limit := some (2 * moveTime s.ctl.setup q p + 2000)
        lastSent := some (.move p) } := by
  set v := (onCurrent (fun j => { j with state := .active }) s).onCrane fun k => { k with state := .running } with hv
  have hvcurrent : currentJob v = some { j with state := .active } :=
    (currentJob_congr (s := onCurrent (fun j => { j with state := .active }) s) rfl).trans
      (currentJob_onCurrent hcurrent nofun)
  have hvpos : v.crane.pos = some q := by simpa [v] using hpos
  have hbegin : beginStage v = sendDrive (.move p) v :=
    beginStage_moves hvcurrent (p := p) htarget (by rw [hvpos]; simpa using hne)
  unfold resumeHalted
  rw [hcurrent]
  dsimp only
  rw [← hv, hbegin, dispatch_of_not_idle (by simp [v]), sendDrive_move hvpos]
  rfl

theorem resumeHalted_of_no_jobs (hpool : s.crane.pool = []) :
    resumeHalted s = s.onCrane fun k => { k with state := .idle } := by
  unfold resumeHalted
  rw [currentJob_of_no_jobs hpool]
  exact dispatch_of_no_jobs hpool

theorem resumeCrane_of_halted (h : s.crane.state = .halted) : resumeCrane s = (.done, resumeHalted s) := by
  unfold resumeCrane
  rw [h]

theorem resumeCrane_of_halting (h : s.crane.state = .halting) :
    resumeCrane s = (.done, s.onCrane fun k => { k with state := .running }) := by
  unfold resumeCrane
  rw [h]

theorem resumeCrane_of_other (hhalted : s.crane.state ≠ .halted) (hhalting : s.crane.state ≠ .halting) :
    resumeCrane s = (.conflict, s) := by
  unfold resumeCrane
  split
  next h => exact absurd h hhalted
  next h => exact absurd h hhalting
  next => rfl

theorem resumeCrane_rx (s : State) : (resumeCrane s).2.bus.rx = s.bus.rx := by
  unfold resumeCrane
  split
  next =>
    unfold resumeHalted
    split
    · simp
    · simp
  next => rfl
  next => rfl

/-! ### The orders -/

/-- HALT: its REPLY and the crane (R89). -/
theorem exec_halt (htakes : Takes s id r rest) (hkind : r.kind = .halt)
    (hstation : s.ctl.station = .active ∨ s.ctl.station = .doze) :
    ∃ t, exec .halt s = .next t ∧ Replies t id rest (plainReply .halt (haltCrane (beginTake id r rest s)).1 0) ∧
      t = { s with bus := t.bus, crane := t.crane } ∧ t.crane = (haltCrane (beginTake id r rest s)).2.crane := by
  set w := beginTake id r rest s with hw
  have ⟨_, _, hsender, _⟩ := htakes
  have hadmit : refusal r.kind s.ctl.station = none := by rcases hstation with h | h <;> rw [hkind, h] <;> rfl
  have hrx : (haltCrane w).2.bus.rx = rest := by
    rw [haltCrane_frame]
    rfl
  obtain ⟨hreplies, hstate⟩ := serve_carriesOut (p := isKind .halt) (body := haltBody) htakes (by simp [isKind, hkind])
    hadmit rfl hrx
  rw [Answer.toReply_plain _ _ hsender, hkind] at hreplies
  refine ⟨_, rfl, hreplies, ?_, ?_⟩
  · rw [hstate, haltCrane_frame]
    apply State.eq_of_blocks <;> simp
  · rw [hstate]

/-- RESUME: its REPLY and the state (R90). -/
theorem exec_resume (htakes : Takes s id r rest) (hkind : r.kind = .resume)
    (hstation : s.ctl.station = .active ∨ s.ctl.station = .doze) :
    ∃ b, exec .resume s = .next { (resumeCrane (beginTake id r rest s)).2 with bus := b } ∧
      Replies { (resumeCrane (beginTake id r rest s)).2 with bus := b } id rest
        (plainReply .resume (resumeCrane (beginTake id r rest s)).1 0) := by
  set w := beginTake id r rest s with hw
  have ⟨_, _, hsender, _⟩ := htakes
  have hadmit : refusal r.kind s.ctl.station = none := by rcases hstation with h | h <;> rw [hkind, h] <;> rfl
  obtain ⟨hreplies, hstate⟩ := serve_carriesOut (p := isKind .resume) (body := resumeBody) htakes
    (by simp [isKind, hkind]) hadmit rfl (resumeCrane_rx w)
  rw [Answer.toReply_plain _ _ hsender, hkind] at hreplies
  exact ⟨_, congrArg _ hstate, hstate ▸ hreplies⟩

end Sys2Proof.Machine
end

section
/-! PROOF. STOPPED, and the FORK that ends under a HALT or for a converted job (R72, R76 to R79, R88 to R91). -/

namespace Sys2Proof.Machine

-- Checked one after another: the host bounds the memory of all threads together.
set_option Elab.async false

open Sys2Proof Sys2Proof.Safety

variable {s t u : State} {id : SlotId} {r : RxRecord} {rest : List RxRecord} {j : Job} {p q : Position} {side : Nat}
  {op : ForkOp} {column level : Nat} {x : DriveCmd}

/-! ### STOPPED (R72, R88 to R91, R176) -/

/-- STOPPED completes the STOP in flight (R70). -/
theorem exec_stopped (hstation : s.ctl.station ≠ .strapFault) (hcrane : s.crane.state ≠ .faulted)
    (hflight : s.crane.inFlight = some .stop) :
    exec (.stopped column level) s = .next (stoppedTo ⟨column, level⟩ .stop (reportTaken s)) :=
  congrArg _ (takeReport_completing hstation hcrane hflight rfl)

/-- What a STOPPED is taken for, by the crane state. -/
theorem stoppedTo_of_halting (h : s.crane.state = .halting) : stoppedTo p x s =
    (onCurrent (fun j => { j with state := .halted }) (s.onCrane (afterStop p))).onCrane
      fun k => { k with state := .halted } := by
  unfold stoppedTo
  extract_lets z
  rw [show z.crane.state = .halting from h]

theorem stoppedTo_of_running_without_job (h : s.crane.state = .running) (hpool : s.crane.pool = []) :
    stoppedTo p x s = (s.onCrane (afterStop p)).onCrane fun k => { k with state := .idle } := by
  unfold stoppedTo
  extract_lets z
  rw [show z.crane.state = .running from h]
  dsimp only
  rw [currentJob_of_no_jobs (s := z) hpool]
  exact dispatch_of_no_jobs hpool

/-- A STOP withdrawn, or the STOP of a cancel, goes on with the job's travel (R88, R90). -/
theorem stoppedTo_of_running_with_job (h : s.crane.state = .running) (hcurrent : currentJob s = some j)
    (htarget : travelTarget j = some q) (hne : q ≠ p) :
    stoppedTo p x s = (s.onCrane (afterStop p)).onCrane fun k => { k with
      inFlight := some (.move q), limit := some (2 * moveTime s.ctl.setup p q + 2000), lastSent := some (.move q) } := by
  unfold stoppedTo
  extract_lets z
  have hzcurrent : currentJob z = some j := hcurrent
  have hmove : beginStage z = sendDrive (.move q) z :=
    beginStage_moves hzcurrent htarget (by simpa [z, afterStop] using hne.symm)
  rw [show z.crane.state = .running from h]
  dsimp only
  rw [hzcurrent]
  dsimp only
  rw [hmove, dispatch_of_not_idle (by rw [sendDrive_keeps _ z |>.2.2.2.2.2.1, show z.crane.state = .running from h]; exact nofun),
    sendDrive_move (q := p) rfl]
  rfl

theorem stoppedTo_of_stopped (h : s.crane.state = .stopped) : stoppedTo p x s = s.onCrane (afterStop p) := by
  unfold stoppedTo
  extract_lets z
  rw [show z.crane.state = .stopped from h]

/-! ### DONE and PROBE to a FORK (R72, R76 to R79, R89) -/

/-- DONE completes the MOVE, the FORK PICK or the FORK PLACE in flight (R70). -/
theorem exec_done (hstation : s.ctl.station ≠ .strapFault) (hcrane : s.crane.state ≠ .faulted)
    (hflight : s.crane.inFlight = some x) (hdone : completingReport x = .done) :
    exec .done s = .next (doneTo x (reportTaken s)) :=
  congrArg _ (takeReport_completing hstation hcrane hflight hdone)

theorem advanceStage_of_only (hpool : s.crane.pool = [j]) (hj : j.state ≠ .waiting) :
    advanceStage s = s.onCrane fun k => { k with pool := [{ j with stage := stageAfter j.stage, sent := false }] } :=
  onCurrent_of_only hpool hj

/-- The pick of a RETRIEVE is done (R75). -/
theorem pickDone_retrieve (hcurrent : currentJob s = some j) (hkind : j.kind = .retrieve) :
    pickDone s = goOn (advanceStage (s.onCrane fun k => { k with load := .loaded })) := by
  unfold pickDone
  dsimp only
  rw [show currentJob (s.onCrane fun k => { k with load := .loaded }) = some j from hcurrent]
  dsimp only
  rw [hkind]

/-- The pick of a job converted while it was under way is done (R88; assumption log 17). -/
theorem pickDone_restore {m : Target} (hcurrent : currentJob s = some j) (hkind : j.kind = .restore m) :
    pickDone s = goOn (s.onCrane fun k => { k with load := .loaded }) := by
  unfold pickDone
  dsimp only
  rw [show currentJob (s.onCrane fun k => { k with load := .loaded }) = some j from hcurrent]
  dsimp only
  rw [hkind]

theorem placeDone_finishes (hcurrent : currentJob s = some j) :
    placeDone s = dispatch (craneRests (finishJob j (s.onCrane fun k => { k with load := .empty }))) := by
  unfold placeDone
  dsimp only
  rw [show currentJob (s.onCrane fun k => { k with load := .empty }) = some j from hcurrent]

/-- The place of a RETRIEVE whose call stands: the outbound stand takes the call's carry record (R75). -/
theorem finishRetrieve_called {c : Call} (h : (liftEnd (indexOf j.bin) s).1.join = some c) : finishRetrieve j s =
    recordFreed (holdOutStand (standCarry j.bin c) (removeCurrent (liftEnd (indexOf j.bin) s).2)) := by
  unfold finishRetrieve
  dsimp only
  rw [h]

/-- The place of a RETRIEVE without a call: the outbound stand is a stray (R75). -/
theorem finishRetrieve_strayed (h : (liftEnd (indexOf j.bin) s).1.join = none) : finishRetrieve j s =
    recordFreed (raise (.stray 7) ((removeCurrent (liftEnd (indexOf j.bin) s).2).setOutStand .stray)) := by
  unfold finishRetrieve
  dsimp only
  rw [h]

/-- The job of a RETRIEVE's place is gone, and nothing else of the crane changes (R75). -/
theorem finishRetrieve_crane (hpool : s.crane.pool = [j]) (hj : j.state ≠ .waiting)
    (hrestore : s.crane.restoreWanted = false) (hstore : s.crane.storeWanted = false) :
    (finishRetrieve j s).crane = { s.crane with pool := [] } := by
  have hlift : (liftEnd (indexOf j.bin) s).2.crane = s.crane := by simp
  have hgone : (removeCurrent (liftEnd (indexOf j.bin) s).2).crane = { s.crane with pool := [] } := by
    rw [removeCurrent_of_only (by rw [hlift]; exact hpool) hj, State.onCrane_crane, hlift]
  have hfreed : ∀ v : State, v.crane = { s.crane with pool := [] } →
      (recordFreed v).crane = { s.crane with pool := [] } := fun v hv => by
    rw [recordFreed_of_nothing_wanted (by rw [hv]; exact hrestore) (by rw [hv]; exact hstore), hv]
  cases hcall : (liftEnd (indexOf j.bin) s).1.join with
  | none =>
    rw [finishRetrieve_strayed hcall]
    exact hfreed _ (by simp [hgone])
  | some c =>
    rw [finishRetrieve_called hcall]
    exact hfreed _ (by simp [hgone])

/-- The crane rests HALTED under a HALT (R79, R89). -/
theorem craneRests_of_halting (h : s.crane.state = .halting) :
    craneRests s = s.onCrane fun k => { k with state := .halted } := by
  unfold craneRests State.onCrane
  dsimp only
  rw [if_pos (.inl h)]

theorem craneRests_of_running (h : s.crane.state = .running) :
    craneRests s = s.onCrane fun k => { k with state := .idle } := by
  unfold craneRests State.onCrane
  dsimp only
  rw [if_neg (by simp [h])]

/-- An AUDIT with a valid index left, under a HALT (R78, R89; assumption log 47). -/
theorem advanceAudit_of_halting (hpool : s.crane.pool = [j]) (hj : j.state ≠ .waiting) (h : s.crane.state = .halting)
    (hmore : 1 < j.remaining) (hle : j.nextIndex + 1 ≤ 2047)
    (hvalid : validIndex s.ctl.straps (j.nextIndex + 1) = true) :
    advanceAudit j s = s.onCrane fun k => { k with pool := [{ j with
      nextIndex := j.nextIndex + 1, remaining := j.remaining - 1, stage := .travel, sent := false, state := .halted }] } := by
  have hnext : auditNext s.ctl.straps (j.remaining - 1) (j.nextIndex + 1) = some (j.nextIndex + 1, j.remaining - 1) :=
    auditNext_of_valid (by omega) hle hvalid
  unfold advanceAudit
  rw [hnext]
  dsimp only
  rw [onCurrent_of_only hpool hj, if_pos h]

end Sys2Proof.Machine
end

section
/-! PROOF. The obligation on HALT, STOPPED and RESUME (R72, R78, R88 to R91, R176). -/

namespace Sys2Proof.Machine

-- Checked one after another: the host bounds the memory of all threads together.
set_option Elab.async false

open Sys2Proof Sys2Proof.Safety

variable {s : State} {j : Job} {p : Position} {side : Nat}

/-! ### A FORK that ends under a HALT (R89) -/

/-- The pick of a RETRIEVE ends under a HALT (R89). -/
theorem exec_done_pick_halted (hstation : s.ctl.station ≠ .strapFault) (hpool : s.crane.pool = [j])
    (hactive : j.state = .active) (hcrane : s.crane.state = .halting) (hflight : s.crane.inFlight = some (.fork side .pick))
    (hkind : j.kind = .retrieve) (hstage : j.stage = .forkPick) :
    exec .done s = .next { s with crane := { s.crane with
      state := .halted, inFlight := none, limit := none, load := .loaded
      pool := [{ j with state := .halted, stage := .travelLoaded, sent := false }] } } := by
  have hjob : j.state ≠ .waiting := by rw [hactive]; exact nofun
  set z := (reportTaken s).onCrane fun k => { k with load := .loaded } with hz
  have hadvanced : advanceStage z = z.onCrane fun k => { k with
      pool := [{ j with stage := stageAfter j.stage, sent := false }] } := advanceStage_of_only hpool hjob
  have hgoes : goOn (advanceStage z) = (advanceStage z).onCrane fun k => { k with
      state := .halted, pool := [{ j with state := .halted, stage := stageAfter j.stage, sent := false }] } :=
    goOn_of_halting (by simpa [z, reportTaken] using hcrane)
      (j := { j with stage := stageAfter j.stage, sent := false }) (by rw [hadvanced]; rfl) hjob
  rw [exec_done hstation (by rw [hcrane]; exact nofun) hflight rfl]
  refine congrArg _ ((pickDone_retrieve (s := reportTaken s) (currentJob_of_only hpool hjob) hkind).trans ?_)
  rw [← hz, hgoes, hadvanced, hstage]
  rfl

/-- The place of a RETRIEVE ends under a HALT (R79, R89). -/
theorem exec_done_place_halted (hstation : s.ctl.station ≠ .strapFault) (hpool : s.crane.pool = [j])
    (hactive : j.state = .active) (hcrane : s.crane.state = .halting) (hflight : s.crane.inFlight = some (.fork side .place))
    (hkind : j.kind = .retrieve) (hrestore : s.crane.restoreWanted = false) (hstore : s.crane.storeWanted = false) :
    ∃ t, exec .done s = .next t ∧ t.crane = { s.crane with
      state := .halted, inFlight := none, limit := none, load := .empty, pool := [] } := by
  have hjob : j.state ≠ .waiting := by rw [hactive]; exact nofun
  set z := (reportTaken s).onCrane fun k => { k with load := .empty } with hz
  have hfinished : (finishRetrieve j z).crane = { z.crane with pool := [] } :=
    finishRetrieve_crane hpool hjob hrestore hstore
  have hrests : craneRests (finishRetrieve j z) = (finishRetrieve j z).onCrane fun k => { k with state := .halted } :=
    craneRests_of_halting (by rw [hfinished]; exact hcrane)
  have hplaced : placeDone (reportTaken s) = (finishRetrieve j z).onCrane fun k => { k with state := .halted } := by
    rw [placeDone_finishes (s := reportTaken s) (currentJob_of_only hpool hjob), ← hz, finishJob, hkind]
    dsimp only
    rw [hrests]
    exact dispatch_of_not_idle nofun
  refine ⟨_, (exec_done hstation (by rw [hcrane]; exact nofun) hflight rfl).trans (congrArg _ hplaced), ?_⟩
  rw [State.onCrane_crane, hfinished]
  rfl

/-- The probe of an AUDIT with locations left ends under a HALT (R78, R89; assumption log 47). -/
theorem exec_probe_halted (hstation : s.ctl.station ≠ .strapFault) (hpool : s.crane.pool = [j])
    (hactive : j.state = .active) (hcrane : s.crane.state = .halting)
    (hflight : s.crane.inFlight = some (.fork side .probe)) (hmore : 1 < j.remaining)
    (hstored : (binAt j.nextIndex s).state = .stored) (hvalid : validIndex s.ctl.straps (j.nextIndex + 1) = true)
    (hle : j.nextIndex + 1 ≤ 2047) :
    exec (.probe true) s = .next { s with crane := { s.crane with
      state := .halted, inFlight := none, limit := none
      pool := [{ j with
        state := .halted, nextIndex := j.nextIndex + 1, remaining := j.remaining - 1, stage := .travel
        sent := false }] } } := by
  have hjob : j.state ≠ .waiting := by rw [hactive]; exact nofun
  have htaken : exec (.probe true) s = .next (probeTo true (.fork side .probe) (reportTaken s)) :=
    congrArg _ (takeReport_completing hstation (by rw [hcrane]; exact nofun) hflight rfl)
  have hfelt : compareProbe j.nextIndex true (reportTaken s) = reportTaken s := compareProbe_stored true hstored
  have hadvanced := advanceAudit_of_halting (s := reportTaken s) hpool hjob hcrane hmore hle hvalid
  rw [htaken]
  unfold probeTo
  rw [currentJob_of_only (s := reportTaken s) hpool hjob]
  dsimp only
  rw [hfelt, hadvanced, craneRests_of_halting (by exact hcrane)]
  exact congrArg _ (dispatch_of_not_idle nofun)

/-- The pick of a converted job ends: it goes on to its place, where it stands already (R72, R77, R88). -/
theorem exec_done_pick_converted (hstation : s.ctl.station ≠ .strapFault) (hpool : s.crane.pool = [j])
    (hactive : j.state = .active) (hcrane : s.crane.state = .running) (hflight : s.crane.inFlight = some (.fork side .pick))
    (hkind : j.kind = .restore .rack) (hstage : j.stage = .travelLoaded)
    (hpos : s.crane.pos = some (positionOf (j.bin % 2048))) :
    ∃ t, exec .done s = .next t ∧ t = { s with crane := t.crane } ∧
      t.crane.inFlight = some (.fork (j.bin % 2048 / 1024) .place) ∧ t.crane.load = .loaded ∧
      t.crane.limit = some (2 * s.ctl.setup.fork + 2000) ∧
      currentJob t = some { j with stage := .forkPlace, sent := true } := by
  have hcurrent : currentJob s = some j := currentJob_of_only hpool (by rw [hactive]; exact nofun)
  set z := (reportTaken s).onCrane fun k => { k with load := .loaded } with hz
  have htarget : travelTarget j = some (positionOf (j.bin % 2048)) := by
    unfold travelTarget
    rw [hkind, hstage]
    rfl
  have hadvanced : currentJob (advanceStage z) = some { j with stage := .forkPlace, sent := false } := by
    have h := currentJob_advanceStage (s := z) hcurrent
    rwa [hstage] at h
  have hgoes : goOn z = sendFork (j.bin % 2048 / 1024) .place (advanceStage z) := by
    rw [goOn_of_running (by exact hcrane), beginStage_arrives (s := z) hcurrent htarget hpos,
      beginFork_restore_places hadvanced hkind rfl]
    rfl
  have hdone : exec .done s = .next (sendFork (j.bin % 2048 / 1024) .place (advanceStage z)) := by
    rw [exec_done hstation (by rw [hcrane]; exact nofun) hflight rfl]
    exact congrArg _ ((pickDone_restore (s := reportTaken s) hcurrent hkind).trans hgoes)
  exact ⟨_, hdone, by apply State.eq_of_blocks <;> simp [z, reportTaken], rfl, by simp [z], rfl, currentJob_sendFork hadvanced⟩

/-! ### The obligation -/

/-- Settles O26: the orders and STOPPED by the crane state, the FORK by the job. -/
theorem haltStopsAndResumeGoesOn : Obligations.HaltStopsAndResumeGoesOn := by
  refine ⟨fun s id r rest htakes hkind hstation => ?_, fun s id r rest htakes hkind hstation => ?_,
    fun s column level hstation hflight => ?_, fun s side j hstation hpool hactive => ?_⟩
  case refine_1 =>
    set w := beginTake id r rest s with hw
    obtain ⟨t, hexec, hreplies, hframe, hcrane⟩ := exec_halt htakes hkind hstation
    have hof : ∀ {code : ResultCode} {u : State}, haltCrane w = (code, u) →
        (haltCrane w).1 = code ∧ t.crane = u.crane := fun h => ⟨by rw [h], by rw [hcrane, ← hw, h]⟩
    refine ⟨t, _, hexec, hreplies, hframe, fun hidle => hof (haltCrane_of_idle (s := w) hidle),
      fun hrunning j p hcurrent hflight => ?_, fun hrunning side op hflight => hof (haltCrane_of_fork_or_stop (s := w) hrunning (.inl hflight)),
      fun hrunning hflight => hof (haltCrane_of_fork_or_stop (s := w) (side := 0) (op := .pick) hrunning (.inr hflight)),
      fun hrunning p hcurrent hflight => hof (u := w) (haltCrane_of_park (s := w) hrunning (dozePark_of_move hcurrent hflight)),
      fun hhalted => hof (u := w) (haltCrane_of_halted (s := w) hhalted), fun hrest => ?_⟩
    · obtain ⟨hcode, hhalted⟩ := hof (haltCrane_of_move hrunning hcurrent hflight)
      rw [hhalted]
      exact ⟨hcode, rfl, sendStop_inFlight w, sendStop_limit (s := w) (by rw [show w.crane.inFlight = _ from hflight]; exact nofun),
        by simp [w], by simp [w]⟩
    · by_cases hpark : s.crane.state = .running ∧ s.crane.inFlight = some .sleep
      · exact hof (u := w) (haltCrane_of_park (s := w) hpark.1 (dozePark_of_sleep hpark.2))
      · exact hof (u := w) (haltCrane_of_no_motion (s := w) (by simpa [w, hpark, -not_and] using hrest))
  case refine_2 =>
    set w := beginTake id r rest s with hw
    obtain ⟨b, hexec, hreplies⟩ := exec_resume htakes hkind hstation
    refine ⟨_, _, hexec, hreplies, fun hhalted j p q hcurrent htarget hpos hne => ?_, fun hhalted hpool => ?_,
      fun hhalting => ?_, fun hhalted hhalting => ?_⟩
    · have hmoves := resumeHalted_moves (s := w) hcurrent htarget hpos hne
      rw [resumeCrane_of_halted (s := w) hhalted]
      dsimp only
      rw [hmoves]
      refine ⟨rfl, rfl, rfl, rfl, ?_, ?_⟩
      · exact currentJob_onCurrent (s := w) hcurrent nofun
      · apply State.eq_of_blocks <;> simp [w]
    · rw [resumeCrane_of_halted (s := w) hhalted]
      dsimp only
      rw [resumeHalted_of_no_jobs (s := w) hpool]
      exact ⟨rfl, rfl⟩
    · rw [resumeCrane_of_halting (s := w) hhalting]
      exact ⟨rfl, rfl⟩
    · rw [resumeCrane_of_other (s := w) hhalted hhalting]
      exact ⟨rfl, rfl⟩
  case refine_3 =>
    dsimp only
    refine ⟨fun hcrane hpool => ?_, fun hcrane j hpool hactive => ?_, fun hcrane hpool => ?_,
      fun hcrane j p hpool hactive htarget hne => ?_, fun hcrane => ?_⟩
    · rw [exec_stopped hstation (by rw [hcrane]; exact nofun) hflight, stoppedTo_of_halting (by exact hcrane),
        onCurrent_of_no_jobs (by exact hpool)]
      rfl
    · rw [exec_stopped hstation (by rw [hcrane]; exact nofun) hflight, stoppedTo_of_halting (by exact hcrane),
        onCurrent_of_only (j := j) (by exact hpool) (by rw [hactive]; exact nofun)]
      rfl
    · rw [exec_stopped hstation (by rw [hcrane]; exact nofun) hflight,
        stoppedTo_of_running_without_job (by exact hcrane) (by exact hpool)]
      rfl
    · rw [exec_stopped hstation (by rw [hcrane]; exact nofun) hflight,
        stoppedTo_of_running_with_job (by exact hcrane) (currentJob_of_only (by exact hpool) (by rw [hactive]; exact nofun))
          htarget hne]
      rfl
    · rw [exec_stopped hstation (by rw [hcrane]; exact nofun) hflight, stoppedTo_of_stopped (by exact hcrane)]
      rfl
  case refine_4 =>
    exact ⟨fun hcrane hflight hkind hstage =>
        exec_done_pick_halted hstation hpool hactive hcrane hflight hkind hstage,
      fun hcrane hflight hkind _ hrestore hstore =>
        exec_done_place_halted hstation hpool hactive hcrane hflight hkind hrestore hstore,
      fun hcrane hflight _ hmore hstored hvalid hle =>
        exec_probe_halted hstation hpool hactive hcrane hflight hmore hstored hvalid hle,
      fun hcrane hflight hkind hstage hpos =>
        exec_done_pick_converted hstation hpool hactive hcrane hflight hkind hstage hpos⟩

end Sys2Proof.Machine
end

section
/-! PROOF. The obligation on DONE, from stage to stage and at a job's end (R72, R75, R76, R79). -/

namespace Sys2Proof.Machine

-- Checked one after another: the host bounds the memory of all threads together.
set_option Elab.async false

open Sys2Proof Sys2Proof.Safety

variable {s t : State} {j : Job} {p q : Position} {side i : Nat} {c : Call} {b : BinRec}

/-! ### From stage to stage (R72, R75) -/

/-- A RETRIEVE at a fork stage travels no further. -/
theorem travelTarget_of_fork (hkind : j.kind = .retrieve) (hstage : j.stage = .forkPick ∨ j.stage = .forkPlace) :
    travelTarget j = none := by
  unfold travelTarget
  rcases hstage with h | h <;> rw [hkind, h]

/-- DONE to a MOVE of a running job (R72). -/
theorem moveDone_goes (hrunning : s.crane.state = .running) (hcurrent : currentJob s = some j) :
    moveDone p s = dispatch (beginStage (advanceStage (s.onCrane fun k => { k with pos := some p }))) := by
  set z := s.onCrane fun k => { k with pos := some p } with hz
  have hgoes : goOn (advanceStage z) = beginStage (advanceStage z) := goOn_of_running (by simpa [z] using hrunning)
  unfold moveDone
  dsimp only
  rw [← hz, show currentJob z = some j from hcurrent]
  dsimp only
  rw [hgoes]

theorem liftBegin_of_stored (h : (binAt i s).state = .stored) :
    liftBegin i c s = (true, putBin i { binAt i s with state := .lifting, call := some c } s) := if_pos h

theorem liftEnd_of_lifting (h : (binAt i s).state = .lifting) :
    liftEnd i s = (some (binAt i s).call, putBin i { binAt i s with state := .out } s) := if_pos h

/-- A RETRIEVE arrives at its bin: lift begin is asked, and the FORK picks (R75). -/
theorem exec_done_reaches_bin (hstation : s.ctl.station ≠ .strapFault) (hrunning : s.crane.state = .running)
    (hcurrent : currentJob s = some j) (hkind : j.kind = .retrieve) (hwf : BinsWf s)
    (hflight : s.crane.inFlight = some (.move p)) (hstage : j.stage = .travelEmpty)
    (hstored : (binAt (j.bin % 2048) s).state = .stored) :
    ∃ t, exec .done s = .next t ∧ t.crane.pos = some p ∧ t.crane.load = s.crane.load ∧
      t.crane.inFlight = some (.fork (j.bin % 2048 / 1024) .pick) ∧ t.crane.limit = some (2 * s.ctl.setup.fork + 2000) ∧
      currentJob t = some { j with stage := .forkPick, sent := true } ∧
      binAt (j.bin % 2048) t = { binAt (j.bin % 2048) s with state := .lifting, call := some ⟨j.tag, j.port, j.purpose⟩ } ∧
      (∀ k, k ≠ j.bin % 2048 → binAt k t = binAt k s) ∧ t = { s with bins := t.bins, crane := t.crane } := by
  set z := advanceStage ((reportTaken s).onCrane fun k => { k with pos := some p }) with hz
  have hzcurrent : currentJob z = some { j with stage := .forkPick, sent := false } := by
    have h := currentJob_advanceStage (s := (reportTaken s).onCrane fun k => { k with pos := some p }) hcurrent
    rwa [hstage] at h
  have hzbins : z.bins = s.bins := by simp [z, reportTaken]
  have hread : ∀ k, binAt k z = binAt k s := fun k => by rw [binAt, hzbins, binAt]
  set b : BinRec := { binAt (j.bin % 2048) s with state := .lifting, call := some ⟨j.tag, j.port, j.purpose⟩ } with hb
  have hlift : liftBegin (j.bin % 2048) ⟨j.tag, j.port, j.purpose⟩ z = (true, putBin (j.bin % 2048) b z) := by
    rw [liftBegin_of_stored (by rw [hread]; exact hstored), hread]
  have hfork : beginFork z = sendFork (j.bin % 2048 / 1024) .pick (putBin (j.bin % 2048) b z) := by
    refine (beginFork_retrieve_picks hzcurrent hkind rfl (congrArg Prod.fst hlift)).trans ?_
    exact congrArg (fun x => sendFork _ .pick x) (congrArg Prod.snd hlift)
  set t := sendFork (j.bin % 2048 / 1024) .pick (putBin (j.bin % 2048) b z) with ht
  have hdispatch : dispatch t = t := dispatch_of_not_idle (by
    have hstate : t.crane.state = s.crane.state := by simp [t, z, reportTaken]
    rw [hstate, hrunning]
    exact nofun)
  have hdone : exec .done s = .next t := by
    rw [exec_done hstation (by rw [hrunning]; exact nofun) hflight rfl]
    refine congrArg _ ((moveDone_goes (s := reportTaken s) hrunning hcurrent).trans ?_)
    rw [← hz, beginStage_forks hzcurrent (travelTarget_of_fork hkind (.inl rfl)), hfork, hdispatch]
  have hwfz : BinsWf z := by rwa [BinsWf, hzbins]
  have htbins : t.bins = (putBin (j.bin % 2048) b z).bins := by simp [t]
  refine ⟨t, hdone, by simp [t, z], by simp [t, z, reportTaken], rfl, ?_, ?_, ?_, fun k hk => ?_, ?_⟩
  · show some (2 * t.ctl.setup.fork + 2000) = _
    simp [t, z, reportTaken]
  · exact currentJob_sendFork (s := putBin (j.bin % 2048) b z) hzcurrent
  · rw [binAt, htbins]
    exact binAt_putBin hwfz _ _
  · rw [binAt, htbins]
    exact (binAt_putBin_other hwfz hk _).trans (hread k)
  · apply State.eq_of_blocks <;> simp [t, z, reportTaken]

/-- A RETRIEVE has its bin loaded, and travels to the mouth (R75). -/
theorem exec_done_picks (hstation : s.ctl.station ≠ .strapFault) (hrunning : s.crane.state = .running)
    (hcurrent : currentJob s = some j) (hkind : j.kind = .retrieve) (hflight : s.crane.inFlight = some (.fork side .pick))
    (hstage : j.stage = .forkPick) (hpos : s.crane.pos = some q) (hne : q ≠ Position.mouth) :
    ∃ t, exec .done s = .next t ∧ t.crane.pos = s.crane.pos ∧ t.crane.load = .loaded ∧
      t.crane.inFlight = some (.move Position.mouth) ∧
      currentJob t = some { j with stage := .travelLoaded, sent := false } ∧ t = { s with crane := t.crane } := by
  set z := advanceStage ((reportTaken s).onCrane fun k => { k with load := .loaded }) with hz
  have hzcurrent : currentJob z = some { j with stage := .travelLoaded, sent := false } := by
    have h := currentJob_advanceStage (s := (reportTaken s).onCrane fun k => { k with load := .loaded }) hcurrent
    rwa [hstage] at h
  have htarget : travelTarget { j with stage := .travelLoaded, sent := false } = some Position.mouth := by
    unfold travelTarget
    dsimp only
    rw [hkind]
  have hzpos : z.crane.pos = some q := by simpa [z, reportTaken] using hpos
  have hgoes : goOn z = sendDrive (.move Position.mouth) z := by
    rw [goOn_of_running (by simpa [z, reportTaken] using hrunning)]
    exact beginStage_moves hzcurrent htarget (by rw [hzpos]; simpa using hne)
  refine ⟨sendDrive (.move Position.mouth) z, ?_, by simp [z, reportTaken], by simp [z], rfl, ?_, ?_⟩
  · rw [exec_done hstation (by rw [hrunning]; exact nofun) hflight rfl]
    exact congrArg _ ((pickDone_retrieve (s := reportTaken s) hcurrent hkind).trans hgoes)
  · exact (currentJob_congr (s := z) (by simp)).trans hzcurrent
  · apply State.eq_of_blocks <;> simp [z, reportTaken]

/-- A RETRIEVE arrives at the mouth, and the FORK places (R75). -/
theorem exec_done_reaches_mouth (hstation : s.ctl.station ≠ .strapFault) (hrunning : s.crane.state = .running)
    (hcurrent : currentJob s = some j) (hkind : j.kind = .retrieve) (hflight : s.crane.inFlight = some (.move p))
    (hstage : j.stage = .travelLoaded) :
    ∃ t, exec .done s = .next t ∧ t.crane.pos = some p ∧ t.crane.inFlight = some (.fork 0 .place) ∧
      currentJob t = some { j with stage := .forkPlace, sent := true } ∧ t = { s with crane := t.crane } := by
  set z := advanceStage ((reportTaken s).onCrane fun k => { k with pos := some p }) with hz
  have hzcurrent : currentJob z = some { j with stage := .forkPlace, sent := false } := by
    have h := currentJob_advanceStage (s := (reportTaken s).onCrane fun k => { k with pos := some p }) hcurrent
    rwa [hstage] at h
  have hdispatch : dispatch (sendFork 0 .place z) = sendFork 0 .place z := dispatch_of_not_idle (by
    have hstate : (sendFork 0 .place z).crane.state = s.crane.state := by simp [z, reportTaken]
    rw [hstate, hrunning]
    exact nofun)
  refine ⟨sendFork 0 .place z, ?_, by simp [z], rfl, currentJob_sendFork hzcurrent, ?_⟩
  · rw [exec_done hstation (by rw [hrunning]; exact nofun) hflight rfl]
    refine congrArg _ ((moveDone_goes (s := reportTaken s) hrunning hcurrent).trans ?_)
    rw [← hz, beginStage_forks hzcurrent (travelTarget_of_fork hkind (.inr rfl)),
      beginFork_retrieve_places hzcurrent hkind rfl, hdispatch]
  · apply State.eq_of_blocks <;> simp [z, reportTaken]

/-! ### The end of a job (R75, R76, R79) -/

/-- The outbound stand's bin is held there, or enters (R128). -/
theorem holdOutStand_outStand (c : Carry) (s : State) :
    (holdOutStand c s).lanes.outStand = .holding c none ∨ ∃ l, (holdOutStand c s).lanes.outStand = .holding c (some l) ∨
      (holdOutStand c s).lanes.outStand = .entering c l := by
  cases hbus : s.bus.offBus with
  | true =>
    refine .inl ?_
    unfold holdOutStand
    rw [if_pos hbus]
    rfl
  | false =>
    obtain ⟨l, hclaims, -⟩ := holdOutStand_claims (c := c) hbus
    exact .inr ⟨l, hclaims⟩

/-- The place of the only job is made: what the job's end left, and the crane IDLE (R79). -/
theorem exec_done_placed {u : State} (hstation : s.ctl.station ≠ .strapFault) (hrunning : s.crane.state = .running)
    (hcurrent : currentJob s = some j) (hflight : s.crane.inFlight = some (.fork side .place))
    (hfinished : finishJob j ((reportTaken s).onCrane fun k => { k with load := .empty }) = u)
    (hstate : u.crane.state = .running) (hpool : u.crane.pool = []) :
    exec .done s = .next (u.onCrane fun k => { k with state := .idle }) := by
  rw [exec_done hstation (by rw [hrunning]; exact nofun) hflight rfl]
  refine congrArg _ ((placeDone_finishes (s := reportTaken s) hcurrent).trans ?_)
  rw [hfinished, craneRests_of_running hstate]
  exact dispatch_of_no_jobs hpool

/-- The place of a RETRIEVE: the record is OUT, and the outbound stand holds the call's bin (R75, R79). -/
theorem exec_done_retrieve_placed (hstation : s.ctl.station = .active) (hrunning : s.crane.state = .running)
    (hpool : s.crane.pool = [j]) (hactive : j.state = .active) (hflight : s.crane.inFlight = some (.fork side .place))
    (hrestore : s.crane.restoreWanted = false) (hstore : s.crane.storeWanted = false) (hwf : BinsWf s)
    (hkind : j.kind = .retrieve) (hlifting : (binAt (j.bin % 2048) s).state = .lifting)
    (hcall : (binAt (j.bin % 2048) s).call = some c) :
    ∃ t, exec .done s = .next t ∧
      (t.lanes.outStand = .holding (standCarry j.bin c) none ∨ ∃ l,
        t.lanes.outStand = .holding (standCarry j.bin c) (some l) ∨ t.lanes.outStand = .entering (standCarry j.bin c) l) ∧
      binAt (j.bin % 2048) t = { binAt (j.bin % 2048) s with state := .out } ∧
      (∀ m, m ≠ j.bin % 2048 → binAt m t = binAt m s) ∧
      t.crane = { s.crane with state := .idle, pool := [], load := .empty, inFlight := none, limit := none } ∧
      t = { s with bins := t.bins, crane := t.crane, lanes := t.lanes } := by
  have hjob : j.state ≠ .waiting := by rw [hactive]; exact nofun
  set z := (reportTaken s).onCrane fun k => { k with load := .empty } with hz
  set b : BinRec := { binAt (j.bin % 2048) s with state := .out } with hb
  have hlift : liftEnd (indexOf j.bin) z = (some (some c), putBin (j.bin % 2048) b z) :=
    (liftEnd_of_lifting (s := z) hlifting).trans (by rw [show binAt (j.bin % 2048) z = binAt (j.bin % 2048) s from rfl, hcall])
  set v := (putBin (j.bin % 2048) b z).onCrane fun k => { k with pool := [] } with hv
  have hgone : removeCurrent (putBin (j.bin % 2048) b z) = v := removeCurrent_of_only (by exact hpool) hjob
  set u := holdOutStand (standCarry j.bin c) v with hu
  have hucrane : u.crane = { s.crane with pool := [], load := .empty, inFlight := none, limit := none } := by
    simp [u, v, z, reportTaken]
  have hfinished : finishJob j z = u := by
    have hcalled : finishRetrieve j z = recordFreed u := by
      rw [finishRetrieve_called (c := c) (by rw [hlift]; rfl), hlift, hgone]
    unfold finishJob
    rw [hkind]
    dsimp only
    rw [hcalled, recordFreed_of_nothing_wanted (by rw [hucrane]; exact hrestore) (by rw [hucrane]; exact hstore)]
  have hbins : u.bins = (putBin (j.bin % 2048) b z).bins := by simp [u, v]
  refine ⟨_, exec_done_placed (by rw [hstation]; exact nofun) hrunning (currentJob_of_only hpool hjob) hflight hfinished
    (by rw [hucrane]; exact hrunning) (by rw [hucrane]), holdOutStand_outStand _ v, ?_, fun m hm => ?_, ?_, ?_⟩
  · exact (congrArg (fun x => tableGet BinRec.blank x _) hbins).trans (binAt_putBin (s := z) hwf _ _)
  · exact (congrArg (fun x => tableGet BinRec.blank x _) hbins).trans (binAt_putBin_other (s := z) hwf hm _)
  · rw [State.onCrane_crane, hucrane]
  · apply State.eq_of_blocks <;> simp [u, v, z, reportTaken]

/-- Store end on a STORING record that awaits no follow-on (R58). -/
theorem storeEnd_of_storing {has : Bool} (h : (binAt i s).state = .storing) (hlist : (binAt i s).followOns = []) :
    storeEnd i has s = (some none, raise (.stored (ownBin i s) (binAt i s).fill)
      (putBin i { binAt i s with state := .stored, call := none } s)) := by
  have hback : handBack has [] = (none, []) := by cases has <;> rfl
  unfold storeEnd
  dsimp only
  rw [if_pos h, hlist, hback]

/-- The place of a STORE: the record is STORED, and the carriage is empty (R76, R79). -/
theorem exec_done_store_placed (hstation : s.ctl.station = .active) (hrunning : s.crane.state = .running)
    (hpool : s.crane.pool = [j]) (hactive : j.state = .active) (hflight : s.crane.inFlight = some (.fork side .place))
    (hrestore : s.crane.restoreWanted = false) (hstore : s.crane.storeWanted = false) (hwf : BinsWf s)
    (hkind : j.kind = .store) (hown : j.bin / 2048 = s.num) (hstoring : (binAt (j.bin % 2048) s).state = .storing)
    (hlist : (binAt (j.bin % 2048) s).followOns = []) :
    ∃ t, exec .done s = .next t ∧
      binAt (j.bin % 2048) t = { binAt (j.bin % 2048) s with state := .stored, call := none } ∧
      (∀ m, m ≠ j.bin % 2048 → binAt m t = binAt m s) ∧
      t.crane = { s.crane with
        state := .idle, pool := [], load := .empty, carriage := .nothing, inFlight := none, limit := none } ∧
      t = { raise (.stored j.bin (binAt (j.bin % 2048) s).fill) s with bins := t.bins, crane := t.crane } := by
  have hjob : j.state ≠ .waiting := by rw [hactive]; exact nofun
  set z := (reportTaken s).onCrane fun k => { k with load := .empty } with hz
  set v := z.onCrane fun k => { k with pool := [], carriage := .nothing } with hv
  set b : BinRec := { binAt (j.bin % 2048) s with state := .stored, call := none } with hb
  have hgone : ((removeCurrent z).onCrane fun k => { k with carriage := .nothing }) = v := by
    rw [removeCurrent_of_only (s := z) hpool hjob]
    rfl
  have hbin : ownBin (j.bin % 2048) v = j.bin := by
    show s.num * 2048 + j.bin % 2048 = j.bin
    omega
  set n := Notice.stored j.bin (binAt (j.bin % 2048) s).fill with hn
  set u := raise n (putBin (j.bin % 2048) b v) with hu
  have hend : ∀ has, storeEnd (indexOf j.bin) has v = (some none, u) := fun has => by
    refine (storeEnd_of_storing (s := v) hstoring hlist).trans ?_
    rw [hbin]
    rfl
  have hucrane : u.crane = { s.crane with
      pool := [], load := .empty, carriage := .nothing, inFlight := none, limit := none } := by
    simp [u, v, z, reportTaken]
  have hfinished : finishJob j z = u := by
    have hstored : finishStore j z = recordFreed u := by
      unfold finishStore
      rw [hgone]
      dsimp only
      rw [hend]
      rfl
    unfold finishJob
    rw [hkind]
    dsimp only
    rw [hstored, recordFreed_of_nothing_wanted (by rw [hucrane]; exact hrestore) (by rw [hucrane]; exact hstore)]
  have hbins : u.bins = (putBin (j.bin % 2048) b v).bins := by simp [u]
  refine ⟨_, exec_done_placed (by rw [hstation]; exact nofun) hrunning (currentJob_of_only hpool hjob) hflight hfinished
    (by rw [hucrane]; exact hrunning) (by rw [hucrane]), ?_, fun m hm => ?_, ?_, ?_⟩
  · exact (congrArg (fun x => tableGet BinRec.blank x _) hbins).trans (binAt_putBin (s := v) hwf _ _)
  · exact (congrArg (fun x => tableGet BinRec.blank x _) hbins).trans (binAt_putBin_other (s := v) hwf hm _)
  · rw [State.onCrane_crane, hucrane]
  · have hraised : u = { putBin (j.bin % 2048) b v with bus := (raise n s).bus, ctl := (raise n s).ctl } :=
      raise_eq_with (s := s) (t := putBin (j.bin % 2048) b v) rfl rfl
    rw [hraised]
    apply State.eq_of_blocks <;> simp [v, z, reportTaken]

/-- Settles O27: each DONE by the command in flight and the stage. -/
theorem doneCarriesAJobThrough : Obligations.DoneCarriesAJobThrough := by
  refine ⟨fun s j hstation hrunning hcurrent hkind hwf => ⟨fun p hflight hstage hstored => ?_,
    fun side q hflight hstage hpos hne => ?_, fun p hflight hstage => ?_⟩,
    fun s j side hstation hrunning hpool hactive _ hflight hrestore hstore hwf =>
      ⟨fun hkind hlifting c hcall => ?_, fun hkind hown hstoring hlist => ?_⟩⟩
  · exact exec_done_reaches_bin hstation hrunning hcurrent hkind hwf hflight hstage hstored
  · exact exec_done_picks hstation hrunning hcurrent hkind hflight hstage hpos hne
  · exact exec_done_reaches_mouth hstation hrunning hcurrent hkind hflight hstage
  · obtain ⟨t, hexec, hplaced⟩ := exec_done_retrieve_placed hstation hrunning hpool hactive hflight hrestore hstore hwf
      hkind hlifting hcall
    exact ⟨t, standCarry j.bin c, hexec, rfl, hplaced⟩
  · exact exec_done_store_placed hstation hrunning hpool hactive hflight hrestore hstore hwf hkind hown hstoring hlist

end Sys2Proof.Machine
end

section
/-! PROOF. How a CALL is answered (R84, R85). -/

namespace Sys2Proof.Machine

-- Checked one after another: the host bounds the memory of all threads together.
set_option Elab.async false

open Sys2Proof Sys2Proof.Safety

variable {s t u : State} {id : SlotId} {r : RxRecord} {rest : List RxRecord} {j : Job} {p q : Position}
  {bin tag port urgency purpose : Nat} {pur : Purpose} {mark : Bool} {code : ResultCode} {before : List Job}

/-! ### The tests of R84 -/

/-- A CALL with a field out of its range (R84 test 1). -/
def CallWrong (tag port purpose : Nat) : Prop :=
  tag = 0 ∨ 4095 < tag ∨ (purpose ≠ 1 ∧ purpose ≠ 3) ∨ isStation port = false

theorem callFields_iff : (!validTag tag || !(decide (purpose = 1) || decide (purpose = 3)) || !isStation port) = true ↔
    CallWrong tag port purpose := by
  have htag : validTag tag = false ↔ tag = 0 ∨ 4095 < tag := by
    rw [← Bool.not_eq_true, validTag_iff]
    omega
  simp [CallWrong, htag, or_assoc]

theorem callRefusal_of_wrong (h : CallWrong tag port purpose) : callRefusal bin tag port purpose s = some .badField :=
  if_pos (callFields_iff.2 h)

/-- A bin ID that is not an own bin's (R84 tests 2 and 3). -/
theorem callRefusal_of_class (h : ¬ CallWrong tag port purpose) (hclass : classRefusal (classify bin s) = some code) :
    callRefusal bin tag port purpose s = some code := by
  refine (if_neg (mt callFields_iff.1 h)).trans ?_
  rw [hclass]

/-- The port named by a CALL for an own bin (R84 test 4). -/
theorem callRefusal_of_own (h : ¬ CallWrong tag port purpose) (hown : idIsOwn s bin) :
    callRefusal bin tag port purpose s = if (rosterOf port s).port then none else some .unsupported := by
  refine (if_neg (mt callFields_iff.1 h)).trans ?_
  rw [(classify_eq_own_iff bin).2 hown]
  rfl

theorem reported_of_own (h : idIsOwn s bin) : reported bin s = binAt (bin % 2048) s :=
  if_pos ((classify_eq_own_iff bin).2 h)

theorem reported_of_not_own (h : ¬ idIsOwn s bin) : reported bin s = BinRec.blank :=
  if_neg (mt (classify_eq_own_iff bin).1 h)

/-! ### The REPLYs (R84) -/

/-- The REPLY of a CALL. -/
def callReply (code : ResultCode) (mark : Bool) (tag d0 d1 d2 : Nat) : Reply :=
  { plainReply .call code tag with clampMark := mark, d0 := d0, d1 := d1, d2 := d2 }

theorem callAnswer_toReply {position : Nat} (hsender : r.sender.toNat = Config.gateway) (hkind : r.kind = .call) :
    (callAnswer code mark bin tag position s).toReply r =
      callReply code mark tag (reported bin s).state.code position s.crane.pool.length := by
  rw [Answer.toReply_eq _ hsender, hkind]
  rfl

/-- A CALL whose body leaves `u`: the REPLY and the state (R84, R85). -/
theorem exec_call {a : Answer} (htakes : Takes s id r rest) (hkind : r.kind = .call)
    (hstation : s.ctl.station = .active ∨ s.ctl.station = .doze ∨ s.ctl.station = .recovery)
    (hbody : callBody r (beginTake id r rest s) = (a, u)) (hrx : u.bus.rx = rest) :
    ∃ t, exec .call s = .next t ∧ t = { u with bus := t.bus } ∧ Replies t id rest (a.toReply r) := by
  have hadmit : refusal r.kind s.ctl.station = none := by
    rcases hstation with h | h | h <;> rw [hkind, h] <;> rfl
  obtain ⟨hreplies, hstate⟩ := serve_carriesOut (p := isKind .call) htakes (by simp [isKind, hkind]) hadmit hbody hrx
  exact ⟨_, rfl, hstate, hreplies⟩

/-- A CALL that fails a test of R84: its REPLY, and nothing else changes. -/
theorem exec_call_undecided (htakes : Takes s id r rest) (hkind : r.kind = .call)
    (hstation : s.ctl.station = .active ∨ s.ctl.station = .doze ∨ s.ctl.station = .recovery)
    (hrefusal : callRefusal (wordAt r.payload 0) (wordAt r.payload 2) (byteAt r.payload 4) (byteAt r.payload 5) s =
      some code) :
    ∃ t, exec .call s = .next t ∧ t = { s with bus := t.bus } ∧ Replies t id rest
      (callReply code false (wordAt r.payload 2) (reported (wordAt r.payload 0) s).state.code 0 s.crane.pool.length) := by
  set w := beginTake id r rest s with hw
  have ⟨_, _, hsender, _⟩ := htakes
  have hbody : callBody r w = (callAnswer code false (wordAt r.payload 0) (wordAt r.payload 2) 0 w, w) := by
    have hsame : callRefusal (wordAt r.payload 0) (wordAt r.payload 2) (byteAt r.payload 4) (byteAt r.payload 5) w =
      some code := hrefusal
    unfold callBody
    dsimp only
    rw [hsame]
  obtain ⟨t, hexec, hstate, hreplies⟩ := exec_call htakes hkind hstation hbody rfl
  rw [callAnswer_toReply hsender hkind] at hreplies
  exact ⟨t, hexec, hstate.trans rfl, hreplies⟩

/-- The body of a CALL that passes R84. -/
theorem callBody_decides
    (hnone : callRefusal (wordAt r.payload 0) (wordAt r.payload 2) (byteAt r.payload 4) (byteAt r.payload 5) s = none) :
    callBody r s = callDecide (wordAt r.payload 0) (wordAt r.payload 2) (byteAt r.payload 4)
      (purposeOf (byteAt r.payload 5)) (min 3 r.param.toNat) (decide (3 < r.param.toNat)) s := by
  unfold callBody
  dsimp only
  rw [hnone]

/-- A CALL decided without a change: its REPLY. -/
theorem exec_call_refused {position : Nat} (htakes : Takes s id r rest) (hkind : r.kind = .call)
    (hstation : s.ctl.station = .active ∨ s.ctl.station = .doze ∨ s.ctl.station = .recovery)
    (hnone : callRefusal (wordAt r.payload 0) (wordAt r.payload 2) (byteAt r.payload 4) (byteAt r.payload 5) s = none)
    (hown : idIsOwn s (wordAt r.payload 0))
    (hdecide : ∀ w : State, w = beginTake id r rest s →
      callDecide (wordAt r.payload 0) (wordAt r.payload 2) (byteAt r.payload 4) (purposeOf (byteAt r.payload 5))
        (min 3 r.param.toNat) (decide (3 < r.param.toNat)) w =
      (callAnswer code (decide (3 < r.param.toNat)) (wordAt r.payload 0) (wordAt r.payload 2) position w, w)) :
    ∃ t, exec .call s = .next t ∧ t = { s with bus := t.bus } ∧ Replies t id rest
      (callReply code (decide (3 < r.param.toNat)) (wordAt r.payload 2) (binAt (wordAt r.payload 0 % 2048) s).state.code
        position s.crane.pool.length) := by
  have ⟨_, _, hsender, _⟩ := htakes
  have hbody := (callBody_decides (s := beginTake id r rest s) hnone).trans (hdecide _ rfl)
  obtain ⟨t, hexec, hstate, hreplies⟩ := exec_call htakes hkind hstation hbody rfl
  rw [callAnswer_toReply hsender hkind, reported_of_own (s := beginTake id r rest s) hown] at hreplies
  exact ⟨t, hexec, hstate.trans rfl, hreplies⟩

/-! ### The decision by the record (R85) -/

theorem callDecide_absent (h : (binAt (indexOf bin) s).state = .absent) :
    callDecide bin tag port pur urgency mark s = (callAnswer .unknownBin mark bin tag 0 s, s) := if_pos h

theorem callDecide_lost (h : (binAt (indexOf bin) s).state = .lost) :
    callDecide bin tag port pur urgency mark s = (callAnswer .missing mark bin tag 0 s, s) :=
  (if_neg (by rw [h]; exact nofun)).trans (if_pos h)

/-- A call for a bin at home or on its way there, with no RETRIEVE (R85). -/
theorem callDecide_kept (h : (binAt (indexOf bin) s).state = .stored ∨ (binAt (indexOf bin) s).state = .storing)
    (hnone : retrieveFor bin s = none) {u : State} {x : Admission}
    (hoffer : offerJob (retrieveJob bin tag port pur urgency) s = (x, u)) :
    callDecide bin tag port pur urgency mark s =
      if x = .entered then (callAnswer .accepted mark bin tag 0 u, jobEntered u)
      else (callAnswer .full mark bin tag 0 u, u) := by
  have habsent : (binAt (indexOf bin) s).state ≠ .absent := by rcases h with h | h <;> rw [h] <;> exact nofun
  have hlost : (binAt (indexOf bin) s).state ≠ .lost := by rcases h with h | h <;> rw [h] <;> exact nofun
  unfold callDecide
  dsimp only
  rw [if_neg habsent, if_neg hlost, if_pos ⟨h, by rw [hnone]; rfl⟩, hoffer]
  cases x <;> rfl

/-- A call for a bin away, or with a RETRIEVE, goes to the follow-on list (R85). -/
theorem callDecide_listed
    (h : ((binAt (indexOf bin) s).state = .lifting ∨ (binAt (indexOf bin) s).state = .out) ∨
      ((binAt (indexOf bin) s).state = .stored ∨ (binAt (indexOf bin) s).state = .storing) ∧
        (retrieveFor bin s).isSome = true) :
    callDecide bin tag port pur urgency mark s = callAppend bin tag port pur urgency mark s := by
  have habsent : (binAt (indexOf bin) s).state ≠ .absent := by
    rcases h with (h | h) | ⟨h | h, -⟩ <;> rw [h] <;> exact nofun
  have hlost : (binAt (indexOf bin) s).state ≠ .lost := by
    rcases h with (h | h) | ⟨h | h, -⟩ <;> rw [h] <;> exact nofun
  refine (if_neg habsent).trans ((if_neg hlost).trans (if_neg ?_))
  rintro ⟨hkept, hnone⟩
  rcases h with (h | h) | ⟨-, hsome⟩
  · rw [h] at hkept
    exact hkept.elim nofun nofun
  · rw [h] at hkept
    exact hkept.elim nofun nofun
  · rw [Option.isNone_iff_eq_none] at hnone
    rw [hnone] at hsome
    cases hsome

/-- The pool refuses a RETRIEVE (R69). -/
theorem offerJob_retrieve_full (hkind : j.kind = .retrieve) (hnone : retrieveFor j.bin s = none)
    (hfull : 31 ≤ nonStoreCount s.crane.pool ∨ 32 ≤ s.crane.pool.length) : offerJob j s = (.full, s) := by
  have hadmit : poolAdmits .retrieve s = false := by
    simp only [poolAdmits, Bool.and_eq_false_iff, decide_eq_false_iff_not]
    omega
  simp only [offerJob, hkind, if_true, hnone, hadmit, Bool.false_eq_true, if_false]

/-! ### The follow-on rows (R65, R85) -/

/-- The port of a call is pending already (R65). -/
def CallPending (bin port : Nat) (s : State) : Prop :=
  (binAt (bin % 2048) s).call.map Call.port = some port ∨ (retrieveFor bin s).map Job.port = some port ∨
    ∃ f ∈ (binAt (bin % 2048) s).followOns, f.port = port

theorem callAppend_merged (habsent : (binAt (indexOf bin) s).state ≠ .absent)
    (hlost : (binAt (indexOf bin) s).state ≠ .lost) (h : CallPending bin port s) :
    callAppend bin tag port pur urgency mark s = (callAnswer .merged mark bin tag 0 s, s) := by
  have happend : followOnAppend (indexOf bin) ⟨tag, port, pur, urgency⟩ ((retrieveFor bin s).map Job.port) s = (.merged, s) :=
    (if_neg (not_or.2 ⟨habsent, hlost⟩)).trans (if_pos (mem_pendingPorts.2 h))
  unfold callAppend
  rw [happend]

theorem callAppend_full (habsent : (binAt (indexOf bin) s).state ≠ .absent)
    (hlost : (binAt (indexOf bin) s).state ≠ .lost) (h : ¬ CallPending bin port s)
    (hfull : 3 ≤ (binAt (bin % 2048) s).followOns.length) :
    callAppend bin tag port pur urgency mark s = (callAnswer .full mark bin tag 0 s, s) := by
  have happend : followOnAppend (indexOf bin) ⟨tag, port, pur, urgency⟩ ((retrieveFor bin s).map Job.port) s = (.full, s) :=
    (if_neg (not_or.2 ⟨habsent, hlost⟩)).trans ((if_neg (mt mem_pendingPorts.1 h)).trans (if_pos hfull))
  unfold callAppend
  rw [happend]

theorem callAppend_appended (hwf : BinsWf s) (habsent : (binAt (indexOf bin) s).state ≠ .absent)
    (hlost : (binAt (indexOf bin) s).state ≠ .lost) (h : ¬ CallPending bin port s)
    (hroom : (binAt (bin % 2048) s).followOns.length < 3) :
    let v := putBin (bin % 2048) { binAt (bin % 2048) s with
      followOns := (binAt (bin % 2048) s).followOns ++ [⟨tag, port, pur, urgency⟩] } s
    callAppend bin tag port pur urgency mark s =
      (callAnswer .followOn mark bin tag ((binAt (bin % 2048) s).followOns.length + 1) v, v) := by
  intro v
  have happend : followOnAppend (indexOf bin) ⟨tag, port, pur, urgency⟩ ((retrieveFor bin s).map Job.port) s = (.appended, v) :=
    (if_neg (not_or.2 ⟨habsent, hlost⟩)).trans
      ((if_neg (mt mem_pendingPorts.1 h)).trans (if_neg (Nat.not_le.2 hroom)))
  have hread : binAt (indexOf bin) v = _ := binAt_putBin hwf _ _
  unfold callAppend
  rw [happend]
  dsimp only
  rw [hread, List.length_append]
  rfl

/-! ### The start of the last job of the pool (R80) -/

theorem currentJob_of_last (hpool : s.crane.pool = before ++ [j]) (hbefore : ∀ k ∈ before, k.state = .waiting)
    (hj : j.state ≠ .waiting) : currentJob s = some j := by
  have hnone : (before.find? fun k => decide (k.state ≠ .waiting)) = none :=
    List.find?_eq_none.2 fun k hk => by simp [hbefore k hk]
  rw [currentJob, hpool, List.find?_append, hnone, Option.none_or]
  exact List.find?_cons_of_pos (decide_eq_true hj)

/-- The last job of the pool starts, the others waiting: its MOVE, and the outbound stand reserved (R80). -/
theorem startJob_of_last (hpool : s.crane.pool = before ++ [j]) (hbefore : ∀ k ∈ before, k.state = .waiting)
    (htarget : travelTarget { j with state := .active } = some p) (hpos : s.crane.pos = some q) (hne : q ≠ p)
    (hreserves : reservesStand j.kind = true) :
    startJob before.length s = { s with
      lanes := { s.lanes with outStand := .reserved }
      crane := { s.crane with
        pool := before ++ [{ j with state := .active }], state := .running
        continuity := continuityAfter j.kind s.crane, inFlight := some (.move p), lastSent := some (.move p)
        limit := some (2 * moveTime s.ctl.setup q p + 2000) } } := by
  have hget : s.crane.pool[before.length]? = some j := by simp [hpool]
  have hset : s.crane.pool.set before.length { j with state := .active } = before ++ [{ j with state := .active }] := by
    simp [hpool]
  unfold startJob
  rw [hget]
  dsimp only
  rw [hreserves, if_pos rfl]
  set v := (s.onCrane fun c => { c with
    state := .running, continuity := continuityAfter j.kind c
    pool := c.pool.set before.length { j with state := .active } }).setOutStand .reserved with hv
  have hcurrent : currentJob v = some { j with state := .active } := currentJob_of_last hset hbefore nofun
  rw [beginStage_moves hcurrent htarget (by rw [show v.crane.pos = some q from hpos]; simpa using hne),
    sendDrive_move (s := v) (q := q) hpos, hv]
  unfold State.setOutStand State.onLanes State.onCrane
  dsimp only
  rw [hset]

end Sys2Proof.Machine
end

section
/-! PROOF. The obligation on CALL (R84, R85). -/

namespace Sys2Proof.Machine

-- Checked one after another: the host bounds the memory of all threads together.
set_option Elab.async false

open Sys2Proof Sys2Proof.Safety

variable {s t u : State} {id : SlotId} {r : RxRecord} {rest : List RxRecord} {j : Job} {p : Position}

/-- The RETRIEVE that a CALL asks for (R85). -/
def calledJob (r : RxRecord) : Job :=
  retrieveJob (wordAt r.payload 0) (wordAt r.payload 2) (byteAt r.payload 4) (purposeOf (byteAt r.payload 5))
    (min 3 r.param.toNat)

/-- That RETRIEVE as it enters the pool (R68, R98). -/
def calledEntered (r : RxRecord) (s : State) : Job :=
  { calledJob r with stamp := s.est.time, est := estOf s.ctl.setup (calledJob r) }

/-- The state in which the RETRIEVE of a CALL has entered the pool. -/
def callEnters (id : SlotId) (r : RxRecord) (rest : List RxRecord) (s : State) : State :=
  (beginTake id r rest s).onCrane fun k => { k with pool := k.pool ++ [calledEntered r s] }

/-- A CALL accepted: its REPLY, and what follows the entry of its RETRIEVE (R85). -/
theorem exec_call_entered (htakes : Takes s id r rest) (hkind : r.kind = .call)
    (hstation : s.ctl.station = .active ∨ s.ctl.station = .doze ∨ s.ctl.station = .recovery)
    (hpassed : callRefusal (wordAt r.payload 0) (wordAt r.payload 2) (byteAt r.payload 4) (byteAt r.payload 5) s = none)
    (hown : idIsOwn s (wordAt r.payload 0))
    (hkept : (binAt (wordAt r.payload 0 % 2048) s).state = .stored ∨ (binAt (wordAt r.payload 0 % 2048) s).state = .storing)
    (hnone : retrieveFor (wordAt r.payload 0) s = none) (hcount : nonStoreCount s.crane.pool < 31)
    (hroom : s.crane.pool.length < 32) :
    ∃ t, exec .call s = .next t ∧ t = { jobEntered (callEnters id r rest s) with bus := t.bus } ∧
      Replies t id rest (callReply .accepted (decide (3 < r.param.toNat)) (wordAt r.payload 2)
        (binAt (wordAt r.payload 0 % 2048) s).state.code 0 (s.crane.pool.length + 1)) := by
  set w := beginTake id r rest s with hw
  set u := callEnters id r rest s with hu
  have ⟨_, _, hsender, _⟩ := htakes
  have hoffer : offerJob (calledJob r) w = (.entered, u) := offerJob_retrieve_of_room (s := w) rfl hnone hcount hroom
  have hbody : callBody r w = (callAnswer .accepted (decide (3 < r.param.toNat)) (wordAt r.payload 0)
      (wordAt r.payload 2) 0 u, jobEntered u) :=
    (callBody_decides (s := w) hpassed).trans ((callDecide_kept (s := w) hkept hnone hoffer).trans (if_pos rfl))
  obtain ⟨t, hexec, hstate, hreplies⟩ := exec_call htakes hkind hstation hbody (by simp [jobEntered, hu, callEnters])
  rw [callAnswer_toReply hsender hkind, reported_of_own (s := u) hown] at hreplies
  refine ⟨t, hexec, hstate, ?_⟩
  have hlength : u.crane.pool.length = s.crane.pool.length + 1 := by simp [hu, callEnters]
  rwa [hlength] at hreplies

/-! ### What follows the entry (R38, R82) -/

/-- The entry of a job while the crane is not IDLE, by the station and the crane (R38, R82). -/
theorem jobEntered_of_not_idle (hcrane : s.crane.state ≠ .idle)
    (hring : s.ctl.station = .doze → s.crane.state = .asleep → RingHoldLaw s) :
    (s.ctl.station ≠ .doze ∨ (s.crane.state ≠ .asleep ∧ s.crane.state ≠ .running) → jobEntered s = s) ∧
      (s.ctl.station = .doze → s.crane.state = .running → jobEntered s = s.onCrane fun k => { k with wakeKept := true }) ∧
      (s.ctl.station = .doze → s.crane.state = .asleep → jobEntered s =
        withConds (if s.fire.shutter = none ∨ s.fire.shutter = some .opened then .waking else .held) (sendWake s)) := by
  refine ⟨fun hcalm => ?_, fun hdoze hrunning => ?_, fun hdoze hasleep => ?_⟩
  · have hwake : wakeCause s = s := by
      rcases hcalm with hstation | ⟨hasleep, hrunning⟩
      · exact wakeCause_of_not_doze hstation
      · unfold wakeCause
        split
        · split
          next h => exact absurd h hasleep
          next h => exact absurd h hrunning
          next => rfl
        · rfl
    unfold jobEntered
    rw [hwake]
    exact dispatch_of_not_idle hcrane
  · unfold jobEntered
    rw [wakeCause_of_running hdoze hrunning]
    exact dispatch_of_not_idle (by rw [State.onCrane_crane, hrunning]; exact nofun)
  · have hstill : s.lanes.outSeg.cond ≠ .running ∧ s.lanes.backSeg.cond ≠ .running :=
      not_or.1 fun hrun => (hring hdoze hasleep hrun).2.2.2.1 hdoze
    unfold jobEntered
    rw [wakeCause_of_asleep hdoze hasleep hstill]
    exact dispatch_of_not_idle nofun

theorem jobEntered_of_idle (h : s.crane.state = .idle) : jobEntered s = dispatch s := by
  have hwake : wakeCause s = s := by
    unfold wakeCause
    rw [h]
    exact ite_self s
  exact congrArg dispatch hwake

/-- The continuity count at the start of a RETRIEVE beside WAITING jobs (R81). -/
theorem continuityAfter_retrieve {before : List Job} {k : Crane} (hpool : k.pool = before ++ [j])
    (hbefore : ∀ i ∈ before, i.state = .waiting) (hkind : j.kind = .retrieve) :
    continuityAfter .retrieve k = if ∃ i ∈ before, i.kind = .store then min 8 (k.continuity + 1) else k.continuity := by
  have hany : (k.pool.any fun i => decide (i.kind = .store) && decide (i.state = .waiting)) = true ↔
      ∃ i ∈ before, i.kind = .store := by
    rw [hpool]
    simp only [List.any_append, List.any_cons, List.any_nil, hkind, List.any_eq_true, Bool.or_false, Bool.or_eq_true,
      Bool.and_eq_true, decide_eq_true_eq]
    constructor
    · rintro (⟨i, hi, hstore, -⟩ | ⟨h, -⟩)
      · exact ⟨i, hi, hstore⟩
      · cases h
    · rintro ⟨i, hi, hstore⟩
      exact .inl ⟨i, hi, hstore, hbefore i hi⟩
  unfold continuityAfter
  dsimp only
  by_cases h : ∃ i ∈ before, i.kind = .store
  · rw [if_pos (hany.2 h), if_pos h, saturate, Nat.min_comm]
  · rw [if_neg (mt hany.1 h), if_neg h]

end Sys2Proof.Machine
end

section
/-! PROOF. The obligation on CALL, its clauses (R84, R85). -/

namespace Sys2Proof.Machine

-- Checked one after another: the host bounds the memory of all threads together.
set_option Elab.async false

open Sys2Proof Sys2Proof.Safety

variable {s t u : State} {id : SlotId} {r : RxRecord} {rest : List RxRecord} {j : Job} {p : Position}

/-- A CALL for an own bin with a port passes R84. -/
theorem call_passes (hgood : ¬ CallWrong (wordAt r.payload 2) (byteAt r.payload 4) (byteAt r.payload 5))
    (hown : idIsOwn s (wordAt r.payload 0)) (hport : (rosterOf (byteAt r.payload 4) s).port = true) :
    callRefusal (wordAt r.payload 0) (wordAt r.payload 2) (byteAt r.payload 4) (byteAt r.payload 5) s = none :=
  (callRefusal_of_own hgood hown).trans (if_pos hport)

theorem withConds_crane (x : Condition) (s : State) : (withConds x s).crane = s.crane := by simp [withConds, setCond]

theorem withConds_lanes (x : Condition) (s : State) : (withConds x s).lanes = { s.lanes with
    outSeg := { s.lanes.outSeg with cond := x }, backSeg := { s.lanes.backSeg with cond := x } } := rfl

/-- A CALL accepted while the crane is not IDLE (R38, R85). -/
theorem exec_call_waits (htakes : Takes s id r rest) (hkind : r.kind = .call)
    (hstation : s.ctl.station = .active ∨ s.ctl.station = .doze ∨ s.ctl.station = .recovery)
    (hpassed : callRefusal (wordAt r.payload 0) (wordAt r.payload 2) (byteAt r.payload 4) (byteAt r.payload 5) s = none)
    (hown : idIsOwn s (wordAt r.payload 0))
    (hkept : (binAt (wordAt r.payload 0 % 2048) s).state = .stored ∨ (binAt (wordAt r.payload 0 % 2048) s).state = .storing)
    (hnone : retrieveFor (wordAt r.payload 0) s = none) (hcount : nonStoreCount s.crane.pool < 31)
    (hroom : s.crane.pool.length < 32) (hcrane : s.crane.state ≠ .idle)
    (hring : s.ctl.station = .doze → s.crane.state = .asleep → RingHoldLaw s) :
    let cond : Condition := if s.fire.shutter = none ∨ s.fire.shutter = some .opened then .waking else .held
    ∃ t, exec .call s = .next t ∧ t = { s with bus := t.bus, lanes := t.lanes, crane := t.crane } ∧
      t.crane.pool = s.crane.pool ++ [calledEntered r s] ∧
      Replies t id rest (callReply .accepted (decide (3 < r.param.toNat)) (wordAt r.payload 2)
        (binAt (wordAt r.payload 0 % 2048) s).state.code 0 (s.crane.pool.length + 1)) ∧
      (s.ctl.station ≠ .doze ∨ (s.crane.state ≠ .asleep ∧ s.crane.state ≠ .running) →
        t = { s with bus := t.bus, crane := { s.crane with pool := t.crane.pool } }) ∧
      (s.ctl.station = .doze → s.crane.state = .running →
        t = { s with bus := t.bus, crane := { s.crane with pool := t.crane.pool, wakeKept := true } }) ∧
      (s.ctl.station = .doze → s.crane.state = .asleep →
        t.crane = { s.crane with
          pool := t.crane.pool, state := .waking, inFlight := some .wake, lastSent := some .wake,
          limit := some s.ctl.setup.wakeLimit, wakeKept := false } ∧
        t.lanes = { s.lanes with
          outSeg := { s.lanes.outSeg with cond := cond }, backSeg := { s.lanes.backSeg with cond := cond } }) := by
  intro cond
  obtain ⟨t, hexec, hstate, hreplies⟩ := exec_call_entered htakes hkind hstation hpassed hown hkept hnone hcount hroom
  obtain ⟨hcalm, hrunning, hasleep⟩ := jobEntered_of_not_idle (s := callEnters id r rest s) hcrane hring
  refine ⟨t, hexec, ?_⟩
  generalize t.bus = b at hstate
  by_cases hwakes : s.ctl.station = .doze ∧ (s.crane.state = .asleep ∨ s.crane.state = .running)
  · obtain ⟨hdoze, hsleeps | hruns⟩ := hwakes
    · have hwake : jobEntered (callEnters id r rest s) = withConds cond (sendWake (callEnters id r rest s)) :=
        hasleep hdoze hsleeps
      rw [hwake] at hstate
      subst hstate
      have hwoken := withConds_crane cond (sendWake (callEnters id r rest s))
      have hpool : (withConds cond (sendWake (callEnters id r rest s))).crane.pool = s.crane.pool ++ [calledEntered r s] :=
        congrArg Crane.pool hwoken
      refine ⟨?_, hpool, hreplies, fun h => absurd (h.resolve_left (not_not.2 hdoze)).1 (not_not.2 hsleeps),
        fun _ h => absurd (hsleeps.symm.trans h) nofun, fun _ _ => ⟨?_, withConds_lanes cond _⟩⟩
      · apply State.eq_of_blocks <;> simp [withConds, setCond, callEnters]
      · refine hwoken.trans ?_
        dsimp only
        rw [hpool]
        rfl
    · rw [hrunning hdoze hruns] at hstate
      subst hstate
      exact ⟨rfl, rfl, hreplies, fun h => absurd (h.resolve_left (not_not.2 hdoze)).2 (not_not.2 hruns),
        fun _ _ => rfl, fun _ h => absurd (hruns.symm.trans h) nofun⟩
  · have hrests : s.ctl.station ≠ .doze ∨ (s.crane.state ≠ .asleep ∧ s.crane.state ≠ .running) :=
      (not_and_or.1 hwakes).imp_right not_or.1
    rw [hcalm hrests] at hstate
    subst hstate
    exact ⟨rfl, rfl, hreplies, fun _ => rfl, fun hd hr => absurd ⟨hd, .inr hr⟩ hwakes,
      fun hd ha => absurd ⟨hd, .inl ha⟩ hwakes⟩

/-- A CALL whose RETRIEVE alone is eligible at an IDLE crane away from the bin starts it (R80, R85). -/
theorem exec_call_starts (htakes : Takes s id r rest) (hkind : r.kind = .call) (hactive : s.ctl.station = .active)
    (hpassed : callRefusal (wordAt r.payload 0) (wordAt r.payload 2) (byteAt r.payload 4) (byteAt r.payload 5) s = none)
    (hown : idIsOwn s (wordAt r.payload 0)) (hstored : (binAt (wordAt r.payload 0 % 2048) s).state = .stored)
    (hnone : retrieveFor (wordAt r.payload 0) s = none) (hcount : nonStoreCount s.crane.pool < 31)
    (hroom : s.crane.pool.length < 32) (hidle : s.crane.state = .idle) (hview : s.fire.view = 0#8)
    (hwaiting : ∀ j ∈ s.crane.pool, j.state = .waiting ∧ eligible s j = false) (hstand : s.lanes.outStand = .empty)
    (hload : s.crane.load = .empty) (hcarriage : s.crane.carriage = .nothing)
    (hcontinuity : s.crane.continuity ≠ s.ctl.setup.storageContinuity) (hpos : s.crane.pos = some p)
    (hne : p ≠ positionOf (wordAt r.payload 0 % 2048)) :
    ∃ t, exec .call s = .next t ∧
      t = { s with
        bus := t.bus
        lanes := { s.lanes with outStand := .reserved }
        crane := { s.crane with
          pool := s.crane.pool ++ [{ calledEntered r s with state := .active }]
          state := .running
          continuity := t.crane.continuity
          inFlight := some (.move (positionOf (wordAt r.payload 0 % 2048)))
          lastSent := some (.move (positionOf (wordAt r.payload 0 % 2048)))
          limit := some (2 * moveTime s.ctl.setup p (positionOf (wordAt r.payload 0 % 2048)) + 2000) } } ∧
      t.crane.continuity = (if ∃ j ∈ s.crane.pool, j.kind = .store then min 8 (s.crane.continuity + 1)
        else s.crane.continuity) ∧
      Replies t id rest (callReply .accepted (decide (3 < r.param.toNat)) (wordAt r.payload 2) 1 0
        (s.crane.pool.length + 1)) := by
  obtain ⟨t, hexec, hstate, hreplies⟩ := exec_call_entered htakes hkind (.inl hactive) hpassed hown (.inl hstored) hnone
    hcount hroom
  set u := callEnters id r rest s with hu
  set j := calledEntered r s with hj
  have hupool : u.crane.pool = s.crane.pool ++ [j] := rfl
  have hsame : ∀ k, eligible u k = eligible s k := fun k => rfl
  have helig : eligible u j = true := by
    have hempty : s.crane.load = .empty ∧ s.crane.carriage = .nothing := ⟨hload, hcarriage⟩
    rw [hsame]
    exact ((dispatchStartsTheBestJob.2.1 s j).2.1 rfl rfl).2
      ⟨hactive, hview, hstored, hstand, hempty, hcontinuity⟩
  have honly : ∀ m i, u.crane.pool[m]? = some i → eligible u i = true → m = s.crane.pool.length := by
    intro m i hm hi
    rw [hupool] at hm
    by_cases hlt : m < s.crane.pool.length
    · rw [List.getElem?_append_left hlt] at hm
      rw [hsame, (hwaiting i (List.mem_of_getElem? hm)).2] at hi
      cases hi
    · have hle : m < (s.crane.pool ++ [j]).length := (List.getElem?_eq_some_iff.1 hm).1
      rw [List.length_append, List.length_singleton] at hle
      omega
  have hstart := startJob_of_last (s := u) hupool (fun k hk => (hwaiting k hk).1)
    (p := positionOf (wordAt r.payload 0 % 2048)) rfl hpos hne rfl
  have hdispatch : dispatch u = startJob s.crane.pool.length u :=
    dispatch_of_only hidle (by simp [dispatches, hu, callEnters, hactive]) (by simp [hupool]) helig honly
      (by rw [hstart]; exact nofun)
  rw [jobEntered_of_idle (s := u) hidle, hdispatch, hstart] at hstate
  rw [hstored] at hreplies
  refine ⟨t, hexec, hstate.trans ?_, ?_, hreplies⟩
  · rw [hstate]
    rfl
  · rw [hstate]
    exact continuityAfter_retrieve hupool (fun k hk => (hwaiting k hk).1) rfl

/-- A call that goes to the follow-on list finds a record that is neither ABSENT nor LOST. -/
theorem call_listed_present {b : BinRec} {has : Prop}
    (h : (b.state = .lifting ∨ b.state = .out) ∨ (b.state = .stored ∨ b.state = .storing) ∧ has) :
    b.state ≠ .absent ∧ b.state ≠ .lost := by
  rcases h with (h | h) | ⟨h | h, -⟩ <;> rw [h] <;> exact ⟨nofun, nofun⟩

/-- A CALL that joins the follow-on list (R65, R85). -/
theorem exec_call_follows (htakes : Takes s id r rest) (hkind : r.kind = .call)
    (hstation : s.ctl.station = .active ∨ s.ctl.station = .doze ∨ s.ctl.station = .recovery) (hwf : BinsWf s)
    (hpassed : callRefusal (wordAt r.payload 0) (wordAt r.payload 2) (byteAt r.payload 4) (byteAt r.payload 5) s = none)
    (hown : idIsOwn s (wordAt r.payload 0))
    (hlisted : ((binAt (wordAt r.payload 0 % 2048) s).state = .lifting ∨
        (binAt (wordAt r.payload 0 % 2048) s).state = .out) ∨
      ((binAt (wordAt r.payload 0 % 2048) s).state = .stored ∨ (binAt (wordAt r.payload 0 % 2048) s).state = .storing) ∧
        (retrieveFor (wordAt r.payload 0) s).isSome = true)
    (hnamed : ¬ CallPending (wordAt r.payload 0) (byteAt r.payload 4) s)
    (hshort : (binAt (wordAt r.payload 0 % 2048) s).followOns.length < 3) :
    ∃ t, exec .call s = .next t ∧ t = { s with bus := t.bus, bins := t.bins } ∧
      binAt (wordAt r.payload 0 % 2048) t = { binAt (wordAt r.payload 0 % 2048) s with
        followOns := (binAt (wordAt r.payload 0 % 2048) s).followOns ++
          [⟨wordAt r.payload 2, byteAt r.payload 4, purposeOf (byteAt r.payload 5), min 3 r.param.toNat⟩] } ∧
      (∀ k, k ≠ wordAt r.payload 0 % 2048 → binAt k t = binAt k s) ∧
      Replies t id rest (callReply .followOn (decide (3 < r.param.toNat)) (wordAt r.payload 2)
        (binAt (wordAt r.payload 0 % 2048) s).state.code
        ((binAt (wordAt r.payload 0 % 2048) s).followOns.length + 1) s.crane.pool.length) := by
  set w := beginTake id r rest s with hw
  have ⟨_, _, hsender, _⟩ := htakes
  obtain ⟨habsent, hlost⟩ := call_listed_present hlisted
  have happended := callAppend_appended (s := w) (tag := wordAt r.payload 2) (pur := purposeOf (byteAt r.payload 5))
    (urgency := min 3 r.param.toNat) (mark := decide (3 < r.param.toNat)) hwf habsent hlost hnamed hshort
  dsimp only at happended
  have hbody := (callBody_decides (s := w) hpassed).trans ((callDecide_listed (s := w) hlisted).trans happended)
  obtain ⟨t, hexec, hstate, hreplies⟩ := exec_call htakes hkind hstation hbody rfl
  have hread : binAt (wordAt r.payload 0 % 2048) t = _ := (congrArg (binAt _) hstate).trans (binAt_putBin (s := w) hwf _ _)
  rw [callAnswer_toReply hsender hkind, reported_of_own (by exact hown), binAt_putBin (s := w) hwf] at hreplies
  exact ⟨t, hexec, by rw [hstate]; rfl, hread,
    fun k hk => (congrArg (binAt k) hstate).trans (binAt_putBin_other (s := w) hwf hk _), hreplies⟩

/-- Settles O24: the tests of R84 in their order, then the rows of R85. -/
theorem callIsDecidedByTheRecord : Obligations.CallIsDecidedByTheRecord := by
  intro s id r rest htakes hkind hstation hwf
  dsimp only
  refine ⟨fun hwrong => ?_, fun hgood hbin => ?_, fun hgood hlow hhigh hnum => ?_, fun hgood hown hport => ?_,
    fun hgood hown hport => ?_⟩
  · have hrefused := exec_call_undecided htakes hkind hstation (callRefusal_of_wrong hwrong)
    refine ⟨fun hown => ?_, fun hown => ?_⟩
    · rwa [reported_of_own hown] at hrefused
    · rwa [reported_of_not_own hown] at hrefused
  · have hnot : ¬ idIsOwn s (wordAt r.payload 0) := by
      rintro ⟨hlow, hhigh, hhome, hvalid⟩
      rcases hbin with h | h | ⟨-, h⟩
      · omega
      · omega
      · exact h ⟨hlow, hhigh, hhome, hvalid⟩
    have hclass : classRefusal (classify (wordAt r.payload 0) s) = some .unknownBin := by
      rcases hbin with h | h | ⟨hnum, -⟩
      · rw [classify_invalid (.inl h)]
        rfl
      · rw [classify_invalid (.inr h)]
        rfl
      · rcases classify_nowhere hnum hnot with h | h <;> rw [h] <;> rfl
    have hrefused := exec_call_undecided htakes hkind hstation (callRefusal_of_class hgood hclass)
    rwa [reported_of_not_own hnot] at hrefused
  · have hother : OtherBin s (wordAt r.payload 0) := ⟨hlow, hhigh, hnum⟩
    have hclass : classRefusal (classify (wordAt r.payload 0) s) = some .unsupported := by
      rw [classify_eq_other_iff.2 hother]
      rfl
    have hnot : ¬ idIsOwn s (wordAt r.payload 0) := fun hown => by
      have h := classify_eq_other_iff.2 hother
      rw [(classify_eq_own_iff _).2 hown] at h
      cases h
    have hrefused := exec_call_undecided htakes hkind hstation (callRefusal_of_class hgood hclass)
    rwa [reported_of_not_own hnot] at hrefused
  · have hrefused := exec_call_undecided htakes hkind hstation (code := .unsupported)
      ((callRefusal_of_own hgood hown).trans (if_neg (by simp [hport])))
    rwa [reported_of_own hown] at hrefused
  · have hpassed := call_passes hgood hown hport
    refine ⟨fun habsent => ?_, fun hlost => ?_, fun hkept hnone hfull => ?_,
      fun hkept hnone hcount hroom hcrane hring => exec_call_waits htakes hkind hstation hpassed hown hkept hnone hcount hroom
        hcrane hring,
      fun hkept hnone hcount hroom hidle => ?_,
      fun hstored hnone hcount hroom hactive hidle hview hwaiting hstand hload hcarriage hcontinuity p hpos hne =>
        exec_call_starts htakes hkind hactive hpassed hown hstored hnone hcount hroom hidle hview hwaiting hstand hload
          hcarriage hcontinuity hpos hne,
      fun hlisted hnamed => ?_, fun hlisted hnamed hlong => ?_, fun hlisted hnamed hshort => ?_⟩
    · have hrefused := exec_call_refused htakes hkind hstation hpassed hown fun w hw =>
        callDecide_absent (by rw [hw]; exact habsent)
      rwa [habsent] at hrefused
    · have hrefused := exec_call_refused htakes hkind hstation hpassed hown fun w hw =>
        callDecide_lost (by rw [hw]; exact hlost)
      rwa [hlost] at hrefused
    · exact exec_call_refused htakes hkind hstation hpassed hown fun w hw => by
        subst hw
        exact (callDecide_kept (s := beginTake id r rest s) hkept hnone
          (offerJob_retrieve_full (s := beginTake id r rest s) rfl hnone hfull)).trans (if_neg nofun)
    · obtain ⟨t, hexec, hstate, hreplies⟩ := exec_call_entered htakes hkind hstation hpassed hown hkept hnone hcount hroom
      rw [jobEntered_of_idle (s := callEnters id r rest s) hidle] at hstate
      refine ⟨t, callEnters id r rest s, hexec, hreplies, rfl, hstate, fun hstill => ?_⟩
      have hrests : dispatch (callEnters id r rest s) = callEnters id r rest s := by
        rcases hstill with hrecovery | hnone
        · have hst : (callEnters id r rest s).ctl.station = .recovery := hrecovery
          exact dispatch_of_not_dispatches (by rw [hst]; exact nofun) (by rw [hst]; exact nofun)
        · exact dispatch_of_none_eligible hnone
      rw [hrests] at hstate
      exact hstate
    · exact exec_call_refused htakes hkind hstation hpassed hown fun w hw => by
        subst hw
        obtain ⟨habsent, hlost⟩ := call_listed_present hlisted
        exact (callDecide_listed (s := beginTake id r rest s) hlisted).trans
          (callAppend_merged (s := beginTake id r rest s) habsent hlost hnamed)
    · exact exec_call_refused htakes hkind hstation hpassed hown fun w hw => by
        subst hw
        obtain ⟨habsent, hlost⟩ := call_listed_present hlisted
        exact (callDecide_listed (s := beginTake id r rest s) hlisted).trans
          (callAppend_full (s := beginTake id r rest s) habsent hlost hnamed hlong)
    · exact exec_call_follows htakes hkind hstation hwf hpassed hown hlisted hnamed hshort

end Sys2Proof.Machine
end

section
/-! PROOF. How a CANCEL is answered (R86 to R88). -/

namespace Sys2Proof.Machine

-- Checked one after another: the host bounds the memory of all threads together.
set_option Elab.async false

open Sys2Proof Sys2Proof.Safety

variable {s t u : State} {id : SlotId} {r : RxRecord} {rest : List RxRecord} {j : Job} {p : Position}
  {tag i n : Nat} {pur : Purpose} {code : ResultCode} {w : WhereFound} {f : FollowOn}

/-! ### The REPLY (R86) -/

/-- The REPLY of a CANCEL, with the details of QUERY REQUEST. -/
def cancelReply (code : ResultCode) (tag place info index : Nat) : Reply :=
  { plainReply .cancel code tag with d0 := place, d1 := info, d2 := index / 256, d3 := index % 256 }

theorem cancel_admitted (hkind : r.kind = .cancel) (hjoining : s.ctl.station ≠ .joining) :
    refusal r.kind s.ctl.station = none := by
  rw [hkind]
  cases h : s.ctl.station
  case joining => exact absurd h hjoining
  all_goals rfl

/-- A CANCEL of a tag in range: its REPLY by what was found, and what the body leaves (R86). -/
theorem exec_cancel (htakes : Takes s id r rest) (hkind : r.kind = .cancel) (hjoining : s.ctl.station ≠ .joining)
    (hfound : whereFound (wordAt r.payload 0) s = w)
    (hbody : cancelBody r (beginTake id r rest s) =
      (Answer.foundAt code (wordAt r.payload 0) (whereFound (wordAt r.payload 0) (beginTake id r rest s)), u))
    (hrx : u.bus.rx = rest) :
    ∃ t, (exec .cancel s = .next t ∧ Replies t id rest (cancelReply code (wordAt r.payload 0) w.place w.info w.index)) ∧
      t = { u with bus := t.bus } := by
  have ⟨_, _, hsender, _⟩ := htakes
  obtain ⟨hreplies, hstate⟩ := serve_carriesOut (p := isKind .cancel) htakes (by simp [isKind, hkind])
    (cancel_admitted hkind hjoining) hbody hrx
  rw [Answer.toReply_eq _ hsender, hkind, show whereFound (wordAt r.payload 0) (beginTake id r rest s) = w from hfound]
    at hreplies
  exact ⟨_, ⟨rfl, hreplies⟩, hstate⟩

/-- A CANCEL of a tag out of range (R86). -/
theorem exec_cancel_bad (htakes : Takes s id r rest) (hkind : r.kind = .cancel) (hjoining : s.ctl.station ≠ .joining)
    (hbad : wordAt r.payload 0 = 0 ∨ 4095 < wordAt r.payload 0) :
    ∃ t, (exec .cancel s = .next t ∧ Replies t id rest (cancelReply .badField (wordAt r.payload 0) 0 0 0)) ∧
      t = { s with bus := t.bus } := by
  have ⟨_, _, hsender, _⟩ := htakes
  have hinvalid : ¬ validTag (wordAt r.payload 0) = true := by
    rw [validTag_iff]
    omega
  obtain ⟨hreplies, hstate, -⟩ := serve_answers (p := isKind .cancel) (body := cancelBody) htakes (by simp [isKind, hkind])
    (cancel_admitted hkind hjoining) (if_neg hinvalid)
  rw [Answer.toReply_plain _ _ hsender, hkind] at hreplies
  exact ⟨_, ⟨rfl, hreplies⟩, hstate⟩

/-- The body of a CANCEL that finds a job. -/
theorem cancelBody_of_job (hlow : 1 ≤ wordAt r.payload 0) (hhigh : wordAt r.payload 0 ≤ 4095)
    (hjob : jobWith (wordAt r.payload 0) s = some j) (hcancel : cancelJob j s = (code, u)) :
    cancelBody r s = (Answer.foundAt code (wordAt r.payload 0) (whereFound (wordAt r.payload 0) s), u) := by
  unfold cancelBody
  dsimp only
  rw [if_pos (validTag_iff.2 ⟨hlow, hhigh⟩), hjob]
  dsimp only
  rw [hcancel]

/-- The body of a CANCEL whose tag no job holds. -/
theorem cancelBody_of_record (hlow : 1 ≤ wordAt r.payload 0) (hhigh : wordAt r.payload 0 ≤ 4095)
    (hjob : jobWith (wordAt r.payload 0) s = none) (hcancel : cancelRecord (wordAt r.payload 0) s = (code, u)) :
    cancelBody r s = (Answer.foundAt code (wordAt r.payload 0) (whereFound (wordAt r.payload 0) s), u) := by
  unfold cancelBody
  dsimp only
  rw [if_pos (validTag_iff.2 ⟨hlow, hhigh⟩), hjob]
  dsimp only
  rw [hcancel]

/-! ### The call and the follow-on entry (R66, R86) -/

theorem cancelRecord_of_none (h : tagSearch tag s = none) : cancelRecord tag s = (.conflict, s) := by
  unfold cancelRecord
  rw [h]

theorem cancelRecord_of_call (h : tagSearch tag s = some (.current i)) :
    ((binAt i s).state = .out ∨ (binAt i s).state = .storing → cancelRecord tag s = (.tooLate, s)) ∧
      ((binAt i s).state = .lost → cancelRecord tag s = (.missing, s)) := by
  unfold cancelRecord
  rw [h]
  dsimp only
  refine ⟨fun hstate => ?_, fun hstate => by rw [hstate]⟩
  rcases hstate with hstate | hstate <;> rw [hstate]

/-- The oldest entry with the tag is the one found, and its removal takes out that place (R66). -/
theorem entry_of_oldest {l : List FollowOn} (hat : l[n]? = some f) (htag : f.tag = tag)
    (hbefore : ∀ g ∈ l.take n, g.tag ≠ tag) : entryWith tag l = some f ∧ removeTag tag l = l.eraseIdx n := by
  induction l generalizing n with
  | nil => cases hat
  | cons e l ih =>
    cases n with
    | zero =>
      cases hat
      exact ⟨List.find?_cons_of_pos (by simp [htag]), if_pos htag⟩
    | succ n =>
      rw [List.take_succ_cons, List.forall_mem_cons] at hbefore
      obtain ⟨hfind, hremove⟩ := ih (List.getElem?_cons_succ ▸ hat) hbefore.2
      exact ⟨(List.find?_cons_of_neg (by simp [hbefore.1])).trans hfind,
        (if_neg hbefore.1).trans (congrArg (e :: ·) hremove)⟩

/-- The record once its entry has been cancelled (R66, R86, R87). -/
def entryCancelled (n : Nat) (f : FollowOn) (b : BinRec) : BinRec :=
  { b with followOns := b.followOns.eraseIdx n, hold := if f.purpose = .fill then 0 else b.hold }

theorem cancelHold_of_fill (h : pur = .fill) : cancelHold pur i s = putBin i { binAt i s with hold := 0 } s := if_pos h

theorem cancelHold_of_other (h : pur ≠ .fill) : cancelHold pur i s = s := if_neg h

/-- Cancelling a follow-on entry writes its record alone (R66, R87). -/
theorem cancelRecord_of_followOn (hwf : BinsWf s) (hsearch : tagSearch tag s = some (.followOn i (n + 1)))
    (hat : (binAt i s).followOns[n]? = some f) (htag : f.tag = tag)
    (hbefore : ∀ g ∈ (binAt i s).followOns.take n, g.tag ≠ tag) :
    ∃ v, cancelRecord tag s = (.cancelled, v) ∧ v = { s with bins := v.bins } ∧
      binAt i v = entryCancelled n f (binAt i s) ∧ ∀ k, k ≠ i → binAt k v = binAt k s := by
  obtain ⟨hentry, hremove⟩ := entry_of_oldest hat htag hbefore
  set x := putBin i { binAt i s with followOns := (binAt i s).followOns.eraseIdx n } s with hx
  have hremoved : followOnRemove tag s = (.removed i, x) := by
    rw [followOnRemove_of_found hsearch, hremove]
  have hcancel : cancelRecord tag s = (.cancelled, cancelHold f.purpose i x) := by
    unfold cancelRecord
    rw [hsearch]
    dsimp only
    rw [hentry]
    unfold cancelEntry
    rw [hremoved]
    rfl
  have hread : binAt i x = { binAt i s with followOns := (binAt i s).followOns.eraseIdx n } := binAt_putBin hwf _ _
  refine ⟨_, hcancel, ?_, ?_, fun k hk => ?_⟩
  · by_cases hfill : f.purpose = .fill
    · rw [cancelHold_of_fill hfill]
      rfl
    · rw [cancelHold_of_other hfill]
      rfl
  · unfold entryCancelled
    by_cases hfill : f.purpose = .fill
    · rw [cancelHold_of_fill hfill, binAt_putBin (putBin_wf hwf _ _), hread, if_pos hfill]
    · rw [cancelHold_of_other hfill, hread, if_neg hfill]
  · by_cases hfill : f.purpose = .fill
    · rw [cancelHold_of_fill hfill, binAt_putBin_other (putBin_wf hwf _ _) hk]
      exact binAt_putBin_other hwf hk _
    · rw [cancelHold_of_other hfill]
      exact binAt_putBin_other hwf hk _

end Sys2Proof.Machine
end

section
/-! PROOF. The obligation on CANCEL, the jobs that it finds (R86 to R88). -/

namespace Sys2Proof.Machine

-- Checked one after another: the host bounds the memory of all threads together.
set_option Elab.async false

open Sys2Proof Sys2Proof.Safety

variable {s t u x : State} {id : SlotId} {r : RxRecord} {rest : List RxRecord} {j : Job} {p : Position}
  {tag i n : Nat} {pur : Purpose} {code : ResultCode}

/-! ### A job removed (R87, R88) -/

/-- The table once the hold of a cancelled FILL has been cleared (R86). -/
def cancelledBins (j : Job) (s : State) : List (Nat × BinRec) :=
  if j.purpose = .fill then tablePut BinRec.blank s.bins (j.bin % 2048) { binAt (j.bin % 2048) s with hold := 0 } else s.bins

/-- The lanes once the outbound stand's reservation has been released (R87). -/
def standFreed (s : State) : Lanes :=
  if s.lanes.outStand = .reserved then { s.lanes with outStand := .empty } else s.lanes

theorem cancelHold_eq (j : Job) (s : State) :
    cancelHold j.purpose (indexOf j.bin) s = { s with bins := cancelledBins j s } := by
  unfold cancelHold cancelledBins
  split
  · rfl
  · rfl

theorem releaseStand_eq (s : State) : releaseStand s = { s with lanes := standFreed s } := by
  unfold releaseStand standFreed
  split
  · rfl
  · rfl

theorem removeFirst_eq (tag : Nat) (l : List Job) : removeFirst tag l = l.eraseP fun j => j.tag == tag := by
  induction l with
  | nil => rfl
  | cons j l ih =>
    by_cases h : j.tag = tag
    · rw [List.eraseP_cons_of_pos (by simp [h])]
      exact if_pos h
    · rw [List.eraseP_cons_of_neg (by simp [h]), ← ih]
      exact if_neg h

/-- A cancelled job that has not lifted its bin goes, with its reservation and its hold (R87). -/
theorem cancelRemove_eq (hrestore : s.crane.restoreWanted = false) (hstore : s.crane.storeWanted = false) :
    cancelRemove j s = { s with
      bins := cancelledBins j s, lanes := if j.state = .waiting then s.lanes else standFreed s
      crane := { s.crane with pool := s.crane.pool.eraseP fun k => k.tag == j.tag } } := by
  have hfreed : ∀ x : State, x.crane.restoreWanted = false → x.crane.storeWanted = false →
      recordFreed (cancelHold j.purpose (indexOf j.bin) x) = { x with bins := cancelledBins j x } := fun x h h' => by
    rw [recordFreed_of_nothing_wanted (by rw [cancelHold_eq]; exact h) (by rw [cancelHold_eq]; exact h'), cancelHold_eq]
  rw [← removeFirst_eq]
  unfold cancelRemove
  dsimp only
  split
  · exact hfreed _ hrestore hstore
  · rw [releaseStand_eq]
    exact hfreed _ hrestore hstore

/-- A MOVE in flight is stopped: what that leaves (R70, R88). -/
theorem stopMove_of_move (h : s.crane.inFlight = some (.move p)) : stopMove s = s.onCrane fun k => { k with
    inFlight := some .stop, limit := some 5000, lastSent := some .stop, stale := .done :: k.stale
    forkAbandoned := false } := by
  have hmoving : moveInFlight s = true := by simp [moveInFlight, h]
  have hfork : forkInFlight s = false := by simp [forkInFlight, h]
  have habandoned : abandonCommand s = s.onCrane fun k => { k with
      inFlight := none, limit := none, stale := .done :: k.stale } := by
    unfold abandonCommand
    rw [h]
    rfl
  unfold stopMove sendStop
  rw [if_pos hmoving, if_neg (by rw [h]; exact nofun), hfork, habandoned]
  rfl

theorem stopMove_of_no_moves (h : ∀ p, s.crane.inFlight ≠ some (.move p)) : stopMove s = s := by
  refine stopMove_of_no_move ?_
  unfold moveInFlight
  split
  next p hp => exact absurd hp (h p)
  next => rfl

/-! ### A job converted (R87, R88) -/

/-- The RESTORE that a cancelled RETRIEVE becomes (R77, R87, R98). -/
theorem asRestore_est (now : Nat) (u : Setup) (j : Job) :
    (asRestore now u j).est = cycleEstimate u Position.mouth (asRestore now u j) := rfl

/-- Call clear of the call that a LIFTING record holds (R58). -/
theorem callClear_of_lifting (hstate : (binAt i s).state = .lifting) (hcall : (binAt i s).call.map Call.tag = some tag) :
    (callClear i tag s).2 = putBin i { binAt i s with call := none } s := by
  obtain ⟨c, hc, htag⟩ := Option.map_eq_some_iff.1 hcall
  unfold callClear
  dsimp only
  rw [hc]
  dsimp only
  rw [if_pos htag, hstate]

/-- A cancelled RETRIEVE that has lifted its bin becomes a RESTORE to the rack (R87). -/
theorem cancelConvert_eq (hwf : BinsWf s) (hstate : (binAt (j.bin % 2048) s).state = .lifting)
    (hcall : (binAt (j.bin % 2048) s).call.map Call.tag = some j.tag) :
    ∃ v, cancelConvert j s = v ∧ v = { s with bins := v.bins, lanes := standFreed s, crane := { s.crane with
        pool := s.crane.pool.map fun k => if k.state = .waiting then k else asRestore s.est.time s.ctl.setup k } } ∧
      binAt (j.bin % 2048) v = { binAt (j.bin % 2048) s with
        call := none, hold := if j.purpose = .fill then 0 else (binAt (j.bin % 2048) s).hold } ∧
      ∀ m, m ≠ j.bin % 2048 → binAt m v = binAt m s := by
  set x := cancelHold j.purpose (indexOf j.bin) s with hx
  have hxwf : BinsWf x := by
    rw [hx]
    by_cases hfill : j.purpose = .fill
    · rw [cancelHold_of_fill hfill]
      exact putBin_wf hwf _ _
    · rw [cancelHold_of_other hfill]
      exact hwf
  have hxframe : x = { s with bins := x.bins } := by
    rw [hx, cancelHold_eq]
  have hxread : binAt (j.bin % 2048) x = { binAt (j.bin % 2048) s with
      hold := if j.purpose = .fill then 0 else (binAt (j.bin % 2048) s).hold } := by
    rw [hx]
    by_cases hfill : j.purpose = .fill
    · rw [cancelHold_of_fill hfill, if_pos hfill]
      exact binAt_putBin hwf _ _
    · rw [cancelHold_of_other hfill, if_neg hfill]
  have hxother : ∀ m, m ≠ j.bin % 2048 → binAt m x = binAt m s := fun m hm => by
    rw [hx]
    by_cases hfill : j.purpose = .fill
    · rw [cancelHold_of_fill hfill]
      exact binAt_putBin_other hwf hm _
    · rw [cancelHold_of_other hfill]
  set y := onCurrent (asRestore x.est.time x.ctl.setup) x with hy
  have hyread : ∀ m, binAt m y = binAt m x := fun m => rfl
  have hclear : (callClear (indexOf j.bin) j.tag y).2 =
      putBin (j.bin % 2048) { binAt (j.bin % 2048) x with call := none } y :=
    callClear_of_lifting (s := y) (by rw [hyread, show indexOf j.bin = j.bin % 2048 from rfl, hxread]; exact hstate)
      (by rw [hyread, show indexOf j.bin = j.bin % 2048 from rfl, hxread]; exact hcall)
  have hconvert : cancelConvert j s =
      releaseStand (putBin (j.bin % 2048) { binAt (j.bin % 2048) x with call := none } y) := by
    unfold cancelConvert convertCurrent
    dsimp only
    rw [← hx, ← hy, hclear]
  refine ⟨_, hconvert, ?_, ?_, fun m hm => ?_⟩
  · rw [releaseStand_eq, hy, hxframe]
    rfl
  · rw [releaseStand_eq]
    refine (binAt_putBin (s := y) hxwf _ _).trans ?_
    rw [hxread]
  · rw [releaseStand_eq]
    exact (binAt_putBin_other (s := y) hxwf hm _).trans (hxother m hm)

end Sys2Proof.Machine
end

section
/-! PROOF. The obligation on CANCEL (R86 to R88). -/

namespace Sys2Proof.Machine

-- Checked one after another: the host bounds the memory of all threads together.
set_option Elab.async false

open Sys2Proof Sys2Proof.Safety

variable {s t u x : State} {id : SlotId} {r : RxRecord} {rest : List RxRecord} {j : Job} {p : Position}
  {tag i n : Nat} {pur : Purpose} {code : ResultCode} {f : FollowOn}

/-! ### By the job (R87, R88) -/

theorem cancelJob_of_waiting (hj : j.state = .waiting) (hcrane : s.crane.state ≠ .idle)
    (hrestore : s.crane.restoreWanted = false) (hstore : s.crane.storeWanted = false) :
    cancelJob j s = (.cancelled, cancelRemove j s) := by
  refine (if_pos hj).trans (congrArg _ (dispatch_of_not_idle ?_))
  rw [cancelRemove_eq hrestore hstore]
  exact hcrane

theorem cancelJob_of_unlifted (hj : j.state ≠ .waiting) (hstage : j.stage = .travelEmpty) (hcrane : s.crane.state ≠ .idle)
    (hrestore : s.crane.restoreWanted = false) (hstore : s.crane.storeWanted = false)
    (hx : stopMove s = x) (hxcrane : x.crane.state = s.crane.state) (hxrestore : x.crane.restoreWanted = s.crane.restoreWanted)
    (hxstore : x.crane.storeWanted = s.crane.storeWanted) : cancelJob j s = (.cancelled, cancelRemove j x) := by
  refine (if_neg hj).trans ((if_pos (by simp [unlifted, hstage])).trans ?_)
  rw [hx]
  refine congrArg _ (dispatch_of_not_idle ?_)
  rw [cancelRemove_eq (hxrestore.trans hrestore) (hxstore.trans hstore)]
  exact fun h => hcrane (hxcrane.symm.trans h)

/-- A job whose place has been sent (R87). -/
theorem cancelJob_of_placed (hj : j.state ≠ .waiting) (hstage : j.stage = .forkPlace) (hsent : j.sent = true) :
    cancelJob j s = (.tooLate, s) :=
  (if_neg hj).trans ((if_neg (by simp [unlifted, hstage])).trans (if_pos ⟨hstage, hsent⟩))

theorem cancelJob_of_lifted (hj : j.state ≠ .waiting)
    (hlifted : j.stage = .travelLoaded ∨ (j.stage = .forkPick ∧ j.sent = true) ∨ (j.stage = .forkPlace ∧ j.sent = false))
    (hx : (if j.state = .active then stopMove s else s) = x) :
    cancelJob j s = (.cancelled, dispatch (cancelConvert j x)) := by
  have hnot : ¬ unlifted j = true := by
    rcases hlifted with h | ⟨h, hs⟩ | ⟨h, hs⟩
    · simp [unlifted, h]
    · simp [unlifted, h, hs]
    · simp [unlifted, h]
  have hsent : ¬ (j.stage = .forkPlace ∧ j.sent = true) := by
    rintro ⟨hstage, hs⟩
    rcases hlifted with h | ⟨h, -⟩ | ⟨-, h⟩
    · rw [hstage] at h
      cases h
    · rw [hstage] at h
      cases h
    · rw [hs] at h
      cases h
  refine (if_neg hj).trans ((if_neg hnot).trans ((if_neg hsent).trans ?_))
  rw [hx]

/-- The only job that does not wait is the current one. -/
theorem currentJob_of_unique (hmem : j ∈ s.crane.pool) (hj : j.state ≠ .waiting)
    (honly : ∀ k ∈ s.crane.pool, k.state ≠ .waiting → k = j) : currentJob s = some j := by
  have hsome : (currentJob s).isSome = true := List.find?_isSome.2 ⟨j, hmem, decide_eq_true hj⟩
  obtain ⟨k, hk⟩ := Option.isSome_iff_exists.1 hsome
  rw [hk, honly k (List.mem_of_find?_eq_some hk) (state_of_currentJob hk)]

/-- What a CANCEL that finds a job leaves, from what the job's case leaves. -/
theorem exec_cancel_job (htakes : Takes s id r rest) (hkind : r.kind = .cancel) (hjoining : s.ctl.station ≠ .joining)
    (hlow : 1 ≤ wordAt r.payload 0) (hhigh : wordAt r.payload 0 ≤ 4095)
    (hjob : jobWith (wordAt r.payload 0) s = some j) (hcancel : cancelJob j (beginTake id r rest s) = (code, u))
    (hrx : u.bus.rx = rest) :
    ∃ t, (exec .cancel s = .next t ∧ Replies t id rest (cancelReply code (wordAt r.payload 0) 1
      (j.state.code * 16 + j.stage.code) (j.bin % 2048))) ∧ t = { u with bus := t.bus } :=
  exec_cancel htakes hkind hjoining (whereFound_of_job hjob)
    (cancelBody_of_job (s := beginTake id r rest s) hlow hhigh hjob hcancel) hrx

/-- A lifted RETRIEVE is converted (R77, R87, R88). -/
theorem exec_cancel_converts (htakes : Takes s id r rest) (hkind : r.kind = .cancel) (hjoining : s.ctl.station ≠ .joining)
    (hwf : BinsWf s) (hlow : 1 ≤ wordAt r.payload 0) (hhigh : wordAt r.payload 0 ≤ 4095)
    (hjob : jobWith (wordAt r.payload 0) s = some j) (htag : j.tag = wordAt r.payload 0) (hmem : j ∈ s.crane.pool)
    (hcrane : s.crane.state ≠ .idle) (hj : j.state ≠ .waiting)
    (hlifted : j.stage = .travelLoaded ∨ (j.stage = .forkPick ∧ j.sent = true) ∨ (j.stage = .forkPlace ∧ j.sent = false))
    (honly : ∀ k ∈ s.crane.pool, k.state ≠ .waiting → k = j) (hstate : (binAt (j.bin % 2048) s).state = .lifting)
    (hcall : (binAt (j.bin % 2048) s).call.map Call.tag = some (wordAt r.payload 0)) :
    ∃ t k, (exec .cancel s = .next t ∧ Replies t id rest (cancelReply .cancelled (wordAt r.payload 0) 1
        (j.state.code * 16 + j.stage.code) (j.bin % 2048))) ∧ currentJob t = some k ∧
      k = { j with
        tag := 0, kind := .restore .rack, port := 0, purpose := .noPurpose, urgency := 3, stamp := s.est.time
        est := cycleEstimate s.ctl.setup Position.mouth k, stage := .travelLoaded, sent := false } ∧
      t.crane.pool = s.crane.pool.map (fun x => if x.state = .waiting then x else k) ∧ t.lanes = standFreed s ∧
      binAt (j.bin % 2048) t = { binAt (j.bin % 2048) s with
        call := none, hold := if j.purpose = .fill then 0 else (binAt (j.bin % 2048) s).hold } ∧
      (∀ m, m ≠ j.bin % 2048 → binAt m t = binAt m s) ∧
      t = { s with bus := t.bus, bins := t.bins, lanes := t.lanes, crane := t.crane } ∧
      (j.state = .active → ∀ p, s.crane.inFlight = some (.move p) →
        t.crane = { s.crane with
          pool := t.crane.pool, inFlight := some .stop, lastSent := some .stop, limit := some 5000
          stale := t.crane.stale, forkAbandoned := false }) ∧
      (j.state ≠ .active ∨ (∀ p, s.crane.inFlight ≠ some (.move p)) →
        t.crane = { s.crane with pool := t.crane.pool }) := by
  set w := beginTake id r rest s with hw
  set k := asRestore s.est.time s.ctl.setup j with hk
  obtain ⟨x, hx⟩ : ∃ x, (if j.state = .active then stopMove w else w) = x := ⟨_, rfl⟩
  have hxmove : ∀ p, j.state = .active → s.crane.inFlight = some (.move p) → x = w.onCrane fun k => { k with
      inFlight := some .stop, limit := some 5000, lastSent := some .stop, stale := .done :: k.stale
      forkAbandoned := false } := fun p hactive hflight => by
    rw [← hx, if_pos hactive]
    exact stopMove_of_move hflight
  have hxstill : j.state ≠ .active ∨ (∀ p, s.crane.inFlight ≠ some (.move p)) → x = w := fun h => by
    rw [← hx]
    split
    next hactive => exact stopMove_of_no_moves (h.resolve_left (not_not.2 hactive))
    next => rfl
  have hxframe : x = { w with crane := x.crane } ∧ x.crane.pool = w.crane.pool ∧ x.crane.state = w.crane.state := by
    by_cases hmoves : j.state = .active ∧ ∃ p, s.crane.inFlight = some (.move p)
    · obtain ⟨hactive, p, hflight⟩ := hmoves
      rw [hxmove p hactive hflight]
      exact ⟨rfl, rfl, rfl⟩
    · have hstill := hxstill (or_iff_not_imp_left.2 fun hactive p hflight =>
        hmoves ⟨not_not.1 hactive, p, hflight⟩)
      rw [hstill]
      exact ⟨rfl, rfl, rfl⟩
  obtain ⟨hframe, hpool, hxstate⟩ := hxframe
  have hread : ∀ m, binAt m x = binAt m s := fun m => by
    rw [hframe]
    rfl
  have hxbins : x.bins = s.bins := by
    rw [hframe]
    rfl
  obtain ⟨v, hconvert, hvframe, hvread, hvother⟩ := cancelConvert_eq (s := x) (j := j) (by rw [BinsWf, hxbins]; exact hwf)
    (by rw [hread]; exact hstate) (by rw [hread, htag]; exact hcall)
  have hvcrane : v.crane = { x.crane with
      pool := s.crane.pool.map fun i => if i.state = .waiting then i else k } := by
    rw [hvframe]
    dsimp only
    rw [hpool]
    refine congrArg (fun l => { x.crane with pool := l }) (List.map_congr_left fun i hi => ?_)
    split
    · rfl
    next hwaits =>
      rw [honly i hi hwaits, hk, hframe]
      rfl
  have hdispatch : dispatch v = v := dispatch_of_not_idle (by
    rw [hvcrane]
    exact fun h => hcrane (hxstate.symm.trans h))
  have hcancel : cancelJob j w = (.cancelled, v) := by
    rw [cancelJob_of_lifted hj hlifted hx, hconvert, hdispatch]
  obtain ⟨t, hexec, ht⟩ := exec_cancel_job htakes hkind hjoining hlow hhigh hjob hcancel (by rw [hvframe, hframe]; rfl)
  have htcrane : t.crane = v.crane := by rw [ht]
  have htread : ∀ m, binAt m t = binAt m v := fun m => by rw [ht]; rfl
  have hcurrent : currentJob t = some k := by
    have hmapped : currentJob (onCurrent (fun _ => k) s) = some k :=
      currentJob_onCurrent (currentJob_of_unique hmem hj honly) hj
    refine (currentJob_congr (s := onCurrent (fun _ => k) s) ?_).trans hmapped
    rw [htcrane, hvcrane]
    rfl
  refine ⟨t, k, hexec, hcurrent, rfl, ?_, ?_, ?_, fun m hm => ?_, ?_, fun hactive p hflight => ?_, fun hstill => ?_⟩
  · rw [htcrane, hvcrane]
  · rw [ht, hvframe, hframe]
    rfl
  · rw [htread, hvread, hread]
  · rw [htread, hvother m hm, hread]
  · rw [ht, hvframe, hframe]
    rfl
  · rw [htcrane, hvcrane, hxmove p hactive hflight]
    rfl
  · rw [htcrane, hvcrane, hxstill hstill]
    rfl

/-- Settles O25: by what the search of the tag finds, and for a job by its state and stage. -/
theorem cancelActsByWhatItFinds : Obligations.CancelActsByWhatItFinds := by
  intro s id r rest htakes hkind hjoining hwf
  dsimp only
  refine ⟨exec_cancel_bad htakes hkind hjoining, fun hlow hhigh hnoJob hnoEntry hcalls => ?_,
    fun hlow hhigh hnoJob hnoEntry i hcall hbefore => ?_,
    fun hlow hhigh hnoJob i p f hat htag holder hbefore => ?_,
    fun hlow hhigh j hfind hrestore hstore hcrane => ?_⟩
  case refine_1 =>
    have hjob := jobWith_eq_none hnoJob
    have hsearch := tagSearch_eq_none hnoEntry hcalls
    exact exec_cancel (u := beginTake id r rest s) htakes hkind hjoining (whereFound_of_none hjob hsearch)
      (cancelBody_of_record (s := beginTake id r rest s) hlow hhigh hjob
        (cancelRecord_of_none (s := beginTake id r rest s) hsearch)) rfl
  case refine_2 =>
    have hjob := jobWith_eq_none hnoJob
    have hsearch := tagSearch_of_call hwf hnoEntry hcall hbefore
    obtain ⟨haway, hlost⟩ := cancelRecord_of_call (s := beginTake id r rest s) hsearch
    exact ⟨fun hstate => exec_cancel (u := beginTake id r rest s) htakes hkind hjoining (whereFound_of_call hjob hsearch)
        (cancelBody_of_record (s := beginTake id r rest s) hlow hhigh hjob (haway hstate)) rfl,
      fun hstate => exec_cancel (u := beginTake id r rest s) htakes hkind hjoining (whereFound_of_call hjob hsearch)
        (cancelBody_of_record (s := beginTake id r rest s) hlow hhigh hjob (hlost hstate)) rfl⟩
  case refine_3 =>
    have hjob := jobWith_eq_none hnoJob
    have hsearch := tagSearch_of_followOn (p := p) hwf (by rw [hat]; exact congrArg some htag) holder hbefore
    obtain ⟨v, hcancel, hframe, hread, hother⟩ :=
      cancelRecord_of_followOn (s := beginTake id r rest s) hwf hsearch hat htag holder
    obtain ⟨t, hexec, ht⟩ := exec_cancel htakes hkind hjoining (whereFound_of_followOn hjob hsearch)
      (cancelBody_of_record (s := beginTake id r rest s) hlow hhigh hjob hcancel) (by rw [hframe]; rfl)
    refine ⟨t, hexec, ?_, ?_, fun k hk => ?_⟩
    · rw [ht, hframe]
      rfl
    · rw [ht]
      exact hread
    · rw [ht]
      exact hother k hk
  case refine_4 =>
    have htag : j.tag = wordAt r.payload 0 := by simpa using List.find?_some hfind
    have hmem := List.mem_of_find?_eq_some hfind
    have hjob : jobWith (wordAt r.payload 0) s = some j := (jobWith_eq_find? (by omega)).trans hfind
    set w := beginTake id r rest s with hw
    refine ⟨fun hj => ?_, fun hj _ hstage => ⟨fun p hflight => ?_, fun hstill => ?_⟩,
      fun hj _ hlifted honly hstate hcall => ?_, fun hj hstage hsent => ?_⟩
    · have hcancel := cancelJob_of_waiting (s := w) hj hcrane hrestore hstore
      rw [cancelRemove_eq (s := w) hrestore hstore, if_pos hj, htag] at hcancel
      exact exec_cancel_job htakes hkind hjoining hlow hhigh hjob hcancel rfl
    · have hcancel := cancelJob_of_unlifted (s := w) hj hstage hcrane hrestore hstore (stopMove_of_move hflight) rfl rfl rfl
      rw [cancelRemove_eq (by exact hrestore) (by exact hstore), if_neg hj, htag] at hcancel
      obtain ⟨t, hexec, ht⟩ := exec_cancel_job htakes hkind hjoining hlow hhigh hjob hcancel rfl
      refine ⟨t, hexec, ?_⟩
      rw [ht]
      rfl
    · have hcancel := cancelJob_of_unlifted (s := w) hj hstage hcrane hrestore hstore (stopMove_of_no_moves hstill) rfl rfl rfl
      rw [cancelRemove_eq (s := w) hrestore hstore, if_neg hj, htag] at hcancel
      exact exec_cancel_job htakes hkind hjoining hlow hhigh hjob hcancel rfl
    · exact exec_cancel_converts htakes hkind hjoining hwf hlow hhigh hjob htag hmem hcrane hj hlifted honly hstate hcall
    · have hcancel := cancelJob_of_placed (s := w) (by rw [hj]; exact nofun) hstage hsent
      exact exec_cancel_job (u := w) htakes hkind hjoining hlow hhigh hjob hcancel rfl

end Sys2Proof.Machine
end

section
/-! PROOF. The end of a RESTART run in RECOVERY with a frozen job: what follows the settling, by whether the crane goes on
with a job or rests (R182, R183). -/

namespace Sys2Proof.Machine

-- Checked one after another: the host bounds the memory of all threads together.
set_option Elab.async false

open Sys2Proof Sys2Proof.Safety

variable {s x y : State} {j k : Job} {loaded : Bool}

/-- A RESTART run of RECOVERY, its HOME in flight, with the frozen job `j` in the pool and an alarm in the view. -/
structure FrozenRestart (s : State) (j : Job) : Prop where
  station : s.ctl.station = .recovery
  run : s.crane.restartRun = true
  homing : s.crane.state = .homing
  flight : s.crane.inFlight = some .home
  pool : s.crane.pool = [j]
  frozen : j.state = .frozen
  view : s.fire.view ≠ 0#8
  restoreWanted : s.crane.restoreWanted = false
  storeWanted : s.crane.storeWanted = false
  wf : BinsWf s

theorem FrozenRestart.notWaiting (h : FrozenRestart s j) : j.state ≠ .waiting := by
  rw [h.frozen]
  exact nofun

/-- The state that HOMED of a RESTART run settles: at the mouth, with the load as reported (R72, R182). -/
def homedEnd (loaded : Bool) (s : State) : State :=
  restartEnded ((reportTaken s).onCrane fun k =>
    { k with pos := some .mouth, load := if loaded then .loaded else .empty })

theorem homedEnd_eq (loaded : Bool) (s : State) : homedEnd loaded s = { s with
    fire := { s.fire with latch := false }
    crane := { s.crane with
      inFlight := none, limit := none, pos := some .mouth, load := if loaded then .loaded else .empty
      restartRun := false } } := rfl

theorem FrozenRestart.current (h : FrozenRestart s j) : currentJob (homedEnd loaded s) = some j :=
  currentJob_of_only h.pool h.notWaiting

/-- What a settled state becomes: the load that no job accounts for, and the crane IDLE or RUNNING (R182). -/
def homedWith (loaded : Bool) (x : State) : State := homedState (strayCarriage loaded x)

/-- What the entry to ACTIVE leaves before its dispatch (R129, R136, R185). -/
def activeEntered (y : State) : State := tryAdvance (shutterTakeUp (settleConditions (setStation .active y)))

/-- Under an alarm the entry to ACTIVE leaves the crane, the Bin Table and the outbound stand alone. -/
theorem activeEntered_keeps (hview : y.fire.view ≠ 0#8) :
    (activeEntered y).ctl.station = .active ∧ (activeEntered y).fire.view = y.fire.view ∧
      (activeEntered y).crane = y.crane ∧ (activeEntered y).bins = y.bins ∧
      (activeEntered y).lanes.outStand = y.lanes.outStand := by
  have hheld : wantedCondition (setStation .active y) = .held :=
    wantedCondition_of_held (by simp) (.inl (by simp [ringHold, hview]))
  obtain ⟨-, hstand, -, -⟩ := settleConditions_keeps_of_not_running (by rw [hheld]; exact nofun)
  refine ⟨by simp [activeEntered], by simp [activeEntered], by simp [activeEntered], by simp [activeEntered], ?_⟩
  simp [activeEntered, hstand]

/-- HOMED of a RESTART run: the frozen job is settled, and the station enters ACTIVE (R182). -/
theorem FrozenRestart.exec_homed (h : FrozenRestart s j) (hx : settleFrozen loaded (homedEnd loaded s) = x) :
    exec (.homed loaded) s = .next (dispatch (activeEntered (homedWith loaded x))) ∧
      (homedWith loaded x).fire.view ≠ 0#8 := by
  set z := (reportTaken s).onCrane fun k => { k with pos := some .mouth, load := if loaded then .loaded else .empty }
    with hz
  have hsettled : restartSettled loaded z = homedWith loaded x := by
    rw [← hx]
    rfl
  have hkeeps := restartSettled_keepsLaws (s := z) (loaded := loaded)
  rw [hsettled] at hkeeps
  refine ⟨?_, fun hview => h.view (hkeeps.view.symm.trans hview)⟩
  rw [exec_homed_restart h.station h.run h.homing h.flight, ← hz, restartCompletes_eq, hsettled,
    if_pos (hkeeps.station.trans h.station)]
  rfl

/-- What the entry to ACTIVE leaves of a settled state where its dispatch starts no job. -/
theorem FrozenRestart.exec_homed_still (h : FrozenRestart s j) (hx : settleFrozen loaded (homedEnd loaded s) = x)
    (hy : homedWith loaded x = y)
    (hstill : y.crane.state ≠ .idle ∨ ∀ k ∈ y.crane.pool, k.kind = .retrieve ∨
      (k.kind = .store ∨ k.kind = .audit) ∧ y.crane.carriage ≠ .nothing) :
    ∃ t, exec (.homed loaded) s = .next t ∧ t.ctl.station = .active ∧ t.crane = y.crane ∧ t.bins = y.bins ∧
      t.lanes.outStand = y.lanes.outStand := by
  obtain ⟨hexec, hview⟩ := h.exec_homed hx
  rw [hy] at hexec hview
  obtain ⟨hstation, hvview, hcrane, hbins, hstand⟩ := activeEntered_keeps hview
  have hdispatch : dispatch (activeEntered y) = activeEntered y := by
    rcases hstill with hstate | hpool
    · exact dispatch_of_not_idle (by rw [hcrane]; exact hstate)
    · refine dispatch_of_none_eligible fun k hk => ?_
      rw [hcrane] at hk
      rcases hpool k hk with hkind | ⟨hkind | hkind, hcarriage⟩
      · simp [eligible, hkind, hvview, hview]
      · simp [eligible, hkind, carriageEmpty, hcrane, hcarriage]
      · simp [eligible, hkind, carriageEmpty, hcrane, hcarriage]
  rw [hdispatch] at hexec
  exact ⟨_, hexec, hstation, hcrane, hbins, hstand⟩

/-- The settling has left the crane a job to go on with (R182, R183). -/
theorem FrozenRestart.goes_on (h : FrozenRestart s j) (hx : settleFrozen loaded (homedEnd loaded s) = x)
    (hcurrent : currentJob x = some k) :
    ∃ t, exec (.homed loaded) s = .next t ∧ t.ctl.station = .active ∧ t.crane = { x.crane with state := .running } ∧
      t.bins = x.bins ∧ t.lanes.outStand = x.lanes.outStand := by
  have hstray : strayCarriage loaded x = x := if_neg (by simp [carriageAccounted, hcurrent])
  have hy : homedWith loaded x = x.onCrane fun k => { k with state := .running } := by
    rw [homedWith, hstray, homedState, hcurrent]
    rfl
  exact h.exec_homed_still hx hy (.inl nofun)

/-- The settling has left no job current, and the carriage is empty (R182, R183). -/
theorem FrozenRestart.rests (h : FrozenRestart s j) (hx : settleFrozen false (homedEnd false s) = x)
    (hcurrent : currentJob x = none) (hpool : ∀ k ∈ x.crane.pool, k.kind = .retrieve) :
    ∃ t, exec (.homed false) s = .next t ∧ t.ctl.station = .active ∧ t.crane = { x.crane with state := .idle } ∧
      t.bins = x.bins ∧ t.lanes.outStand = x.lanes.outStand := by
  have hy : homedWith false x = x.onCrane fun k => { k with state := .idle } := by
    rw [homedWith, strayCarriage_empty, homedState, hcurrent]
    rfl
  exact h.exec_homed_still hx hy (.inr fun k hk => .inl (hpool k hk))

/-- The settling has left no job that accounts for the load: the carriage is a stray (R182, R183). -/
theorem FrozenRestart.rests_strayed (h : FrozenRestart s j) (hx : settleFrozen true (homedEnd true s) = x)
    (hcurrent : currentJob x = none) (hpool : ∀ k ∈ x.crane.pool, k.kind = .retrieve ∨ k.kind = .store ∨ k.kind = .audit)
    (hcarriage : x.crane.carriage = .nothing) :
    ∃ t, exec (.homed true) s = .next t ∧ t.ctl.station = .active ∧
      t.crane = { x.crane with state := .idle, carriage := .stray, restoreWanted := false } ∧
      t.bins = x.bins ∧ t.lanes.outStand = x.lanes.outStand := by
  set w := raise (.stray 0) (x.onCrane fun k => { k with carriage := .stray, restoreWanted := false }) with hw
  have hunaccounted : carriageAccounted x = false := by
    rw [carriageAccounted, hcurrent]
    refine List.any_eq_false.2 fun k hk => ?_
    rcases hpool k hk with hkind | hkind | hkind <;> simp [hkind]
  have hstray : strayCarriage true x = w := if_pos (by simp [hunaccounted, hcarriage])
  have hwcurrent : currentJob w = none := (currentJob_congr (s := x) (by simp [w])).trans hcurrent
  have hy : homedWith true x = w.onCrane fun k => { k with state := .idle } := by
    rw [homedWith, hstray, homedState, hwcurrent]
    rfl
  obtain ⟨t, hexec, hstation, hcrane, hbins, hstand⟩ := h.exec_homed_still hx hy (.inr fun k hk =>
    (hpool k (by simpa [w] using hk)).imp_right fun hkind => ⟨hkind, by simp [w]⟩)
  exact ⟨t, hexec, hstation, by simpa [w] using hcrane, by simpa [w] using hbins, by simpa [w] using hstand⟩

/-- The only job, an AUDIT at its travel elsewhere, starts with its MOVE (R78, R80). -/
theorem startJob_of_audit {q : Position} (hpool : y.crane.pool = [k]) (hkind : k.kind = .audit) (hstage : k.stage = .travel)
    (hpos : y.crane.pos = some q) (hne : q ≠ positionOf k.nextIndex) :
    startJob 0 y = y.onCrane fun c => { c with
      state := .running, pool := [{ k with state := .active }], inFlight := some (.move (positionOf k.nextIndex))
      limit := some (2 * moveTime y.ctl.setup q (positionOf k.nextIndex) + 2000)
      lastSent := some (.move (positionOf k.nextIndex)) } := by
  have htarget : travelTarget { k with state := .active } = some (positionOf k.nextIndex) := by
    unfold travelTarget
    dsimp only
    rw [hkind, hstage]
  set w := y.onCrane fun c => { c with state := .running, pool := [{ k with state := .active }] } with hw
  have hset : y.crane.pool.set 0 { k with state := .active } = [{ k with state := .active }] := by
    rw [hpool]
    rfl
  have hcontinuity : continuityAfter k.kind y.crane = y.crane.continuity := by
    rw [hkind]
    rfl
  have hstart : startJob 0 y = beginStage w := by
    unfold startJob
    rw [show y.crane.pool[0]? = some k by simp [hpool]]
    dsimp only
    rw [if_neg (by rw [hkind]; exact nofun), hw]
    unfold State.onCrane
    dsimp only
    rw [hset, hcontinuity]
  rw [hstart, beginStage_moves (s := w) (currentJob_of_only rfl nofun) htarget
    (by rw [show w.crane.pos = some q from hpos]; simpa using hne), sendDrive_move (s := w) (q := q) hpos]
  rfl

/-- The settling has left a single AUDIT waiting, and the carriage is empty: it starts again at once (R82, R183). -/
theorem FrozenRestart.audit_starts (h : FrozenRestart s j) (hx : settleFrozen false (homedEnd false s) = x)
    (hpool : x.crane.pool = [k]) (hkind : k.kind = .audit) (hwaiting : k.state = .waiting) (hstage : k.stage = .travel)
    (hload : x.crane.load = .empty) (hcarriage : x.crane.carriage = .nothing) (hpos : x.crane.pos = some .mouth) :
    ∃ t, exec (.homed false) s = .next t ∧ t.ctl.station = .active ∧ t.crane.state = .running ∧
      t.crane.inFlight = some (.move (positionOf k.nextIndex)) ∧ t.bins = x.bins ∧
      t.crane.pool = [{ k with state := .active }] := by
  have hcurrent : currentJob x = none := by
    rw [currentJob, hpool]
    exact List.find?_cons_of_neg (by simp [hwaiting])
  have hy : homedWith false x = x.onCrane fun k => { k with state := .idle } := by
    rw [homedWith, strayCarriage_empty, homedState, hcurrent]
    rfl
  obtain ⟨hexec, hview⟩ := h.exec_homed hx
  rw [hy] at hexec hview
  obtain ⟨hstation, -, hcrane, hbins, -⟩ := activeEntered_keeps hview
  set v := activeEntered (x.onCrane fun k => { k with state := .idle }) with hv
  have hvpool : v.crane.pool = [k] := by rw [hcrane]; exact hpool
  have helig : eligible v k = true := by
    simp [eligible, hwaiting, hkind, hstation, carriageEmpty, hcrane, hload, hcarriage]
  have hstart := startJob_of_audit (y := v) hvpool hkind hstage (by rw [hcrane]; exact hpos)
    (by simp [positionOf, Position.mouth])
  have hdispatch : dispatch v = startJob 0 v := by
    refine dispatch_of_only (by rw [hcrane]; rfl) (by simp [dispatches, hstation]) (by rw [hvpool]; rfl) helig
      (fun m i hi _ => ?_) (by rw [hstart]; exact nofun)
    rw [hvpool] at hi
    have hm := (List.getElem?_eq_some_iff.1 hi).1
    simpa using hm
  rw [hdispatch, hstart] at hexec
  exact ⟨_, hexec, hstation, rfl, rfl, hbins, rfl⟩

end Sys2Proof.Machine
end

section
/-! PROOF. How the frozen job is settled, by its kind, its stage and the load reported (R183). -/

namespace Sys2Proof.Machine

-- Checked one after another: the host bounds the memory of all threads together.
set_option Elab.async false

open Sys2Proof Sys2Proof.Safety

variable {s t x : State} {j k : Job} {loaded has : Bool} {st : Stage} {p : Position} {i side : Nat} {op : ForkOp} {c : Carry}

theorem positionOf_ne_mouth (i : Nat) : positionOf i ≠ Position.mouth := by
  simp [positionOf, Position.mouth]

theorem binAt_of_bins (h : t.bins = s.bins) (i : Nat) : binAt i t = binAt i s := by
  rw [binAt, h, binAt]

/-! ### The settling by the job's kind (R183) -/

theorem settleFrozen_retrieve (hcurrent : currentJob s = some j) (hkind : j.kind = .retrieve) :
    settleFrozen loaded s = settleRetrieve loaded j s := by
  unfold settleFrozen
  rw [hcurrent]
  dsimp only
  rw [hkind]

theorem settleFrozen_store (hcurrent : currentJob s = some j) (hkind : j.kind = .store) :
    settleFrozen loaded s = settleStore loaded j s := by
  unfold settleFrozen
  rw [hcurrent]
  dsimp only
  rw [hkind]

theorem settleFrozen_restore {m : Target} (hcurrent : currentJob s = some j) (hkind : j.kind = .restore m) :
    settleFrozen loaded s = if loaded then activeAt .travelLoaded s else finishJob j s := by
  unfold settleFrozen
  rw [hcurrent]
  dsimp only
  rw [hkind]

theorem settleFrozen_audit (hcurrent : currentJob s = some j) (hkind : j.kind = .audit) :
    settleFrozen loaded s = backToWaiting .travel s := by
  unfold settleFrozen
  rw [hcurrent]
  dsimp only
  rw [hkind]

theorem unlifted_iff : unlifted j = true ↔ j.stage = .travelEmpty ∨ j.stage = .forkPick ∧ j.sent = false := by
  simp [unlifted]

/-- A job with the bin on the carriage, or its place sent, has its pick behind it. -/
theorem not_unlifted_of_carrying (h : j.stage = .travelLoaded ∨ j.stage = .forkPlace ∧ j.sent = true) :
    ¬ unlifted j = true ∧ j.stage ≠ .forkPick := by
  rcases h with hstage | ⟨hstage, -⟩
  · exact ⟨by simp [unlifted, hstage], by simp [hstage]⟩
  · exact ⟨by simp [unlifted, hstage], by simp [hstage]⟩

/-! ### The job waits again, or goes on (R183) -/

theorem backToWaiting_of_only (hpool : s.crane.pool = [j]) (hj : j.state ≠ .waiting) :
    backToWaiting st s =
      s.onCrane fun k => { k with pool := [{ j with state := .waiting, stage := st, sent := false }] } :=
  onCurrent_of_only hpool hj

theorem activeAt_of_only (hpool : s.crane.pool = [j]) (hj : j.state ≠ .waiting) :
    activeAt st s = beginStage (s.onCrane fun k => { k with
      state := .running, pool := [{ j with state := .active, stage := st, sent := false }] }) := by
  unfold activeAt
  rw [onCurrent_of_only hpool hj]
  rfl

/-- The only job goes on with the travel to its bin's location. -/
theorem activeAt_moves (hpool : s.crane.pool = [j]) (hj : j.state ≠ .waiting) (hkind : j.kind = .store ∨ j.kind = .restore .rack)
    (hpos : s.crane.pos = some .mouth) :
    activeAt .travelLoaded s = s.onCrane fun k => { k with
      state := .running, pool := [{ j with state := .active, stage := .travelLoaded, sent := false }]
      inFlight := some (.move (positionOf (j.bin % 2048))), lastSent := some (.move (positionOf (j.bin % 2048)))
      limit := some (2 * moveTime s.ctl.setup .mouth (positionOf (j.bin % 2048)) + 2000) } := by
  have htarget : travelTarget { j with state := .active, stage := .travelLoaded, sent := false } =
      some (positionOf (j.bin % 2048)) := by
    unfold travelTarget
    dsimp only
    rcases hkind with hkind | hkind
    · rw [hkind]
      rfl
    · rw [hkind]
      rfl
  rw [activeAt_of_only hpool hj]
  set w := s.onCrane fun k => { k with
    state := .running, pool := [{ j with state := .active, stage := .travelLoaded, sent := false }] } with hw
  have hwpos : w.crane.pos = some .mouth := hpos
  rw [beginStage_moves (s := w) (currentJob_of_only rfl nofun) htarget
    (by rw [hwpos]; simpa using (positionOf_ne_mouth _).symm), sendDrive_move hwpos]
  rfl

/-- The FORK of the only job is sent (R70). -/
theorem sendFork_of_only (hpool : s.crane.pool = [j]) (hj : j.state ≠ .waiting) :
    sendFork side op s = s.onCrane fun k => { k with
      pool := [{ j with sent := true }], inFlight := some (.fork side op), lastSent := some (.fork side op)
      limit := some (driveLimit (.fork side op) s) } := by
  unfold sendFork
  rw [onCurrent_of_only hpool hj]
  rfl

/-! ### The Bin Table (R57, R58) -/

theorem storeBegin_of_out (h : (binAt i s).state = .out) :
    storeBegin i s = (true, putBin i { binAt i s with state := .storing } s) := if_pos h

/-- Restore end on a LIFTING record that hands no follow-on back (R58). -/
theorem restoreEnd_of_lifting (h : (binAt i s).state = .lifting)
    (hback : handBack has (binAt i s).followOns = (none, (binAt i s).followOns)) :
    restoreEnd i has s = (some none, putBin i { binAt i s with state := .stored, call := none } s) := by
  unfold restoreEnd
  dsimp only
  rw [if_pos h, hback]

theorem handBack_with_retrieve (l : List FollowOn) : handBack true l = (none, l) := by
  cases l <;> rfl

theorem handBack_nil : handBack has [] = (none, []) := by
  cases has <;> rfl

/-! ### A RETRIEVE (R183) -/

/-- The job waits at its first stage again, and the outbound stand's reservation is released. -/
def retrieveWaits (j : Job) (s : State) : State := { s with
  lanes := standFreed s
  crane := { s.crane with pool := [{ j with state := .waiting, stage := .travelEmpty, sent := false }] } }

theorem releaseStand_backToWaiting (hpool : s.crane.pool = [j]) (hj : j.state ≠ .waiting) :
    releaseStand (backToWaiting .travelEmpty s) = retrieveWaits j s := by
  rw [backToWaiting_of_only hpool hj, releaseStand_eq]
  rfl

theorem currentJob_retrieveWaits : currentJob (retrieveWaits j s) = none := rfl

theorem retrieveWaits_outStand (hstand : s.lanes.outStand = .reserved) :
    (retrieveWaits j s).lanes.outStand = .empty := by
  rw [retrieveWaits, standFreed, if_pos hstand]

theorem settle_retrieve_unlifted (hcurrent : currentJob s = some j) (hpool : s.crane.pool = [j]) (hkind : j.kind = .retrieve)
    (hunlifted : unlifted j = true) : settleFrozen loaded s = retrieveWaits j s := by
  rw [settleFrozen_retrieve hcurrent hkind, settleRetrieve, if_pos hunlifted,
    releaseStand_backToWaiting hpool (state_of_currentJob hcurrent)]

theorem settle_retrieve_not_picked (hcurrent : currentJob s = some j) (hpool : s.crane.pool = [j])
    (hkind : j.kind = .retrieve) (hstage : j.stage = .forkPick) (hsent : j.sent = true)
    (hlifting : (binAt (j.bin % 2048) s).state = .lifting) :
    settleFrozen false s = retrieveWaits j
      (putBin (j.bin % 2048) { binAt (j.bin % 2048) s with state := .stored, call := none } s) := by
  have hlifted : ¬ unlifted j = true := by simp [unlifted, hstage, hsent]
  have hend : (restoreEnd (indexOf j.bin) true s).2 =
      putBin (j.bin % 2048) { binAt (j.bin % 2048) s with state := .stored, call := none } s :=
    congrArg Prod.snd (restoreEnd_of_lifting hlifting (handBack_with_retrieve _))
  rw [settleFrozen_retrieve hcurrent hkind, settleRetrieve, if_neg hlifted, if_neg nofun, if_pos hstage, hend]
  exact releaseStand_backToWaiting (by exact hpool) (state_of_currentJob hcurrent)

/-- The place was made before the fire: the outbound stand holds the call's bin (R75, R183). -/
theorem settle_retrieve_placed {q : Call} (hcurrent : currentJob s = some j) (hpool : s.crane.pool = [j])
    (hkind : j.kind = .retrieve) (hcarrying : j.stage = .travelLoaded ∨ j.stage = .forkPlace ∧ j.sent = true)
    (hlifting : (binAt (j.bin % 2048) s).state = .lifting) (hcall : (binAt (j.bin % 2048) s).call = some q)
    (hrestore : s.crane.restoreWanted = false) (hstore : s.crane.storeWanted = false) :
    settleFrozen false s = holdOutStand (standCarry j.bin q)
      ((putBin (j.bin % 2048) { binAt (j.bin % 2048) s with state := .out } s).onCrane fun k => { k with pool := [] }) := by
  obtain ⟨hlifted, hstage⟩ := not_unlifted_of_carrying hcarrying
  have hlift : liftEnd (indexOf j.bin) s =
      (some (some q), putBin (j.bin % 2048) { binAt (j.bin % 2048) s with state := .out } s) :=
    (liftEnd_of_lifting hlifting).trans (by rw [hcall])
  rw [settleFrozen_retrieve hcurrent hkind, settleRetrieve, if_neg hlifted, if_neg nofun, if_neg hstage,
    finishRetrieve_called (c := q) (by rw [hlift]; rfl), hlift]
  dsimp only
  rw [removeCurrent_of_only (by exact hpool) (state_of_currentJob hcurrent)]
  exact recordFreed_of_nothing_wanted (by simpa using hrestore) (by simpa using hstore)

/-- The RETRIEVE that the call of a converted job is offered as (R183). -/
def offeredAgain (j : Job) (s : State) : Job :=
  { retrieveJob j.bin j.tag j.port j.purpose j.urgency with
    stamp := s.est.time, est := estOf s.ctl.setup (retrieveJob j.bin j.tag j.port j.purpose j.urgency) }

/-- The bin is on the carriage: the RETRIEVE becomes a RESTORE under way, and its call is offered again (R183). -/
theorem settle_retrieve_converts (hcurrent : currentJob s = some j) (hpool : s.crane.pool = [j]) (hkind : j.kind = .retrieve)
    (hlifted : ¬ unlifted j = true) (hlifting : (binAt (j.bin % 2048) s).state = .lifting)
    (hcall : (binAt (j.bin % 2048) s).call.map Call.tag = some j.tag) (hpos : s.crane.pos = some .mouth) :
    ∃ x, settleFrozen true s = x ∧
      x.crane.pool = [{ asRestore s.est.time s.ctl.setup j with state := .active }, offeredAgain j s] ∧
      x.crane.inFlight = some (.move (positionOf (j.bin % 2048))) ∧ x.lanes = standFreed s ∧
      x.bins = (putBin (j.bin % 2048) { binAt (j.bin % 2048) s with call := none } s).bins := by
  have hj := state_of_currentJob hcurrent
  set u := s.onCrane fun k => { k with pool := [asRestore s.est.time s.ctl.setup j] } with hu
  set w := releaseStand (putBin (j.bin % 2048) { binAt (j.bin % 2048) s with call := none } u) with hw
  have hconvert : convertCurrent j s = w := by
    unfold convertCurrent
    dsimp only
    rw [onCurrent_of_only hpool hj, ← hu, callClear_of_lifting (s := u) (by exact hlifting) (by exact hcall)]
    rfl
  have hwframe : w = { putBin (j.bin % 2048) { binAt (j.bin % 2048) s with call := none } u with lanes := standFreed s } := by
    rw [hw, releaseStand_eq]
    rfl
  have hactive := activeAt_moves (s := w) (j := asRestore s.est.time s.ctl.setup j) (by rw [hwframe]; rfl) hj (.inr rfl)
    (by rw [hwframe]; exact hpos)
  set v := activeAt .travelLoaded w with hv
  have hvpool : v.crane.pool = [{ asRestore s.est.time s.ctl.setup j with state := .active }] := by
    rw [hactive]
    rfl
  have hoffer : offerJob (retrieveJob j.bin j.tag j.port j.purpose j.urgency) v =
      (.entered, v.onCrane fun k => { k with pool := k.pool ++ [offeredAgain j s] }) := by
    rw [offerJob_retrieve_of_room rfl (by rw [retrieveFor, hvpool]; rfl) 
      (by rw [hvpool]; exact Nat.lt_of_le_of_lt (List.length_filter_le _ _) (by simp)) (by simp [hvpool]),
      hactive, hwframe]
    rfl
  have hsettled : settleFrozen true s = v.onCrane fun k => { k with pool := k.pool ++ [offeredAgain j s] } := by
    rw [settleFrozen_retrieve hcurrent hkind, settleRetrieve, if_neg hlifted, if_pos rfl]
    unfold convertFrozen
    dsimp only
    rw [hconvert, ← hv, hoffer]
  refine ⟨_, hsettled, ?_, ?_, ?_, ?_⟩
  · rw [State.onCrane_crane, hvpool]
    rfl
  · rw [State.onCrane_crane, hactive]
    rfl
  · show v.lanes = _
    rw [hactive, hwframe]
    rfl
  · show v.bins = _
    rw [hactive, hwframe]
    rfl

/-! ### A STORE (R183) -/

theorem settle_store_unlifted_loaded (hcurrent : currentJob s = some j) (hpool : s.crane.pool = [j])
    (hkind : j.kind = .store) (hunlifted : unlifted j = true) :
    settleFrozen true s =
      s.onCrane fun k => { k with pool := [{ j with state := .waiting, stage := .travelEmpty, sent := false }] } := by
  rw [settleFrozen_store hcurrent hkind, settleStore, if_pos hunlifted, if_pos rfl,
    backToWaiting_of_only hpool (state_of_currentJob hcurrent)]

/-- The STORE goes on with its pick: store begin is asked (R76, R183). -/
theorem settle_store_unlifted_empty (hcurrent : currentJob s = some j) (hpool : s.crane.pool = [j])
    (hkind : j.kind = .store) (hunlifted : unlifted j = true) (hown : idIsOwn s j.bin)
    (hout : (binAt (j.bin % 2048) s).state = .out) :
    settleFrozen false s =
      (putBin (j.bin % 2048) { binAt (j.bin % 2048) s with state := .storing } s).onCrane fun k => { k with
        state := .running, pool := [{ j with state := .active, stage := .forkPick, sent := true }]
        inFlight := some (.fork 1 .pick), lastSent := some (.fork 1 .pick)
        limit := some (driveLimit (.fork 1 .pick) s) } := by
  set w := s.onCrane fun k => { k with
    state := .running, pool := [{ j with state := .active, stage := .forkPick, sent := false }] } with hw
  have hwcurrent : currentJob w = some { j with state := .active, stage := .forkPick, sent := false } :=
    currentJob_of_only rfl nofun
  have htarget : travelTarget { j with state := .active, stage := .forkPick, sent := false } = none := by
    unfold travelTarget
    dsimp only
    rw [hkind]
  have hclass : classify j.bin w = .own := (classify_eq_own_iff j.bin).2 hown
  have hbegin : storeBegin (indexOf j.bin) w =
      (true, putBin (j.bin % 2048) { binAt (j.bin % 2048) s with state := .storing } w) := storeBegin_of_out hout
  have hfork : beginFork w = sendFork 1 .pick
      (putBin (j.bin % 2048) { binAt (j.bin % 2048) s with state := .storing } w) := by
    unfold beginFork
    rw [hwcurrent]
    dsimp only
    rw [hkind]
    dsimp only
    rw [hclass, hbegin, if_pos (by rfl)]
  rw [settleFrozen_store hcurrent hkind, settleStore, if_pos hunlifted, if_neg nofun,
    activeAt_of_only hpool (state_of_currentJob hcurrent), ← hw, beginStage_forks hwcurrent htarget, hfork,
    sendFork_of_only (s := putBin _ _ w) (j := { j with state := .active, stage := .forkPick, sent := false }) rfl nofun]
  rfl

/-- The STORE's pick was made before the fire: the carriage takes the stand's record, and the travel begins (R76, R183). -/
theorem settle_store_picked (hcurrent : currentJob s = some j) (hpool : s.crane.pool = [j]) (hkind : j.kind = .store)
    (hstage : j.stage = .forkPick) (hsent : j.sent = true) (hstand : s.lanes.inStand = .holding c)
    (hpos : s.crane.pos = some .mouth) :
    ∃ x, settleFrozen true s = x ∧ currentJob x = some { j with state := .active, stage := .travelLoaded, sent := false } ∧
      x.crane.inFlight = some (.move (positionOf (j.bin % 2048))) ∧ x.crane.carriage = .carrying c ∧ x.bins = s.bins := by
  have hlifted : ¬ unlifted j = true := by simp [unlifted, hstage, hsent]
  set w := emptyInStand (s.onCrane fun k => { k with carriage := .carrying c }) with hw
  have hpicked : storePicked s = w := by
    unfold storePicked
    rw [hstand]
  have hactive := activeAt_moves (s := w) (j := j) (by simpa [w] using hpool) (state_of_currentJob hcurrent) (.inl hkind)
    (by simpa [w] using hpos)
  refine ⟨activeAt .travelLoaded w, ?_, ?_, ?_, ?_, ?_⟩
  · rw [settleFrozen_store hcurrent hkind, settleStore, if_neg hlifted, if_pos hstage, if_pos rfl, hpicked]
  · rw [hactive]
    exact currentJob_of_only rfl nofun
  · rw [hactive]
    rfl
  · simp [hactive, w]
  · simp [hactive, w]

/-- The STORE's pick is sent again (R183). -/
theorem settle_store_not_picked (hcurrent : currentJob s = some j) (hpool : s.crane.pool = [j]) (hkind : j.kind = .store)
    (hstage : j.stage = .forkPick) (hsent : j.sent = true) :
    settleFrozen false s = s.onCrane fun k => { k with
      state := .running, pool := [{ j with state := .active, sent := true }]
      inFlight := some (.fork 1 .pick), lastSent := some (.fork 1 .pick)
      limit := some (driveLimit (.fork 1 .pick) s) } := by
  have hlifted : ¬ unlifted j = true := by simp [unlifted, hstage, hsent]
  rw [settleFrozen_store hcurrent hkind, settleStore, if_neg hlifted, if_pos hstage, if_neg nofun,
    onCurrent_of_only hpool (state_of_currentJob hcurrent), sendFork_of_only (j := { j with state := .active }) rfl nofun]
  rfl

/-! ### A bin bound for the rack (R183) -/

/-- The bin is on the carriage: the travel to its location begins. -/
theorem settle_racked_loaded (hcurrent : currentJob s = some j) (hpool : s.crane.pool = [j])
    (hkind : j.kind = .store ∨ j.kind = .restore .rack)
    (hcarrying : j.stage = .travelLoaded ∨ j.stage = .forkPlace ∧ j.sent = true) (hpos : s.crane.pos = some .mouth) :
    settleFrozen true s = s.onCrane fun k => { k with
      state := .running, pool := [{ j with state := .active, stage := .travelLoaded, sent := false }]
      inFlight := some (.move (positionOf (j.bin % 2048))), lastSent := some (.move (positionOf (j.bin % 2048)))
      limit := some (2 * moveTime s.ctl.setup .mouth (positionOf (j.bin % 2048)) + 2000) } := by
  obtain ⟨hlifted, hstage⟩ := not_unlifted_of_carrying hcarrying
  rw [← activeAt_moves hpool (state_of_currentJob hcurrent) hkind hpos]
  rcases hkind with hkind | hkind
  · rw [settleFrozen_store hcurrent hkind, settleStore, if_neg hlifted, if_neg hstage, if_pos rfl]
  · rw [settleFrozen_restore hcurrent hkind, if_pos rfl]

/-- The place was made before the fire: the record is STORED, and the job is gone. -/
theorem settle_racked_empty (hcurrent : currentJob s = some j) (hpool : s.crane.pool = [j])
    (hkind : j.kind = .store ∨ j.kind = .restore .rack)
    (hcarrying : j.stage = .travelLoaded ∨ j.stage = .forkPlace ∧ j.sent = true)
    (hstate : (binAt (j.bin % 2048) s).state = if j.kind = .store then .storing else .lifting)
    (hlist : (binAt (j.bin % 2048) s).followOns = []) (hrestore : s.crane.restoreWanted = false)
    (hstore : s.crane.storeWanted = false) :
    ∃ x, settleFrozen false s = x ∧ x.crane.pool = [] ∧
      x.bins = (putBin (j.bin % 2048) { binAt (j.bin % 2048) s with state := .stored, call := none } s).bins := by
  have hj := state_of_currentJob hcurrent
  obtain ⟨hlifted, hstage⟩ := not_unlifted_of_carrying hcarrying
  set b : BinRec := { binAt (j.bin % 2048) s with state := .stored, call := none } with hb
  have hfreed : ∀ u : State, u.crane.restoreWanted = s.crane.restoreWanted → u.crane.storeWanted = s.crane.storeWanted →
      recordFreed u = u := fun u h h' => recordFreed_of_nothing_wanted (h.trans hrestore) (h'.trans hstore)
  rcases hkind with hkind | hkind
  · set v := s.onCrane fun k => { k with pool := [], carriage := .nothing } with hv
    set u := raise (.stored (ownBin (j.bin % 2048) v) b.fill) (putBin (j.bin % 2048) b v) with hu
    have hgone : ((removeCurrent s).onCrane fun k => { k with carriage := .nothing }) = v := by
      rw [removeCurrent_of_only hpool hj]
      rfl
    have hend : storeEnd (indexOf j.bin) (hasRetrieve (indexOf j.bin) v) v = (some none, u) :=
      storeEnd_of_storing (s := v) (by rw [if_pos hkind] at hstate; exact hstate) hlist
    have hfinished : finishStore j s = u := by
      unfold finishStore
      dsimp only
      rw [hgone, hend]
      exact hfreed u (by simp [u, v]) (by simp [u, v])
    refine ⟨u, ?_, by simp [u, v], ?_⟩
    · rw [settleFrozen_store hcurrent hkind, settleStore, if_neg hlifted, if_neg hstage, if_neg nofun, hfinished]
    · have hbins : u.bins = (putBin (j.bin % 2048) b v).bins := by simp [u]
      exact hbins
  · set v := s.onCrane fun k => { k with pool := [] } with hv
    have hend : restoreEnd (indexOf j.bin) (hasRetrieve (indexOf j.bin) v) v = (some none, putBin (j.bin % 2048) b v) :=
      restoreEnd_of_lifting (s := v) (by rw [if_neg (by simp [hkind])] at hstate; exact hstate)
        (by rw [show (binAt (indexOf j.bin) v).followOns = [] from hlist]; exact handBack_nil)
    have hfinished : finishRestore j s = putBin (j.bin % 2048) b v := by
      unfold finishRestore
      dsimp only
      rw [removeCurrent_of_only hpool hj, hend]
      exact hfreed _ rfl rfl
    refine ⟨putBin (j.bin % 2048) b v, ?_, rfl, rfl⟩
    rw [settleFrozen_restore hcurrent hkind, if_neg nofun]
    unfold finishJob
    rw [hkind]
    exact hfinished

/-! ### A RESTORE to the outbound stand (R183) -/

/-- The carriage stands at the mouth with the bin: the place begins at once. -/
theorem settle_toStand_loaded (hcurrent : currentJob s = some j) (hpool : s.crane.pool = [j])
    (hkind : j.kind = .restore .outStand) (hpos : s.crane.pos = some .mouth) :
    settleFrozen true s = s.onCrane fun k => { k with
      state := .running, pool := [{ j with state := .active, stage := .forkPlace, sent := true }]
      inFlight := some (.fork 0 .place), lastSent := some (.fork 0 .place)
      limit := some (driveLimit (.fork 0 .place) s) } := by
  set w := s.onCrane fun k => { k with
    state := .running, pool := [{ j with state := .active, stage := .travelLoaded, sent := false }] } with hw
  set v := w.onCrane fun k => { k with
    pool := [{ j with state := .active, stage := .forkPlace, sent := false }] } with hv
  have htarget : travelTarget { j with state := .active, stage := .travelLoaded, sent := false } = some Position.mouth := by
    unfold travelTarget
    dsimp only
    rw [hkind]
  have hfork : beginFork v = sendFork 0 .place v := by
    unfold beginFork
    rw [currentJob_of_only (s := v) (j := { j with state := .active, stage := .forkPlace, sent := false }) rfl nofun]
    dsimp only
    rw [hkind]
  rw [settleFrozen_restore hcurrent hkind, if_pos rfl, activeAt_of_only hpool (state_of_currentJob hcurrent), ← hw,
    beginStage_arrives (s := w) (currentJob_of_only rfl nofun) htarget hpos,
    advanceStage_of_only (s := w) (j := { j with state := .active, stage := .travelLoaded, sent := false }) rfl nofun]
  refine hfork.trans ?_
  rw [sendFork_of_only (s := v) (j := { j with state := .active, stage := .forkPlace, sent := false }) rfl nofun]
  rfl

/-- The place was made before the fire: the outbound stand holds the carriage's bin (R77, R183). -/
theorem settle_toStand_empty (hcurrent : currentJob s = some j) (hpool : s.crane.pool = [j])
    (hkind : j.kind = .restore .outStand) (hcarriage : s.crane.carriage = .carrying c)
    (hrestore : s.crane.restoreWanted = false) (hstore : s.crane.storeWanted = false) :
    settleFrozen false s = holdOutStand c (s.onCrane fun k => { k with pool := [], carriage := .nothing }) := by
  have hgone : ((removeCurrent s).onCrane fun k => { k with carriage := .nothing }) =
      s.onCrane fun k => { k with pool := [], carriage := .nothing } := by
    rw [removeCurrent_of_only hpool (state_of_currentJob hcurrent)]
    rfl
  rw [settleFrozen_restore hcurrent hkind, if_neg nofun]
  unfold finishJob
  rw [hkind]
  dsimp only
  unfold finishToStand
  dsimp only
  rw [hgone, hcarriage]
  exact recordFreed_of_nothing_wanted (by simpa using hrestore) (by simpa using hstore)

end Sys2Proof.Machine
end

section
/-! PROOF. The obligation on the frozen job of a RESTART run (R183). -/

namespace Sys2Proof.Machine

-- Checked one after another: the host bounds the memory of all threads together.
set_option Elab.async false

open Sys2Proof Sys2Proof.Safety

variable {s : State} {j : Job} {c : Carry} {loaded : Bool}

/-- The record written by the settling, and the others, as the state that HOMED leaves shows them. -/
theorem binAt_of_putBin {t : State} {b : BinRec} {i : Nat} (hwf : BinsWf s) (h : t.bins = (putBin i b s).bins) :
    binAt i t = b ∧ ∀ m, m ≠ i → binAt m t = binAt m s :=
  ⟨(binAt_of_bins h i).trans (binAt_putBin hwf i b),
    fun m hm => (binAt_of_bins h m).trans (binAt_putBin_other hwf hm b)⟩

/-! ### A RETRIEVE -/

theorem FrozenRestart.retrieve_unlifted (h : FrozenRestart s j) (hkind : j.kind = .retrieve) (hunlifted : unlifted j = true)
    (hcarriage : s.crane.carriage = .nothing) (hstand : s.lanes.outStand = .reserved) :
    (∃ t, (exec (.homed true) s = .next t ∧ t.ctl.station = .active) ∧
      t.crane.pool = [{ j with state := .waiting, stage := .travelEmpty, sent := false }] ∧ t.lanes.outStand = .empty ∧
      t.crane.state = .idle ∧ t.crane.carriage = .stray ∧ t.bins = s.bins) ∧
    (∃ t, (exec (.homed false) s = .next t ∧ t.ctl.station = .active) ∧
      t.crane.pool = [{ j with state := .waiting, stage := .travelEmpty, sent := false }] ∧ t.lanes.outStand = .empty ∧
      t.crane.state = .idle ∧ t.crane.carriage = .nothing ∧ t.bins = s.bins) := by
  have hsettled : ∀ l, settleFrozen l (homedEnd l s) = retrieveWaits j (homedEnd l s) := fun l =>
    settle_retrieve_unlifted h.current h.pool hkind hunlifted
  have hfreed : ∀ l, (retrieveWaits j (homedEnd l s)).lanes.outStand = .empty := fun l => retrieveWaits_outStand hstand
  refine ⟨?_, ?_⟩
  · obtain ⟨t, hexec, hstation, hcrane, hbins, hout⟩ := h.rests_strayed (hsettled true) rfl
      (fun k hk => .inl (by rw [List.mem_singleton.1 hk]; exact hkind)) hcarriage
    exact ⟨t, ⟨hexec, hstation⟩, by rw [hcrane]; rfl, hout.trans (hfreed true), by rw [hcrane], by rw [hcrane], hbins⟩
  · obtain ⟨t, hexec, hstation, hcrane, hbins, hout⟩ := h.rests (hsettled false) rfl
      (fun k hk => by rw [List.mem_singleton.1 hk]; exact hkind)
    exact ⟨t, ⟨hexec, hstation⟩, by rw [hcrane]; rfl, hout.trans (hfreed false), by rw [hcrane],
      by rw [hcrane]; exact hcarriage, hbins⟩

theorem FrozenRestart.retrieve_not_picked (h : FrozenRestart s j) (hkind : j.kind = .retrieve) (hstage : j.stage = .forkPick)
    (hsent : j.sent = true) (hstand : s.lanes.outStand = .reserved) (hlifting : (binAt (j.bin % 2048) s).state = .lifting) :
    ∃ t, (exec (.homed false) s = .next t ∧ t.ctl.station = .active) ∧
      t.crane.pool = [{ j with state := .waiting, stage := .travelEmpty, sent := false }] ∧ t.lanes.outStand = .empty ∧
      t.crane.state = .idle ∧
      binAt (j.bin % 2048) t = { binAt (j.bin % 2048) s with state := .stored, call := none } ∧
      ∀ m, m ≠ j.bin % 2048 → binAt m t = binAt m s := by
  have hsettled := settle_retrieve_not_picked (s := homedEnd false s) h.current h.pool hkind hstage hsent hlifting
  obtain ⟨t, hexec, hstation, hcrane, hbins, hout⟩ := h.rests hsettled rfl
    (fun k hk => by rw [List.mem_singleton.1 hk]; exact hkind)
  obtain ⟨hread, hother⟩ := binAt_of_putBin (t := t) (s := homedEnd false s) h.wf hbins
  exact ⟨t, ⟨hexec, hstation⟩, by rw [hcrane]; rfl, hout.trans (retrieveWaits_outStand hstand), by rw [hcrane], hread, hother⟩

theorem FrozenRestart.retrieve_placed {q : Call} (h : FrozenRestart s j) (hkind : j.kind = .retrieve)
    (hcarrying : j.stage = .travelLoaded ∨ j.stage = .forkPlace ∧ j.sent = true)
    (hlifting : (binAt (j.bin % 2048) s).state = .lifting) (hcall : (binAt (j.bin % 2048) s).call = some q) :
    ∃ t x, (exec (.homed false) s = .next t ∧ t.ctl.station = .active) ∧ t.crane.pool = [] ∧ t.crane.state = .idle ∧
      binAt (j.bin % 2048) t = { binAt (j.bin % 2048) s with state := .out } ∧
      (∀ m, m ≠ j.bin % 2048 → binAt m t = binAt m s) ∧ x = ⟨j.bin, q.port, .port, q.tag, q.purpose, 0, 0, false⟩ ∧
      ((∃ l, t.lanes.outStand = .holding x l) ∨ ∃ l, t.lanes.outStand = .entering x l) := by
  set v := (putBin (j.bin % 2048) { binAt (j.bin % 2048) s with state := .out } (homedEnd false s)).onCrane
    fun k => { k with pool := [] } with hv
  have hsettled : settleFrozen false (homedEnd false s) = holdOutStand (standCarry j.bin q) v :=
    settle_retrieve_placed (s := homedEnd false s) h.current h.pool hkind hcarrying hlifting hcall h.restoreWanted
      h.storeWanted
  have hpool : (holdOutStand (standCarry j.bin q) v).crane.pool = [] := by simp [v]
  obtain ⟨t, hexec, hstation, hcrane, hbins, hout⟩ := h.rests hsettled (currentJob_of_no_jobs hpool)
    (fun k hk => by rw [hpool] at hk; cases hk)
  obtain ⟨hread, hother⟩ := binAt_of_putBin (t := t) (s := homedEnd false s) (i := j.bin % 2048) h.wf
    (hbins.trans (by simp [v]; rfl))
  refine ⟨t, standCarry j.bin q, ⟨hexec, hstation⟩, by rw [hcrane]; exact hpool, by rw [hcrane], hread, hother, rfl, ?_⟩
  rw [hout]
  rcases holdOutStand_outStand (standCarry j.bin q) v with hheld | ⟨l, hheld | hheld⟩
  · exact .inl ⟨_, hheld⟩
  · exact .inl ⟨_, hheld⟩
  · exact .inr ⟨_, hheld⟩

theorem FrozenRestart.retrieve_converts (h : FrozenRestart s j) (hkind : j.kind = .retrieve) (hlifted : ¬ unlifted j = true)
    (hstand : s.lanes.outStand = .reserved) (hlifting : (binAt (j.bin % 2048) s).state = .lifting)
    (hcall : (binAt (j.bin % 2048) s).call.map Call.tag = some j.tag) :
    ∃ t k m, (exec (.homed true) s = .next t ∧ t.ctl.station = .active) ∧
      (t.crane.state = .running ∧ t.crane.inFlight = some (.move (positionOf (j.bin % 2048)))) ∧
      t.lanes.outStand = .empty ∧ binAt (j.bin % 2048) t = { binAt (j.bin % 2048) s with call := none } ∧
      (∀ m, m ≠ j.bin % 2048 → binAt m t = binAt m s) ∧
      t.crane.pool = [k, m] ∧ k.kind = .restore .rack ∧ k.bin = j.bin ∧ k.tag = 0 ∧ k.urgency = 3 ∧ k.state = .active ∧
      k.stage = .travelLoaded ∧ k.stamp = s.est.time ∧ m.kind = .retrieve ∧ m.bin = j.bin ∧ m.tag = j.tag ∧
      m.port = j.port ∧ m.purpose = j.purpose ∧ m.urgency = j.urgency ∧ m.state = .waiting ∧ m.stamp = s.est.time := by
  obtain ⟨x, hsettled, hpool, hflight, hlanes, hxbins⟩ :=
    settle_retrieve_converts (s := homedEnd true s) h.current h.pool hkind hlifted hlifting hcall rfl
  have hcurrent : currentJob x = some { asRestore s.est.time s.ctl.setup j with state := .active } := by
    rw [currentJob, hpool]
    rfl
  obtain ⟨t, hexec, hstation, hcrane, hbins, hout⟩ := h.goes_on hsettled hcurrent
  obtain ⟨hread, hother⟩ := binAt_of_putBin (t := t) (s := homedEnd true s) h.wf (hbins.trans hxbins)
  refine ⟨t, { asRestore s.est.time s.ctl.setup j with state := .active }, offeredAgain j (homedEnd true s),
    ⟨hexec, hstation⟩, ⟨by rw [hcrane], by rw [hcrane]; exact hflight⟩, ?_, hread, hother, by rw [hcrane]; exact hpool,
    rfl, rfl, rfl, rfl, rfl, rfl, rfl, rfl, rfl, rfl, rfl, rfl, rfl, rfl, rfl⟩
  rw [hout, hlanes, standFreed, if_pos (by exact hstand)]

/-! ### A STORE -/

theorem FrozenRestart.store_strayed (h : FrozenRestart s j) (hkind : j.kind = .store) (hunlifted : unlifted j = true)
    (hcarriage : s.crane.carriage = .nothing) :
    ∃ t, (exec (.homed true) s = .next t ∧ t.ctl.station = .active) ∧
      t.crane.pool = [{ j with state := .waiting, stage := .travelEmpty, sent := false }] ∧ t.crane.carriage = .stray ∧
      t.bins = s.bins := by
  obtain ⟨t, hexec, hstation, hcrane, hbins, -⟩ := h.rests_strayed
    (settle_store_unlifted_loaded h.current h.pool hkind hunlifted) rfl
    (fun k hk => .inr (.inl (by rw [List.mem_singleton.1 hk]; exact hkind))) hcarriage
  exact ⟨t, ⟨hexec, hstation⟩, by rw [hcrane]; rfl, by rw [hcrane], hbins⟩

theorem FrozenRestart.store_begins (h : FrozenRestart s j) (hkind : j.kind = .store) (hunlifted : unlifted j = true)
    (hown : idIsOwn s j.bin) (hout : (binAt (j.bin % 2048) s).state = .out) :
    ∃ t, (exec (.homed false) s = .next t ∧ t.ctl.station = .active) ∧ t.crane.state = .running ∧
      t.crane.inFlight = some (.fork 1 .pick) ∧
      t.crane.pool = [{ j with state := .active, stage := .forkPick, sent := true }] ∧
      binAt (j.bin % 2048) t = { binAt (j.bin % 2048) s with state := .storing } ∧
      ∀ m, m ≠ j.bin % 2048 → binAt m t = binAt m s := by
  obtain ⟨t, hexec, hstation, hcrane, hbins, -⟩ := h.goes_on
    (settle_store_unlifted_empty (s := homedEnd false s) h.current h.pool hkind hunlifted hown hout)
    (currentJob_of_only (j := { j with state := .active, stage := .forkPick, sent := true }) rfl nofun)
  obtain ⟨hread, hother⟩ := binAt_of_putBin (t := t) (s := homedEnd false s) h.wf hbins
  exact ⟨t, ⟨hexec, hstation⟩, by rw [hcrane], by rw [hcrane]; rfl, by rw [hcrane]; rfl, hread, hother⟩

theorem FrozenRestart.store_picked (h : FrozenRestart s j) (hkind : j.kind = .store) (hstage : j.stage = .forkPick)
    (hsent : j.sent = true) (hstand : s.lanes.inStand = .holding c) :
    ∃ t, (exec (.homed true) s = .next t ∧ t.ctl.station = .active) ∧
      (t.crane.state = .running ∧ t.crane.inFlight = some (.move (positionOf (j.bin % 2048)))) ∧
      t.crane.carriage = .carrying c ∧ t.bins = s.bins := by
  obtain ⟨x, hsettled, hcurrent, hflight, hcarriage, hxbins⟩ :=
    settle_store_picked (s := homedEnd true s) h.current h.pool hkind hstage hsent hstand rfl
  obtain ⟨t, hexec, hstation, hcrane, hbins, -⟩ := h.goes_on hsettled hcurrent
  exact ⟨t, ⟨hexec, hstation⟩, ⟨by rw [hcrane], by rw [hcrane]; exact hflight⟩, by rw [hcrane]; exact hcarriage,
    hbins.trans hxbins⟩

theorem FrozenRestart.store_not_picked (h : FrozenRestart s j) (hkind : j.kind = .store) (hstage : j.stage = .forkPick)
    (hsent : j.sent = true) :
    ∃ t, (exec (.homed false) s = .next t ∧ t.ctl.station = .active) ∧ t.crane.state = .running ∧
      t.crane.inFlight = some (.fork 1 .pick) ∧ t.bins = s.bins := by
  obtain ⟨t, hexec, hstation, hcrane, hbins, -⟩ := h.goes_on
    (settle_store_not_picked (s := homedEnd false s) h.current h.pool hkind hstage hsent)
    (currentJob_of_only (j := { j with state := .active, sent := true }) rfl nofun)
  exact ⟨t, ⟨hexec, hstation⟩, by rw [hcrane], by rw [hcrane]; rfl, hbins⟩

/-! ### A bin bound for the rack -/

theorem FrozenRestart.racked_goes (h : FrozenRestart s j) (hkind : j.kind = .store ∨ j.kind = .restore .rack)
    (hcarrying : j.stage = .travelLoaded ∨ j.stage = .forkPlace ∧ j.sent = true) :
    ∃ t, (exec (.homed true) s = .next t ∧ t.ctl.station = .active) ∧
      (t.crane.state = .running ∧ t.crane.inFlight = some (.move (positionOf (j.bin % 2048)))) ∧ t.bins = s.bins := by
  obtain ⟨t, hexec, hstation, hcrane, hbins, -⟩ := h.goes_on
    (settle_racked_loaded (s := homedEnd true s) h.current h.pool hkind hcarrying rfl)
    (currentJob_of_only (j := { j with state := .active, stage := .travelLoaded, sent := false }) rfl nofun)
  exact ⟨t, ⟨hexec, hstation⟩, ⟨by rw [hcrane], by rw [hcrane]; rfl⟩, hbins⟩

theorem FrozenRestart.racked_placed (h : FrozenRestart s j) (hkind : j.kind = .store ∨ j.kind = .restore .rack)
    (hcarrying : j.stage = .travelLoaded ∨ j.stage = .forkPlace ∧ j.sent = true)
    (hstate : (binAt (j.bin % 2048) s).state = if j.kind = .store then .storing else .lifting)
    (hlist : (binAt (j.bin % 2048) s).followOns = []) :
    ∃ t, (exec (.homed false) s = .next t ∧ t.ctl.station = .active) ∧ t.crane.pool = [] ∧ t.crane.state = .idle ∧
      binAt (j.bin % 2048) t = { binAt (j.bin % 2048) s with state := .stored, call := none } ∧
      ∀ m, m ≠ j.bin % 2048 → binAt m t = binAt m s := by
  obtain ⟨x, hsettled, hpool, hxbins⟩ := settle_racked_empty (s := homedEnd false s) h.current h.pool hkind hcarrying hstate
    hlist h.restoreWanted h.storeWanted
  obtain ⟨t, hexec, hstation, hcrane, hbins, -⟩ := h.rests hsettled (currentJob_of_no_jobs hpool)
    (fun k hk => by rw [hpool] at hk; cases hk)
  obtain ⟨hread, hother⟩ := binAt_of_putBin (t := t) (s := homedEnd false s) h.wf (hbins.trans hxbins)
  exact ⟨t, ⟨hexec, hstation⟩, by rw [hcrane]; exact hpool, by rw [hcrane], hread, hother⟩

/-! ### A RESTORE to the outbound stand -/

theorem FrozenRestart.toStand_places (h : FrozenRestart s j) (hkind : j.kind = .restore .outStand) :
    ∃ t, (exec (.homed true) s = .next t ∧ t.ctl.station = .active) ∧ t.crane.state = .running ∧
      t.crane.inFlight = some (.fork 0 .place) ∧
      t.crane.pool = [{ j with state := .active, stage := .forkPlace, sent := true }] ∧ t.bins = s.bins := by
  obtain ⟨t, hexec, hstation, hcrane, hbins, -⟩ := h.goes_on
    (settle_toStand_loaded (s := homedEnd true s) h.current h.pool hkind rfl)
    (currentJob_of_only (j := { j with state := .active, stage := .forkPlace, sent := true }) rfl nofun)
  exact ⟨t, ⟨hexec, hstation⟩, by rw [hcrane], by rw [hcrane]; rfl, by rw [hcrane]; rfl, hbins⟩

theorem FrozenRestart.toStand_placed (h : FrozenRestart s j) (hkind : j.kind = .restore .outStand)
    (hcarriage : s.crane.carriage = .carrying c) :
    ∃ t, (exec (.homed false) s = .next t ∧ t.ctl.station = .active) ∧ t.crane.pool = [] ∧ t.crane.state = .idle ∧
      t.crane.carriage = .nothing ∧ t.bins = s.bins ∧
      ((∃ l, t.lanes.outStand = .holding c l) ∨ ∃ l, t.lanes.outStand = .entering c l) := by
  have hsettled := settle_toStand_empty (s := homedEnd false s) h.current h.pool hkind hcarriage h.restoreWanted h.storeWanted
  set v := (homedEnd false s).onCrane fun k => { k with pool := [], carriage := .nothing } with hv
  have hpool : (holdOutStand c v).crane.pool = [] := by simp [v]
  obtain ⟨t, hexec, hstation, hcrane, hbins, hout⟩ := h.rests hsettled (currentJob_of_no_jobs hpool)
    (fun k hk => by rw [hpool] at hk; cases hk)
  refine ⟨t, ⟨hexec, hstation⟩, by rw [hcrane]; exact hpool, by rw [hcrane], by rw [hcrane]; simp [v],
    hbins.trans (by simp [v]; rfl), ?_⟩
  rw [hout]
  rcases holdOutStand_outStand c v with hheld | ⟨l, hheld | hheld⟩
  · exact .inl ⟨_, hheld⟩
  · exact .inl ⟨_, hheld⟩
  · exact .inr ⟨_, hheld⟩

/-! ### An AUDIT -/

theorem FrozenRestart.audit_settled (h : FrozenRestart s j) (hkind : j.kind = .audit)
    (hcarriage : s.crane.carriage = .nothing) :
    (∃ t, (exec (.homed true) s = .next t ∧ t.ctl.station = .active) ∧
      t.crane.pool = [{ j with state := .waiting, stage := .travel, sent := false }] ∧ t.crane.carriage = .stray ∧
      t.bins = s.bins) ∧
    (∃ t, (exec (.homed false) s = .next t ∧ t.ctl.station = .active) ∧
      (t.crane.state = .running ∧ t.crane.inFlight = some (.move (positionOf j.nextIndex))) ∧ t.bins = s.bins ∧
      t.crane.pool = [{ j with state := .active, stage := .travel, sent := false }]) := by
  have hsettled : ∀ l, settleFrozen l (homedEnd l s) = (homedEnd l s).onCrane fun k => { k with
      pool := [{ j with state := .waiting, stage := .travel, sent := false }] } := fun l => by
    rw [settleFrozen_audit h.current hkind, backToWaiting_of_only (by exact h.pool) h.notWaiting]
  refine ⟨?_, ?_⟩
  · obtain ⟨t, hexec, hstation, hcrane, hbins, -⟩ := h.rests_strayed (hsettled true) rfl
      (fun k hk => .inr (.inr (by rw [List.mem_singleton.1 hk]; exact hkind))) hcarriage
    exact ⟨t, ⟨hexec, hstation⟩, by rw [hcrane]; rfl, by rw [hcrane], hbins⟩
  · obtain ⟨t, hexec, hstation, hstate, hflight, hbins, hpool⟩ := h.audit_starts
      (k := { j with state := .waiting, stage := .travel, sent := false }) (hsettled false) rfl hkind rfl rfl rfl hcarriage rfl
    exact ⟨t, ⟨hexec, hstation⟩, ⟨hstate, hflight⟩, hbins, hpool⟩

/-- Settles O52: the frozen job is settled by its kind, its stage and the load reported, and what follows is the entry to
ACTIVE under an alarm, which leaves the crane as the settling has left it. -/
theorem frozenJobIsSettled : Obligations.FrozenJobIsSettled := by
  intro s j hstation hrun hhoming hflight hpool hfrozen hview hrestore hstore hwf hbin i b unpicked carrying loc homed waits
    goesTo others
  have h : FrozenRestart s j := ⟨hstation, hrun, hhoming, hflight, hpool, hfrozen, hview, hrestore, hstore, hwf⟩
  refine ⟨fun hkind hunpicked hcarriage hstand => ?_, fun hkind hstage hsent hstand hlifting => ?_,
    fun hkind hcarrying hlifting c hcall => ?_, fun hkind hstage hstand hlifting hcall => ?_, fun hkind hunpicked hout => ?_,
    fun hkind hstage hsent => ?_, fun hkind hcarrying => ?_, fun hkind hcarrying => ?_, fun hkind hcarriage => ?_⟩
  · exact h.retrieve_unlifted hkind (unlifted_iff.2 hunpicked) hcarriage hstand
  · exact h.retrieve_not_picked hkind hstage hsent hstand hlifting
  · exact h.retrieve_placed hkind hcarrying hlifting hcall
  · have hlifted : ¬ unlifted j = true := by
      rcases hstage with ⟨hstage, hsent⟩ | hcarrying
      · simp [unlifted, hstage, hsent]
      · exact (not_unlifted_of_carrying hcarrying).1
    exact h.retrieve_converts hkind hlifted hstand hlifting hcall
  · have hown : idIsOwn s j.bin := by
      rcases hbin with haudit | hstand | hown
      · rw [hkind] at haudit
        cases haudit
      · rw [hkind] at hstand
        cases hstand
      · exact hown
    exact ⟨h.store_strayed hkind (unlifted_iff.2 hunpicked), h.store_begins hkind (unlifted_iff.2 hunpicked) hown hout⟩
  · exact ⟨fun c hstand _ => h.store_picked hkind hstage hsent hstand, h.store_not_picked hkind hstage hsent⟩
  · exact ⟨h.racked_goes hkind hcarrying, h.racked_placed hkind hcarrying⟩
  · exact ⟨h.toStand_places hkind, fun c => h.toStand_placed hkind⟩
  · exact h.audit_settled hkind hcarriage

end Sys2Proof.Machine
end
